-- ==== Sys2Proof/Word.lean ====
section
/-! DEFINITION. The word types of the block and their plainest arithmetic. -/

namespace Sys2Proof

/-- One byte. -/
abbrev Byte := BitVec 8

/-- A register word and an extended value of a core: 40 bits (R10, R421). -/
abbrev Word := BitVec 40

/-- A physical address: 40 bits (R37), kept as a number. -/
abbrev Addr := Nat

/-- `len` bits of `n` from bit `lo` up. -/
def bits (n lo len : Nat) : Nat := (n >>> lo) % 2 ^ len

/-- `n` with its `len` bits from `lo` up replaced by the low `len` bits of `v`. -/
def setBits (n lo len v : Nat) : Nat :=
  n % 2 ^ lo + (v % 2 ^ len) * 2 ^ lo + (n >>> (lo + len)) * 2 ^ (lo + len)

/-- Addition that stops at `top`. -/
def satAdd (n k top : Nat) : Nat := min (n + k) top

/-- 1 for true, 0 for false. -/
def boolNat (b : Bool) : Nat := if b then 1 else 0

/-- The signed reading of the low `w` bits of `n`. -/
def toS (w n : Nat) : Int :=
  let m := n % 2 ^ w
  if m < 2 ^ (w - 1) then (m : Int) else (m : Int) - (2 ^ w : Nat)

/-- The low `w` bits of the two's complement of an integer. -/
def ofS (w : Nat) (i : Int) : Nat := (i % ((2 ^ w : Nat) : Int)).toNat

/-- An integer limited to `lo` to `hi`. -/
def clampI (lo hi i : Int) : Int := max lo (min hi i)

/-- The number a list of bytes holds, lowest byte first. -/
def leNat : List Byte → Nat
  | [] => 0
  | b :: r => b.toNat + 256 * leNat r

/-- `k` bytes of `n`, lowest byte first. -/
def leBytes : (k n : Nat) → List Byte
  | 0, _ => []
  | k + 1, n => BitVec.ofNat 8 n :: leBytes k (n / 256)

/-- The number a list of bytes holds, highest byte first. -/
def beNat (l : List Byte) : Nat := leNat l.reverse

/-- `k` bytes of `n`, highest byte first. -/
def beBytes (k n : Nat) : List Byte := (leBytes k n).reverse

/-- `len` bytes of `l` from offset `off`. -/
def slice (l : List Byte) (off len : Nat) : List Byte := (l.drop off).take len

/-- The little-endian number of `len` bytes of `l` from offset `off`. -/
def leAt (l : List Byte) (off len : Nat) : Nat := leNat (slice l off len)

end Sys2Proof
end

