-- ==== Sys2Proof/Types.lean ====
section
/-! DEFINITION. The types of the commands' operands: who sends, and what a link, the medium or a pin delivers. -/

namespace Sys2Proof

/-- The masters of R40; the level of the debug port stands in CIP_STATUS.DBG_LEVEL (R645). -/
inductive Master where
  | y (n : Fin 4)
  | yp
  | dma
  | debug
  deriving DecidableEq, Repr

/-- One piece of a fragment as the ring header lists it (R189). -/
structure Piece where
  tick : Nat
  first : Nat
  count : Nat
  fragOfs : Nat
  deriving DecidableEq, Repr

/-- What an engine reports of a fragment: whether it converged, its information word, and the figures of R214. -/
structure Decoded where
  converged : Bool
  word : List Byte
  globals : Nat
  locals : Nat
  synd : Nat
  bitsFixed : Nat
  noise : Nat
  snr : Nat
  deriving DecidableEq, Repr

/-- What WPn stages: a user fragment of its channel, a fill fragment, or P0 or P1 (R236). -/
inductive StageKind where
  | user | fill | parity
  deriving DecidableEq, Repr

/-- A candidate position of a SAM: its offset in cells from the centre of the window, its differing bits, and the tick
count at its last sample (R272). -/
structure SamHit where
  offset : Int
  mismatches : Nat
  stamp : Nat
  deriving DecidableEq, Repr

/-- The link and TLP errors that PCE detects by itself (R527). -/
inductive AerKind where
  | receiver | badTlp | badDllp | replayTimer | replayRollover
  | dataLink | flowControl | overflow | malformed | ecrc | unexpected | internal
  deriving DecidableEq, Repr

/-- Where a dictionary request comes from (R605): an NVMe queue of the host, a node of the network, a core, or the debug port. -/
inductive Origin where
  | host (q : Fin 65)
  | network (n : Fin 128)
  | firmware (c : Fin 5)
  | debug
  deriving DecidableEq, Repr

end Sys2Proof
end

