-- ==== Sys2Proof/Syntax.lean ====
section
/-! DEFINITION. The commands of the block: one constructor for each row of the table of operations and events. -/

namespace Sys2Proof

/-- The commands. -/
inductive Instr where
  /-- REGISTER_WRITE (R16). -/
  | registerWrite (m : Master) (full : Bool) (a : BitVec 40) (w : BitVec 40)
  /-- SYS_TICK_L_READ (R53). -/
  | sysTickLRead
  /-- STEPMON_CLEAR_MIN (R49). -/
  | stepmonClearMin
  /-- REF_PLL_LOCK_LOSS (R54). -/
  | refPllLockLoss (xtal : Bool)
  /-- REF_PLL_RELOCK (R55). -/
  | refPllRelock
  /-- RELEASE_COMPARATOR_MATCH (R65). -/
  | releaseComparatorMatch (k : Fin 3)
  /-- FREE_RUN_PERIOD_START (R70). -/
  | freeRunPeriodStart
  /-- PARITY_JOURNAL_WRITE (R91). -/
  | parityJournalWrite (n : Fin 2) (bank : Fin 2)
  /-- MANIFEST_COMMIT (R116). -/
  | manifestCommit (done : Fin 4) (torn : Bool)
  /-- RCP_IMAGE_STAGE (R148). -/
  | rcpImageStage (ofs : BitVec 32) (data : List Byte) (origin : BitVec 8)
  /-- RCP_REQ_CHECK_ONLY (R150). -/
  | rcpReqCheckOnly (origin : BitVec 8)
  /-- RCP_REQ_CHECK_COMMIT (R151). -/
  | rcpReqCheckCommit (origin : BitVec 8)
  /-- RCP_REQ_FORCE (R151). -/
  | rcpReqForce (origin : BitVec 8)
  /-- RCP_CHECK (R150). -/
  | rcpCheck (c : Fin 4)
  /-- RCP_INSTALL (R151). -/
  | rcpInstall (c : Fin 4)
  /-- RCP_ACTIVATE (R147). -/
  | rcpActivate (c : Fin 4)
  /-- PSL_NEGOTIATE (R164). -/
  | pslNegotiate (n : Fin 2) (peer cap0 cap1 : BitVec 16)
  /-- PSL_HELLO_TIMEOUT (R164). -/
  | pslHelloTimeout (n : Fin 2)
  /-- PSL_KEEPALIVE (R165). -/
  | pslKeepalive (n : Fin 2)
  /-- PSL_STATUS_TIMEOUT (R165). -/
  | pslStatusTimeout (n : Fin 2)
  /-- PSL_TIMED_FRAME_MATCH (R167). -/
  | pslTimedFrameMatch (n : Fin 2)
  /-- PSL_ECHO_MISS (R170). -/
  | pslEchoMiss (n : Fin 2)
  /-- PSL_RX_ECHO (R170). -/
  | pslRxEcho (n : Fin 2) (full : Bool) (arg : BitVec 8) (data : BitVec 16)
  /-- PSL_RX_FAULT (R172). -/
  | pslRxFault (n : Fin 2) (full : Bool) (code : BitVec 8) (data : BitVec 16)
  /-- PSL_RX_HELLO (R174). -/
  | pslRxHello (n : Fin 2) (full : Bool) (data : BitVec 16)
  /-- PSL_RX_CAP (R159). -/
  | pslRxCap (n : Fin 2) (full : Bool) (arg : BitVec 8) (data : BitVec 16)
  /-- PSL_RX_ACK (R158). -/
  | pslRxAck (n : Fin 2) (full : Bool) (arg : BitVec 8) (data : BitVec 16)
  /-- PSL_RX_REG_DATA (R158). -/
  | pslRxRegData (n : Fin 2) (full : Bool) (arg : BitVec 8) (data : BitVec 16)
  /-- PSL_RX_STATUS (R165). -/
  | pslRxStatus (n : Fin 2) (full : Bool) (data : BitVec 16)
  /-- PSL_RX_NAK (R158). -/
  | pslRxNak (n : Fin 2) (full : Bool) (arg : BitVec 8) (data : BitVec 16)
  /-- PSL_RX_DISCARD (R157). -/
  | pslRxDiscard (n : Fin 2) (gapOnly : Bool)
  /-- PSL_CMD_NOP (R175). -/
  | pslCmdNop (n : Fin 2) (arg : BitVec 8) (data : BitVec 16)
  /-- PSL_CMD_CAP_RD (R175). -/
  | pslCmdCapRd (n : Fin 2) (arg : BitVec 8) (data : BitVec 16)
  /-- PSL_CMD_REG_WR (R175). -/
  | pslCmdRegWr (n : Fin 2) (arg : BitVec 8) (data : BitVec 16)
  /-- PSL_CMD_REG_RD (R175). -/
  | pslCmdRegRd (n : Fin 2) (arg : BitVec 8) (data : BitVec 16)
  /-- PSL_CMD_STATUS_RQ (R175). -/
  | pslCmdStatusRq (n : Fin 2) (arg : BitVec 8) (data : BitVec 16)
  /-- PSL_CMD_TIMEOUT (R175). -/
  | pslCmdTimeout (n : Fin 2)
  /-- PSL_CTRL_NEGOTIATE (R174). -/
  | pslCtrlNegotiate (n : Fin 2) (rst : Bool)
  /-- PSL_CTRL_CLR_ERR (R175). -/
  | pslCtrlClrErr (n : Fin 2)
  /-- DC_CAL_ADC_OFFSET (R194). -/
  | dcCalAdcOffset (c : Fin 4)
  /-- DC_CAL_GAIN (R194). -/
  | dcCalGain (c : Fin 4)
  /-- DC_CAL_ASYMMETRY (R194). -/
  | dcCalAsymmetry (c : Fin 4)
  /-- DC_CAL_DONE (R196). -/
  | dcCalDone (c : Fin 4) (va vb vc : BitVec 16) (temp : BitVec 8)
  /-- DC_RING_REL (R192). -/
  | dcRingRel (c : Fin 4) (mask : BitVec 4)
  /-- DC_CLR_CNT (R199). -/
  | dcClrCnt (c : Fin 4)
  /-- DEFECT_FREEZE_START (R183). -/
  | defectFreezeStart (c : Fin 4) (sample : BitVec 32) (asperity : Bool)
  /-- DEFECT_FREEZE_END (R183). -/
  | defectFreezeEnd (c : Fin 4) (ended : BitVec 32)
  /-- RING_RECORD_START (R191). -/
  | ringRecordStart (c : Fin 4) (frag : BitVec 40) (member groupK : BitVec 6) (pieces : List Piece)
  /-- RING_RECORD_END (R190). -/
  | ringRecordEnd (c : Fin 4) (samples : BitVec 32) (data : List Byte)
  /-- RING_WRITE_OVERRUN (R190). -/
  | ringWriteOverrun (c : Fin 4)
  /-- SYNC_MARK_SEARCH (R186). -/
  | syncMarkSearch (c : Fin 4) (plan : BitVec 32) (primary secondary : List (Nat × Nat)) (freq : BitVec 16) (phase : BitVec 6)
  /-- FRAGMENT_INTAKE_START (R209). -/
  | fragmentIntakeStart (c : Fin 4) (fifoDrop : Bool)
  /-- FRAGMENT_DELIVERY (R212). -/
  | fragmentDelivery (c : Fin 4) (d : Decoded)
  /-- GSR_WRITE (R229). -/
  | gsrWrite (c : Fin 4) (bank : Fin 2)
  /-- DET_GSR_NEXT_WRITE (R229). -/
  | detGsrNextWrite (c : Fin 4) (addr : BitVec 40)
  /-- DET_CLR_STATS (R235). -/
  | detClrStats (c : Fin 4)
  /-- DET_BB_TAIL_WRITE (R220). -/
  | detBbTailWrite (c : Fin 4) (tail : BitVec 10)
  /-- BB_DECODE (R223). -/
  | bbDecode (c : Fin 4) (d : Decoded) (plan : BitVec 32) (primary secondary : List (Nat × Nat)) (dmaError : Bool)
  /-- BB_FOLD (R230). -/
  | bbFold (c : Fin 4) (dmaError : Bool)
  /-- BB_ERASE (R231). -/
  | bbErase (c : Fin 4) (dmaError : Bool)
  /-- WP_STAGING_DONE (R238). -/
  | wpStagingDone (n : Fin 2) (kind : StageKind) (frag : BitVec 40) (member groupK : BitVec 6)
  /-- WP_BANK_HANDOVER (R239). -/
  | wpBankHandover (n : Fin 2) (frag : BitVec 40) (lead : BitVec 64)
  /-- SHK_TRIP (R249). -/
  | shkTrip
  /-- SHK_HOLD_END (R249). -/
  | shkHoldEnd
  /-- WP_FIRMWARE_INHIBIT (R249). -/
  | wpFirmwareInhibit (n : Fin 2)
  /-- WP_CLR_CNT (R264). -/
  | wpClrCnt (n : Fin 2)
  /-- VERIFY_RESULT (R256). -/
  | verifyResult (n : Fin 2) (count : BitVec 12) (primary secondary : Bool)
  /-- SLOT_RECORD_WRITE (R261). -/
  | slotRecordWrite (n : Fin 2)
  /-- WP_CAL_START (R253). -/
  | wpCalStart (n : Fin 2) (zone : BitVec 20)
  /-- WP_CAL_TRIAL_END (R253). -/
  | wpCalTrialEnd (n : Fin 2) (metric : BitVec 16) (captured : BitVec 7) (temp : BitVec 8)
  /-- SAM_EVENT (R272). -/
  | samEvent (v : Fin 4) (found : List SamHit) (index : BitVec 10) (violation : Bool)
  /-- MISSED_WEDGE (R274). -/
  | missedWedge (v : Fin 4)
  /-- POSITION_RECORD_LATCH (R282). -/
  | positionRecordLatch (v : Fin 4) (gray : BitVec 24) (erased : List Nat) (s1 s2 s3 s4 : List Nat)
  /-- SVD_FORCE_SEARCH (R271). -/
  | svdForceSearch (v : Fin 4)
  /-- SVD_CLR_CNT (R288). -/
  | svdClrCnt (v : Fin 4)
  /-- SVD_SAM_L_READ (R288). -/
  | svdSamLRead (v : Fin 4)
  /-- CLE_FRAME_START (R291). -/
  | cleFrameStart (ends : Vector Nat 3) (bad : List (Fin 3))
  /-- CLE_FRAME_START_LIMIT (R291). -/
  | cleFrameStartLimit (ends : Vector Nat 3) (bad : List (Fin 3))
  /-- CLE_OP_LOAD (R303). -/
  | cleOpLoad (d : Fin 8) (space : Fin 4) (index : BitVec 8) (cond : Fin 3) (flag : BitVec 6)
  /-- CLE_OP_STORE (R303). -/
  | cleOpStore (d : Fin 8) (port : Bool) (index : BitVec 8)
  /-- CLE_OP_ADD (R303). -/
  | cleOpAdd (d : Fin 8) (space : Fin 4) (index : BitVec 8)
  /-- CLE_OP_SUB (R303). -/
  | cleOpSub (d : Fin 8) (space : Fin 4) (index : BitVec 8)
  /-- CLE_OP_MAC (R303). -/
  | cleOpMac (d : Fin 8) (space : Fin 3) (index cidx : BitVec 8)
  /-- CLE_OP_SHIFT (R303). -/
  | cleOpShift (d : Fin 8) (aux : BitVec 6)
  /-- CLE_OP_SAT (R303). -/
  | cleOpSat (d : Fin 8) (width : Fin 41)
  /-- CLE_OP_LIMIT (R303). -/
  | cleOpLimit (d : Fin 8) (cidx : BitVec 8)
  /-- CLE_ACT_CMD_WRITE (R306). -/
  | cleActCmdWrite (a : Fin 2) (w : BitVec 40)
  /-- CLE_SPM_CMD_WRITE (R307). -/
  | cleSpmCmdWrite (w : BitVec 40)
  /-- CLE_BANK_CHECK (R313). -/
  | cleBankCheck
  /-- CLE_BANK_CHECK_DONE (R313). -/
  | cleBankCheckDone
  /-- CLE_BANK_SWITCH_REQ (R314). -/
  | cleBankSwitchReq
  /-- BANK_SWITCH (R314). -/
  | bankSwitch
  /-- CLE_CLR_STICKY (R326). -/
  | cleClrSticky
  /-- ADL_NEGOTIATE (R320). -/
  | adlNegotiate (n : Fin 2) (peer : BitVec 16)
  /-- ADL_HELLO_TIMEOUT (R320). -/
  | adlHelloTimeout (n : Fin 2)
  /-- ADL_KEEPALIVE (R321). -/
  | adlKeepalive (n : Fin 2)
  /-- ADL_REPORT_MISS (R321). -/
  | adlReportMiss (n : Fin 2) (cmd : Bool)
  /-- ADL_RX_REPORT (R318). -/
  | adlRxReport (n : Fin 2) (seq : BitVec 4) (ivcm : BitVec 16) (vvcm : BitVec 12) (st : BitVec 2) (fault : BitVec 6)
  /-- ADL_RX_FAULT (R323). -/
  | adlRxFault (n : Fin 2) (code : BitVec 6) (head : BitVec 4)
  /-- ADL_RX_HELLO (R320). -/
  | adlRxHello (n : Fin 2) (peer : BitVec 16)
  /-- ADL_RX_CONFIG_DATA (R317). -/
  | adlRxConfigData (n : Fin 2) (addr : BitVec 8) (value : BitVec 16)
  /-- ADL_RX_NAK (R317). -/
  | adlRxNak (n : Fin 2) (refused : BitVec 4)
  /-- ADL_CMD_CONFIG (R327). -/
  | adlCmdConfig (n : Fin 2) (addr : BitVec 8) (data : BitVec 16)
  /-- ADL_CMD_ARM (R327). -/
  | adlCmdArm (n : Fin 2)
  /-- ADL_CMD_RETRACT (R327). -/
  | adlCmdRetract (n : Fin 2) (reason : BitVec 8)
  /-- ADL_CMD_STATUS_RQ (R327). -/
  | adlCmdStatusRq (n : Fin 2)
  /-- ADL_CMD_CONFIG_RD (R327). -/
  | adlCmdConfigRd (n : Fin 2) (addr : BitVec 8)
  /-- ADL_RSP_TIMEOUT (R327). -/
  | adlRspTimeout (n : Fin 2)
  /-- ADL_PARK (R324). -/
  | adlPark (n : Fin 2)
  /-- ADL_UNPARK (R324). -/
  | adlUnpark (n : Fin 2)
  /-- ADL_CTRL_NEGOTIATE (R320). -/
  | adlCtrlNegotiate (n : Fin 2)
  /-- ADL_CLR_ERR (R327). -/
  | adlClrErr (n : Fin 2)
  /-- SPM_RUN (R348). -/
  | spmRun
  /-- SPM_STOP (R362). -/
  | spmStop
  /-- SPM_COAST (R348). -/
  | spmCoast
  /-- SPM_SAMPLE_SET (R342). -/
  | spmSampleSet (a b c : BitVec 12) (timely : Bool)
  /-- SPM_OUTPUT_APPLY (R333). -/
  | spmOutputApply
  /-- BEMF_ZERO_CROSSING (R349). -/
  | bemfZeroCrossing (code : Fin 6) (t : BitVec 64)
  /-- SPM_STOP_WAIT_EXPIRY (R347). -/
  | spmStopWaitExpiry
  /-- SPM_IPS (R351). -/
  | spmIps (m : Vector (BitVec 12) 6)
  /-- SPM_ANGLE_OFFSET_WRITE (R336). -/
  | spmAngleOffsetWrite (v : BitVec 16)
  /-- SPM_GRADE_REQ_WRITE (R357). -/
  | spmGradeReqWrite (v : BitVec 2)
  /-- GRADE_CHANGE_START (R359). -/
  | gradeChangeStart
  /-- GRADE_CHANGE_DONE (R359). -/
  | gradeChangeDone
  /-- GRADE_CHANGE_OVERTIME (R360). -/
  | gradeChangeOvertime
  /-- DEMAND_SAMPLE (R358). -/
  | demandSample
  /-- SPM_CAL_START (R353). -/
  | spmCalStart
  /-- SPM_CAL_DONE (R353). -/
  | spmCalDone (sa sb sc : Int) (pa pb pc : Nat) (temp : BitVec 8)
  /-- SPM_GATE_FAULT (R365). -/
  | spmGateFault
  /-- SPM_CLR_CNT (R367). -/
  | spmClrCnt
  /-- V12_OV_CROSSING (R696). -/
  | v12OvCrossing (mv : BitVec 16)
  /-- FMS_RUN (R385). -/
  | fmsRun (n : Fin 2) (start : BitVec 12)
  /-- FMS_HALT (R385). -/
  | fmsHalt (n : Fin 2)
  /-- FMS_ATTN (R383). -/
  | fmsAttn (n : Fin 2)
  /-- CONTROL_STORE_WRITE (R372). -/
  | controlStoreWrite (n : Fin 2) (w : BitVec 12) (q : Fin 4) (v : BitVec 32)
  /-- CONTROL_STORE_READ (R373). -/
  | controlStoreRead (n : Fin 2) (w : BitVec 12) (q : Fin 4)
  /-- MICROWORD_FETCH (R373). -/
  | microwordFetch (n : Fin 2)
  /-- MICROWORD_WAIT_TIMEOUT (R376). -/
  | microwordWaitTimeout (n : Fin 2)
  /-- MW_NOP (R379). -/
  | mwNop (n : Fin 2)
  /-- MW_WR (R379). -/
  | mwWr (n : Fin 2)
  /-- MW_RD (R379). -/
  | mwRd (n : Fin 2)
  /-- MW_SEG_OPEN (R387). -/
  | mwSegOpen (n : Fin 2)
  /-- MW_SEG_STEP (R389). -/
  | mwSegStep (n : Fin 2)
  /-- MW_SEG_ABORT (R390). -/
  | mwSegAbort (n : Fin 2)
  /-- MW_COPY (R391). -/
  | mwCopy (n : Fin 2)
  /-- MW_POST (R392). -/
  | mwPost (n : Fin 2)
  /-- MW_FLAG (R379). -/
  | mwFlag (n : Fin 2)
  /-- MW_LDLC (R379). -/
  | mwLdlc (n : Fin 2)
  /-- MW_EVT (R379). -/
  | mwEvt (n : Fin 2)
  /-- MW_REWRITE (R394). -/
  | mwRewrite (n : Fin 2)
  /-- FMS_IRQ_TAKE (R384). -/
  | fmsIrqTake (n : Fin 2)
  /-- FMS_COPY_DONE (R391). -/
  | fmsCopyDone (n : Fin 2)
  /-- TRACK_PROGRAM_END (R390). -/
  | trackProgramEnd (n : Fin 2) (done : BitVec 12)
  /-- MEM_INIT_GO (R411). -/
  | memInitGo (w : BitVec 40)
  /-- MEM_INIT_DONE (R411). -/
  | memInitDone
  /-- MEM_CLR_CNT (R418). -/
  | memClrCnt
  /-- PROTECTED_ROW_READ (R398). -/
  | protectedRowRead (req : Fin 5) (a : BitVec 40) (upset : BitVec 576)
  /-- PARTIAL_WRITE_RMW (R399). -/
  | partialWriteRmw (req : Fin 5) (poison : Bool) (a : BitVec 40) (data : List Byte)
  /-- SCRUB_GROUP (R412). -/
  | scrubGroup (k : Fin 3) (upset : BitVec 584)
  /-- RETENTION_SCRUB_LAP (R413). -/
  | retentionScrubLap (pantry larder : BitVec 20) (upsets : List (BitVec 40 × BitVec 73))
  /-- DRC_PHY_ENABLE (R406). -/
  | drcPhyEnable (on : Bool)
  /-- DRC_BRINGUP (R406). -/
  | drcBringup
  /-- DRC_RETAINED_BRINGUP (R684). -/
  | drcRetainedBringup
  /-- DRC_BRINGUP_END (R406). -/
  | drcBringupEnd (lanes : BitVec 4)
  /-- DRC_DEV_LOST (R407). -/
  | drcDevLost
  /-- DRC_PLL_PHY_LOSS (R407). -/
  | drcPllPhyLoss (phy : Bool)
  /-- DRC_INIT_GO (R411). -/
  | drcInitGo
  /-- DRC_INIT_DONE (R411). -/
  | drcInitDone
  /-- DRC_SR_ENTER (R409). -/
  | drcSrEnter
  /-- DRC_SR_ENTRY_DONE (R409). -/
  | drcSrEntryDone
  /-- DRC_SR_EXIT (R406). -/
  | drcSrExit
  /-- DRC_MRW_READ (R419). -/
  | drcMrwRead (w : BitVec 40) (value : BitVec 8)
  /-- DRC_MRW_WRITE (R419). -/
  | drcMrwWrite (w : BitVec 40)
  /-- DRC_CLR_CNT (R419). -/
  | drcClrCnt
  /-- ALU_ADD (R428). -/
  | aluAdd (c : Fin 5) (rd rs1 rs2 : Fin 32) (z : BitVec 11)
  /-- ALU_SUB (R428). -/
  | aluSub (c : Fin 5) (rd rs1 rs2 : Fin 32) (z : BitVec 11)
  /-- ALU_AND (R428). -/
  | aluAnd (c : Fin 5) (rd rs1 rs2 : Fin 32) (z : BitVec 11)
  /-- ALU_OR (R428). -/
  | aluOr (c : Fin 5) (rd rs1 rs2 : Fin 32) (z : BitVec 11)
  /-- ALU_XOR (R428). -/
  | aluXor (c : Fin 5) (rd rs1 rs2 : Fin 32) (z : BitVec 11)
  /-- ALU_SLL (R428). -/
  | aluSll (c : Fin 5) (rd rs1 rs2 : Fin 32) (z : BitVec 11)
  /-- ALU_SRL (R428). -/
  | aluSrl (c : Fin 5) (rd rs1 rs2 : Fin 32) (z : BitVec 11)
  /-- ALU_SRA (R428). -/
  | aluSra (c : Fin 5) (rd rs1 rs2 : Fin 32) (z : BitVec 11)
  /-- ALU_SLT (R428). -/
  | aluSlt (c : Fin 5) (rd rs1 rs2 : Fin 32) (z : BitVec 11)
  /-- ALU_SLTU (R428). -/
  | aluSltu (c : Fin 5) (rd rs1 rs2 : Fin 32) (z : BitVec 11)
  /-- ALU_MUL (R428). -/
  | aluMul (c : Fin 5) (rd rs1 rs2 : Fin 32) (z : BitVec 11)
  /-- ALU_MULH (R428). -/
  | aluMulh (c : Fin 5) (rd rs1 rs2 : Fin 32) (z : BitVec 11)
  /-- ALU_MULHU (R428). -/
  | aluMulhu (c : Fin 5) (rd rs1 rs2 : Fin 32) (z : BitVec 11)
  /-- ALU_DIV (R428). -/
  | aluDiv (c : Fin 5) (rd rs1 rs2 : Fin 32) (z : BitVec 11)
  /-- ALU_DIVU (R428). -/
  | aluDivu (c : Fin 5) (rd rs1 rs2 : Fin 32) (z : BitVec 11)
  /-- ALU_REM (R428). -/
  | aluRem (c : Fin 5) (rd rs1 rs2 : Fin 32) (z : BitVec 11)
  /-- ALU_REMU (R428). -/
  | aluRemu (c : Fin 5) (rd rs1 rs2 : Fin 32) (z : BitVec 11)
  /-- ADDI (R427). -/
  | addi (c : Fin 5) (rd rs1 : Fin 32) (imm : BitVec 24)
  /-- ANDI (R427). -/
  | andi (c : Fin 5) (rd rs1 : Fin 32) (imm : BitVec 24)
  /-- ORI (R427). -/
  | ori (c : Fin 5) (rd rs1 : Fin 32) (imm : BitVec 24)
  /-- XORI (R427). -/
  | xori (c : Fin 5) (rd rs1 : Fin 32) (imm : BitVec 24)
  /-- SLTI (R427). -/
  | slti (c : Fin 5) (rd rs1 : Fin 32) (imm : BitVec 24)
  /-- SLTIU (R427). -/
  | sltiu (c : Fin 5) (rd rs1 : Fin 32) (imm : BitVec 24)
  /-- SLLI (R427). -/
  | slli (c : Fin 5) (rd rs1 : Fin 32) (imm : BitVec 24)
  /-- SRLI (R427). -/
  | srli (c : Fin 5) (rd rs1 : Fin 32) (imm : BitVec 24)
  /-- SRAI (R427). -/
  | srai (c : Fin 5) (rd rs1 : Fin 32) (imm : BitVec 24)
  /-- LUI (R427). -/
  | lui (c : Fin 5) (rd rs1 : Fin 32) (imm : BitVec 24)
  /-- ADDPC (R427). -/
  | addpc (c : Fin 5) (rd : Fin 32) (imm : BitVec 29)
  /-- LB (R422). -/
  | lb (c : Fin 5) (rd rs1 : Fin 32) (imm : BitVec 24)
  /-- LBU (R422). -/
  | lbu (c : Fin 5) (rd rs1 : Fin 32) (imm : BitVec 24)
  /-- LH (R422). -/
  | lh (c : Fin 5) (rd rs1 : Fin 32) (imm : BitVec 24)
  /-- LHU (R422). -/
  | lhu (c : Fin 5) (rd rs1 : Fin 32) (imm : BitVec 24)
  /-- LW (R422). -/
  | lw (c : Fin 5) (rd rs1 : Fin 32) (imm : BitVec 24)
  /-- LWU (R422). -/
  | lwu (c : Fin 5) (rd rs1 : Fin 32) (imm : BitVec 24)
  /-- LX (R422). -/
  | lx (c : Fin 5) (rd rs1 : Fin 32) (imm : BitVec 24)
  /-- SB (R422). -/
  | sb (c : Fin 5) (rs2 rs1 : Fin 32) (imm : BitVec 24)
  /-- SH (R422). -/
  | sh (c : Fin 5) (rs2 rs1 : Fin 32) (imm : BitVec 24)
  /-- SW (R422). -/
  | sw (c : Fin 5) (rs2 rs1 : Fin 32) (imm : BitVec 24)
  /-- SX (R422). -/
  | sx (c : Fin 5) (rs2 rs1 : Fin 32) (imm : BitVec 24)
  /-- LR (R443). -/
  | lr (c : Fin 5) (rd rs1 : Fin 32) (imm : BitVec 24)
  /-- SC (R443). -/
  | sc (c : Fin 5) (rd rs1 rs2 : Fin 32) (z : BitVec 19)
  /-- BEQ (R427). -/
  | beq (c : Fin 5) (rs1 rs2 : Fin 32) (imm : BitVec 24)
  /-- BNE (R427). -/
  | bne (c : Fin 5) (rs1 rs2 : Fin 32) (imm : BitVec 24)
  /-- BLT (R427). -/
  | blt (c : Fin 5) (rs1 rs2 : Fin 32) (imm : BitVec 24)
  /-- BGE (R427). -/
  | bge (c : Fin 5) (rs1 rs2 : Fin 32) (imm : BitVec 24)
  /-- BLTU (R427). -/
  | bltu (c : Fin 5) (rs1 rs2 : Fin 32) (imm : BitVec 24)
  /-- BGEU (R427). -/
  | bgeu (c : Fin 5) (rs1 rs2 : Fin 32) (imm : BitVec 24)
  /-- JAL (R427). -/
  | jal (c : Fin 5) (rd : Fin 32) (imm : BitVec 29)
  /-- JALR (R427). -/
  | jalr (c : Fin 5) (rd rs1 : Fin 32) (imm : BitVec 24)
  /-- SYSCALL (R429). -/
  | syscall (c : Fin 5) (rd rs1 rs2 : Fin 32) (z : BitVec 11)
  /-- BREAK (R429). -/
  | brk (c : Fin 5) (rd rs1 rs2 : Fin 32) (z : BitVec 11)
  /-- RFE (R438). -/
  | rfe (c : Fin 5) (rd rs1 rs2 : Fin 32) (z : BitVec 11)
  /-- WFI (R439). -/
  | wfi (c : Fin 5) (rd rs1 rs2 : Fin 32) (z : BitVec 11)
  /-- FENCE (R442). -/
  | fence (c : Fin 5) (rd rs1 rs2 : Fin 32) (z : BitVec 11)
  /-- IFENCE (R444). -/
  | ifence (c : Fin 5) (rd rs1 rs2 : Fin 32) (z : BitVec 11)
  /-- TLBINV (R452). -/
  | tlbinv (c : Fin 5) (rd rs1 rs2 : Fin 32) (z : BitVec 11)
  /-- TLBINVA (R452). -/
  | tlbinva (c : Fin 5) (rd rs1 rs2 : Fin 32) (z : BitVec 11)
  /-- MFC (R431). -/
  | mfc (c : Fin 5) (rd rs1 : Fin 32) (imm : BitVec 24)
  /-- MTC (R431). -/
  | mtc (c : Fin 5) (rd rs1 : Fin 32) (imm : BitVec 24)
  /-- L1D_INV (R460). -/
  | l1dInv (c : Fin 5) (rs1 : Fin 32) (imm : BitVec 24)
  /-- L1I_INV (R460). -/
  | l1iInv (c : Fin 5) (rs1 : Fin 32) (imm : BitVec 24)
  /-- L2_CLEAN (R460). -/
  | l2Clean (c : Fin 5) (rs1 : Fin 32) (imm : BitVec 24)
  /-- L2_INV (R460). -/
  | l2Inv (c : Fin 5) (rs1 : Fin 32) (imm : BitVec 24)
  /-- L2_FLUSH (R460). -/
  | l2Flush (c : Fin 5) (rs1 : Fin 32) (imm : BitVec 24)
  /-- L1I_INVA (R460). -/
  | l1iInva (c : Fin 5) (rs1 : Fin 32) (imm : BitVec 24)
  /-- L1D_INVA (R460). -/
  | l1dInva (c : Fin 5) (rs1 : Fin 32) (imm : BitVec 24)
  /-- L2_FLUSH_SW (R460). -/
  | l2FlushSw (c : Fin 5) (rs1 : Fin 32) (imm : BitVec 24)
  /-- VC_FLUSH (R460). -/
  | vcFlush (c : Fin 5) (rs1 : Fin 32) (imm : BitVec 24)
  /-- CORE_INTERRUPT_TAKE (R436). -/
  | coreInterruptTake (c : Fin 5)
  /-- L2_REFILL_DONE (R455). -/
  | l2RefillDone (k : Fin 8)
  /-- L2_BLOCKING_WRITE (R459). -/
  | l2BlockingWrite (v : Bool)
  /-- CORE_RUN (R464). -/
  | coreRun (n : Fin 4)
  /-- CORE_RESET (R464). -/
  | coreReset (n : Fin 4)
  /-- YP_RUN (R466). -/
  | ypRun (start : BitVec 27)
  /-- YP_RESET (R469). -/
  | ypReset
  /-- EGG_KICK (R465). -/
  | eggKick (c : Fin 5) (v : BitVec 8)
  /-- EGG_TIMER_EXPIRY (R465). -/
  | eggTimerExpiry (c : Fin 5)
  /-- CPX_CLR_CNT (R468). -/
  | cpxClrCnt
  /-- INTC_LINE_EVENT (R470). -/
  | intcLineEvent (k : Fin 256) (attention : Bool)
  /-- INTC_SWI_GO (R471). -/
  | intcSwiGo (src : BitVec 8)
  /-- INTC_TARGET_WRITE (R472). -/
  | intcTargetWrite (k : Fin 256) (t : BitVec 3)
  /-- INTC_PEND_WRITE (R479). -/
  | intcPendWrite (t : Fin 5) (r : Fin 8) (w : BitVec 32)
  /-- DMA_TAIL_WRITE (R489). -/
  | dmaTailWrite (k : Fin 32) (tail : BitVec 12)
  /-- DMA_DESCRIPTOR_FETCH (R490). -/
  | dmaDescriptorFetch (k : Fin 32)
  /-- DMA_BURST (R500). -/
  | dmaBurst (cls : Fin 4)
  /-- DMA_DESCRIPTOR_COMPLETE (R491). -/
  | dmaDescriptorComplete (k : Fin 32)
  /-- DMA_STREAM_OUT (R494). -/
  | dmaStreamOut (k : Fin 8) (n : Fin 2) (frag : BitVec 40)
  /-- DMA_STREAM_IN (R495). -/
  | dmaStreamIn (k : Fin 8) (c : Fin 4)
  /-- DMA_INTERNAL_TRANSFER (R496). -/
  | dmaInternalTransfer (k : Fin 8) (unit : Fin 3)
  /-- DMA_ACCESS_TIMEOUT (R501). -/
  | dmaAccessTimeout (k : Fin 32) (source : Fin 3)
  /-- DMA_RESUME (R503). -/
  | dmaResume (k : Fin 32)
  /-- DMA_SKIP (R503). -/
  | dmaSkip (k : Fin 32)
  /-- DMA_CHANNEL_RESET (R504). -/
  | dmaChannelReset (k : Fin 32)
  /-- DMA_PAUSE (R487). -/
  | dmaPause (k : Fin 32) (v : Bool)
  /-- DMA_CHANNEL_ENABLE (R487). -/
  | dmaChannelEnable (k : Fin 32) (v : Bool)
  /-- DMA_ENGINE_ENABLE (R511). -/
  | dmaEngineEnable (v : Bool)
  /-- DMA_CIPHER_READY (R507). -/
  | dmaCipherReady (k : Fin 32)
  /-- DMA_XLAT_INV (R498). -/
  | dmaXlatInv (scope : BitVec 2) (asid : BitVec 8) (vpn : BitVec 28)
  /-- DMA_CLR_CNT (R511). -/
  | dmaClrCnt
  /-- PCIE_LINK_TRAINING (R514). -/
  | pcieLinkTraining (perst : Bool) (width : Fin 2) (speed : Fin 5)
  /-- PCIE_LINK_DOWN (R537). -/
  | pcieLinkDown
  /-- PCIE_CONFIG_REQUEST (R514). -/
  | pcieConfigRequest (write : Bool) (reg : BitVec 10) (be : BitVec 4) (data : BitVec 32) (ep : Bool)
  /-- PCIE_MEMORY_REQUEST (R519). -/
  | pcieMemoryRequest (bar2 : Bool) (write : Bool) (ofs : BitVec 16) (n : BitVec 13) (data : BitVec 64) (ep : Bool) (entries : List (BitVec 512))
  /-- PCIE_XROM_READ (R520). -/
  | pcieXromRead (ofs : BitVec 19) (n : BitVec 13) (err : Bool)
  /-- MSIX_RAISE (R522). -/
  | msixRaise (v : Fin 65)
  /-- MSIX_PENDING_SEND (R522). -/
  | msixPendingSend
  /-- PCIE_BME_CLEAR (R532). -/
  | pcieBmeClear
  /-- PCIE_BME_SET (R533). -/
  | pcieBmeSet
  /-- PCIE_D3HOT_ENTRY (R523). -/
  | pcieD3hotEntry
  /-- PCIE_D0_RETURN (R523). -/
  | pcieD0Return
  /-- ASPM_L0S_ENTRY (R524). -/
  | aspmL0sEntry
  /-- ASPM_L1_ENTRY (R524). -/
  | aspmL1Entry
  /-- ASPM_EXIT (R525). -/
  | aspmExit
  /-- LTR_SEND (R526). -/
  | ltrSend
  /-- PCIE_COMPLETION_RX (R528). -/
  | pcieCompletionRx (k : Fin 8) (status : Fin 3) (data : List Byte) (ep : Bool) (old : Bool)
  /-- PCIE_COMPLETION_TIMEOUT (R528). -/
  | pcieCompletionTimeout (k : Fin 8)
  /-- PCIE_AER_ERROR (R527). -/
  | pcieAerError (k : AerKind) (hdr : BitVec 128)
  /-- PCIE_FLR_INITIATE (R534). -/
  | pcieFlrInitiate
  /-- PCE_FLR_COMPLETE (R535). -/
  | pceFlrComplete
  /-- PCIE_FLR_FORCED (R535). -/
  | pcieFlrForced
  /-- PCIE_HOT_RESET (R537). -/
  | pcieHotReset (perst : Bool)
  /-- PCE_CLR_CNT (R539). -/
  | pceClrCnt
  /-- SQ_TAIL_DOORBELL (R545). -/
  | sqTailDoorbell (q : Fin 65) (v : BitVec 16) (entries : List (BitVec 512))
  /-- CQ_HEAD_DOORBELL (R548). -/
  | cqHeadDoorbell (q : Fin 65) (v : BitVec 16)
  /-- NVQ_POST (R547). -/
  | nvqPost (prod : BitVec 12)
  /-- NVQ_COAL_TIMEOUT (R549). -/
  | nvqCoalTimeout (v : Fin 65)
  /-- NVQ_CLR_CNT (R578). -/
  | nvqClrCnt
  /-- CC_EN_RISE (R543). -/
  | ccEnRise
  /-- CC_EN_FALL (R576). -/
  | ccEnFall
  /-- NORMAL_SHUTDOWN (R576). -/
  | normalShutdown
  /-- ABRUPT_SHUTDOWN (R576). -/
  | abruptShutdown
  /-- NVME_DELETE_IO_SQ (R544). -/
  | nvmeDeleteIoSq (sq : Fin 65) (cid : BitVec 16)
  /-- NVME_CREATE_IO_SQ (R544). -/
  | nvmeCreateIoSq (sq : Fin 65) (cid : BitVec 16)
  /-- NVME_GET_LOG_PAGE (R571). -/
  | nvmeGetLogPage (sq : Fin 65) (cid : BitVec 16) (list : List (BitVec 64))
  /-- NVME_DELETE_IO_CQ (R544). -/
  | nvmeDeleteIoCq (sq : Fin 65) (cid : BitVec 16)
  /-- NVME_CREATE_IO_CQ (R544). -/
  | nvmeCreateIoCq (sq : Fin 65) (cid : BitVec 16)
  /-- NVME_IDENTIFY (R541). -/
  | nvmeIdentify (sq : Fin 65) (cid : BitVec 16) (list : List (BitVec 64))
  /-- NVME_ABORT (R541). -/
  | nvmeAbort (sq : Fin 65) (cid : BitVec 16) (started : Bool)
  /-- NVME_SET_FEATURES (R573). -/
  | nvmeSetFeatures (sq : Fin 65) (cid : BitVec 16)
  /-- NVME_GET_FEATURES (R573). -/
  | nvmeGetFeatures (sq : Fin 65) (cid : BitVec 16)
  /-- NVME_ASYNC_EVENT_REQUEST (R541). -/
  | nvmeAsyncEventRequest (sq : Fin 65) (cid : BitVec 16)
  /-- NVME_FIRMWARE_COMMIT (R566). -/
  | nvmeFirmwareCommit (sq : Fin 65) (cid : BitVec 16)
  /-- NVME_FIRMWARE_DOWNLOAD (R566). -/
  | nvmeFirmwareDownload (sq : Fin 65) (cid : BitVec 16) (data : List Byte) (ok : Bool)
  /-- NVME_SECURITY_SEND (R568). -/
  | nvmeSecuritySend (sq : Fin 65) (cid : BitVec 16) (ok : Bool)
  /-- NVME_SECURITY_RECEIVE (R568). -/
  | nvmeSecurityReceive (sq : Fin 65) (cid : BitVec 16) (response : List Byte) (list : List (BitVec 64))
  /-- NVME_SANITIZE (R567). -/
  | nvmeSanitize (sq : Fin 65) (cid : BitVec 16)
  /-- NVME_DICTIONARY_READ (R569). -/
  | nvmeDictionaryRead (sq : Fin 65) (cid : BitVec 16) (list : List (BitVec 64))
  /-- NVME_DICTIONARY_WRITE (R569). -/
  | nvmeDictionaryWrite (sq : Fin 65) (cid : BitVec 16) (data : List Byte) (ok : Bool)
  /-- NVME_FLUSH (R555). -/
  | nvmeFlush (sq : Fin 65) (cid : BitVec 16)
  /-- NVME_WRITE (R553). -/
  | nvmeWrite (sq : Fin 65) (cid : BitVec 16) (data : List (Byte × Bool)) (ok : Bool) (fault : Bool)
  /-- NVME_READ (R561). -/
  | nvmeRead (sq : Fin 65) (cid : BitVec 16) (list : List (BitVec 64)) (data : List (Byte × Bool)) (lost : Option (BitVec 64 × Fin 28))
  /-- ZONE_CLOSE (R560). -/
  | zoneClose (sq : Fin 65) (cid : BitVec 16)
  /-- ZONE_FINISH (R95). -/
  | zoneFinish (sq : Fin 65) (cid : BitVec 16)
  /-- ZONE_OPEN (R560). -/
  | zoneOpen (sq : Fin 65) (cid : BitVec 16)
  /-- ZONE_RESET (R109). -/
  | zoneReset (sq : Fin 65) (cid : BitVec 16)
  /-- ZONE_OFFLINE (R560). -/
  | zoneOffline (sq : Fin 65) (cid : BitVec 16)
  /-- ZONE_SET_DESCRIPTOR_EXT (R560). -/
  | zoneSetDescriptorExt (sq : Fin 65) (cid : BitVec 16)
  /-- ZONE_REPORT_ZONES (R542). -/
  | zoneReportZones (sq : Fin 65) (cid : BitVec 16) (list : List (BitVec 64))
  /-- ZONE_APPEND (R559). -/
  | zoneAppend (sq : Fin 65) (cid : BitVec 16) (data : List (Byte × Bool)) (ok : Bool) (fault : Bool)
  /-- FNI_ENABLE_JOIN (R585). -/
  | fniEnableJoin
  /-- FNI_RESTART (R581). -/
  | fniRestart
  /-- FNI_CLR_CNT (R614). -/
  | fniClrCnt
  /-- NDL_HELLO_DELAY_EXPIRY (R585). -/
  | ndlHelloDelayExpiry
  /-- NDL_HELLO_REPEAT (R589). -/
  | ndlHelloRepeat
  /-- CAN_BUS_OFF (R581). -/
  | canBusOff
  /-- CAN_BUS_OFF_RECOVERY (R581). -/
  | canBusOffRecovery
  /-- NDL_RX_HELLO (R589). -/
  | ndlRxHello (src : BitVec 7) (dst : BitVec 7) (token : BitVec 7) (payload : List Byte) (full : Bool)
  /-- NDL_RX_PERMIT (R594). -/
  | ndlRxPermit (src : BitVec 7) (dst : BitVec 7) (token : BitVec 7) (payload : List Byte) (full : Bool)
  /-- NDL_RX_EVENT (R598). -/
  | ndlRxEvent (src : BitVec 7) (dst : BitVec 7) (token : BitVec 7) (payload : List Byte) (full : Bool)
  /-- NDL_RX_DREAD_REQ (R590). -/
  | ndlRxDreadReq (src : BitVec 7) (dst : BitVec 7) (token : BitVec 7) (payload : List Byte) (full : Bool)
  /-- NDL_RX_DREAD_RSP (R590). -/
  | ndlRxDreadRsp (src : BitVec 7) (dst : BitVec 7) (token : BitVec 7) (payload : List Byte) (full : Bool)
  /-- NDL_RX_DWRITE_REQ (R590). -/
  | ndlRxDwriteReq (src : BitVec 7) (dst : BitVec 7) (token : BitVec 7) (payload : List Byte) (full : Bool)
  /-- NDL_RX_DWRITE_RSP (R590). -/
  | ndlRxDwriteRsp (src : BitVec 7) (dst : BitVec 7) (token : BitVec 7) (payload : List Byte) (full : Bool)
  /-- NDL_RX_SEG (R590). -/
  | ndlRxSeg (src : BitVec 7) (dst : BitVec 7) (token : BitVec 7) (payload : List Byte) (full : Bool)
  /-- NDL_RX_SEG_ACK (R590). -/
  | ndlRxSegAck (src : BitVec 7) (dst : BitVec 7) (token : BitVec 7) (payload : List Byte) (full : Bool)
  /-- NDL_RX_HEARTBEAT (R593). -/
  | ndlRxHeartbeat (src : BitVec 7) (dst : BitVec 7) (token : BitVec 7) (payload : List Byte) (full : Bool)
  /-- NDL_RX_ABORT (R591). -/
  | ndlRxAbort (src : BitVec 7) (dst : BitVec 7) (token : BitVec 7) (payload : List Byte) (full : Bool)
  /-- NDL_TRANSFER_TIMEOUT (R591). -/
  | ndlTransferTimeout (src : BitVec 7) (token : BitVec 7)
  /-- NDL_HEARTBEAT_TIMER (R593). -/
  | ndlHeartbeatTimer
  /-- NDL_HEARTBEAT_CHANGE (R593). -/
  | ndlHeartbeatChange
  /-- SHELF_EVENT_ONSET (R598). -/
  | shelfEventOnset (cls : Fin 6)
  /-- SHELF_HOLDOFF_EXPIRY (R599). -/
  | shelfHoldoffExpiry (cls : Fin 6)
  /-- SHELF_EPISODE_END (R598). -/
  | shelfEpisodeEnd (cls : Fin 6)
  /-- FNI_EVQ_GO (R599). -/
  | fniEvqGo (w : BitVec 40)
  /-- ODE_READ (R610). -/
  | odeRead (m : Master) (c : Fin 3) (addr : BitVec 34)
  /-- ODE_WRITE (R610). -/
  | odeWrite (m : Master) (c : Fin 3) (addr : BitVec 34) (mram : Bool)
  /-- ODE_DESCRIBE (R609). -/
  | odeDescribe (m : Master) (c : Fin 3) (addr : BitVec 34)
  /-- POWER_STATE_REQUEST (R678). -/
  | powerStateRequest (t : Fin 5)
  /-- GRADE_REQUEST_DICT (R357). -/
  | gradeRequestDict (o : Origin) (task : BitVec 16) (v : BitVec 8)
  /-- SPIN_PERMIT_WRITE (R594). -/
  | spinPermitWrite (o : Origin) (task : BitVec 16) (v : BitVec 8)
  /-- NAMESPACE_TABLE_WRITE (R612). -/
  | namespaceTableWrite (o : Origin) (task : BitVec 16) (n : Fin 8) (v : BitVec 256)
  /-- SEVERITY_WRITE (R651). -/
  | severityWrite (o : Origin) (task : BitVec 16) (k : Fin 192) (v : BitVec 8)
  /-- SVN_MIN_RAISE (R642). -/
  | svnMinRaise (o : Origin) (task : BitVec 16) (v : BitVec 8)
  /-- RECIPE_KEY_PROVISION (R644). -/
  | recipeKeyProvision (o : Origin) (task : BitVec 16) (key : BitVec 768)
  /-- ZEROIZE_DICT (R646). -/
  | zeroizeDict (o : Origin) (task : BitVec 16) (v : BitVec 8)
  /-- CIP_ENABLE (R636). -/
  | cipEnable
  /-- CIP_SELFTEST_DONE (R636). -/
  | cipSelftestDone (cause : Fin 12) (core : Fin 8)
  /-- CIP_ONDEMAND (R639). -/
  | cipOndemand
  /-- CIP_PERIODIC_TEST (R639). -/
  | cipPeriodicTest (fail : Bool)
  /-- CIP_ZEROIZE (R648). -/
  | cipZeroize
  /-- CIP_CLR_CNT (R648). -/
  | cipClrCnt
  /-- ENTROPY_HEALTH_FAIL (R638). -/
  | entropyHealthFail (adaptive : Bool)
  /-- CIP_RNG_READ (R626). -/
  | cipRngRead
  /-- CIP_OP_AES_ECB_ENCRYPT (R623). -/
  | cipOpAesEcbEncrypt (k : Fin 8)
  /-- CIP_OP_AES_ECB_DECRYPT (R623). -/
  | cipOpAesEcbDecrypt (k : Fin 8)
  /-- CIP_OP_AES_CBC_ENCRYPT (R623). -/
  | cipOpAesCbcEncrypt (k : Fin 8)
  /-- CIP_OP_AES_CBC_DECRYPT (R623). -/
  | cipOpAesCbcDecrypt (k : Fin 8)
  /-- CIP_OP_AES_CTR (R623). -/
  | cipOpAesCtr (k : Fin 8)
  /-- CIP_OP_AES_GCM_ENCRYPT (R623). -/
  | cipOpAesGcmEncrypt (k : Fin 8)
  /-- CIP_OP_AES_GCM_DECRYPT (R623). -/
  | cipOpAesGcmDecrypt (k : Fin 8)
  /-- CIP_OP_CMAC_GENERATE (R623). -/
  | cipOpCmacGenerate (k : Fin 8)
  /-- CIP_OP_CMAC_VERIFY (R623). -/
  | cipOpCmacVerify (k : Fin 8)
  /-- CIP_OP_KWP_WRAP (R623). -/
  | cipOpKwpWrap (k : Fin 8)
  /-- CIP_OP_KWP_UNWRAP (R623). -/
  | cipOpKwpUnwrap (k : Fin 8)
  /-- CIP_OP_SHA384 (R623). -/
  | cipOpSha384 (k : Fin 8)
  /-- CIP_OP_RANDOM_BYTES (R623). -/
  | cipOpRandomBytes (k : Fin 8)
  /-- CIP_OP_ECDSA_VERIFY (R623). -/
  | cipOpEcdsaVerify (k : Fin 8)
  /-- CIP_OP_AUTH (R629). -/
  | cipOpAuth (k : Fin 8) (fail : Bool)
  /-- CIP_OP_SET_CRED (R629). -/
  | cipOpSetCred (k : Fin 8) (fail : Bool)
  /-- CIP_OP_GENKEY (R635). -/
  | cipOpGenkey (k : Fin 8) (fail : Bool)
  /-- CIP_OP_LOCK (R623). -/
  | cipOpLock (k : Fin 8) (fail : Bool)
  /-- CIP_OP_SET_RANGE (R633). -/
  | cipOpSetRange (k : Fin 8) (fail : Bool)
  /-- CIP_OP_MKEY_GEN (R623). -/
  | cipOpMkeyGen (k : Fin 8)
  /-- CIP_OP_MKEY_LOAD (R623). -/
  | cipOpMkeyLoad (k : Fin 8)
  /-- CIP_UNLK_NONCE_REQUEST (R645). -/
  | cipUnlkNonceRequest (m : Master) (level : BitVec 2)
  /-- CIP_UNLK_VERIFY (R645). -/
  | cipUnlkVerify (m : Master) (block : BitVec 34) (level : BitVec 2)
  /-- CIP_UNLK_LOCKOUT_END (R645). -/
  | cipUnlkLockoutEnd
  /-- FAULT_CLASSIFY (R652). -/
  | faultClassify (k : Fin 192)
  /-- SEVERITY5_RESET (R655). -/
  | severity5Reset
  /-- FAULT_CONDITION_FALL (R657). -/
  | faultConditionFall (k : Fin 192)
  /-- FAULT_WINDOW_EXPIRY (R657). -/
  | faultWindowExpiry (k : Fin 192)
  /-- FAULT_QUIET_EXPIRY (R653). -/
  | faultQuietExpiry
  /-- FLT_LEAVE (R653). -/
  | fltLeave
  /-- FLT_CLR_CNT (R672). -/
  | fltClrCnt
  /-- FLT_INJECT (R673). -/
  | fltInject (m : Master) (w : BitVec 40)
  /-- FLT_SEVERITY_LOAD (R651). -/
  | fltSeverityLoad
  /-- CORE_OFF_FAULT_LOG (R656). -/
  | coreOffFaultLog (k : Fin 192)
  /-- ALIVE_TOGGLE (R660). -/
  | aliveToggle
  /-- EVR_RECORD_WRITE (R666). -/
  | evrRecordWrite
  /-- EVR_POST (R669). -/
  | evrPost (m : Master) (c : Fin 6) (w : BitVec 40)
  /-- EVR_MIRROR_DUE (R670). -/
  | evrMirrorDue
  /-- EVR_CLR_CNT (R674). -/
  | evrClrCnt
  /-- OP_SECONDS_TICK (R669). -/
  | opSecondsTick
  /-- SUP_REQ_GO (R680). -/
  | supReqGo (target : BitVec 3)
  /-- DEEP_OFF_RETENTION_OFF (R681). -/
  | deepOffRetentionOff (odePersisting : Bool)
  /-- LOW_STATE_EXIT (R683). -/
  | lowStateExit
  /-- EXIT_RAILS_READY (R683). -/
  | exitRailsReady
  /-- EXIT_SUPPLY_TIMEOUT (R683). -/
  | exitSupplyTimeout (vcore : Bool) (vio18 : Bool)
  /-- WAKE_EDGE (R688). -/
  | wakeEdge
  /-- WAKE_HELD_HOUR (R689). -/
  | wakeHeldHour
  /-- RAIL_WARNING (R692). -/
  | railWarning (r : Fin 5) (mv : BitVec 16)
  /-- RAIL_WARNING_CLEAR (R692). -/
  | railWarningClear (r : Fin 5) (mv : BitVec 16)
  /-- RAIL_RESET_THRESHOLD (R693). -/
  | railResetThreshold (r : Fin 4) (mv : BitVec 16)
  /-- RAIL_RESET_RELEASE (R693). -/
  | railResetRelease
  /-- VAUX_RESET (R694). -/
  | vauxReset (mv : BitVec 16)
  /-- VAUX_POWER_ON (R705). -/
  | vauxPowerOn
  /-- SUP_CLR_CNT (R698). -/
  | supClrCnt
  /-- SUP_RAIL_CLR_MIN (R698). -/
  | supRailClrMin (r : Fin 5)
  /-- STRAP_LATCH (R730). -/
  | strapLatch (slot : BitVec 7) (spingate : Bool)
  /-- GPIO_STRAP_SAMPLE (R730). -/
  | gpioStrapSample (pins : BitVec 5)
  /-- TEST_EN_RISE (R730). -/
  | testEnRise
  /-- TEST_EN_FALL (R730). -/
  | testEnFall
  /-- GPIO_SET (R731). -/
  | gpioSet (mask : BitVec 16)
  /-- GPIO_CLR (R731). -/
  | gpioClr (mask : BitVec 16)
  /-- BOOT_ROM_START (R705). -/
  | bootRomStart (lanes : BitVec 4) (cause : Fin 12) (core : Fin 8)
  /-- FLASH_READ (R704). -/
  | flashRead (c : Fin 4)
  /-- FLASH_WRITE (R704). -/
  | flashWrite (c : Fin 4)
  /-- MAN_SELECT (R710). -/
  | manSelect (c : Fin 4)
  /-- BOOT_OK (R704). -/
  | bootOk (c : Fin 4)
  /-- REBIND (R714). -/
  | rebind (c : Fin 4) (media : List (Nat × List Byte))
  /-- MANIFEST_SELECTION (R709). -/
  | manifestSelection (c0 : Option (List Byte)) (c1 : Option (List Byte)) (c2 : Option (List Byte)) (i0 : Option (List Byte)) (i1 : Option (List Byte)) (i2 : Option (List Byte))
  /-- ADL_RX_DISCARD (R316). -/
  | adlRxDiscard (n : Fin 2)
  /-- SLOT_END (R239). -/
  | slotEnd (n : Fin 2)
  /-- JOURNAL_DONE (R241). -/
  | journalDone (n : Fin 2)
  /-- DRC_PLL_LOCKED (R406). -/
  | drcPllLocked
  /-- RAIL_RESET_CLEAR (R690). -/
  | railResetClear (r : Fin 5) (mv : BitVec 16)
  /-- VAUX_POWER_ON_LEVEL_FALL (R738). -/
  | vauxPowerOnLevelFall
  /-- WAKE_FILTERED_FALL (R687). -/
  | wakeFilteredFall
  /-- CAN_ERROR_DETECTED (R581). -/
  | canErrorDetected (tx : Bool) (alt : Bool)
  /-- CAN_FRAME_SENT (R599). -/
  | canFrameSent
  deriving DecidableEq, Repr

end Sys2Proof
end

