-- ==== Sys2Proof/Machine/Codes.lean ====
section
/-! DEFINITION. The check codes of the spec: the CRCs of the links and records, the field of the outer code, the scrambler. -/

namespace Sys2Proof.Machine

/-- One bit through a CRC register of `w` bits with polynomial `poly`, highest bit first. -/
def crcBit (w poly : Nat) (reg : Nat) (bit : Bool) : Nat :=
  let top := reg.testBit (w - 1) ^^ bit
  let sh := (reg * 2) % 2 ^ w
  if top then sh ^^^ poly else sh

/-- The low `k` bits of `n` through the register, highest first. -/
def crcFeed (w poly : Nat) : (k n reg : Nat) → Nat
  | 0, _, reg => reg
  | k + 1, n, reg => crcFeed w poly k n (crcBit w poly reg (n.testBit k))

/-- CRC-8 of the low `k` bits of `n`: x^8 + x^2 + x + 1, initial value 0 (R156). -/
def crc8 (k n : Nat) : Nat := crcFeed 8 0x07 k n 0

/-- CRC-16-CCITT of the low `k` bits of `n`, initial value 0xFFFF (R315). -/
def crc16 (k n : Nat) : Nat := crcFeed 16 0x1021 k n 0xFFFF

/-- One shift of the reflected CRC-32C register. -/
def crc32cShift : (k reg : Nat) → Nat
  | 0, reg => reg
  | k + 1, reg => crc32cShift k (if reg % 2 = 1 then (reg / 2) ^^^ 0x82F63B78 else reg / 2)

/-- CRC-32C of a list of bytes: Castagnoli, reflected, initial value and final XOR 0xFFFF_FFFF (R84). -/
def crc32c (l : List Byte) : Nat :=
  (l.foldl (fun reg b => crc32cShift 8 (reg ^^^ b.toNat)) 0xFFFFFFFF) ^^^ 0xFFFFFFFF

/-- Multiplication by α = x in GF(2^16) with x^16 + x^12 + x^3 + x + 1 (R89). -/
def gfAlpha (a : Nat) : Nat := if 0x8000 ≤ a then ((a * 2) % 0x10000) ^^^ 0x100B else a * 2

/-- Multiplication by α^k. -/
def gfAlphaPow : (k a : Nat) → Nat
  | 0, a => a
  | k + 1, a => gfAlphaPow k (gfAlpha a)

/-- The low `k` steps of the product of `a` and `b` in GF(2^16). -/
def gfMulSteps : (k a b : Nat) → Nat
  | 0, _, _ => 0
  | k + 1, a, b => (if b % 2 = 1 then a else 0) ^^^ gfMulSteps k (gfAlpha a) (b / 2)

/-- The product in GF(2^16) (R89). -/
def gfMul (a b : Nat) : Nat := gfMulSteps 16 a b

/-- The k-fold square. -/
def gfSquares : (k a : Nat) → Nat
  | 0, a => a
  | k + 1, a => gfSquares k (gfMul a a)

/-- The product of the squares a^2, a^4, ..., a^(2^k), which is the inverse for k = 15. -/
def gfInvSteps : (k a : Nat) → Nat
  | 0, _ => 1
  | k + 1, a => gfMul (gfMul a a) (gfInvSteps k (gfMul a a))

/-- The inverse in GF(2^16): a^(2^16 - 2). -/
def gfInv (a : Nat) : Nat := gfInvSteps 15 a

/-- A list of bytes as little-endian 16-bit symbols (R89). -/
def symbols : List Byte → List Nat
  | a :: b :: r => (a.toNat + 256 * b.toNat) :: symbols r
  | [a] => [a.toNat]
  | [] => []

/-- Little-endian 16-bit symbols as bytes. -/
def symbolBytes (l : List Nat) : List Byte := l.flatMap (leBytes 2)

/-- Symbol by symbol, `acc + α^e * w`; a missing symbol counts as zero. -/
def gfAddScaled (e : Nat) : List Nat → List Nat → List Nat
  | a :: as, w :: ws => (a ^^^ gfAlphaPow e w) :: gfAddScaled e as ws
  | as, [] => as
  | [], w :: ws => gfAlphaPow e w :: gfAddScaled e [] ws

/-- Byte by byte exclusive or; a missing byte counts as zero. -/
def xorBytes : List Byte → List Byte → List Byte
  | a :: as, b :: bs => (a ^^^ b) :: xorBytes as bs
  | as, [] => as
  | [], bs => bs

/-- The seed of the scrambler for a fragment address (R78). -/
def scrambleSeed (frag : Nat) : Nat :=
  let x := (frag % 0x800000) ^^^ 0x2A5A5A
  if x = 0 then 1 else x

/-- The scrambler over the bits of one byte, highest first: the mask byte so far and the register after `k` bits. -/
def scrambleBits : (k reg acc : Nat) → Nat × Nat
  | 0, reg, acc => (acc, reg)
  | k + 1, reg, acc =>
    let o := if reg.testBit 22 then 1 else 0
    let f := if reg.testBit 17 then 1 else 0
    scrambleBits k ((reg * 2) % 0x800000 + (o ^^^ f)) (acc * 2 + o)

/-- Coded bytes scrambled from a register value (R78). -/
def scrambleFrom (reg : Nat) : List Byte → List Byte
  | [] => []
  | b :: r =>
    let m := scrambleBits 8 reg 0
    (b ^^^ BitVec.ofNat 8 m.1) :: scrambleFrom m.2 r

end Sys2Proof.Machine
end

