-- ==== Sys2Proof/Config.lean ====
section
/-! DEFINITION. What the spec leaves open and the model leaves free: constants with no value. -/

namespace Sys2Proof.Config

/-- A value the spec leaves open, one for each number of `State.free`: nothing constrains it. -/
opaque freeValue : Nat → Nat

/-- The parity bytes of the inner code for an information word: its matrix stands in a boot ROM whose content the spec
does not give (R80, R81). -/
opaque ldpcParity : List Byte → List Byte

/-- The 32 header bytes of a parity journal entry for its first slot, members, active bank and sequence number: R92 names
the fields and not their places. -/
opaque journalHeader : Nat → Nat → Nat → Nat → List (BitVec 8)

/-- Quarter `q` of the control store of FMSn at core power-on with its parity bit, undefined under R374. -/
opaque storePowerOn : (n q : Nat) → BitVec 33

/-- The device root key in the fuses (R616). -/
opaque drk : List (BitVec 8)

/-- SHA-384 of firmware-signing public key `i` in the fuses (R616). -/
opaque fwKeyHash : Nat → List (BitVec 8)

/-- Whether FW_KEY_HASH[i] is revoked (R616). -/
opaque fwKeyRevoked : Nat → Bool

/-- SHA-384 of the debug-unlock public key of a level in the fuses (R616). -/
opaque dbgKeyHash : Nat → List (BitVec 8)

/-- What an 8-byte lock record says, whose layout the spec does not give: ReadLockEnabled, WriteLockEnabled, ReadLocked,
WriteLocked, LockOnReset includes Power Cycle, and the authorities that are to have a copy of the media key (R623, R628). -/
opaque lockRecord : List (BitVec 8) → Bool × Bool × Bool × Bool × Bool × List Nat

/-- The first LBA and the number of LBAs of a 24-byte range geometry, whose layout the spec does not give (R623, R628). -/
opaque rangeSpan : List (BitVec 8) → Nat × Nat

/-- The tracks of the event mirror and of the zone state areas, as head and track, whose place the spec does not give (R113, R117). -/
opaque systemTracks : List (Nat × Nat)

/-- The version string 0x100A.k, which the spec does not give (R611). -/
opaque versionString : Nat → List (BitVec 8)

/-- The bytes of a data structure for the host that the spec gives no value: by its kind (a CNS of Identify, 0x100 and above a log page
or a security response) and its namespace or command set (R541, R571, R632). -/
opaque hostPage : Nat → Nat → List (BitVec 8)

end Sys2Proof.Config
end

