-- ==== Sys2Proof/Machine/RegTypes.lean ====
section
/-! DEFINITION. What a register and a field are (R10 to R13), and the reset words the spec gives by a rule, not by a column. -/

namespace Sys2Proof.Machine

/-- The access types of R12. -/
inductive FldTy where
  | ro | rw | w1c | wo | rws | rwl
  deriving DecidableEq, Repr

/-- The register blocks of R14. -/
inductive Block where
  | sys | sup | flt | evr | intc | mem | drc | dma | dc | wp | fms | svd | cle | spm | psl | adl
  | cip | pce | nvq | fni | ode | cpx | dbg
  deriving DecidableEq, Repr

/-- One field of a register, as a register table lists it. -/
structure RegField where
  name : String
  hi : Nat
  lo : Nat
  ty : FldTy
  deriving DecidableEq, Repr

/-- One register heading of the spec: its block, the address of its first instance, the count and the stride of
each of its indexes, its reset word and its fields. -/
structure RegDef where
  name : String
  block : Block
  base : Nat
  dims : List (Nat × Nat)
  rst : BitVec 40
  fields : List RegField
  deriving DecidableEq, Repr

/-- A field of one register instance: the address of its register, its place, and the register's reset word. -/
structure Fld where
  addr : Nat
  lo : Nat
  len : Nat
  rst : BitVec 40
  deriving DecidableEq, Repr

/-- The sources that only the fused units of the FQX-1408 raise (R755). -/
def fusedSources : List Nat := [28, 29, 30, 31, 34, 35, 37, 42, 43, 46, 47, 49, 51]

/-- The level sources of R650. -/
def fltLevelSources : List Nat := [0, 1, 2, 3, 8, 10, 12, 14, 16, 27, 31, 32, 34, 65, 77, 102]

/-- The severity of source `k` at reset, with `none` for a reserved source (R650). -/
def fltResetSeverity (k : Nat) : Option Nat :=
  if k ≤ 3 then some 2
  else if 8 ≤ k ∧ k ≤ 17 then some (if k % 2 = 0 then 2 else 1)
  else if 24 ≤ k ∧ k ≤ 35 then some 2
  else if 36 ≤ k ∧ k ≤ 38 then some 1
  else if 40 ≤ k ∧ k ≤ 43 then some 1
  else if 44 ≤ k ∧ k ≤ 49 then some 2
  else if k = 50 ∨ k = 51 then some 3
  else if k = 56 then some 2
  else if k = 57 then some 3
  else if k = 61 ∨ k = 65 then some 4
  else if k = 64 then some 1
  else if 60 ≤ k ∧ k ≤ 63 then some 2
  else if k = 72 ∨ k = 75 ∨ k = 76 then some 3
  else if k = 73 ∨ k = 74 then some 2
  else if k = 77 then some 4
  else if k = 78 then some 3
  else if k = 79 then some 2
  else if 80 ≤ k ∧ k ≤ 87 then some 3
  else if k = 88 then some 1
  else if 96 ≤ k ∧ k ≤ 100 then some 2
  else if k = 101 ∨ k = 102 then some 3
  else if k = 103 ∨ k = 104 then some 2
  else none

/-- The reset word of FLT_SRC[k]: KIND and SEV of R650. -/
def fltSrcReset (k : Nat) : BitVec 40 :=
  match fltResetSeverity k with
  | none => 0
  | some s => BitVec.ofNat 40 ((if k ∈ fltLevelSources then 1024 else 0) + s)

/-- The dependents of source `k` in the reset value of FLT_DEP (R659). -/
def fltResetDeps (k : Nat) : List Nat :=
  if k = 0 then [24, 25, 26, 27, 28, 29, 30, 31, 32, 33, 34, 35, 40, 41, 42, 43, 56, 103]
  else if k = 3 then [40, 41, 42, 43, 56]
  else if k = 8 then [60, 61, 62, 63, 64]
  else if k = 12 then [44, 45, 46, 47, 56]
  else if k = 27 then [24, 25, 26, 36, 40, 41]
  else if k = 31 then [28, 29, 30, 37, 42, 43]
  else if k = 32 then [33, 56]
  else if k = 34 then [35, 56]
  else if k = 61 then [60, 63]
  else if k = 65 then [60, 61, 63]
  else if k = 76 then [96, 97, 98, 99]
  else if k = 77 then [76, 79, 96, 97, 98, 99]
  else if k = 102 then [97, 98]
  else []

/-- The word with the bits `b` set for which `40 * i + b` is in the list. -/
def maskWord (i : Nat) : List Nat → Nat
  | [] => 0
  | j :: r => (if j / 40 = i then 2 ^ (j % 40) else 0) + maskWord i r

/-- The reset word of FLT_DEP[k][i] (R659). -/
def fltDepReset (k i : Nat) : BitVec 40 := BitVec.ofNat 40 (maskWord i (fltResetDeps k))

/-- Whether INTC source `k` is marked reserved in R471. -/
def intcReserved (k : Nat) : Bool :=
  (18 ≤ k ∧ k ≤ 23) || (75 ≤ k ∧ k ≤ 79) || (88 ≤ k ∧ k ≤ 191) || (232 ≤ k ∧ k ≤ 239) || decide (256 ≤ k)

/-- Whether INTC source `k` is an edge source (R471). -/
def intcEdge (k : Nat) : Bool :=
  (80 ≤ k ∧ k ≤ 87) || (192 ≤ k ∧ k ≤ 223) || k == 231 || (240 ≤ k ∧ k ≤ 255)

/-- The target of INTC source `k` at reset (R471). -/
def intcResetTarget (k : Nat) : Nat :=
  if 28 ≤ k ∧ k ≤ 31 then (k - 28 + 1) % 4
  else if 192 ≤ k ∧ k ≤ 223 then k % 4
  else if 224 ≤ k then 4
  else 0

/-- The reset word of INTC_SRC[k] (R471). -/
def intcSrcReset (k : Nat) : BitVec 40 :=
  if intcReserved k then 0
  else BitVec.ofNat 40 ((if intcEdge k then 128 else 0) + 16 * intcResetTarget k)

/-- The reset word of CPX_CORE_CTRL[n]: HELD is 1, and 0 for n = 0. -/
def cpxCoreCtrlReset (n : Nat) : BitVec 40 := if n = 0 then 0 else 4

end Sys2Proof.Machine
end

