-- ==== Sys2Proof/Machine/RegsCore.lean ====
section
/-! DEFINITION. The registers of MEM, DRC, CPX, INTC and DMA, as the register tables of the spec's chapters give them (R10 to R13):
for each register its address, its instances, its reset word and its fields; for each field that can be read, its place. -/

namespace Sys2Proof.Machine

/-- MEM_CTRL: R418, 12_buffer_memory.md. -/
def MEM_CTRL : RegDef := ⟨"MEM_CTRL", .mem, 0xf00050000, [], 0x1003#40,
  [⟨"CE_THRESH", 15, 8, .rw⟩, ⟨"CLR_CNT", 2, 2, .wo⟩, ⟨"SCRUB_PANTRY", 1, 1, .rw⟩, ⟨"SCRUB_MAIN", 0, 0, .rw⟩]⟩
def MEM_CTRL.CE_THRESH : Fld := ⟨0xf00050000, 8, 8, 0x1003#40⟩
def MEM_CTRL.SCRUB_PANTRY : Fld := ⟨0xf00050000, 1, 1, 0x1003#40⟩
def MEM_CTRL.SCRUB_MAIN : Fld := ⟨0xf00050000, 0, 1, 0x1003#40⟩

/-- MEM_INIT: R418, 12_buffer_memory.md. -/
def MEM_INIT : RegDef := ⟨"MEM_INIT", .mem, 0xf00050008, [], 0x0#40,
  [⟨"GO", 39, 39, .wo⟩, ⟨"BUSY", 38, 38, .ro⟩, ⟨"TARGET", 37, 36, .rw⟩, ⟨"COUNT", 33, 17, .rw⟩, ⟨"START", 16, 0, .rw⟩]⟩
def MEM_INIT.BUSY : Fld := ⟨0xf00050008, 38, 1, 0x0#40⟩
def MEM_INIT.TARGET : Fld := ⟨0xf00050008, 36, 2, 0x0#40⟩
def MEM_INIT.COUNT : Fld := ⟨0xf00050008, 17, 17, 0x0#40⟩
def MEM_INIT.START : Fld := ⟨0xf00050008, 0, 17, 0x0#40⟩

/-- MEM_SCRUB: R418, 12_buffer_memory.md. -/
def MEM_SCRUB : RegDef := ⟨"MEM_SCRUB", .mem, 0xf00050010, [], 0x103e8#40,
  [⟨"GAP", 23, 16, .rw⟩, ⟨"LAP_MAX", 15, 0, .rw⟩]⟩
def MEM_SCRUB.GAP : Fld := ⟨0xf00050010, 16, 8, 0x103e8#40⟩
def MEM_SCRUB.LAP_MAX : Fld := ⟨0xf00050010, 0, 16, 0x103e8#40⟩

/-- MEM_SCRUB_LAP: R418, 12_buffer_memory.md. -/
def MEM_SCRUB_LAP : RegDef := ⟨"MEM_SCRUB_LAP", .mem, 0xf00050018, [], 0x0#40,
  [⟨"PANTRY", 39, 20, .ro⟩, ⟨"MAIN", 19, 0, .ro⟩]⟩
def MEM_SCRUB_LAP.PANTRY : Fld := ⟨0xf00050018, 20, 20, 0x0#40⟩
def MEM_SCRUB_LAP.MAIN : Fld := ⟨0xf00050018, 0, 20, 0x0#40⟩

/-- MEM_CE: R418, 12_buffer_memory.md. -/
def MEM_CE : RegDef := ⟨"MEM_CE", .mem, 0xf00050020, [], 0x0#40,
  [⟨"ROM", 39, 30, .ro⟩, ⟨"LARDER", 29, 20, .ro⟩, ⟨"PANTRY", 19, 10, .ro⟩, ⟨"MAIN", 9, 0, .ro⟩]⟩
def MEM_CE.ROM : Fld := ⟨0xf00050020, 30, 10, 0x0#40⟩
def MEM_CE.LARDER : Fld := ⟨0xf00050020, 20, 10, 0x0#40⟩
def MEM_CE.PANTRY : Fld := ⟨0xf00050020, 10, 10, 0x0#40⟩
def MEM_CE.MAIN : Fld := ⟨0xf00050020, 0, 10, 0x0#40⟩

/-- MEM_CE_LAST: R418, 12_buffer_memory.md. -/
def MEM_CE_LAST : RegDef := ⟨"MEM_CE_LAST", .mem, 0xf00050028, [], 0x0#40,
  [⟨"ADDR", 39, 3, .ro⟩, ⟨"MEMORY", 2, 0, .ro⟩]⟩
def MEM_CE_LAST.ADDR : Fld := ⟨0xf00050028, 3, 37, 0x0#40⟩
def MEM_CE_LAST.MEMORY : Fld := ⟨0xf00050028, 0, 3, 0x0#40⟩

/-- MEM_UE_ADDR: R418, 12_buffer_memory.md. -/
def MEM_UE_ADDR : RegDef := ⟨"MEM_UE_ADDR", .mem, 0xf00050030, [], 0x0#40,
  [⟨"ADDR", 39, 0, .ro⟩]⟩
def MEM_UE_ADDR.ADDR : Fld := ⟨0xf00050030, 0, 40, 0x0#40⟩

/-- MEM_UE_INFO: R418, 12_buffer_memory.md. -/
def MEM_UE_INFO : RegDef := ⟨"MEM_UE_INFO", .mem, 0xf00050038, [], 0x0#40,
  [⟨"VALID", 15, 15, .w1c⟩, ⟨"MULTI", 14, 14, .ro⟩, ⟨"MEMORY", 13, 11, .ro⟩, ⟨"REQ", 10, 8, .ro⟩, ⟨"SYNDROME", 7, 0, .ro⟩]⟩
def MEM_UE_INFO.VALID : Fld := ⟨0xf00050038, 15, 1, 0x0#40⟩
def MEM_UE_INFO.MULTI : Fld := ⟨0xf00050038, 14, 1, 0x0#40⟩
def MEM_UE_INFO.MEMORY : Fld := ⟨0xf00050038, 11, 3, 0x0#40⟩
def MEM_UE_INFO.REQ : Fld := ⟨0xf00050038, 8, 3, 0x0#40⟩
def MEM_UE_INFO.SYNDROME : Fld := ⟨0xf00050038, 0, 8, 0x0#40⟩

/-- MEM_FLIP_L: R418, 12_buffer_memory.md. -/
def MEM_FLIP_L : RegDef := ⟨"MEM_FLIP_L", .mem, 0xf00050040, [], 0x0#40,
  [⟨"D_MASK_L", 39, 0, .rw⟩]⟩
def MEM_FLIP_L.D_MASK_L : Fld := ⟨0xf00050040, 0, 40, 0x0#40⟩

/-- MEM_FLIP_H: R418, 12_buffer_memory.md. -/
def MEM_FLIP_H : RegDef := ⟨"MEM_FLIP_H", .mem, 0xf00050048, [], 0x0#40,
  [⟨"P_MASK", 32, 32, .rw⟩, ⟨"C_MASK", 31, 24, .rw⟩, ⟨"D_MASK_H", 23, 0, .rw⟩]⟩
def MEM_FLIP_H.P_MASK : Fld := ⟨0xf00050048, 32, 1, 0x0#40⟩
def MEM_FLIP_H.C_MASK : Fld := ⟨0xf00050048, 24, 8, 0x0#40⟩
def MEM_FLIP_H.D_MASK_H : Fld := ⟨0xf00050048, 0, 24, 0x0#40⟩

/-- MEM_FLIP_CTL: R418, 12_buffer_memory.md. -/
def MEM_FLIP_CTL : RegDef := ⟨"MEM_FLIP_CTL", .mem, 0xf00050050, [], 0x0#40,
  [⟨"ARM", 39, 39, .rw⟩, ⟨"DONE", 38, 38, .w1c⟩, ⟨"ADDR_EN", 37, 37, .rw⟩, ⟨"TARGET", 36, 35, .rw⟩, ⟨"ROW", 19, 0, .rw⟩]⟩
def MEM_FLIP_CTL.ARM : Fld := ⟨0xf00050050, 39, 1, 0x0#40⟩
def MEM_FLIP_CTL.DONE : Fld := ⟨0xf00050050, 38, 1, 0x0#40⟩
def MEM_FLIP_CTL.ADDR_EN : Fld := ⟨0xf00050050, 37, 1, 0x0#40⟩
def MEM_FLIP_CTL.TARGET : Fld := ⟨0xf00050050, 35, 2, 0x0#40⟩
def MEM_FLIP_CTL.ROW : Fld := ⟨0xf00050050, 0, 20, 0x0#40⟩

/-- MEM_INT: R418, 12_buffer_memory.md. -/
def MEM_INT : RegDef := ⟨"MEM_INT", .mem, 0xf00050058, [], 0x0#40,
  [⟨"FLIP_DONE", 7, 7, .w1c⟩, ⟨"INIT_ERR", 6, 6, .w1c⟩, ⟨"INIT_DONE", 5, 5, .w1c⟩, ⟨"LAP_DONE", 4, 4, .w1c⟩, ⟨"SCRUB_SLOW", 3, 3, .w1c⟩, ⟨"CE_HIGH", 2, 2, .w1c⟩, ⟨"UE", 1, 1, .w1c⟩, ⟨"CE", 0, 0, .w1c⟩]⟩
def MEM_INT.FLIP_DONE : Fld := ⟨0xf00050058, 7, 1, 0x0#40⟩
def MEM_INT.INIT_ERR : Fld := ⟨0xf00050058, 6, 1, 0x0#40⟩
def MEM_INT.INIT_DONE : Fld := ⟨0xf00050058, 5, 1, 0x0#40⟩
def MEM_INT.LAP_DONE : Fld := ⟨0xf00050058, 4, 1, 0x0#40⟩
def MEM_INT.SCRUB_SLOW : Fld := ⟨0xf00050058, 3, 1, 0x0#40⟩
def MEM_INT.CE_HIGH : Fld := ⟨0xf00050058, 2, 1, 0x0#40⟩
def MEM_INT.UE : Fld := ⟨0xf00050058, 1, 1, 0x0#40⟩
def MEM_INT.CE : Fld := ⟨0xf00050058, 0, 1, 0x0#40⟩

/-- MEM_INTEN: R418, 12_buffer_memory.md. -/
def MEM_INTEN : RegDef := ⟨"MEM_INTEN", .mem, 0xf00050060, [], 0x0#40,
  [⟨"EN", 7, 0, .rw⟩]⟩
def MEM_INTEN.EN : Fld := ⟨0xf00050060, 0, 8, 0x0#40⟩

/-- DRC_CTRL: R419, 12_buffer_memory.md. -/
def DRC_CTRL : RegDef := ⟨"DRC_CTRL", .drc, 0xf00060000, [], 0x8#40,
  [⟨"CLR_CNT", 4, 4, .wo⟩, ⟨"SCRUB_EN", 3, 3, .rw⟩, ⟨"BRINGUP", 2, 2, .wo⟩, ⟨"ENABLE", 1, 1, .rw⟩, ⟨"PHY_EN", 0, 0, .rw⟩]⟩
def DRC_CTRL.SCRUB_EN : Fld := ⟨0xf00060000, 3, 1, 0x8#40⟩
def DRC_CTRL.ENABLE : Fld := ⟨0xf00060000, 1, 1, 0x8#40⟩
def DRC_CTRL.PHY_EN : Fld := ⟨0xf00060000, 0, 1, 0x8#40⟩

/-- DRC_CFG: R419, 12_buffer_memory.md. -/
def DRC_CFG : RegDef := ⟨"DRC_CFG", .drc, 0xf00060008, [], 0x30#40,
  [⟨"SIZE", 5, 4, .rw⟩, ⟨"RANKS", 3, 3, .rw⟩, ⟨"RATE", 2, 1, .rw⟩]⟩
def DRC_CFG.SIZE : Fld := ⟨0xf00060008, 4, 2, 0x30#40⟩
def DRC_CFG.RANKS : Fld := ⟨0xf00060008, 3, 1, 0x30#40⟩
def DRC_CFG.RATE : Fld := ⟨0xf00060008, 1, 2, 0x30#40⟩

/-- DRC_STATUS: R419, 12_buffer_memory.md. -/
def DRC_STATUS : RegDef := ⟨"DRC_STATUS", .drc, 0xf00060010, [], 0x0#40,
  [⟨"DEV_LOST", 12, 12, .ro⟩, ⟨"LANE_FAIL", 11, 8, .ro⟩, ⟨"SR", 7, 7, .ro⟩, ⟨"INIT_BUSY", 6, 6, .ro⟩, ⟨"SCRUB_ACTIVE", 5, 5, .ro⟩, ⟨"BRINGUP_FAIL", 4, 4, .ro⟩, ⟨"BRINGUP_DONE", 3, 3, .ro⟩, ⟨"READY", 2, 2, .ro⟩, ⟨"PLL_LOCK", 1, 1, .ro⟩, ⟨"PHY_UP", 0, 0, .ro⟩]⟩
def DRC_STATUS.DEV_LOST : Fld := ⟨0xf00060010, 12, 1, 0x0#40⟩
def DRC_STATUS.LANE_FAIL : Fld := ⟨0xf00060010, 8, 4, 0x0#40⟩
def DRC_STATUS.SR : Fld := ⟨0xf00060010, 7, 1, 0x0#40⟩
def DRC_STATUS.INIT_BUSY : Fld := ⟨0xf00060010, 6, 1, 0x0#40⟩
def DRC_STATUS.SCRUB_ACTIVE : Fld := ⟨0xf00060010, 5, 1, 0x0#40⟩
def DRC_STATUS.BRINGUP_FAIL : Fld := ⟨0xf00060010, 4, 1, 0x0#40⟩
def DRC_STATUS.BRINGUP_DONE : Fld := ⟨0xf00060010, 3, 1, 0x0#40⟩
def DRC_STATUS.READY : Fld := ⟨0xf00060010, 2, 1, 0x0#40⟩
def DRC_STATUS.PLL_LOCK : Fld := ⟨0xf00060010, 1, 1, 0x0#40⟩
def DRC_STATUS.PHY_UP : Fld := ⟨0xf00060010, 0, 1, 0x0#40⟩

/-- DRC_MRW: R419, 12_buffer_memory.md. -/
def DRC_MRW : RegDef := ⟨"DRC_MRW", .drc, 0xf00060018, [], 0x3000000#40,
  [⟨"ERR", 30, 30, .ro⟩, ⟨"BUSY", 29, 29, .ro⟩, ⟨"GO", 28, 28, .wo⟩, ⟨"READ", 27, 27, .rw⟩, ⟨"RANK", 26, 26, .rw⟩, ⟨"CHAN", 25, 24, .rw⟩, ⟨"MA", 23, 16, .rw⟩, ⟨"OP", 15, 8, .rw⟩]⟩
def DRC_MRW.ERR : Fld := ⟨0xf00060018, 30, 1, 0x3000000#40⟩
def DRC_MRW.BUSY : Fld := ⟨0xf00060018, 29, 1, 0x3000000#40⟩
def DRC_MRW.READ : Fld := ⟨0xf00060018, 27, 1, 0x3000000#40⟩
def DRC_MRW.RANK : Fld := ⟨0xf00060018, 26, 1, 0x3000000#40⟩
def DRC_MRW.CHAN : Fld := ⟨0xf00060018, 24, 2, 0x3000000#40⟩
def DRC_MRW.MA : Fld := ⟨0xf00060018, 16, 8, 0x3000000#40⟩
def DRC_MRW.OP : Fld := ⟨0xf00060018, 8, 8, 0x3000000#40⟩

/-- DRC_INIT: R419, 12_buffer_memory.md. -/
def DRC_INIT : RegDef := ⟨"DRC_INIT", .drc, 0xf00060020, [], 0x0#40,
  [⟨"GO", 39, 39, .wo⟩, ⟨"BUSY", 38, 38, .ro⟩, ⟨"PROGRESS", 17, 0, .ro⟩]⟩
def DRC_INIT.BUSY : Fld := ⟨0xf00060020, 38, 1, 0x0#40⟩
def DRC_INIT.PROGRESS : Fld := ⟨0xf00060020, 0, 18, 0x0#40⟩

/-- DRC_SCRUB: R419, 12_buffer_memory.md. -/
def DRC_SCRUB : RegDef := ⟨"DRC_SCRUB", .drc, 0xf00060028, [], 0x10042710#40,
  [⟨"CE_THRESH", 31, 24, .rw⟩, ⟨"GAP", 23, 16, .rw⟩, ⟨"LAP_MAX", 15, 0, .rw⟩]⟩
def DRC_SCRUB.CE_THRESH : Fld := ⟨0xf00060028, 24, 8, 0x10042710#40⟩
def DRC_SCRUB.GAP : Fld := ⟨0xf00060028, 16, 8, 0x10042710#40⟩
def DRC_SCRUB.LAP_MAX : Fld := ⟨0xf00060028, 0, 16, 0x10042710#40⟩

/-- DRC_SCRUB_LAP: R419, 12_buffer_memory.md. -/
def DRC_SCRUB_LAP : RegDef := ⟨"DRC_SCRUB_LAP", .drc, 0xf00060030, [], 0x0#40,
  [⟨"LAP", 39, 20, .ro⟩, ⟨"LAPS", 19, 0, .ro⟩]⟩
def DRC_SCRUB_LAP.LAP : Fld := ⟨0xf00060030, 20, 20, 0x0#40⟩
def DRC_SCRUB_LAP.LAPS : Fld := ⟨0xf00060030, 0, 20, 0x0#40⟩

/-- DRC_CE: R419, 12_buffer_memory.md. -/
def DRC_CE : RegDef := ⟨"DRC_CE", .drc, 0xf00060038, [], 0x0#40,
  [⟨"CE2", 39, 20, .ro⟩, ⟨"CE1", 19, 0, .ro⟩]⟩
def DRC_CE.CE2 : Fld := ⟨0xf00060038, 20, 20, 0x0#40⟩
def DRC_CE.CE1 : Fld := ⟨0xf00060038, 0, 20, 0x0#40⟩

/-- DRC_UE_ADDR: R419, 12_buffer_memory.md. -/
def DRC_UE_ADDR : RegDef := ⟨"DRC_UE_ADDR", .drc, 0xf00060040, [], 0x0#40,
  [⟨"ADDR", 39, 6, .ro⟩]⟩
def DRC_UE_ADDR.ADDR : Fld := ⟨0xf00060040, 6, 34, 0x0#40⟩

/-- DRC_UE_INFO: R419, 12_buffer_memory.md. -/
def DRC_UE_INFO : RegDef := ⟨"DRC_UE_INFO", .drc, 0xf00060048, [], 0x0#40,
  [⟨"VALID", 15, 15, .w1c⟩, ⟨"MULTI", 14, 14, .ro⟩, ⟨"CHECK_LINE", 13, 13, .ro⟩, ⟨"REQ", 12, 10, .ro⟩]⟩
def DRC_UE_INFO.VALID : Fld := ⟨0xf00060048, 15, 1, 0x0#40⟩
def DRC_UE_INFO.MULTI : Fld := ⟨0xf00060048, 14, 1, 0x0#40⟩
def DRC_UE_INFO.CHECK_LINE : Fld := ⟨0xf00060048, 13, 1, 0x0#40⟩
def DRC_UE_INFO.REQ : Fld := ⟨0xf00060048, 10, 3, 0x0#40⟩

/-- DRC_INJECT: R419, 12_buffer_memory.md. -/
def DRC_INJECT : RegDef := ⟨"DRC_INJECT", .drc, 0xf00060050, [], 0x0#40,
  [⟨"DONE", 33, 33, .w1c⟩, ⟨"ARM", 32, 32, .rw⟩, ⟨"EN", 31, 29, .rw⟩, ⟨"SYM_C", 28, 22, .rw⟩, ⟨"SYM_B", 21, 15, .rw⟩, ⟨"SYM_A", 14, 8, .rw⟩, ⟨"MASK", 7, 0, .rw⟩]⟩
def DRC_INJECT.DONE : Fld := ⟨0xf00060050, 33, 1, 0x0#40⟩
def DRC_INJECT.ARM : Fld := ⟨0xf00060050, 32, 1, 0x0#40⟩
def DRC_INJECT.EN : Fld := ⟨0xf00060050, 29, 3, 0x0#40⟩
def DRC_INJECT.SYM_C : Fld := ⟨0xf00060050, 22, 7, 0x0#40⟩
def DRC_INJECT.SYM_B : Fld := ⟨0xf00060050, 15, 7, 0x0#40⟩
def DRC_INJECT.SYM_A : Fld := ⟨0xf00060050, 8, 7, 0x0#40⟩
def DRC_INJECT.MASK : Fld := ⟨0xf00060050, 0, 8, 0x0#40⟩

/-- DRC_SR: R419, 12_buffer_memory.md. -/
def DRC_SR : RegDef := ⟨"DRC_SR", .drc, 0xf00060058, [], 0x0#40,
  [⟨"STATE", 2, 2, .ro⟩, ⟨"EXIT", 1, 1, .wo⟩, ⟨"ENTER", 0, 0, .wo⟩]⟩
def DRC_SR.STATE : Fld := ⟨0xf00060058, 2, 1, 0x0#40⟩

/-- DRC_INT: R419, 12_buffer_memory.md. -/
def DRC_INT : RegDef := ⟨"DRC_INT", .drc, 0xf00060060, [], 0x0#40,
  [⟨"INJ_DONE", 7, 7, .w1c⟩, ⟨"BRINGUP_END", 6, 6, .w1c⟩, ⟨"INIT_DONE", 5, 5, .w1c⟩, ⟨"LAP_DONE", 4, 4, .w1c⟩, ⟨"SCRUB_SLOW", 3, 3, .w1c⟩, ⟨"CE_HIGH", 2, 2, .w1c⟩, ⟨"UE", 1, 1, .w1c⟩, ⟨"CE", 0, 0, .w1c⟩]⟩
def DRC_INT.INJ_DONE : Fld := ⟨0xf00060060, 7, 1, 0x0#40⟩
def DRC_INT.BRINGUP_END : Fld := ⟨0xf00060060, 6, 1, 0x0#40⟩
def DRC_INT.INIT_DONE : Fld := ⟨0xf00060060, 5, 1, 0x0#40⟩
def DRC_INT.LAP_DONE : Fld := ⟨0xf00060060, 4, 1, 0x0#40⟩
def DRC_INT.SCRUB_SLOW : Fld := ⟨0xf00060060, 3, 1, 0x0#40⟩
def DRC_INT.CE_HIGH : Fld := ⟨0xf00060060, 2, 1, 0x0#40⟩
def DRC_INT.UE : Fld := ⟨0xf00060060, 1, 1, 0x0#40⟩
def DRC_INT.CE : Fld := ⟨0xf00060060, 0, 1, 0x0#40⟩

/-- DRC_INTEN: R419, 12_buffer_memory.md. -/
def DRC_INTEN : RegDef := ⟨"DRC_INTEN", .drc, 0xf00060068, [], 0x0#40,
  [⟨"EN", 7, 0, .rw⟩]⟩
def DRC_INTEN.EN : Fld := ⟨0xf00060068, 0, 8, 0x0#40⟩

/-- CPX_CORE_CTRL: R468, 13_cores.md. -/
def CPX_CORE_CTRL : RegDef := ⟨"CPX_CORE_CTRL", .cpx, 0xf00700000, [(4, 0x8)], 0x0#40,
  [⟨"VFAULT", 5, 5, .ro⟩, ⟨"RESET", 4, 4, .wo⟩, ⟨"RUN", 3, 3, .wo⟩, ⟨"HELD", 2, 2, .ro⟩, ⟨"WFI", 1, 1, .ro⟩, ⟨"USER", 0, 0, .ro⟩]⟩
def CPX_CORE_CTRL.VFAULT (n : Nat) : Fld := ⟨0xf00700000 + 0x8 * n, 5, 1, (cpxCoreCtrlReset n)⟩
def CPX_CORE_CTRL.HELD (n : Nat) : Fld := ⟨0xf00700000 + 0x8 * n, 2, 1, (cpxCoreCtrlReset n)⟩
def CPX_CORE_CTRL.WFI (n : Nat) : Fld := ⟨0xf00700000 + 0x8 * n, 1, 1, (cpxCoreCtrlReset n)⟩
def CPX_CORE_CTRL.USER (n : Nat) : Fld := ⟨0xf00700000 + 0x8 * n, 0, 1, (cpxCoreCtrlReset n)⟩

/-- CPX_START: R468, 13_cores.md. -/
def CPX_START : RegDef := ⟨"CPX_START", .cpx, 0xf00700020, [(4, 0x8)], 0x0#40,
  [⟨"ADDR", 39, 3, .rw⟩]⟩
def CPX_START.ADDR (n : Nat) : Fld := ⟨0xf00700020 + 0x8 * n, 3, 37, 0x0#40⟩

/-- CPX_EGG: R468, 13_cores.md. -/
def CPX_EGG : RegDef := ⟨"CPX_EGG", .cpx, 0xf00700040, [(4, 0x8)], 0x3e8#40,
  [⟨"KICK", 23, 16, .wo⟩, ⟨"RESET_CORE", 15, 15, .rw⟩, ⟨"ENABLE", 14, 14, .rwl⟩, ⟨"STAGE", 13, 12, .ro⟩, ⟨"PERIOD", 11, 0, .rw⟩]⟩
def CPX_EGG.RESET_CORE (n : Nat) : Fld := ⟨0xf00700040 + 0x8 * n, 15, 1, 0x3e8#40⟩
def CPX_EGG.ENABLE (n : Nat) : Fld := ⟨0xf00700040 + 0x8 * n, 14, 1, 0x3e8#40⟩
def CPX_EGG.STAGE (n : Nat) : Fld := ⟨0xf00700040 + 0x8 * n, 12, 2, 0x3e8#40⟩
def CPX_EGG.PERIOD (n : Nat) : Fld := ⟨0xf00700040 + 0x8 * n, 0, 12, 0x3e8#40⟩

/-- CPX_L1ERR: R468, 13_cores.md. -/
def CPX_L1ERR : RegDef := ⟨"CPX_L1ERR", .cpx, 0xf00700060, [(4, 0x8)], 0x0#40,
  [⟨"TLB", 39, 32, .ro⟩, ⟨"L1D", 31, 16, .ro⟩, ⟨"L1I", 15, 0, .ro⟩]⟩
def CPX_L1ERR.TLB (n : Nat) : Fld := ⟨0xf00700060 + 0x8 * n, 32, 8, 0x0#40⟩
def CPX_L1ERR.L1D (n : Nat) : Fld := ⟨0xf00700060 + 0x8 * n, 16, 16, 0x0#40⟩
def CPX_L1ERR.L1I (n : Nat) : Fld := ⟨0xf00700060 + 0x8 * n, 0, 16, 0x0#40⟩

/-- CPX_L2_CTRL: R468, 13_cores.md. -/
def CPX_L2_CTRL : RegDef := ⟨"CPX_L2_CTRL", .cpx, 0xf00700100, [], 0x7#40,
  [⟨"CLR_CNT", 3, 3, .wo⟩, ⟨"VC_EN", 2, 2, .rw⟩, ⟨"PREFETCH_EN", 1, 1, .rw⟩, ⟨"BLOCKING", 0, 0, .rw⟩]⟩
def CPX_L2_CTRL.VC_EN : Fld := ⟨0xf00700100, 2, 1, 0x7#40⟩
def CPX_L2_CTRL.PREFETCH_EN : Fld := ⟨0xf00700100, 1, 1, 0x7#40⟩
def CPX_L2_CTRL.BLOCKING : Fld := ⟨0xf00700100, 0, 1, 0x7#40⟩

/-- CPX_L2_STATUS: R468, 13_cores.md. -/
def CPX_L2_STATUS : RegDef := ⟨"CPX_L2_STATUS", .cpx, 0xf00700108, [], 0x1#40,
  [⟨"VC_USED", 11, 8, .ro⟩, ⟨"MISS_BUSY", 7, 4, .ro⟩, ⟨"DRAINING", 1, 1, .ro⟩, ⟨"BLOCKING_ACT", 0, 0, .ro⟩]⟩
def CPX_L2_STATUS.VC_USED : Fld := ⟨0xf00700108, 8, 4, 0x1#40⟩
def CPX_L2_STATUS.MISS_BUSY : Fld := ⟨0xf00700108, 4, 4, 0x1#40⟩
def CPX_L2_STATUS.DRAINING : Fld := ⟨0xf00700108, 1, 1, 0x1#40⟩
def CPX_L2_STATUS.BLOCKING_ACT : Fld := ⟨0xf00700108, 0, 1, 0x1#40⟩

/-- CPX_L2_LFSR: R468, 13_cores.md. -/
def CPX_L2_LFSR : RegDef := ⟨"CPX_L2_LFSR", .cpx, 0xf00700110, [], 0xace1#40,
  [⟨"LFSR", 15, 0, .rw⟩]⟩
def CPX_L2_LFSR.LFSR : Fld := ⟨0xf00700110, 0, 16, 0xace1#40⟩

/-- CPX_L2_CNT_A: R468, 13_cores.md. -/
def CPX_L2_CNT_A : RegDef := ⟨"CPX_L2_CNT_A", .cpx, 0xf00700118, [], 0x0#40,
  [⟨"MERGE", 39, 20, .ro⟩, ⟨"MISS", 19, 0, .ro⟩]⟩
def CPX_L2_CNT_A.MERGE : Fld := ⟨0xf00700118, 20, 20, 0x0#40⟩
def CPX_L2_CNT_A.MISS : Fld := ⟨0xf00700118, 0, 20, 0x0#40⟩

/-- CPX_L2_CNT_B: R468, 13_cores.md. -/
def CPX_L2_CNT_B : RegDef := ⟨"CPX_L2_CNT_B", .cpx, 0xf00700120, [], 0x0#40,
  [⟨"CE", 39, 28, .ro⟩, ⟨"RECALL", 27, 14, .ro⟩, ⟨"PREFETCH", 13, 0, .ro⟩]⟩
def CPX_L2_CNT_B.CE : Fld := ⟨0xf00700120, 28, 12, 0x0#40⟩
def CPX_L2_CNT_B.RECALL : Fld := ⟨0xf00700120, 14, 14, 0x0#40⟩
def CPX_L2_CNT_B.PREFETCH : Fld := ⟨0xf00700120, 0, 14, 0x0#40⟩

/-- CPX_L2_ERR_ADDR: R468, 13_cores.md. -/
def CPX_L2_ERR_ADDR : RegDef := ⟨"CPX_L2_ERR_ADDR", .cpx, 0xf00700128, [], 0x0#40,
  [⟨"ADDR", 39, 6, .ro⟩]⟩
def CPX_L2_ERR_ADDR.ADDR : Fld := ⟨0xf00700128, 6, 34, 0x0#40⟩

/-- CPX_L2_ERR_INFO: R468, 13_cores.md. -/
def CPX_L2_ERR_INFO : RegDef := ⟨"CPX_L2_ERR_INFO", .cpx, 0xf00700130, [], 0x0#40,
  [⟨"VALID", 15, 15, .w1c⟩, ⟨"MULTI", 14, 14, .ro⟩, ⟨"KIND", 13, 11, .ro⟩, ⟨"REQ", 10, 8, .ro⟩, ⟨"SYNDROME", 7, 0, .ro⟩]⟩
def CPX_L2_ERR_INFO.VALID : Fld := ⟨0xf00700130, 15, 1, 0x0#40⟩
def CPX_L2_ERR_INFO.MULTI : Fld := ⟨0xf00700130, 14, 1, 0x0#40⟩
def CPX_L2_ERR_INFO.KIND : Fld := ⟨0xf00700130, 11, 3, 0x0#40⟩
def CPX_L2_ERR_INFO.REQ : Fld := ⟨0xf00700130, 8, 3, 0x0#40⟩
def CPX_L2_ERR_INFO.SYNDROME : Fld := ⟨0xf00700130, 0, 8, 0x0#40⟩

/-- CPX_INT: R468, 13_cores.md. -/
def CPX_INT : RegDef := ⟨"CPX_INT", .cpx, 0xf00700138, [], 0x0#40,
  [⟨"CNT_SAT", 10, 10, .w1c⟩, ⟨"EGG2", 9, 6, .w1c⟩, ⟨"VFAULT", 5, 2, .w1c⟩, ⟨"L2_UE", 1, 1, .w1c⟩, ⟨"L2_WERR", 0, 0, .w1c⟩]⟩
def CPX_INT.CNT_SAT : Fld := ⟨0xf00700138, 10, 1, 0x0#40⟩
def CPX_INT.EGG2 : Fld := ⟨0xf00700138, 6, 4, 0x0#40⟩
def CPX_INT.VFAULT : Fld := ⟨0xf00700138, 2, 4, 0x0#40⟩
def CPX_INT.L2_UE : Fld := ⟨0xf00700138, 1, 1, 0x0#40⟩
def CPX_INT.L2_WERR : Fld := ⟨0xf00700138, 0, 1, 0x0#40⟩

/-- CPX_INTEN: R468, 13_cores.md. -/
def CPX_INTEN : RegDef := ⟨"CPX_INTEN", .cpx, 0xf00700140, [], 0x0#40,
  [⟨"EN", 10, 0, .rw⟩]⟩
def CPX_INTEN.EN : Fld := ⟨0xf00700140, 0, 11, 0x0#40⟩

/-- INTC_SRC: R485, 14_interrupts.md. -/
def INTC_SRC : RegDef := ⟨"INTC_SRC", .intc, 0xf00040000, [(256, 0x8)], 0x0#40,
  [⟨"LOCKED", 9, 9, .ro⟩, ⟨"LINE", 8, 8, .ro⟩, ⟨"KIND", 7, 7, .ro⟩, ⟨"TARGET", 6, 4, .rwl⟩, ⟨"PRIO", 3, 0, .rw⟩]⟩
def INTC_SRC.LOCKED (k : Nat) : Fld := ⟨0xf00040000 + 0x8 * k, 9, 1, (intcSrcReset k)⟩
def INTC_SRC.LINE (k : Nat) : Fld := ⟨0xf00040000 + 0x8 * k, 8, 1, (intcSrcReset k)⟩
def INTC_SRC.KIND (k : Nat) : Fld := ⟨0xf00040000 + 0x8 * k, 7, 1, (intcSrcReset k)⟩
def INTC_SRC.TARGET (k : Nat) : Fld := ⟨0xf00040000 + 0x8 * k, 4, 3, (intcSrcReset k)⟩
def INTC_SRC.PRIO (k : Nat) : Fld := ⟨0xf00040000 + 0x8 * k, 0, 4, (intcSrcReset k)⟩

/-- INTC_VBASE: R485, 14_interrupts.md. -/
def INTC_VBASE : RegDef := ⟨"INTC_VBASE", .intc, 0xf00040800, [(5, 0x8)], 0x0#40,
  [⟨"BASE", 39, 14, .rw⟩]⟩
def INTC_VBASE.BASE (t : Nat) : Fld := ⟨0xf00040800 + 0x8 * t, 14, 26, 0x0#40⟩

/-- INTC_THRESH: R485, 14_interrupts.md. -/
def INTC_THRESH : RegDef := ⟨"INTC_THRESH", .intc, 0xf00040840, [(5, 0x8)], 0x0#40,
  [⟨"THRESH", 3, 0, .rw⟩]⟩
def INTC_THRESH.THRESH (t : Nat) : Fld := ⟨0xf00040840 + 0x8 * t, 0, 4, 0x0#40⟩

/-- INTC_STATE: R485, 14_interrupts.md. -/
def INTC_STATE : RegDef := ⟨"INTC_STATE", .intc, 0xf00040880, [(5, 0x8)], 0x0#40,
  [⟨"TAKEN_SRC", 31, 24, .ro⟩, ⟨"TAKEN_PRIO", 19, 16, .ro⟩, ⟨"PRESENT", 15, 15, .ro⟩, ⟨"PRIO", 11, 8, .ro⟩, ⟨"SRC", 7, 0, .ro⟩]⟩
def INTC_STATE.TAKEN_SRC (t : Nat) : Fld := ⟨0xf00040880 + 0x8 * t, 24, 8, 0x0#40⟩
def INTC_STATE.TAKEN_PRIO (t : Nat) : Fld := ⟨0xf00040880 + 0x8 * t, 16, 4, 0x0#40⟩
def INTC_STATE.PRESENT (t : Nat) : Fld := ⟨0xf00040880 + 0x8 * t, 15, 1, 0x0#40⟩
def INTC_STATE.PRIO (t : Nat) : Fld := ⟨0xf00040880 + 0x8 * t, 8, 4, 0x0#40⟩
def INTC_STATE.SRC (t : Nat) : Fld := ⟨0xf00040880 + 0x8 * t, 0, 8, 0x0#40⟩

/-- INTC_SWI: R485, 14_interrupts.md. -/
def INTC_SWI : RegDef := ⟨"INTC_SWI", .intc, 0xf000408c0, [], 0x0#40,
  [⟨"GO", 8, 8, .wo⟩, ⟨"SRC", 7, 0, .wo⟩]⟩

/-- INTC_PEND: R485, 14_interrupts.md. -/
def INTC_PEND : RegDef := ⟨"INTC_PEND", .intc, 0xf00041000, [(5, 0x40), (8, 0x8)], 0x0#40,
  [⟨"PEND", 31, 0, .rw⟩]⟩
def INTC_PEND.PEND (t r : Nat) : Fld := ⟨0xf00041000 + 0x40 * t + 0x8 * r, 0, 32, 0x0#40⟩

/-- INTC_MASK: R485, 14_interrupts.md. -/
def INTC_MASK : RegDef := ⟨"INTC_MASK", .intc, 0xf00041200, [(5, 0x40), (8, 0x8)], 0xffffffff#40,
  [⟨"MASK", 31, 0, .rw⟩]⟩
def INTC_MASK.MASK (t r : Nat) : Fld := ⟨0xf00041200 + 0x40 * t + 0x8 * r, 0, 32, 0xffffffff#40⟩

/-- DMA_CTRL: R511, 15_dma.md. -/
def DMA_CTRL : RegDef := ⟨"DMA_CTRL", .dma, 0xf00080000, [], 0x0#40,
  [⟨"CLR_CNT", 1, 1, .wo⟩, ⟨"ENABLE", 0, 0, .rw⟩]⟩
def DMA_CTRL.ENABLE : Fld := ⟨0xf00080000, 0, 1, 0x0#40⟩

/-- DMA_FAULTSUM: R511, 15_dma.md. -/
def DMA_FAULTSUM : RegDef := ⟨"DMA_FAULTSUM", .dma, 0xf00080008, [], 0x0#40,
  [⟨"FAULTED", 31, 0, .ro⟩]⟩
def DMA_FAULTSUM.FAULTED : Fld := ⟨0xf00080008, 0, 32, 0x0#40⟩

/-- DMA_ACTIVE: R511, 15_dma.md. -/
def DMA_ACTIVE : RegDef := ⟨"DMA_ACTIVE", .dma, 0xf00080010, [], 0x0#40,
  [⟨"RUNNING", 31, 0, .ro⟩]⟩
def DMA_ACTIVE.RUNNING : Fld := ⟨0xf00080010, 0, 32, 0x0#40⟩

/-- DMA_HOST: R511, 15_dma.md. -/
def DMA_HOST : RegDef := ⟨"DMA_HOST", .dma, 0xf00080018, [], 0x0#40,
  [⟨"FLR_DONE", 2, 2, .w1c⟩, ⟨"FLR_BUSY", 1, 1, .ro⟩, ⟨"BME_OFF", 0, 0, .ro⟩]⟩
def DMA_HOST.FLR_DONE : Fld := ⟨0xf00080018, 2, 1, 0x0#40⟩
def DMA_HOST.FLR_BUSY : Fld := ⟨0xf00080018, 1, 1, 0x0#40⟩
def DMA_HOST.BME_OFF : Fld := ⟨0xf00080018, 0, 1, 0x0#40⟩

/-- DMA_XLAT_INV: R511, 15_dma.md. -/
def DMA_XLAT_INV : RegDef := ⟨"DMA_XLAT_INV", .dma, 0xf00080020, [], 0x0#40,
  [⟨"GO", 39, 39, .wo⟩, ⟨"BUSY", 38, 38, .ro⟩, ⟨"SCOPE", 37, 36, .rw⟩, ⟨"ASID", 35, 28, .rw⟩, ⟨"VPN", 27, 0, .rw⟩]⟩
def DMA_XLAT_INV.BUSY : Fld := ⟨0xf00080020, 38, 1, 0x0#40⟩
def DMA_XLAT_INV.SCOPE : Fld := ⟨0xf00080020, 36, 2, 0x0#40⟩
def DMA_XLAT_INV.ASID : Fld := ⟨0xf00080020, 28, 8, 0x0#40⟩
def DMA_XLAT_INV.VPN : Fld := ⟨0xf00080020, 0, 28, 0x0#40⟩

/-- DMA_XLAT_CNT: R511, 15_dma.md. -/
def DMA_XLAT_CNT : RegDef := ⟨"DMA_XLAT_CNT", .dma, 0xf00080028, [], 0x0#40,
  [⟨"FAULTS", 39, 20, .ro⟩, ⟨"WALKS", 19, 0, .ro⟩]⟩
def DMA_XLAT_CNT.FAULTS : Fld := ⟨0xf00080028, 20, 20, 0x0#40⟩
def DMA_XLAT_CNT.WALKS : Fld := ⟨0xf00080028, 0, 20, 0x0#40⟩

/-- DMA_CH_CTRL: R511, 15_dma.md. -/
def DMA_CH_CTRL : RegDef := ⟨"DMA_CH_CTRL", .dma, 0xf00081000, [(32, 0x100)], 0x0#40,
  [⟨"RESET", 5, 5, .wo⟩, ⟨"SKIP", 4, 4, .wo⟩, ⟨"RESUME", 3, 3, .wo⟩, ⟨"PAUSE", 2, 2, .rw⟩, ⟨"ENABLE", 0, 0, .rw⟩]⟩
def DMA_CH_CTRL.PAUSE (c : Nat) : Fld := ⟨0xf00081000 + 0x100 * c, 2, 1, 0x0#40⟩
def DMA_CH_CTRL.ENABLE (c : Nat) : Fld := ⟨0xf00081000 + 0x100 * c, 0, 1, 0x0#40⟩

/-- DMA_CH_CFG: R511, 15_dma.md. -/
def DMA_CH_CFG : RegDef := ⟨"DMA_CH_CFG", .dma, 0xf00081008, [(32, 0x100)], 0x300#40,
  [⟨"ASID", 19, 12, .rw⟩, ⟨"XLAT_EN", 11, 11, .rw⟩, ⟨"RETRY", 10, 8, .rw⟩, ⟨"PRIO", 5, 4, .rw⟩]⟩
def DMA_CH_CFG.ASID (c : Nat) : Fld := ⟨0xf00081008 + 0x100 * c, 12, 8, 0x300#40⟩
def DMA_CH_CFG.XLAT_EN (c : Nat) : Fld := ⟨0xf00081008 + 0x100 * c, 11, 1, 0x300#40⟩
def DMA_CH_CFG.RETRY (c : Nat) : Fld := ⟨0xf00081008 + 0x100 * c, 8, 3, 0x300#40⟩
def DMA_CH_CFG.PRIO (c : Nat) : Fld := ⟨0xf00081008 + 0x100 * c, 4, 2, 0x300#40⟩

/-- DMA_CH_PTBASE: R511, 15_dma.md. -/
def DMA_CH_PTBASE : RegDef := ⟨"DMA_CH_PTBASE", .dma, 0xf00081010, [(32, 0x100)], 0x9#40,
  [⟨"ADDR", 39, 12, .rw⟩, ⟨"L1LOG", 4, 0, .rw⟩]⟩
def DMA_CH_PTBASE.ADDR (c : Nat) : Fld := ⟨0xf00081010 + 0x100 * c, 12, 28, 0x9#40⟩
def DMA_CH_PTBASE.L1LOG (c : Nat) : Fld := ⟨0xf00081010 + 0x100 * c, 0, 5, 0x9#40⟩

/-- DMA_CH_RING_BASE: R511, 15_dma.md. -/
def DMA_CH_RING_BASE : RegDef := ⟨"DMA_CH_RING_BASE", .dma, 0xf00081018, [(32, 0x100)], 0x0#40,
  [⟨"BASE", 39, 5, .rw⟩]⟩
def DMA_CH_RING_BASE.BASE (c : Nat) : Fld := ⟨0xf00081018 + 0x100 * c, 5, 35, 0x0#40⟩

/-- DMA_CH_RING_PTR: R511, 15_dma.md. -/
def DMA_CH_RING_PTR : RegDef := ⟨"DMA_CH_RING_PTR", .dma, 0xf00081020, [(32, 0x100)], 0x4000000#40,
  [⟨"SIZE_LOG2", 27, 24, .rw⟩, ⟨"TAIL", 23, 12, .rw⟩, ⟨"HEAD", 11, 0, .ro⟩]⟩
def DMA_CH_RING_PTR.SIZE_LOG2 (c : Nat) : Fld := ⟨0xf00081020 + 0x100 * c, 24, 4, 0x4000000#40⟩
def DMA_CH_RING_PTR.TAIL (c : Nat) : Fld := ⟨0xf00081020 + 0x100 * c, 12, 12, 0x4000000#40⟩
def DMA_CH_RING_PTR.HEAD (c : Nat) : Fld := ⟨0xf00081020 + 0x100 * c, 0, 12, 0x4000000#40⟩

/-- DMA_CH_STATUS: R511, 15_dma.md. -/
def DMA_CH_STATUS : RegDef := ⟨"DMA_CH_STATUS", .dma, 0xf00081028, [(32, 0x100)], 0x0#40,
  [⟨"OVF", 30, 30, .w1c⟩, ⟨"NOT_OWNED", 29, 29, .ro⟩, ⟨"ELEM", 28, 19, .ro⟩, ⟨"HOP", 18, 12, .ro⟩, ⟨"INTERNAL", 3, 3, .ro⟩, ⟨"STATE", 2, 0, .ro⟩]⟩
def DMA_CH_STATUS.OVF (c : Nat) : Fld := ⟨0xf00081028 + 0x100 * c, 30, 1, 0x0#40⟩
def DMA_CH_STATUS.NOT_OWNED (c : Nat) : Fld := ⟨0xf00081028 + 0x100 * c, 29, 1, 0x0#40⟩
def DMA_CH_STATUS.ELEM (c : Nat) : Fld := ⟨0xf00081028 + 0x100 * c, 19, 10, 0x0#40⟩
def DMA_CH_STATUS.HOP (c : Nat) : Fld := ⟨0xf00081028 + 0x100 * c, 12, 7, 0x0#40⟩
def DMA_CH_STATUS.INTERNAL (c : Nat) : Fld := ⟨0xf00081028 + 0x100 * c, 3, 1, 0x0#40⟩
def DMA_CH_STATUS.STATE (c : Nat) : Fld := ⟨0xf00081028 + 0x100 * c, 0, 3, 0x0#40⟩

/-- DMA_CH_FAULT: R511, 15_dma.md. -/
def DMA_CH_FAULT : RegDef := ⟨"DMA_CH_FAULT", .dma, 0xf00081030, [(32, 0x100)], 0x0#40,
  [⟨"ELEM", 28, 19, .ro⟩, ⟨"HOP", 18, 12, .ro⟩, ⟨"VALID", 11, 11, .ro⟩, ⟨"SOURCE", 10, 8, .ro⟩, ⟨"KIND", 7, 0, .ro⟩]⟩
def DMA_CH_FAULT.ELEM (c : Nat) : Fld := ⟨0xf00081030 + 0x100 * c, 19, 10, 0x0#40⟩
def DMA_CH_FAULT.HOP (c : Nat) : Fld := ⟨0xf00081030 + 0x100 * c, 12, 7, 0x0#40⟩
def DMA_CH_FAULT.VALID (c : Nat) : Fld := ⟨0xf00081030 + 0x100 * c, 11, 1, 0x0#40⟩
def DMA_CH_FAULT.SOURCE (c : Nat) : Fld := ⟨0xf00081030 + 0x100 * c, 8, 3, 0x0#40⟩
def DMA_CH_FAULT.KIND (c : Nat) : Fld := ⟨0xf00081030 + 0x100 * c, 0, 8, 0x0#40⟩

/-- DMA_CH_FAULT_ADDR: R511, 15_dma.md. -/
def DMA_CH_FAULT_ADDR : RegDef := ⟨"DMA_CH_FAULT_ADDR", .dma, 0xf00081038, [(32, 0x100)], 0x0#40,
  [⟨"ADDR", 39, 0, .ro⟩]⟩
def DMA_CH_FAULT_ADDR.ADDR (c : Nat) : Fld := ⟨0xf00081038 + 0x100 * c, 0, 40, 0x0#40⟩

/-- DMA_CH_FAULT_ADDR_H: R511, 15_dma.md. -/
def DMA_CH_FAULT_ADDR_H : RegDef := ⟨"DMA_CH_FAULT_ADDR_H", .dma, 0xf00081040, [(32, 0x100)], 0x0#40,
  [⟨"TRIES", 26, 24, .ro⟩, ⟨"ADDR_H", 23, 0, .ro⟩]⟩
def DMA_CH_FAULT_ADDR_H.TRIES (c : Nat) : Fld := ⟨0xf00081040 + 0x100 * c, 24, 3, 0x0#40⟩
def DMA_CH_FAULT_ADDR_H.ADDR_H (c : Nat) : Fld := ⟨0xf00081040 + 0x100 * c, 0, 24, 0x0#40⟩

/-- DMA_CH_FAULT_DONE: R511, 15_dma.md. -/
def DMA_CH_FAULT_DONE : RegDef := ⟨"DMA_CH_FAULT_DONE", .dma, 0xf00081048, [(32, 0x100)], 0x0#40,
  [⟨"BYTES_DONE", 23, 0, .ro⟩]⟩
def DMA_CH_FAULT_DONE.BYTES_DONE (c : Nat) : Fld := ⟨0xf00081048 + 0x100 * c, 0, 24, 0x0#40⟩

/-- DMA_CH_FAULT_ELEM: R511, 15_dma.md. -/
def DMA_CH_FAULT_ELEM : RegDef := ⟨"DMA_CH_FAULT_ELEM", .dma, 0xf00081050, [(32, 0x100)], 0x0#40,
  [⟨"ELEM_BYTES", 23, 0, .ro⟩]⟩
def DMA_CH_FAULT_ELEM.ELEM_BYTES (c : Nat) : Fld := ⟨0xf00081050 + 0x100 * c, 0, 24, 0x0#40⟩

/-- DMA_CH_INT: R511, 15_dma.md. -/
def DMA_CH_INT : RegDef := ⟨"DMA_CH_INT", .dma, 0xf00081058, [(32, 0x100)], 0x0#40,
  [⟨"HOST_END", 4, 4, .w1c⟩, ⟨"NOT_OWNED", 3, 3, .w1c⟩, ⟨"HELD", 2, 2, .w1c⟩, ⟨"FAULT", 1, 1, .w1c⟩, ⟨"DONE", 0, 0, .w1c⟩]⟩
def DMA_CH_INT.HOST_END (c : Nat) : Fld := ⟨0xf00081058 + 0x100 * c, 4, 1, 0x0#40⟩
def DMA_CH_INT.NOT_OWNED (c : Nat) : Fld := ⟨0xf00081058 + 0x100 * c, 3, 1, 0x0#40⟩
def DMA_CH_INT.HELD (c : Nat) : Fld := ⟨0xf00081058 + 0x100 * c, 2, 1, 0x0#40⟩
def DMA_CH_INT.FAULT (c : Nat) : Fld := ⟨0xf00081058 + 0x100 * c, 1, 1, 0x0#40⟩
def DMA_CH_INT.DONE (c : Nat) : Fld := ⟨0xf00081058 + 0x100 * c, 0, 1, 0x0#40⟩

/-- DMA_CH_INTEN: R511, 15_dma.md. -/
def DMA_CH_INTEN : RegDef := ⟨"DMA_CH_INTEN", .dma, 0xf00081060, [(32, 0x100)], 0x0#40,
  [⟨"EN", 4, 0, .rw⟩]⟩
def DMA_CH_INTEN.EN (c : Nat) : Fld := ⟨0xf00081060 + 0x100 * c, 0, 5, 0x0#40⟩

/-- DMA_CH_CNT: R511, 15_dma.md. -/
def DMA_CH_CNT : RegDef := ⟨"DMA_CH_CNT", .dma, 0xf00081068, [(32, 0x100)], 0x0#40,
  [⟨"FAULTS", 39, 20, .ro⟩, ⟨"DESC", 19, 0, .ro⟩]⟩
def DMA_CH_CNT.FAULTS (c : Nat) : Fld := ⟨0xf00081068 + 0x100 * c, 20, 20, 0x0#40⟩
def DMA_CH_CNT.DESC (c : Nat) : Fld := ⟨0xf00081068 + 0x100 * c, 0, 20, 0x0#40⟩

/-- The registers of this file, for the decoding of an address (R15). -/
def regsCoreTable : List RegDef :=
  [MEM_CTRL, MEM_INIT, MEM_SCRUB, MEM_SCRUB_LAP, MEM_CE, MEM_CE_LAST, MEM_UE_ADDR, MEM_UE_INFO, MEM_FLIP_L, MEM_FLIP_H, MEM_FLIP_CTL, MEM_INT] ++
  [MEM_INTEN, DRC_CTRL, DRC_CFG, DRC_STATUS, DRC_MRW, DRC_INIT, DRC_SCRUB, DRC_SCRUB_LAP, DRC_CE, DRC_UE_ADDR, DRC_UE_INFO, DRC_INJECT] ++
  [DRC_SR, DRC_INT, DRC_INTEN, CPX_CORE_CTRL, CPX_START, CPX_EGG, CPX_L1ERR, CPX_L2_CTRL, CPX_L2_STATUS, CPX_L2_LFSR, CPX_L2_CNT_A, CPX_L2_CNT_B] ++
  [CPX_L2_ERR_ADDR, CPX_L2_ERR_INFO, CPX_INT, CPX_INTEN, INTC_SRC, INTC_VBASE, INTC_THRESH, INTC_STATE, INTC_SWI, INTC_PEND, INTC_MASK, DMA_CTRL] ++
  [DMA_FAULTSUM, DMA_ACTIVE, DMA_HOST, DMA_XLAT_INV, DMA_XLAT_CNT, DMA_CH_CTRL, DMA_CH_CFG, DMA_CH_PTBASE, DMA_CH_RING_BASE, DMA_CH_RING_PTR, DMA_CH_STATUS, DMA_CH_FAULT] ++
  [DMA_CH_FAULT_ADDR, DMA_CH_FAULT_ADDR_H, DMA_CH_FAULT_DONE, DMA_CH_FAULT_ELEM, DMA_CH_INT, DMA_CH_INTEN, DMA_CH_CNT]

end Sys2Proof.Machine
end

