-- ==== Sys2Proof/Machine/RegsMedia.lean ====
section
/-! DEFINITION. The registers of the media side: SYS, PSLn, DCn with its detector, WPn and SVDn, as the register tables of the spec's chapters give them (R10 to R13):
for each register its address, its instances, its reset word and its fields; for each field that can be read, its place. -/

namespace Sys2Proof.Machine

/-- SYS_STRAP: R735, 23_balls_signals.md. -/
def SYS_STRAP : RegDef := ⟨"SYS_STRAP", .sys, 0xf00000100, [], 0x0#40,
  [⟨"VALID", 15, 15, .ro⟩, ⟨"VARIANT_1408", 14, 14, .ro⟩, ⟨"TEST_EN", 13, 13, .ro⟩, ⟨"DRAM_RATE", 12, 11, .ro⟩, ⟨"DRAM_RANKS", 10, 10, .ro⟩, ⟨"DRAM_SIZE", 9, 8, .ro⟩, ⟨"SPINGATE", 7, 7, .ro⟩, ⟨"SLOT", 6, 0, .ro⟩]⟩
def SYS_STRAP.VALID : Fld := ⟨0xf00000100, 15, 1, 0x0#40⟩
def SYS_STRAP.VARIANT_1408 : Fld := ⟨0xf00000100, 14, 1, 0x0#40⟩
def SYS_STRAP.TEST_EN : Fld := ⟨0xf00000100, 13, 1, 0x0#40⟩
def SYS_STRAP.DRAM_RATE : Fld := ⟨0xf00000100, 11, 2, 0x0#40⟩
def SYS_STRAP.DRAM_RANKS : Fld := ⟨0xf00000100, 10, 1, 0x0#40⟩
def SYS_STRAP.DRAM_SIZE : Fld := ⟨0xf00000100, 8, 2, 0x0#40⟩
def SYS_STRAP.SPINGATE : Fld := ⟨0xf00000100, 7, 1, 0x0#40⟩
def SYS_STRAP.SLOT : Fld := ⟨0xf00000100, 0, 7, 0x0#40⟩

/-- SYS_TICK_L: R55, 02_handshake_timing.md. -/
def SYS_TICK_L : RegDef := ⟨"SYS_TICK_L", .sys, 0xf00000200, [], 0x0#40,
  [⟨"TICK_LO", 39, 0, .ro⟩]⟩
def SYS_TICK_L.TICK_LO : Fld := ⟨0xf00000200, 0, 40, 0x0#40⟩

/-- SYS_TICK_H: R55, 02_handshake_timing.md. -/
def SYS_TICK_H : RegDef := ⟨"SYS_TICK_H", .sys, 0xf00000208, [], 0x0#40,
  [⟨"TICK_HI", 23, 0, .ro⟩]⟩
def SYS_TICK_H.TICK_HI : Fld := ⟨0xf00000208, 0, 24, 0x0#40⟩

/-- SYS_REFCLK: R55, 02_handshake_timing.md. -/
def SYS_REFCLK : RegDef := ⟨"SYS_REFCLK", .sys, 0xf00000210, [], 0x0#40,
  [⟨"LOSS_COUNT", 15, 8, .ro⟩, ⟨"XTAL_FAIL", 3, 3, .w1c⟩, ⟨"LOCK_LOST", 2, 2, .w1c⟩, ⟨"FALLBACK", 1, 1, .ro⟩, ⟨"PLL_LOCK", 0, 0, .ro⟩]⟩
def SYS_REFCLK.LOSS_COUNT : Fld := ⟨0xf00000210, 8, 8, 0x0#40⟩
def SYS_REFCLK.XTAL_FAIL : Fld := ⟨0xf00000210, 3, 1, 0x0#40⟩
def SYS_REFCLK.LOCK_LOST : Fld := ⟨0xf00000210, 2, 1, 0x0#40⟩
def SYS_REFCLK.FALLBACK : Fld := ⟨0xf00000210, 1, 1, 0x0#40⟩
def SYS_REFCLK.PLL_LOCK : Fld := ⟨0xf00000210, 0, 1, 0x0#40⟩

/-- SYS_STEPMON: R55, 02_handshake_timing.md. -/
def SYS_STEPMON : RegDef := ⟨"SYS_STEPMON", .sys, 0xf00000218, [], 0xffff0000#40,
  [⟨"CLEAR_MIN", 32, 32, .wo⟩, ⟨"MIN_RATE", 31, 16, .ro⟩, ⟨"STEP_RATE", 15, 1, .ro⟩, ⟨"VALID", 0, 0, .ro⟩]⟩
def SYS_STEPMON.MIN_RATE : Fld := ⟨0xf00000218, 16, 16, 0xffff0000#40⟩
def SYS_STEPMON.STEP_RATE : Fld := ⟨0xf00000218, 1, 15, 0xffff0000#40⟩
def SYS_STEPMON.VALID : Fld := ⟨0xf00000218, 0, 1, 0xffff0000#40⟩

/-- SYS_BEAT: R289, 08_servo_position.md. -/
def SYS_BEAT : RegDef := ⟨"SYS_BEAT", .sys, 0xf00000300, [], 0xc00#40,
  [⟨"CHANGES", 23, 16, .ro⟩, ⟨"LOCKED", 15, 12, .ro⟩, ⟨"NONE", 11, 11, .ro⟩, ⟨"RETURN", 10, 10, .rw⟩, ⟨"ACTIVE", 9, 8, .ro⟩, ⟨"MASTER", 1, 0, .rw⟩]⟩
def SYS_BEAT.CHANGES : Fld := ⟨0xf00000300, 16, 8, 0xc00#40⟩
def SYS_BEAT.LOCKED : Fld := ⟨0xf00000300, 12, 4, 0xc00#40⟩
def SYS_BEAT.NONE : Fld := ⟨0xf00000300, 11, 1, 0xc00#40⟩
def SYS_BEAT.RETURN : Fld := ⟨0xf00000300, 10, 1, 0xc00#40⟩
def SYS_BEAT.ACTIVE : Fld := ⟨0xf00000300, 8, 2, 0xc00#40⟩
def SYS_BEAT.MASTER : Fld := ⟨0xf00000300, 0, 2, 0xc00#40⟩

/-- SYS_PSCRUB: R420, 12_buffer_memory.md. -/
def SYS_PSCRUB : RegDef := ⟨"SYS_PSCRUB", .sys, 0xf00000400, [], 0x8000000000#40,
  [⟨"COLD", 39, 39, .w1c⟩, ⟨"LARDER_UE", 31, 24, .ro⟩, ⟨"PANTRY_UE", 23, 16, .ro⟩, ⟨"LARDER_CE", 15, 8, .ro⟩, ⟨"PANTRY_CE", 7, 0, .ro⟩]⟩
def SYS_PSCRUB.COLD : Fld := ⟨0xf00000400, 39, 1, 0x8000000000#40⟩
def SYS_PSCRUB.LARDER_UE : Fld := ⟨0xf00000400, 24, 8, 0x8000000000#40⟩
def SYS_PSCRUB.PANTRY_UE : Fld := ⟨0xf00000400, 16, 8, 0x8000000000#40⟩
def SYS_PSCRUB.LARDER_CE : Fld := ⟨0xf00000400, 8, 8, 0x8000000000#40⟩
def SYS_PSCRUB.PANTRY_CE : Fld := ⟨0xf00000400, 0, 8, 0x8000000000#40⟩

/-- SYS_PSCRUB_LAP: R420, 12_buffer_memory.md. -/
def SYS_PSCRUB_LAP : RegDef := ⟨"SYS_PSCRUB_LAP", .sys, 0xf00000408, [], 0x0#40,
  [⟨"LARDER", 39, 20, .ro⟩, ⟨"PANTRY", 19, 0, .ro⟩]⟩
def SYS_PSCRUB_LAP.LARDER : Fld := ⟨0xf00000408, 20, 20, 0x0#40⟩
def SYS_PSCRUB_LAP.PANTRY : Fld := ⟨0xf00000408, 0, 20, 0x0#40⟩

/-- SYS_YP_CTRL: R469, 13_cores.md. -/
def SYS_YP_CTRL : RegDef := ⟨"SYS_YP_CTRL", .sys, 0xf00000500, [], 0x800000000#40,
  [⟨"HELD", 35, 35, .ro⟩, ⟨"RUN", 34, 34, .wo⟩, ⟨"RESET", 33, 33, .wo⟩, ⟨"WFI", 32, 32, .ro⟩, ⟨"START", 29, 3, .rw⟩]⟩
def SYS_YP_CTRL.HELD : Fld := ⟨0xf00000500, 35, 1, 0x800000000#40⟩
def SYS_YP_CTRL.WFI : Fld := ⟨0xf00000500, 32, 1, 0x800000000#40⟩
def SYS_YP_CTRL.START : Fld := ⟨0xf00000500, 3, 27, 0x800000000#40⟩

/-- SYS_YP_EGG: R469, 13_cores.md. -/
def SYS_YP_EGG : RegDef := ⟨"SYS_YP_EGG", .sys, 0xf00000508, [], 0x3e8#40,
  [⟨"KICK", 23, 16, .wo⟩, ⟨"ENABLE", 14, 14, .rwl⟩, ⟨"STAGE", 13, 12, .ro⟩, ⟨"PERIOD", 11, 0, .rw⟩]⟩
def SYS_YP_EGG.ENABLE : Fld := ⟨0xf00000508, 14, 1, 0x3e8#40⟩
def SYS_YP_EGG.STAGE : Fld := ⟨0xf00000508, 12, 2, 0x3e8#40⟩
def SYS_YP_EGG.PERIOD : Fld := ⟨0xf00000508, 0, 12, 0x3e8#40⟩

/-- SYS_ALIVE: R675, 20_faults_events.md. -/
def SYS_ALIVE : RegDef := ⟨"SYS_ALIVE", .sys, 0xf00000600, [], 0x0#40,
  [⟨"LEVEL", 3, 3, .ro⟩, ⟨"TOGGLING", 2, 2, .ro⟩, ⟨"FORCE_STOP", 1, 1, .rw⟩, ⟨"EN", 0, 0, .rw⟩]⟩
def SYS_ALIVE.LEVEL : Fld := ⟨0xf00000600, 3, 1, 0x0#40⟩
def SYS_ALIVE.TOGGLING : Fld := ⟨0xf00000600, 2, 1, 0x0#40⟩
def SYS_ALIVE.FORCE_STOP : Fld := ⟨0xf00000600, 1, 1, 0x0#40⟩
def SYS_ALIVE.EN : Fld := ⟨0xf00000600, 0, 1, 0x0#40⟩

/-- SYS_GPIO_DIR: R735, 23_balls_signals.md. -/
def SYS_GPIO_DIR : RegDef := ⟨"SYS_GPIO_DIR", .sys, 0xf00000700, [], 0x0#40,
  [⟨"OE", 15, 0, .rw⟩]⟩
def SYS_GPIO_DIR.OE : Fld := ⟨0xf00000700, 0, 16, 0x0#40⟩

/-- SYS_GPIO_OUT: R735, 23_balls_signals.md. -/
def SYS_GPIO_OUT : RegDef := ⟨"SYS_GPIO_OUT", .sys, 0xf00000708, [], 0x0#40,
  [⟨"OUT", 15, 0, .rw⟩]⟩
def SYS_GPIO_OUT.OUT : Fld := ⟨0xf00000708, 0, 16, 0x0#40⟩

/-- SYS_GPIO_IN: R735, 23_balls_signals.md. -/
def SYS_GPIO_IN : RegDef := ⟨"SYS_GPIO_IN", .sys, 0xf00000710, [], 0x0#40,
  [⟨"IN", 15, 0, .ro⟩]⟩
def SYS_GPIO_IN.IN : Fld := ⟨0xf00000710, 0, 16, 0x0#40⟩

/-- SYS_GPIO_SET: R735, 23_balls_signals.md. -/
def SYS_GPIO_SET : RegDef := ⟨"SYS_GPIO_SET", .sys, 0xf00000718, [], 0x0#40,
  [⟨"SET", 15, 0, .wo⟩]⟩

/-- SYS_GPIO_CLR: R735, 23_balls_signals.md. -/
def SYS_GPIO_CLR : RegDef := ⟨"SYS_GPIO_CLR", .sys, 0xf00000720, [], 0x0#40,
  [⟨"CLR", 15, 0, .wo⟩]⟩

/-- SYS_GPIO_PULL: R735, 23_balls_signals.md. -/
def SYS_GPIO_PULL : RegDef := ⟨"SYS_GPIO_PULL", .sys, 0xf00000728, [], 0xffe0#40,
  [⟨"PU", 31, 16, .rw⟩, ⟨"PD", 15, 0, .rw⟩]⟩
def SYS_GPIO_PULL.PU : Fld := ⟨0xf00000728, 16, 16, 0xffe0#40⟩
def SYS_GPIO_PULL.PD : Fld := ⟨0xf00000728, 0, 16, 0xffe0#40⟩

/-- SYS_DRC_SAVE: R685, 21_power_supply.md. -/
def SYS_DRC_SAVE : RegDef := ⟨"SYS_DRC_SAVE", .sys, 0xf00000800, [], 0x0#40,
  [⟨"VALID", 6, 6, .ro⟩, ⟨"SIZE", 5, 4, .ro⟩, ⟨"RANKS", 3, 3, .ro⟩, ⟨"RATE", 2, 1, .ro⟩]⟩
def SYS_DRC_SAVE.VALID : Fld := ⟨0xf00000800, 6, 1, 0x0#40⟩
def SYS_DRC_SAVE.SIZE : Fld := ⟨0xf00000800, 4, 2, 0x0#40⟩
def SYS_DRC_SAVE.RANKS : Fld := ⟨0xf00000800, 3, 1, 0x0#40⟩
def SYS_DRC_SAVE.RATE : Fld := ⟨0xf00000800, 1, 2, 0x0#40⟩

/-- PSL_CTRL: R175, 05_preamp_and_front_end.md. -/
def PSL_CTRL : RegDef := ⟨"PSL_CTRL", .psl, 0xf00400000, [(2, 0x1000)], 0x640a#40,
  [⟨"KA_PERIOD", 15, 8, .rw⟩, ⟨"CLR_ERR", 4, 4, .wo⟩, ⟨"AUTO_RENEG", 3, 3, .rw⟩, ⟨"NEGOTIATE", 2, 2, .wo⟩, ⟨"RST", 1, 1, .rw⟩, ⟨"ENABLE", 0, 0, .rw⟩]⟩
def PSL_CTRL.KA_PERIOD (n : Nat) : Fld := ⟨0xf00400000 + 0x1000 * n, 8, 8, 0x640a#40⟩
def PSL_CTRL.AUTO_RENEG (n : Nat) : Fld := ⟨0xf00400000 + 0x1000 * n, 3, 1, 0x640a#40⟩
def PSL_CTRL.RST (n : Nat) : Fld := ⟨0xf00400000 + 0x1000 * n, 1, 1, 0x640a#40⟩
def PSL_CTRL.ENABLE (n : Nat) : Fld := ⟨0xf00400000 + 0x1000 * n, 0, 1, 0x640a#40⟩

/-- PSL_STATUS: R175, 05_preamp_and_front_end.md. -/
def PSL_STATUS : RegDef := ⟨"PSL_STATUS", .psl, 0xf00400008, [(2, 0x1000)], 0x3ffc00#40,
  [⟨"RDW_ON", 22, 22, .ro⟩, ⟨"RHEAD1", 21, 18, .ro⟩, ⟨"RHEAD0", 17, 14, .ro⟩, ⟨"WHEAD", 13, 10, .ro⟩, ⟨"WG", 9, 9, .ro⟩, ⟨"RG1", 8, 8, .ro⟩, ⟨"RG0", 7, 7, .ro⟩, ⟨"PEER_MAP", 6, 3, .ro⟩, ⟨"VERSION", 2, 1, .ro⟩, ⟨"LINK_UP", 0, 0, .ro⟩]⟩
def PSL_STATUS.RDW_ON (n : Nat) : Fld := ⟨0xf00400008 + 0x1000 * n, 22, 1, 0x3ffc00#40⟩
def PSL_STATUS.RHEAD1 (n : Nat) : Fld := ⟨0xf00400008 + 0x1000 * n, 18, 4, 0x3ffc00#40⟩
def PSL_STATUS.RHEAD0 (n : Nat) : Fld := ⟨0xf00400008 + 0x1000 * n, 14, 4, 0x3ffc00#40⟩
def PSL_STATUS.WHEAD (n : Nat) : Fld := ⟨0xf00400008 + 0x1000 * n, 10, 4, 0x3ffc00#40⟩
def PSL_STATUS.WG (n : Nat) : Fld := ⟨0xf00400008 + 0x1000 * n, 9, 1, 0x3ffc00#40⟩
def PSL_STATUS.RG1 (n : Nat) : Fld := ⟨0xf00400008 + 0x1000 * n, 8, 1, 0x3ffc00#40⟩
def PSL_STATUS.RG0 (n : Nat) : Fld := ⟨0xf00400008 + 0x1000 * n, 7, 1, 0x3ffc00#40⟩
def PSL_STATUS.PEER_MAP (n : Nat) : Fld := ⟨0xf00400008 + 0x1000 * n, 3, 4, 0x3ffc00#40⟩
def PSL_STATUS.VERSION (n : Nat) : Fld := ⟨0xf00400008 + 0x1000 * n, 1, 2, 0x3ffc00#40⟩
def PSL_STATUS.LINK_UP (n : Nat) : Fld := ⟨0xf00400008 + 0x1000 * n, 0, 1, 0x3ffc00#40⟩

/-- PSL_CAP: R175, 05_preamp_and_front_end.md. -/
def PSL_CAP : RegDef := ⟨"PSL_CAP", .psl, 0xf00400010, [(2, 0x1000)], 0x0#40,
  [⟨"CAP1", 31, 16, .ro⟩, ⟨"CAP0", 15, 0, .ro⟩]⟩
def PSL_CAP.CAP1 (n : Nat) : Fld := ⟨0xf00400010 + 0x1000 * n, 16, 16, 0x0#40⟩
def PSL_CAP.CAP0 (n : Nat) : Fld := ⟨0xf00400010 + 0x1000 * n, 0, 16, 0x0#40⟩

/-- PSL_CMD: R175, 05_preamp_and_front_end.md. -/
def PSL_CMD : RegDef := ⟨"PSL_CMD", .psl, 0xf00400018, [(2, 0x1000)], 0x0#40,
  [⟨"ERR", 30, 30, .ro⟩, ⟨"BUSY", 29, 29, .ro⟩, ⟨"GO", 28, 28, .wo⟩, ⟨"DATA", 27, 12, .rw⟩, ⟨"ARG", 11, 4, .rw⟩, ⟨"TYPE", 3, 0, .rw⟩]⟩
def PSL_CMD.ERR (n : Nat) : Fld := ⟨0xf00400018 + 0x1000 * n, 30, 1, 0x0#40⟩
def PSL_CMD.BUSY (n : Nat) : Fld := ⟨0xf00400018 + 0x1000 * n, 29, 1, 0x0#40⟩
def PSL_CMD.DATA (n : Nat) : Fld := ⟨0xf00400018 + 0x1000 * n, 12, 16, 0x0#40⟩
def PSL_CMD.ARG (n : Nat) : Fld := ⟨0xf00400018 + 0x1000 * n, 4, 8, 0x0#40⟩
def PSL_CMD.TYPE (n : Nat) : Fld := ⟨0xf00400018 + 0x1000 * n, 0, 4, 0x0#40⟩

/-- PSL_RSP: R175, 05_preamp_and_front_end.md. -/
def PSL_RSP : RegDef := ⟨"PSL_RSP", .psl, 0xf00400020, [(2, 0x1000)], 0x0#40,
  [⟨"TIMEOUT", 29, 29, .ro⟩, ⟨"VALID", 28, 28, .ro⟩, ⟨"DATA", 27, 12, .ro⟩, ⟨"ARG", 11, 4, .ro⟩, ⟨"TYPE", 3, 0, .ro⟩]⟩
def PSL_RSP.TIMEOUT (n : Nat) : Fld := ⟨0xf00400020 + 0x1000 * n, 29, 1, 0x0#40⟩
def PSL_RSP.VALID (n : Nat) : Fld := ⟨0xf00400020 + 0x1000 * n, 28, 1, 0x0#40⟩
def PSL_RSP.DATA (n : Nat) : Fld := ⟨0xf00400020 + 0x1000 * n, 12, 16, 0x0#40⟩
def PSL_RSP.ARG (n : Nat) : Fld := ⟨0xf00400020 + 0x1000 * n, 4, 8, 0x0#40⟩
def PSL_RSP.TYPE (n : Nat) : Fld := ⟨0xf00400020 + 0x1000 * n, 0, 4, 0x0#40⟩

/-- PSL_ERR: R175, 05_preamp_and_front_end.md. -/
def PSL_ERR : RegDef := ⟨"PSL_ERR", .psl, 0xf00400028, [(2, 0x1000)], 0x0#40,
  [⟨"NAK", 39, 32, .ro⟩, ⟨"LATE", 31, 24, .ro⟩, ⟨"ECHO_MISS", 23, 16, .ro⟩, ⟨"OVERRUN", 15, 8, .ro⟩, ⟨"CRC_UP", 7, 0, .ro⟩]⟩
def PSL_ERR.NAK (n : Nat) : Fld := ⟨0xf00400028 + 0x1000 * n, 32, 8, 0x0#40⟩
def PSL_ERR.LATE (n : Nat) : Fld := ⟨0xf00400028 + 0x1000 * n, 24, 8, 0x0#40⟩
def PSL_ERR.ECHO_MISS (n : Nat) : Fld := ⟨0xf00400028 + 0x1000 * n, 16, 8, 0x0#40⟩
def PSL_ERR.OVERRUN (n : Nat) : Fld := ⟨0xf00400028 + 0x1000 * n, 8, 8, 0x0#40⟩
def PSL_ERR.CRC_UP (n : Nat) : Fld := ⟨0xf00400028 + 0x1000 * n, 0, 8, 0x0#40⟩

/-- PSL_FAULT: R175, 05_preamp_and_front_end.md. -/
def PSL_FAULT : RegDef := ⟨"PSL_FAULT", .psl, 0xf00400030, [(2, 0x1000)], 0xf00#40,
  [⟨"POWER", 15, 15, .w1c⟩, ⟨"LINK", 14, 14, .w1c⟩, ⟨"READ", 13, 13, .w1c⟩, ⟨"WRITE", 12, 12, .w1c⟩, ⟨"HEAD", 11, 8, .ro⟩, ⟨"CODE", 7, 0, .ro⟩]⟩
def PSL_FAULT.POWER (n : Nat) : Fld := ⟨0xf00400030 + 0x1000 * n, 15, 1, 0xf00#40⟩
def PSL_FAULT.LINK (n : Nat) : Fld := ⟨0xf00400030 + 0x1000 * n, 14, 1, 0xf00#40⟩
def PSL_FAULT.READ (n : Nat) : Fld := ⟨0xf00400030 + 0x1000 * n, 13, 1, 0xf00#40⟩
def PSL_FAULT.WRITE (n : Nat) : Fld := ⟨0xf00400030 + 0x1000 * n, 12, 1, 0xf00#40⟩
def PSL_FAULT.HEAD (n : Nat) : Fld := ⟨0xf00400030 + 0x1000 * n, 8, 4, 0xf00#40⟩
def PSL_FAULT.CODE (n : Nat) : Fld := ⟨0xf00400030 + 0x1000 * n, 0, 8, 0xf00#40⟩

/-- DC_CTRL: R199, 05_preamp_and_front_end.md. -/
def DC_CTRL : RegDef := ⟨"DC_CTRL", .dc, 0xf00100000, [(4, 0x8000)], 0x8#40,
  [⟨"CLR_CNT", 8, 8, .wo⟩, ⟨"MODE", 5, 4, .rw⟩, ⟨"RING_EN", 3, 3, .rw⟩, ⟨"ENABLE", 0, 0, .rw⟩]⟩
def DC_CTRL.MODE (n : Nat) : Fld := ⟨0xf00100000 + 0x8000 * n, 4, 2, 0x8#40⟩
def DC_CTRL.RING_EN (n : Nat) : Fld := ⟨0xf00100000 + 0x8000 * n, 3, 1, 0x8#40⟩
def DC_CTRL.ENABLE (n : Nat) : Fld := ⟨0xf00100000 + 0x8000 * n, 0, 1, 0x8#40⟩

/-- DC_STATUS: R199, 05_preamp_and_front_end.md. -/
def DC_STATUS : RegDef := ⟨"DC_STATUS", .dc, 0xf00100008, [(4, 0x8000)], 0x7c0000000#40,
  [⟨"HEAD", 34, 30, .ro⟩, ⟨"RG_ON", 29, 29, .ro⟩, ⟨"RDW_ON", 28, 28, .ro⟩, ⟨"LOCK", 27, 27, .ro⟩, ⟨"DEFECT", 26, 26, .ro⟩, ⟨"CAL_BUSY", 25, 25, .ro⟩]⟩
def DC_STATUS.HEAD (n : Nat) : Fld := ⟨0xf00100008 + 0x8000 * n, 30, 5, 0x7c0000000#40⟩
def DC_STATUS.RG_ON (n : Nat) : Fld := ⟨0xf00100008 + 0x8000 * n, 29, 1, 0x7c0000000#40⟩
def DC_STATUS.RDW_ON (n : Nat) : Fld := ⟨0xf00100008 + 0x8000 * n, 28, 1, 0x7c0000000#40⟩
def DC_STATUS.LOCK (n : Nat) : Fld := ⟨0xf00100008 + 0x8000 * n, 27, 1, 0x7c0000000#40⟩
def DC_STATUS.DEFECT (n : Nat) : Fld := ⟨0xf00100008 + 0x8000 * n, 26, 1, 0x7c0000000#40⟩
def DC_STATUS.CAL_BUSY (n : Nat) : Fld := ⟨0xf00100008 + 0x8000 * n, 25, 1, 0x7c0000000#40⟩

/-- DC_RATE: R199, 05_preamp_and_front_end.md. -/
def DC_RATE : RegDef := ⟨"DC_RATE", .dc, 0xf00100010, [(4, 0x8000)], 0x0#40,
  [⟨"BIT_RATE", 22, 0, .rw⟩]⟩
def DC_RATE.BIT_RATE (n : Nat) : Fld := ⟨0xf00100010 + 0x8000 * n, 0, 23, 0x0#40⟩

/-- DC_CTLE: R199, 05_preamp_and_front_end.md. -/
def DC_CTLE : RegDef := ⟨"DC_CTLE", .dc, 0xf00100018, [(4, 0x8000)], 0x646464#40,
  [⟨"BOOST_C", 38, 34, .rw⟩, ⟨"BOOST_B", 33, 29, .rw⟩, ⟨"BOOST_A", 28, 24, .rw⟩, ⟨"POLE_C", 23, 16, .rw⟩, ⟨"POLE_B", 15, 8, .rw⟩, ⟨"POLE_A", 7, 0, .rw⟩]⟩
def DC_CTLE.BOOST_C (n : Nat) : Fld := ⟨0xf00100018 + 0x8000 * n, 34, 5, 0x646464#40⟩
def DC_CTLE.BOOST_B (n : Nat) : Fld := ⟨0xf00100018 + 0x8000 * n, 29, 5, 0x646464#40⟩
def DC_CTLE.BOOST_A (n : Nat) : Fld := ⟨0xf00100018 + 0x8000 * n, 24, 5, 0x646464#40⟩
def DC_CTLE.POLE_C (n : Nat) : Fld := ⟨0xf00100018 + 0x8000 * n, 16, 8, 0x646464#40⟩
def DC_CTLE.POLE_B (n : Nat) : Fld := ⟨0xf00100018 + 0x8000 * n, 8, 8, 0x646464#40⟩
def DC_CTLE.POLE_A (n : Nat) : Fld := ⟨0xf00100018 + 0x8000 * n, 0, 8, 0x646464#40⟩

/-- DC_VGA: R199, 05_preamp_and_front_end.md. -/
def DC_VGA : RegDef := ⟨"DC_VGA", .dc, 0xf00100020, [(4, 0x8000)], 0xc0300c0#40,
  [⟨"GAIN_C", 28, 20, .rw⟩, ⟨"GAIN_B", 18, 10, .rw⟩, ⟨"GAIN_A", 8, 0, .rw⟩]⟩
def DC_VGA.GAIN_C (n : Nat) : Fld := ⟨0xf00100020 + 0x8000 * n, 20, 9, 0xc0300c0#40⟩
def DC_VGA.GAIN_B (n : Nat) : Fld := ⟨0xf00100020 + 0x8000 * n, 10, 9, 0xc0300c0#40⟩
def DC_VGA.GAIN_A (n : Nat) : Fld := ⟨0xf00100020 + 0x8000 * n, 0, 9, 0xc0300c0#40⟩

/-- DC_LOOP: R199, 05_preamp_and_front_end.md. -/
def DC_LOOP : RegDef := ⟨"DC_LOOP", .dc, 0xf00100028, [(4, 0x8000)], 0x21864f86#40,
  [⟨"ACQ_LEN", 31, 27, .rw⟩, ⟨"AGC_TARGET", 26, 20, .rw⟩, ⟨"TIM_KI", 19, 16, .rw⟩, ⟨"TIM_KP", 15, 12, .rw⟩, ⟨"ASYM_MU", 11, 8, .rw⟩, ⟨"BASE_MU", 7, 4, .rw⟩, ⟨"AGC_MU", 3, 0, .rw⟩]⟩
def DC_LOOP.ACQ_LEN (n : Nat) : Fld := ⟨0xf00100028 + 0x8000 * n, 27, 5, 0x21864f86#40⟩
def DC_LOOP.AGC_TARGET (n : Nat) : Fld := ⟨0xf00100028 + 0x8000 * n, 20, 7, 0x21864f86#40⟩
def DC_LOOP.TIM_KI (n : Nat) : Fld := ⟨0xf00100028 + 0x8000 * n, 16, 4, 0x21864f86#40⟩
def DC_LOOP.TIM_KP (n : Nat) : Fld := ⟨0xf00100028 + 0x8000 * n, 12, 4, 0x21864f86#40⟩
def DC_LOOP.ASYM_MU (n : Nat) : Fld := ⟨0xf00100028 + 0x8000 * n, 8, 4, 0x21864f86#40⟩
def DC_LOOP.BASE_MU (n : Nat) : Fld := ⟨0xf00100028 + 0x8000 * n, 4, 4, 0x21864f86#40⟩
def DC_LOOP.AGC_MU (n : Nat) : Fld := ⟨0xf00100028 + 0x8000 * n, 0, 4, 0x21864f86#40⟩

/-- DC_BASE: R199, 05_preamp_and_front_end.md. -/
def DC_BASE : RegDef := ⟨"DC_BASE", .dc, 0xf00100030, [(4, 0x8000)], 0x0#40,
  [⟨"BASE_C", 23, 16, .rw⟩, ⟨"BASE_B", 15, 8, .rw⟩, ⟨"BASE_A", 7, 0, .rw⟩]⟩
def DC_BASE.BASE_C (n : Nat) : Fld := ⟨0xf00100030 + 0x8000 * n, 16, 8, 0x0#40⟩
def DC_BASE.BASE_B (n : Nat) : Fld := ⟨0xf00100030 + 0x8000 * n, 8, 8, 0x0#40⟩
def DC_BASE.BASE_A (n : Nat) : Fld := ⟨0xf00100030 + 0x8000 * n, 0, 8, 0x0#40⟩

/-- DC_TRIM: R199, 05_preamp_and_front_end.md. -/
def DC_TRIM : RegDef := ⟨"DC_TRIM", .dc, 0xf00100038, [(4, 0x8000)], 0x0#40,
  [⟨"ADCOFS_C", 38, 34, .rw⟩, ⟨"ADCOFS_B", 33, 29, .rw⟩, ⟨"ADCOFS_A", 28, 24, .rw⟩, ⟨"ASYM_C", 23, 16, .rw⟩, ⟨"ASYM_B", 15, 8, .rw⟩, ⟨"ASYM_A", 7, 0, .rw⟩]⟩
def DC_TRIM.ADCOFS_C (n : Nat) : Fld := ⟨0xf00100038 + 0x8000 * n, 34, 5, 0x0#40⟩
def DC_TRIM.ADCOFS_B (n : Nat) : Fld := ⟨0xf00100038 + 0x8000 * n, 29, 5, 0x0#40⟩
def DC_TRIM.ADCOFS_A (n : Nat) : Fld := ⟨0xf00100038 + 0x8000 * n, 24, 5, 0x0#40⟩
def DC_TRIM.ASYM_C (n : Nat) : Fld := ⟨0xf00100038 + 0x8000 * n, 16, 8, 0x0#40⟩
def DC_TRIM.ASYM_B (n : Nat) : Fld := ⟨0xf00100038 + 0x8000 * n, 8, 8, 0x0#40⟩
def DC_TRIM.ASYM_A (n : Nat) : Fld := ⟨0xf00100038 + 0x8000 * n, 0, 8, 0x0#40⟩

/-- DC_TIMING: R199, 05_preamp_and_front_end.md. -/
def DC_TIMING : RegDef := ⟨"DC_TIMING", .dc, 0xf00100040, [(4, 0x8000)], 0x0#40,
  [⟨"CSLIP", 39, 32, .ro⟩, ⟨"LOCK", 24, 24, .ro⟩, ⟨"PHASE", 21, 16, .ro⟩, ⟨"FREQ", 15, 0, .rw⟩]⟩
def DC_TIMING.CSLIP (n : Nat) : Fld := ⟨0xf00100040 + 0x8000 * n, 32, 8, 0x0#40⟩
def DC_TIMING.LOCK (n : Nat) : Fld := ⟨0xf00100040 + 0x8000 * n, 24, 1, 0x0#40⟩
def DC_TIMING.PHASE (n : Nat) : Fld := ⟨0xf00100040 + 0x8000 * n, 16, 6, 0x0#40⟩
def DC_TIMING.FREQ (n : Nat) : Fld := ⟨0xf00100040 + 0x8000 * n, 0, 16, 0x0#40⟩

/-- DC_DEFECT: R199, 05_preamp_and_front_end.md. -/
def DC_DEFECT : RegDef := ⟨"DC_DEFECT", .dc, 0xf00100048, [(4, 0x8000)], 0x80000#40,
  [⟨"DEF_CNT", 39, 24, .ro⟩, ⟨"HANGOVER", 23, 16, .rw⟩, ⟨"TA_LEVEL", 15, 8, .rw⟩, ⟨"DROPOUT_LEVEL", 7, 0, .rw⟩]⟩
def DC_DEFECT.DEF_CNT (n : Nat) : Fld := ⟨0xf00100048 + 0x8000 * n, 24, 16, 0x80000#40⟩
def DC_DEFECT.HANGOVER (n : Nat) : Fld := ⟨0xf00100048 + 0x8000 * n, 16, 8, 0x80000#40⟩
def DC_DEFECT.TA_LEVEL (n : Nat) : Fld := ⟨0xf00100048 + 0x8000 * n, 8, 8, 0x80000#40⟩
def DC_DEFECT.DROPOUT_LEVEL (n : Nat) : Fld := ⟨0xf00100048 + 0x8000 * n, 0, 8, 0x80000#40⟩

/-- DC_SYNC: R199, 05_preamp_and_front_end.md. -/
def DC_SYNC : RegDef := ⟨"DC_SYNC", .dc, 0xf00100050, [(4, 0x8000)], 0x80202#40,
  [⟨"SYNC2_WIN", 22, 13, .rw⟩, ⟨"SYNC_WIN", 12, 3, .rw⟩, ⟨"SYNC_THRESH", 2, 0, .rw⟩]⟩
def DC_SYNC.SYNC2_WIN (n : Nat) : Fld := ⟨0xf00100050 + 0x8000 * n, 13, 10, 0x80202#40⟩
def DC_SYNC.SYNC_WIN (n : Nat) : Fld := ⟨0xf00100050 + 0x8000 * n, 3, 10, 0x80202#40⟩
def DC_SYNC.SYNC_THRESH (n : Nat) : Fld := ⟨0xf00100050 + 0x8000 * n, 0, 3, 0x80202#40⟩

/-- DC_SYNC_LAST: R199, 05_preamp_and_front_end.md. -/
def DC_SYNC_LAST : RegDef := ⟨"DC_SYNC_LAST", .dc, 0xf00100058, [(4, 0x8000)], 0x0#40,
  [⟨"OFFSET", 25, 10, .ro⟩, ⟨"MISM2", 9, 7, .ro⟩, ⟨"MISM1", 6, 4, .ro⟩, ⟨"SLOT", 3, 2, .ro⟩, ⟨"RESULT", 1, 0, .ro⟩]⟩
def DC_SYNC_LAST.OFFSET (n : Nat) : Fld := ⟨0xf00100058 + 0x8000 * n, 10, 16, 0x0#40⟩
def DC_SYNC_LAST.MISM2 (n : Nat) : Fld := ⟨0xf00100058 + 0x8000 * n, 7, 3, 0x0#40⟩
def DC_SYNC_LAST.MISM1 (n : Nat) : Fld := ⟨0xf00100058 + 0x8000 * n, 4, 3, 0x0#40⟩
def DC_SYNC_LAST.SLOT (n : Nat) : Fld := ⟨0xf00100058 + 0x8000 * n, 2, 2, 0x0#40⟩
def DC_SYNC_LAST.RESULT (n : Nat) : Fld := ⟨0xf00100058 + 0x8000 * n, 0, 2, 0x0#40⟩

/-- DC_RING: R199, 05_preamp_and_front_end.md. -/
def DC_RING : RegDef := ⟨"DC_RING", .dc, 0xf00100060, [(4, 0x8000)], 0x0#40,
  [⟨"NEXT", 13, 12, .ro⟩, ⟨"STATE3", 11, 9, .ro⟩, ⟨"STATE2", 8, 6, .ro⟩, ⟨"STATE1", 5, 3, .ro⟩, ⟨"STATE0", 2, 0, .ro⟩]⟩
def DC_RING.NEXT (n : Nat) : Fld := ⟨0xf00100060 + 0x8000 * n, 12, 2, 0x0#40⟩
def DC_RING.STATE3 (n : Nat) : Fld := ⟨0xf00100060 + 0x8000 * n, 9, 3, 0x0#40⟩
def DC_RING.STATE2 (n : Nat) : Fld := ⟨0xf00100060 + 0x8000 * n, 6, 3, 0x0#40⟩
def DC_RING.STATE1 (n : Nat) : Fld := ⟨0xf00100060 + 0x8000 * n, 3, 3, 0x0#40⟩
def DC_RING.STATE0 (n : Nat) : Fld := ⟨0xf00100060 + 0x8000 * n, 0, 3, 0x0#40⟩

/-- DC_RING_REL: R199, 05_preamp_and_front_end.md. -/
def DC_RING_REL : RegDef := ⟨"DC_RING_REL", .dc, 0xf00100068, [(4, 0x8000)], 0x0#40,
  [⟨"REL", 3, 0, .wo⟩]⟩

/-- DC_CAL: R199, 05_preamp_and_front_end.md. -/
def DC_CAL : RegDef := ⟨"DC_CAL", .dc, 0xf00100070, [(4, 0x8000)], 0x5a000#40,
  [⟨"MIN_CAPTURE", 18, 12, .rw⟩, ⟨"RESULT", 11, 4, .ro⟩, ⟨"BUSY", 3, 3, .ro⟩, ⟨"START", 2, 2, .wo⟩, ⟨"ROUTINE", 1, 0, .rw⟩]⟩
def DC_CAL.MIN_CAPTURE (n : Nat) : Fld := ⟨0xf00100070 + 0x8000 * n, 12, 7, 0x5a000#40⟩
def DC_CAL.RESULT (n : Nat) : Fld := ⟨0xf00100070 + 0x8000 * n, 4, 8, 0x5a000#40⟩
def DC_CAL.BUSY (n : Nat) : Fld := ⟨0xf00100070 + 0x8000 * n, 3, 1, 0x5a000#40⟩
def DC_CAL.ROUTINE (n : Nat) : Fld := ⟨0xf00100070 + 0x8000 * n, 0, 2, 0x5a000#40⟩

/-- DC_CNT: R199, 05_preamp_and_front_end.md. -/
def DC_CNT : RegDef := ⟨"DC_CNT", .dc, 0xf00100078, [(4, 0x8000)], 0x0#40,
  [⟨"NO_SYNC", 39, 30, .ro⟩, ⟨"SEC_RECOV", 29, 20, .ro⟩, ⟨"PRI_MISS", 19, 10, .ro⟩, ⟨"SLIP", 9, 0, .ro⟩]⟩
def DC_CNT.NO_SYNC (n : Nat) : Fld := ⟨0xf00100078 + 0x8000 * n, 30, 10, 0x0#40⟩
def DC_CNT.SEC_RECOV (n : Nat) : Fld := ⟨0xf00100078 + 0x8000 * n, 20, 10, 0x0#40⟩
def DC_CNT.PRI_MISS (n : Nat) : Fld := ⟨0xf00100078 + 0x8000 * n, 10, 10, 0x0#40⟩
def DC_CNT.SLIP (n : Nat) : Fld := ⟨0xf00100078 + 0x8000 * n, 0, 10, 0x0#40⟩

/-- DC_CALREC: R199, 05_preamp_and_front_end.md. -/
def DC_CALREC : RegDef := ⟨"DC_CALREC", .dc, 0xf00100080, [(4, 0x8000)], 0x0#40,
  [⟨"ADDR", 21, 0, .ro⟩]⟩
def DC_CALREC.ADDR (n : Nat) : Fld := ⟨0xf00100080 + 0x8000 * n, 0, 22, 0x0#40⟩

/-- DC_CALTEMP: R199, 05_preamp_and_front_end.md. -/
def DC_CALTEMP : RegDef := ⟨"DC_CALTEMP", .dc, 0xf00100088, [(4, 0x8000)], 0x0#40,
  [⟨"TEMP", 7, 0, .ro⟩]⟩
def DC_CALTEMP.TEMP (n : Nat) : Fld := ⟨0xf00100088 + 0x8000 * n, 0, 8, 0x0#40⟩

/-- DET_CTRL: R235, 06_detection.md. -/
def DET_CTRL : RegDef := ⟨"DET_CTRL", .dc, 0xf00101000, [(4, 0x8000)], 0x4#40,
  [⟨"CLR_STATS", 8, 8, .wo⟩, ⟨"DEFECT_ERASE", 3, 3, .rw⟩, ⟨"GSR_EN", 2, 2, .rw⟩, ⟨"BB_ENABLE", 1, 1, .rw⟩, ⟨"ENABLE", 0, 0, .rw⟩]⟩
def DET_CTRL.DEFECT_ERASE (n : Nat) : Fld := ⟨0xf00101000 + 0x8000 * n, 3, 1, 0x4#40⟩
def DET_CTRL.GSR_EN (n : Nat) : Fld := ⟨0xf00101000 + 0x8000 * n, 2, 1, 0x4#40⟩
def DET_CTRL.BB_ENABLE (n : Nat) : Fld := ⟨0xf00101000 + 0x8000 * n, 1, 1, 0x4#40⟩
def DET_CTRL.ENABLE (n : Nat) : Fld := ⟨0xf00101000 + 0x8000 * n, 0, 1, 0x4#40⟩

/-- DET_STATUS: R235, 06_detection.md. -/
def DET_STATUS : RegDef := ⟨"DET_STATUS", .dc, 0xf00101008, [(4, 0x8000)], 0x0#40,
  [⟨"EQ_SAT", 13, 13, .ro⟩, ⟨"GSR_OPEN", 12, 11, .ro⟩, ⟨"BB_BUSY", 10, 10, .ro⟩, ⟨"INTAKE", 9, 9, .ro⟩, ⟨"ENG_BUSY", 8, 5, .ro⟩, ⟨"PSEL", 4, 0, .ro⟩]⟩
def DET_STATUS.EQ_SAT (n : Nat) : Fld := ⟨0xf00101008 + 0x8000 * n, 13, 1, 0x0#40⟩
def DET_STATUS.GSR_OPEN (n : Nat) : Fld := ⟨0xf00101008 + 0x8000 * n, 11, 2, 0x0#40⟩
def DET_STATUS.BB_BUSY (n : Nat) : Fld := ⟨0xf00101008 + 0x8000 * n, 10, 1, 0x0#40⟩
def DET_STATUS.INTAKE (n : Nat) : Fld := ⟨0xf00101008 + 0x8000 * n, 9, 1, 0x0#40⟩
def DET_STATUS.ENG_BUSY (n : Nat) : Fld := ⟨0xf00101008 + 0x8000 * n, 5, 4, 0x0#40⟩
def DET_STATUS.PSEL (n : Nat) : Fld := ⟨0xf00101008 + 0x8000 * n, 0, 5, 0x0#40⟩

/-- DET_PSEL: R235, 06_detection.md. -/
def DET_PSEL : RegDef := ⟨"DET_PSEL", .dc, 0xf00101010, [(4, 0x8000)], 0x0#40,
  [⟨"PSEL", 4, 0, .rw⟩]⟩
def DET_PSEL.PSEL (n : Nat) : Fld := ⟨0xf00101010 + 0x8000 * n, 0, 5, 0x0#40⟩

/-- DET_ALIGN_MEAS: R235, 06_detection.md. -/
def DET_ALIGN_MEAS : RegDef := ⟨"DET_ALIGN_MEAS", .dc, 0xf00101018, [(4, 0x8000)], 0x7800#40,
  [⟨"HEAD", 14, 11, .ro⟩, ⟨"VALID", 10, 10, .ro⟩, ⟨"OFS_C", 9, 5, .ro⟩, ⟨"OFS_A", 4, 0, .ro⟩]⟩
def DET_ALIGN_MEAS.HEAD (n : Nat) : Fld := ⟨0xf00101018 + 0x8000 * n, 11, 4, 0x7800#40⟩
def DET_ALIGN_MEAS.VALID (n : Nat) : Fld := ⟨0xf00101018 + 0x8000 * n, 10, 1, 0x7800#40⟩
def DET_ALIGN_MEAS.OFS_C (n : Nat) : Fld := ⟨0xf00101018 + 0x8000 * n, 5, 5, 0x7800#40⟩
def DET_ALIGN_MEAS.OFS_A (n : Nat) : Fld := ⟨0xf00101018 + 0x8000 * n, 0, 5, 0x7800#40⟩

/-- DET_LAST: R235, 06_detection.md. -/
def DET_LAST : RegDef := ⟨"DET_LAST", .dc, 0xf00101020, [(4, 0x8000)], 0x0#40,
  [⟨"SLOT", 39, 29, .ro⟩, ⟨"OUTCOME", 28, 21, .ro⟩, ⟨"GLOBALS", 20, 16, .ro⟩, ⟨"SYND", 11, 0, .ro⟩]⟩
def DET_LAST.SLOT (n : Nat) : Fld := ⟨0xf00101020 + 0x8000 * n, 29, 11, 0x0#40⟩
def DET_LAST.OUTCOME (n : Nat) : Fld := ⟨0xf00101020 + 0x8000 * n, 21, 8, 0x0#40⟩
def DET_LAST.GLOBALS (n : Nat) : Fld := ⟨0xf00101020 + 0x8000 * n, 16, 5, 0x0#40⟩
def DET_LAST.SYND (n : Nat) : Fld := ⟨0xf00101020 + 0x8000 * n, 0, 12, 0x0#40⟩

/-- DET_SNR: R235, 06_detection.md. -/
def DET_SNR : RegDef := ⟨"DET_SNR", .dc, 0xf00101028, [(4, 0x8000)], 0x400#40,
  [⟨"SNR", 31, 16, .ro⟩, ⟨"NOISE", 15, 0, .ro⟩]⟩
def DET_SNR.SNR (n : Nat) : Fld := ⟨0xf00101028 + 0x8000 * n, 16, 16, 0x400#40⟩
def DET_SNR.NOISE (n : Nat) : Fld := ⟨0xf00101028 + 0x8000 * n, 0, 16, 0x400#40⟩

/-- DET_INT: R235, 06_detection.md. -/
def DET_INT : RegDef := ⟨"DET_INT", .dc, 0xf00101030, [(4, 0x8000)], 0x0#40,
  [⟨"STATS_SAT", 5, 5, .w1c⟩, ⟨"BB_STOP", 4, 4, .w1c⟩, ⟨"BB_DONE", 3, 3, .w1c⟩, ⟨"GSR_DONE", 2, 2, .w1c⟩, ⟨"FAIL", 1, 1, .w1c⟩, ⟨"HELD", 0, 0, .w1c⟩]⟩
def DET_INT.STATS_SAT (n : Nat) : Fld := ⟨0xf00101030 + 0x8000 * n, 5, 1, 0x0#40⟩
def DET_INT.BB_STOP (n : Nat) : Fld := ⟨0xf00101030 + 0x8000 * n, 4, 1, 0x0#40⟩
def DET_INT.BB_DONE (n : Nat) : Fld := ⟨0xf00101030 + 0x8000 * n, 3, 1, 0x0#40⟩
def DET_INT.GSR_DONE (n : Nat) : Fld := ⟨0xf00101030 + 0x8000 * n, 2, 1, 0x0#40⟩
def DET_INT.FAIL (n : Nat) : Fld := ⟨0xf00101030 + 0x8000 * n, 1, 1, 0x0#40⟩
def DET_INT.HELD (n : Nat) : Fld := ⟨0xf00101030 + 0x8000 * n, 0, 1, 0x0#40⟩

/-- DET_INTEN: R235, 06_detection.md. -/
def DET_INTEN : RegDef := ⟨"DET_INTEN", .dc, 0xf00101038, [(4, 0x8000)], 0x0#40,
  [⟨"EN", 5, 0, .rw⟩]⟩
def DET_INTEN.EN (n : Nat) : Fld := ⟨0xf00101038 + 0x8000 * n, 0, 6, 0x0#40⟩

/-- DET_GSR_NEXT: R235, 06_detection.md. -/
def DET_GSR_NEXT : RegDef := ⟨"DET_GSR_NEXT", .dc, 0xf00101040, [(4, 0x8000)], 0x0#40,
  [⟨"ADDR", 39, 6, .rw⟩, ⟨"ARMED", 0, 0, .ro⟩]⟩
def DET_GSR_NEXT.ADDR (n : Nat) : Fld := ⟨0xf00101040 + 0x8000 * n, 6, 34, 0x0#40⟩
def DET_GSR_NEXT.ARMED (n : Nat) : Fld := ⟨0xf00101040 + 0x8000 * n, 0, 1, 0x0#40⟩

/-- DET_CNT_A: R235, 06_detection.md. -/
def DET_CNT_A : RegDef := ⟨"DET_CNT_A", .dc, 0xf00101050, [(4, 0x8000)], 0x0#40,
  [⟨"CONV2", 39, 20, .ro⟩, ⟨"CONV1", 19, 0, .ro⟩]⟩
def DET_CNT_A.CONV2 (n : Nat) : Fld := ⟨0xf00101050 + 0x8000 * n, 20, 20, 0x0#40⟩
def DET_CNT_A.CONV1 (n : Nat) : Fld := ⟨0xf00101050 + 0x8000 * n, 0, 20, 0x0#40⟩

/-- DET_CNT_B: R235, 06_detection.md. -/
def DET_CNT_B : RegDef := ⟨"DET_CNT_B", .dc, 0xf00101058, [(4, 0x8000)], 0x0#40,
  [⟨"CONV4", 39, 20, .ro⟩, ⟨"CONV3", 19, 0, .ro⟩]⟩
def DET_CNT_B.CONV4 (n : Nat) : Fld := ⟨0xf00101058 + 0x8000 * n, 20, 20, 0x0#40⟩
def DET_CNT_B.CONV3 (n : Nat) : Fld := ⟨0xf00101058 + 0x8000 * n, 0, 20, 0x0#40⟩

/-- DET_CNT_C: R235, 06_detection.md. -/
def DET_CNT_C : RegDef := ⟨"DET_CNT_C", .dc, 0xf00101060, [(4, 0x8000)], 0x0#40,
  [⟨"NOT_DEC", 39, 20, .ro⟩, ⟨"FAIL", 19, 0, .ro⟩]⟩
def DET_CNT_C.NOT_DEC (n : Nat) : Fld := ⟨0xf00101060 + 0x8000 * n, 20, 20, 0x0#40⟩
def DET_CNT_C.FAIL (n : Nat) : Fld := ⟨0xf00101060 + 0x8000 * n, 0, 20, 0x0#40⟩

/-- DET_CNT_D: R235, 06_detection.md. -/
def DET_CNT_D : RegDef := ⟨"DET_CNT_D", .dc, 0xf00101068, [(4, 0x8000)], 0x0#40,
  [⟨"MISPLACED", 39, 20, .ro⟩, ⟨"TAG_FAIL", 19, 0, .ro⟩]⟩
def DET_CNT_D.MISPLACED (n : Nat) : Fld := ⟨0xf00101068 + 0x8000 * n, 20, 20, 0x0#40⟩
def DET_CNT_D.TAG_FAIL (n : Nat) : Fld := ⟨0xf00101068 + 0x8000 * n, 0, 20, 0x0#40⟩

/-- DET_ITER_SUM: R235, 06_detection.md. -/
def DET_ITER_SUM : RegDef := ⟨"DET_ITER_SUM", .dc, 0xf00101070, [(4, 0x8000)], 0x0#40,
  [⟨"LOCALS", 39, 0, .ro⟩]⟩
def DET_ITER_SUM.LOCALS (n : Nat) : Fld := ⟨0xf00101070 + 0x8000 * n, 0, 40, 0x0#40⟩

/-- DET_ERR_SUM: R235, 06_detection.md. -/
def DET_ERR_SUM : RegDef := ⟨"DET_ERR_SUM", .dc, 0xf00101078, [(4, 0x8000)], 0x0#40,
  [⟨"BITS_FIXED", 39, 0, .ro⟩]⟩
def DET_ERR_SUM.BITS_FIXED (n : Nat) : Fld := ⟨0xf00101078 + 0x8000 * n, 0, 40, 0x0#40⟩

/-- DET_BB_BASE: R235, 06_detection.md. -/
def DET_BB_BASE : RegDef := ⟨"DET_BB_BASE", .dc, 0xf00101100, [(4, 0x8000)], 0x0#40,
  [⟨"BASE", 39, 5, .rw⟩]⟩
def DET_BB_BASE.BASE (n : Nat) : Fld := ⟨0xf00101100 + 0x8000 * n, 5, 35, 0x0#40⟩

/-- DET_BB_CTRL: R235, 06_detection.md. -/
def DET_BB_CTRL : RegDef := ⟨"DET_BB_CTRL", .dc, 0xf00101108, [(4, 0x8000)], 0x4#40,
  [⟨"CHAN", 6, 4, .rw⟩, ⟨"SIZE_LOG2", 3, 0, .rw⟩]⟩
def DET_BB_CTRL.CHAN (n : Nat) : Fld := ⟨0xf00101108 + 0x8000 * n, 4, 3, 0x4#40⟩
def DET_BB_CTRL.SIZE_LOG2 (n : Nat) : Fld := ⟨0xf00101108 + 0x8000 * n, 0, 4, 0x4#40⟩

/-- DET_BB_TAIL: R235, 06_detection.md. -/
def DET_BB_TAIL : RegDef := ⟨"DET_BB_TAIL", .dc, 0xf00101110, [(4, 0x8000)], 0x0#40,
  [⟨"TAIL", 9, 0, .rw⟩]⟩
def DET_BB_TAIL.TAIL (n : Nat) : Fld := ⟨0xf00101110 + 0x8000 * n, 0, 10, 0x0#40⟩

/-- DET_BB_HEAD: R235, 06_detection.md. -/
def DET_BB_HEAD : RegDef := ⟨"DET_BB_HEAD", .dc, 0xf00101118, [(4, 0x8000)], 0x0#40,
  [⟨"HEAD", 9, 0, .ro⟩]⟩
def DET_BB_HEAD.HEAD (n : Nat) : Fld := ⟨0xf00101118 + 0x8000 * n, 0, 10, 0x0#40⟩

/-- DET_BB_STATUS: R235, 06_detection.md. -/
def DET_BB_STATUS : RegDef := ⟨"DET_BB_STATUS", .dc, 0xf00101120, [(4, 0x8000)], 0x0#40,
  [⟨"OVF", 10, 10, .w1c⟩, ⟨"NOT_OWNED", 9, 9, .ro⟩, ⟨"DMA_HALT", 8, 8, .ro⟩, ⟨"BUSY", 7, 7, .ro⟩]⟩
def DET_BB_STATUS.OVF (n : Nat) : Fld := ⟨0xf00101120 + 0x8000 * n, 10, 1, 0x0#40⟩
def DET_BB_STATUS.NOT_OWNED (n : Nat) : Fld := ⟨0xf00101120 + 0x8000 * n, 9, 1, 0x0#40⟩
def DET_BB_STATUS.DMA_HALT (n : Nat) : Fld := ⟨0xf00101120 + 0x8000 * n, 8, 1, 0x0#40⟩
def DET_BB_STATUS.BUSY (n : Nat) : Fld := ⟨0xf00101120 + 0x8000 * n, 7, 1, 0x0#40⟩

/-- DET_BB_CNT: R235, 06_detection.md. -/
def DET_BB_CNT : RegDef := ⟨"DET_BB_CNT", .dc, 0xf00101128, [(4, 0x8000)], 0x0#40,
  [⟨"BB_FAIL", 39, 20, .ro⟩, ⟨"BB_DONE", 19, 0, .ro⟩]⟩
def DET_BB_CNT.BB_FAIL (n : Nat) : Fld := ⟨0xf00101128 + 0x8000 * n, 20, 20, 0x0#40⟩
def DET_BB_CNT.BB_DONE (n : Nat) : Fld := ⟨0xf00101128 + 0x8000 * n, 0, 20, 0x0#40⟩

/-- DET_ALIGN: R235, 06_detection.md. -/
def DET_ALIGN : RegDef := ⟨"DET_ALIGN", .dc, 0xf00101400, [(4, 0x8000), (14, 0x8)], 0x0#40,
  [⟨"DLY_C", 19, 10, .rw⟩, ⟨"DLY_A", 9, 0, .rw⟩]⟩
def DET_ALIGN.DLY_C (n h : Nat) : Fld := ⟨0xf00101400 + 0x8000 * n + 0x8 * h, 10, 10, 0x0#40⟩
def DET_ALIGN.DLY_A (n h : Nat) : Fld := ⟨0xf00101400 + 0x8000 * n + 0x8 * h, 0, 10, 0x0#40⟩

/-- WP_CTRL: R264, 07_write_path.md. -/
def WP_CTRL : RegDef := ⟨"WP_CTRL", .wp, 0xf00180000, [(2, 0x4000)], 0x300#40,
  [⟨"CLR_CNT", 11, 11, .wo⟩, ⟨"INHIBIT", 10, 10, .rw⟩, ⟨"TRACK_SPIN", 9, 9, .rw⟩, ⟨"VERIFY_EN", 8, 8, .rw⟩, ⟨"ENABLE", 0, 0, .rw⟩]⟩
def WP_CTRL.INHIBIT (n : Nat) : Fld := ⟨0xf00180000 + 0x4000 * n, 10, 1, 0x300#40⟩
def WP_CTRL.TRACK_SPIN (n : Nat) : Fld := ⟨0xf00180000 + 0x4000 * n, 9, 1, 0x300#40⟩
def WP_CTRL.VERIFY_EN (n : Nat) : Fld := ⟨0xf00180000 + 0x4000 * n, 8, 1, 0x300#40⟩
def WP_CTRL.ENABLE (n : Nat) : Fld := ⟨0xf00180000 + 0x4000 * n, 0, 1, 0x300#40⟩

/-- WP_STATUS: R264, 07_write_path.md. -/
def WP_STATUS : RegDef := ⟨"WP_STATUS", .wp, 0xf00180008, [(2, 0x4000)], 0x3e00000#40,
  [⟨"HEAD", 25, 21, .ro⟩, ⟨"WG", 20, 20, .ro⟩, ⟨"ASSIST_ON", 19, 19, .ro⟩, ⟨"VERIFYING", 18, 18, .ro⟩, ⟨"BANK_OWN", 17, 16, .ro⟩, ⟨"ACC_OPEN", 15, 14, .ro⟩, ⟨"JOURNAL_BUSY", 13, 13, .ro⟩, ⟨"SHK_HOLD", 12, 12, .ro⟩, ⟨"SR_FULL", 11, 11, .ro⟩]⟩
def WP_STATUS.HEAD (n : Nat) : Fld := ⟨0xf00180008 + 0x4000 * n, 21, 5, 0x3e00000#40⟩
def WP_STATUS.WG (n : Nat) : Fld := ⟨0xf00180008 + 0x4000 * n, 20, 1, 0x3e00000#40⟩
def WP_STATUS.ASSIST_ON (n : Nat) : Fld := ⟨0xf00180008 + 0x4000 * n, 19, 1, 0x3e00000#40⟩
def WP_STATUS.VERIFYING (n : Nat) : Fld := ⟨0xf00180008 + 0x4000 * n, 18, 1, 0x3e00000#40⟩
def WP_STATUS.BANK_OWN (n : Nat) : Fld := ⟨0xf00180008 + 0x4000 * n, 16, 2, 0x3e00000#40⟩
def WP_STATUS.ACC_OPEN (n : Nat) : Fld := ⟨0xf00180008 + 0x4000 * n, 14, 2, 0x3e00000#40⟩
def WP_STATUS.JOURNAL_BUSY (n : Nat) : Fld := ⟨0xf00180008 + 0x4000 * n, 13, 1, 0x3e00000#40⟩
def WP_STATUS.SHK_HOLD (n : Nat) : Fld := ⟨0xf00180008 + 0x4000 * n, 12, 1, 0x3e00000#40⟩
def WP_STATUS.SR_FULL (n : Nat) : Fld := ⟨0xf00180008 + 0x4000 * n, 11, 1, 0x3e00000#40⟩

/-- WP_RATE: R264, 07_write_path.md. -/
def WP_RATE : RegDef := ⟨"WP_RATE", .wp, 0xf00180010, [(2, 0x4000)], 0x0#40,
  [⟨"FREQ", 38, 23, .rw⟩, ⟨"BIT_RATE", 22, 0, .rw⟩]⟩
def WP_RATE.FREQ (n : Nat) : Fld := ⟨0xf00180010 + 0x4000 * n, 23, 16, 0x0#40⟩
def WP_RATE.BIT_RATE (n : Nat) : Fld := ⟨0xf00180010 + 0x4000 * n, 0, 23, 0x0#40⟩

/-- WP_PRECOMP: R264, 07_write_path.md. -/
def WP_PRECOMP : RegDef := ⟨"WP_PRECOMP", .wp, 0xf00180018, [(2, 0x4000)], 0x0#40,
  [⟨"PC3", 14, 10, .rw⟩, ⟨"PC2", 9, 5, .rw⟩, ⟨"PC1", 4, 0, .rw⟩]⟩
def WP_PRECOMP.PC3 (n : Nat) : Fld := ⟨0xf00180018 + 0x4000 * n, 10, 5, 0x0#40⟩
def WP_PRECOMP.PC2 (n : Nat) : Fld := ⟨0xf00180018 + 0x4000 * n, 5, 5, 0x0#40⟩
def WP_PRECOMP.PC1 (n : Nat) : Fld := ⟨0xf00180018 + 0x4000 * n, 0, 5, 0x0#40⟩

/-- WP_ASSIST: R264, 07_write_path.md. -/
def WP_ASSIST : RegDef := ⟨"WP_ASSIST", .wp, 0xf00180020, [(2, 0x4000)], 0x1400000000#40,
  [⟨"LEAD", 39, 32, .rw⟩, ⟨"TRIM", 31, 24, .rw⟩, ⟨"TYPE", 17, 16, .ro⟩, ⟨"CODE", 15, 0, .rw⟩]⟩
def WP_ASSIST.LEAD (n : Nat) : Fld := ⟨0xf00180020 + 0x4000 * n, 32, 8, 0x1400000000#40⟩
def WP_ASSIST.TRIM (n : Nat) : Fld := ⟨0xf00180020 + 0x4000 * n, 24, 8, 0x1400000000#40⟩
def WP_ASSIST.TYPE (n : Nat) : Fld := ⟨0xf00180020 + 0x4000 * n, 16, 2, 0x1400000000#40⟩
def WP_ASSIST.CODE (n : Nat) : Fld := ⟨0xf00180020 + 0x4000 * n, 0, 16, 0x1400000000#40⟩

/-- WP_VERIFY: R264, 07_write_path.md. -/
def WP_VERIFY : RegDef := ⟨"WP_VERIFY", .wp, 0xf00180028, [(2, 0x4000)], 0x2019000000#40,
  [⟨"PR_GLOBALS", 39, 36, .rw⟩, ⟨"SYNC_REQUIRED", 35, 35, .rw⟩, ⟨"ACTIVE", 34, 34, .ro⟩, ⟨"SYND_THRESH", 33, 22, .rw⟩, ⟨"C_DELAY", 13, 0, .rw⟩]⟩
def WP_VERIFY.PR_GLOBALS (n : Nat) : Fld := ⟨0xf00180028 + 0x4000 * n, 36, 4, 0x2019000000#40⟩
def WP_VERIFY.SYNC_REQUIRED (n : Nat) : Fld := ⟨0xf00180028 + 0x4000 * n, 35, 1, 0x2019000000#40⟩
def WP_VERIFY.ACTIVE (n : Nat) : Fld := ⟨0xf00180028 + 0x4000 * n, 34, 1, 0x2019000000#40⟩
def WP_VERIFY.SYND_THRESH (n : Nat) : Fld := ⟨0xf00180028 + 0x4000 * n, 22, 12, 0x2019000000#40⟩
def WP_VERIFY.C_DELAY (n : Nat) : Fld := ⟨0xf00180028 + 0x4000 * n, 0, 14, 0x2019000000#40⟩

/-- WP_INHIBIT: R264, 07_write_path.md. -/
def WP_INHIBIT : RegDef := ⟨"WP_INHIBIT", .wp, 0xf00180030, [(2, 0x4000)], 0x48064#40,
  [⟨"MAX_CONSEC", 23, 16, .rw⟩, ⟨"RESUME", 15, 15, .rw⟩, ⟨"PES_LIMIT", 6, 0, .rw⟩]⟩
def WP_INHIBIT.MAX_CONSEC (n : Nat) : Fld := ⟨0xf00180030 + 0x4000 * n, 16, 8, 0x48064#40⟩
def WP_INHIBIT.RESUME (n : Nat) : Fld := ⟨0xf00180030 + 0x4000 * n, 15, 1, 0x48064#40⟩
def WP_INHIBIT.PES_LIMIT (n : Nat) : Fld := ⟨0xf00180030 + 0x4000 * n, 0, 7, 0x48064#40⟩

/-- WP_SHK: R264, 07_write_path.md. -/
def WP_SHK : RegDef := ⟨"WP_SHK", .wp, 0xf00180038, [(2, 0x4000)], 0xa2480#40,
  [⟨"HOLD", 23, 16, .rw⟩, ⟨"FILT", 15, 12, .rw⟩, ⟨"TRIPPED", 11, 11, .w1c⟩, ⟨"ENABLE", 10, 10, .rw⟩, ⟨"LEVEL", 7, 0, .rw⟩]⟩
def WP_SHK.HOLD (n : Nat) : Fld := ⟨0xf00180038 + 0x4000 * n, 16, 8, 0xa2480#40⟩
def WP_SHK.FILT (n : Nat) : Fld := ⟨0xf00180038 + 0x4000 * n, 12, 4, 0xa2480#40⟩
def WP_SHK.TRIPPED (n : Nat) : Fld := ⟨0xf00180038 + 0x4000 * n, 11, 1, 0xa2480#40⟩
def WP_SHK.ENABLE (n : Nat) : Fld := ⟨0xf00180038 + 0x4000 * n, 10, 1, 0xa2480#40⟩
def WP_SHK.LEVEL (n : Nat) : Fld := ⟨0xf00180038 + 0x4000 * n, 0, 8, 0xa2480#40⟩

/-- WP_SR_BASE: R264, 07_write_path.md. -/
def WP_SR_BASE : RegDef := ⟨"WP_SR_BASE", .wp, 0xf00180040, [(2, 0x4000)], 0x0#40,
  [⟨"BASE", 39, 5, .rw⟩]⟩
def WP_SR_BASE.BASE (n : Nat) : Fld := ⟨0xf00180040 + 0x4000 * n, 5, 35, 0x0#40⟩

/-- WP_SR_PTR: R264, 07_write_path.md. -/
def WP_SR_PTR : RegDef := ⟨"WP_SR_PTR", .wp, 0xf00180048, [(2, 0x4000)], 0x600000#40,
  [⟨"SIZE_LOG2", 23, 20, .rw⟩, ⟨"CONS", 19, 10, .rw⟩, ⟨"PROD", 9, 0, .ro⟩]⟩
def WP_SR_PTR.SIZE_LOG2 (n : Nat) : Fld := ⟨0xf00180048 + 0x4000 * n, 20, 4, 0x600000#40⟩
def WP_SR_PTR.CONS (n : Nat) : Fld := ⟨0xf00180048 + 0x4000 * n, 10, 10, 0x600000#40⟩
def WP_SR_PTR.PROD (n : Nat) : Fld := ⟨0xf00180048 + 0x4000 * n, 0, 10, 0x600000#40⟩

/-- WP_INT: R264, 07_write_path.md. -/
def WP_INT : RegDef := ⟨"WP_INT", .wp, 0xf00180050, [(2, 0x4000)], 0x0#40,
  [⟨"SHK", 6, 6, .w1c⟩, ⟨"CAL_DONE", 5, 5, .w1c⟩, ⟨"JOURNAL_DONE", 4, 4, .w1c⟩, ⟨"SR_FULL", 3, 3, .w1c⟩, ⟨"VOID", 2, 2, .w1c⟩, ⟨"FLAG", 1, 1, .w1c⟩, ⟨"RECORD", 0, 0, .w1c⟩]⟩
def WP_INT.SHK (n : Nat) : Fld := ⟨0xf00180050 + 0x4000 * n, 6, 1, 0x0#40⟩
def WP_INT.CAL_DONE (n : Nat) : Fld := ⟨0xf00180050 + 0x4000 * n, 5, 1, 0x0#40⟩
def WP_INT.JOURNAL_DONE (n : Nat) : Fld := ⟨0xf00180050 + 0x4000 * n, 4, 1, 0x0#40⟩
def WP_INT.SR_FULL (n : Nat) : Fld := ⟨0xf00180050 + 0x4000 * n, 3, 1, 0x0#40⟩
def WP_INT.VOID (n : Nat) : Fld := ⟨0xf00180050 + 0x4000 * n, 2, 1, 0x0#40⟩
def WP_INT.FLAG (n : Nat) : Fld := ⟨0xf00180050 + 0x4000 * n, 1, 1, 0x0#40⟩
def WP_INT.RECORD (n : Nat) : Fld := ⟨0xf00180050 + 0x4000 * n, 0, 1, 0x0#40⟩

/-- WP_INTEN: R264, 07_write_path.md. -/
def WP_INTEN : RegDef := ⟨"WP_INTEN", .wp, 0xf00180058, [(2, 0x4000)], 0x0#40,
  [⟨"EN", 6, 0, .rw⟩]⟩
def WP_INTEN.EN (n : Nat) : Fld := ⟨0xf00180058 + 0x4000 * n, 0, 7, 0x0#40⟩

/-- WP_CNT: R264, 07_write_path.md. -/
def WP_CNT : RegDef := ⟨"WP_CNT", .wp, 0xf00180060, [(2, 0x4000)], 0x0#40,
  [⟨"UNDERRUN", 39, 30, .ro⟩, ⟨"FLAGGED", 29, 20, .ro⟩, ⟨"VOID_PES", 19, 10, .ro⟩, ⟨"VOID_OTHER", 9, 0, .ro⟩]⟩
def WP_CNT.UNDERRUN (n : Nat) : Fld := ⟨0xf00180060 + 0x4000 * n, 30, 10, 0x0#40⟩
def WP_CNT.FLAGGED (n : Nat) : Fld := ⟨0xf00180060 + 0x4000 * n, 20, 10, 0x0#40⟩
def WP_CNT.VOID_PES (n : Nat) : Fld := ⟨0xf00180060 + 0x4000 * n, 10, 10, 0x0#40⟩
def WP_CNT.VOID_OTHER (n : Nat) : Fld := ⟨0xf00180060 + 0x4000 * n, 0, 10, 0x0#40⟩

/-- WP_CAL: R264, 07_write_path.md. -/
def WP_CAL : RegDef := ⟨"WP_CAL", .wp, 0xf00180068, [(2, 0x4000)], 0x2d10000#40,
  [⟨"MIN_CAPTURE", 25, 19, .rw⟩, ⟨"STEP", 18, 16, .rw⟩, ⟨"RESULT", 15, 8, .ro⟩, ⟨"BUSY", 1, 1, .ro⟩, ⟨"START", 0, 0, .wo⟩]⟩
def WP_CAL.MIN_CAPTURE (n : Nat) : Fld := ⟨0xf00180068 + 0x4000 * n, 19, 7, 0x2d10000#40⟩
def WP_CAL.STEP (n : Nat) : Fld := ⟨0xf00180068 + 0x4000 * n, 16, 3, 0x2d10000#40⟩
def WP_CAL.RESULT (n : Nat) : Fld := ⟨0xf00180068 + 0x4000 * n, 8, 8, 0x2d10000#40⟩
def WP_CAL.BUSY (n : Nat) : Fld := ⟨0xf00180068 + 0x4000 * n, 1, 1, 0x2d10000#40⟩

/-- SVD_CTRL: R288, 08_servo_position.md. -/
def SVD_CTRL : RegDef := ⟨"SVD_CTRL", .svd, 0xf00280000, [(4, 0x2000)], 0x0#40,
  [⟨"CLR_CNT", 2, 2, .wo⟩, ⟨"FORCE_SEARCH", 1, 1, .wo⟩, ⟨"ENABLE", 0, 0, .rw⟩]⟩
def SVD_CTRL.ENABLE (n : Nat) : Fld := ⟨0xf00280000 + 0x2000 * n, 0, 1, 0x0#40⟩

/-- SVD_STATUS: R288, 08_servo_position.md. -/
def SVD_STATUS : RegDef := ⟨"SVD_STATUS", .svd, 0xf00280008, [(4, 0x2000)], 0x3e0000#40,
  [⟨"HEAD", 21, 17, .ro⟩, ⟨"ID_SUB_RUN", 16, 12, .ro⟩, ⟨"MISS_RUN", 11, 8, .ro⟩, ⟨"SWITCH", 7, 7, .ro⟩, ⟨"MEAN_FULL", 6, 6, .ro⟩, ⟨"VERIFY", 2, 2, .ro⟩, ⟨"STATE", 1, 0, .ro⟩]⟩
def SVD_STATUS.HEAD (n : Nat) : Fld := ⟨0xf00280008 + 0x2000 * n, 17, 5, 0x3e0000#40⟩
def SVD_STATUS.ID_SUB_RUN (n : Nat) : Fld := ⟨0xf00280008 + 0x2000 * n, 12, 5, 0x3e0000#40⟩
def SVD_STATUS.MISS_RUN (n : Nat) : Fld := ⟨0xf00280008 + 0x2000 * n, 8, 4, 0x3e0000#40⟩
def SVD_STATUS.SWITCH (n : Nat) : Fld := ⟨0xf00280008 + 0x2000 * n, 7, 1, 0x3e0000#40⟩
def SVD_STATUS.MEAN_FULL (n : Nat) : Fld := ⟨0xf00280008 + 0x2000 * n, 6, 1, 0x3e0000#40⟩
def SVD_STATUS.VERIFY (n : Nat) : Fld := ⟨0xf00280008 + 0x2000 * n, 2, 1, 0x3e0000#40⟩
def SVD_STATUS.STATE (n : Nat) : Fld := ⟨0xf00280008 + 0x2000 * n, 0, 2, 0x3e0000#40⟩

/-- SVD_GEOM: R288, 08_servo_position.md. -/
def SVD_GEOM : RegDef := ⟨"SVD_GEOM", .svd, 0xf00280010, [(4, 0x2000)], 0x149970#40,
  [⟨"CELL", 21, 0, .rw⟩]⟩
def SVD_GEOM.CELL (n : Nat) : Fld := ⟨0xf00280010 + 0x2000 * n, 0, 22, 0x149970#40⟩

/-- SVD_S2D: R288, 08_servo_position.md. -/
def SVD_S2D : RegDef := ⟨"SVD_S2D", .svd, 0xf00280018, [(4, 0x2000)], 0x0#40,
  [⟨"SAM_TO_DATA", 23, 0, .rw⟩]⟩
def SVD_S2D.SAM_TO_DATA (n : Nat) : Fld := ⟨0xf00280018 + 0x2000 * n, 0, 24, 0x0#40⟩

/-- SVD_PERIOD: R288, 08_servo_position.md. -/
def SVD_PERIOD : RegDef := ⟨"SVD_PERIOD", .svd, 0xf00280020, [(4, 0x2000)], 0x65b9aab#40,
  [⟨"NOM_PERIOD", 27, 0, .rw⟩]⟩
def SVD_PERIOD.NOM_PERIOD (n : Nat) : Fld := ⟨0xf00280020 + 0x2000 * n, 0, 28, 0x65b9aab#40⟩

/-- SVD_CFG: R288, 08_servo_position.md. -/
def SVD_CFG : RegDef := ⟨"SVD_CFG", .svd, 0xf00280028, [(4, 0x2000)], 0x21c404041#40,
  [⟨"ID_SUB_MAX", 35, 31, .rw⟩, ⟨"MISS_MAX", 30, 27, .rw⟩, ⟨"ACQ_COUNT", 26, 24, .rw⟩, ⟨"SW_WIN", 23, 16, .rw⟩, ⟨"ACQ_WIN", 15, 8, .rw⟩, ⟨"SAM_WIN", 7, 2, .rw⟩, ⟨"SAM_THRESH", 1, 0, .rw⟩]⟩
def SVD_CFG.ID_SUB_MAX (n : Nat) : Fld := ⟨0xf00280028 + 0x2000 * n, 31, 5, 0x21c404041#40⟩
def SVD_CFG.MISS_MAX (n : Nat) : Fld := ⟨0xf00280028 + 0x2000 * n, 27, 4, 0x21c404041#40⟩
def SVD_CFG.ACQ_COUNT (n : Nat) : Fld := ⟨0xf00280028 + 0x2000 * n, 24, 3, 0x21c404041#40⟩
def SVD_CFG.SW_WIN (n : Nat) : Fld := ⟨0xf00280028 + 0x2000 * n, 16, 8, 0x21c404041#40⟩
def SVD_CFG.ACQ_WIN (n : Nat) : Fld := ⟨0xf00280028 + 0x2000 * n, 8, 8, 0x21c404041#40⟩
def SVD_CFG.SAM_WIN (n : Nat) : Fld := ⟨0xf00280028 + 0x2000 * n, 2, 6, 0x21c404041#40⟩
def SVD_CFG.SAM_THRESH (n : Nat) : Fld := ⟨0xf00280028 + 0x2000 * n, 0, 2, 0x21c404041#40⟩

/-- SVD_TARGET: R288, 08_servo_position.md. -/
def SVD_TARGET : RegDef := ⟨"SVD_TARGET", .svd, 0xf00280030, [(4, 0x2000)], 0x0#40,
  [⟨"TARGET", 35, 0, .rw⟩]⟩
def SVD_TARGET.TARGET (n : Nat) : Fld := ⟨0xf00280030 + 0x2000 * n, 0, 36, 0x0#40⟩

/-- SVD_POS: R288, 08_servo_position.md. -/
def SVD_POS : RegDef := ⟨"SVD_POS", .svd, 0xf00280038, [(4, 0x2000)], 0x0#40,
  [⟨"PAIR", 38, 38, .ro⟩, ⟨"ID_SUB", 37, 37, .ro⟩, ⟨"VALID", 36, 36, .ro⟩, ⟨"POS", 35, 0, .ro⟩]⟩
def SVD_POS.PAIR (n : Nat) : Fld := ⟨0xf00280038 + 0x2000 * n, 38, 1, 0x0#40⟩
def SVD_POS.ID_SUB (n : Nat) : Fld := ⟨0xf00280038 + 0x2000 * n, 37, 1, 0x0#40⟩
def SVD_POS.VALID (n : Nat) : Fld := ⟨0xf00280038 + 0x2000 * n, 36, 1, 0x0#40⟩
def SVD_POS.POS (n : Nat) : Fld := ⟨0xf00280038 + 0x2000 * n, 0, 36, 0x0#40⟩

/-- SVD_PES: R288, 08_servo_position.md. -/
def SVD_PES : RegDef := ⟨"SVD_PES", .svd, 0xf00280040, [(4, 0x2000)], 0x0#40,
  [⟨"OUTCOME", 28, 26, .ro⟩, ⟨"WEDGE", 25, 17, .ro⟩, ⟨"VALID", 16, 16, .ro⟩, ⟨"PES", 15, 0, .ro⟩]⟩
def SVD_PES.OUTCOME (n : Nat) : Fld := ⟨0xf00280040 + 0x2000 * n, 26, 3, 0x0#40⟩
def SVD_PES.WEDGE (n : Nat) : Fld := ⟨0xf00280040 + 0x2000 * n, 17, 9, 0x0#40⟩
def SVD_PES.VALID (n : Nat) : Fld := ⟨0xf00280040 + 0x2000 * n, 16, 1, 0x0#40⟩
def SVD_PES.PES (n : Nat) : Fld := ⟨0xf00280040 + 0x2000 * n, 0, 16, 0x0#40⟩

/-- SVD_SAM_L: R288, 08_servo_position.md. -/
def SVD_SAM_L : RegDef := ⟨"SVD_SAM_L", .svd, 0xf00280048, [(4, 0x2000)], 0x0#40,
  [⟨"STAMP_LO", 39, 0, .ro⟩]⟩
def SVD_SAM_L.STAMP_LO (n : Nat) : Fld := ⟨0xf00280048 + 0x2000 * n, 0, 40, 0x0#40⟩

/-- SVD_SAM_H: R288, 08_servo_position.md. -/
def SVD_SAM_H : RegDef := ⟨"SVD_SAM_H", .svd, 0xf00280050, [(4, 0x2000)], 0x0#40,
  [⟨"PREDICTED", 24, 24, .ro⟩, ⟨"STAMP_HI", 23, 0, .ro⟩]⟩
def SVD_SAM_H.PREDICTED (n : Nat) : Fld := ⟨0xf00280050 + 0x2000 * n, 24, 1, 0x0#40⟩
def SVD_SAM_H.STAMP_HI (n : Nat) : Fld := ⟨0xf00280050 + 0x2000 * n, 0, 24, 0x0#40⟩

/-- SVD_MEAN: R288, 08_servo_position.md. -/
def SVD_MEAN : RegDef := ⟨"SVD_MEAN", .svd, 0xf00280058, [(4, 0x2000)], 0x0#40,
  [⟨"COUNT", 32, 28, .ro⟩, ⟨"MEAN", 27, 0, .ro⟩]⟩
def SVD_MEAN.COUNT (n : Nat) : Fld := ⟨0xf00280058 + 0x2000 * n, 28, 5, 0x0#40⟩
def SVD_MEAN.MEAN (n : Nat) : Fld := ⟨0xf00280058 + 0x2000 * n, 0, 28, 0x0#40⟩

/-- SVD_ID: R288, 08_servo_position.md. -/
def SVD_ID : RegDef := ⟨"SVD_ID", .svd, 0xf00280060, [(4, 0x2000)], 0x0#40,
  [⟨"IDX_OK", 37, 37, .ro⟩, ⟨"INDEX", 36, 28, .ro⟩, ⟨"ERASED", 25, 24, .ro⟩, ⟨"TRACK", 23, 0, .ro⟩]⟩
def SVD_ID.IDX_OK (n : Nat) : Fld := ⟨0xf00280060 + 0x2000 * n, 37, 1, 0x0#40⟩
def SVD_ID.INDEX (n : Nat) : Fld := ⟨0xf00280060 + 0x2000 * n, 28, 9, 0x0#40⟩
def SVD_ID.ERASED (n : Nat) : Fld := ⟨0xf00280060 + 0x2000 * n, 24, 2, 0x0#40⟩
def SVD_ID.TRACK (n : Nat) : Fld := ⟨0xf00280060 + 0x2000 * n, 0, 24, 0x0#40⟩

/-- SVD_CHEV: R288, 08_servo_position.md. -/
def SVD_CHEV : RegDef := ⟨"SVD_CHEV", .svd, 0xf00280068, [(4, 0x2000)], 0x0#40,
  [⟨"X2", 31, 16, .ro⟩, ⟨"X1", 15, 0, .ro⟩]⟩
def SVD_CHEV.X2 (n : Nat) : Fld := ⟨0xf00280068 + 0x2000 * n, 16, 16, 0x0#40⟩
def SVD_CHEV.X1 (n : Nat) : Fld := ⟨0xf00280068 + 0x2000 * n, 0, 16, 0x0#40⟩

/-- SVD_CNT: R288, 08_servo_position.md. -/
def SVD_CNT : RegDef := ⟨"SVD_CNT", .svd, 0xf00280070, [(4, 0x2000)], 0x0#40,
  [⟨"LOCK_LOSS", 39, 30, .ro⟩, ⟨"IDX_MISMATCH", 29, 20, .ro⟩, ⟨"BAD_ID", 19, 10, .ro⟩, ⟨"MISSED", 9, 0, .ro⟩]⟩
def SVD_CNT.LOCK_LOSS (n : Nat) : Fld := ⟨0xf00280070 + 0x2000 * n, 30, 10, 0x0#40⟩
def SVD_CNT.IDX_MISMATCH (n : Nat) : Fld := ⟨0xf00280070 + 0x2000 * n, 20, 10, 0x0#40⟩
def SVD_CNT.BAD_ID (n : Nat) : Fld := ⟨0xf00280070 + 0x2000 * n, 10, 10, 0x0#40⟩
def SVD_CNT.MISSED (n : Nat) : Fld := ⟨0xf00280070 + 0x2000 * n, 0, 10, 0x0#40⟩

/-- SVD_INT: R288, 08_servo_position.md. -/
def SVD_INT : RegDef := ⟨"SVD_INT", .svd, 0xf00280078, [(4, 0x2000)], 0x0#40,
  [⟨"CHEV_BAD", 4, 4, .w1c⟩, ⟨"IDX_RESYNC", 3, 3, .w1c⟩, ⟨"MISSED", 2, 2, .w1c⟩, ⟨"LOCK_LOST", 1, 1, .w1c⟩, ⟨"LOCKED", 0, 0, .w1c⟩]⟩
def SVD_INT.CHEV_BAD (n : Nat) : Fld := ⟨0xf00280078 + 0x2000 * n, 4, 1, 0x0#40⟩
def SVD_INT.IDX_RESYNC (n : Nat) : Fld := ⟨0xf00280078 + 0x2000 * n, 3, 1, 0x0#40⟩
def SVD_INT.MISSED (n : Nat) : Fld := ⟨0xf00280078 + 0x2000 * n, 2, 1, 0x0#40⟩
def SVD_INT.LOCK_LOST (n : Nat) : Fld := ⟨0xf00280078 + 0x2000 * n, 1, 1, 0x0#40⟩
def SVD_INT.LOCKED (n : Nat) : Fld := ⟨0xf00280078 + 0x2000 * n, 0, 1, 0x0#40⟩

/-- SVD_INTEN: R288, 08_servo_position.md. -/
def SVD_INTEN : RegDef := ⟨"SVD_INTEN", .svd, 0xf00280080, [(4, 0x2000)], 0x0#40,
  [⟨"EN", 4, 0, .rw⟩]⟩
def SVD_INTEN.EN (n : Nat) : Fld := ⟨0xf00280080 + 0x2000 * n, 0, 5, 0x0#40⟩

/-- The registers of this file, for the decoding of an address (R15). -/
def regsMediaTable : List RegDef :=
  [SYS_STRAP, SYS_TICK_L, SYS_TICK_H, SYS_REFCLK, SYS_STEPMON, SYS_BEAT, SYS_PSCRUB, SYS_PSCRUB_LAP, SYS_YP_CTRL, SYS_YP_EGG, SYS_ALIVE, SYS_GPIO_DIR] ++
  [SYS_GPIO_OUT, SYS_GPIO_IN, SYS_GPIO_SET, SYS_GPIO_CLR, SYS_GPIO_PULL, SYS_DRC_SAVE, PSL_CTRL, PSL_STATUS, PSL_CAP, PSL_CMD, PSL_RSP, PSL_ERR] ++
  [PSL_FAULT, DC_CTRL, DC_STATUS, DC_RATE, DC_CTLE, DC_VGA, DC_LOOP, DC_BASE, DC_TRIM, DC_TIMING, DC_DEFECT, DC_SYNC] ++
  [DC_SYNC_LAST, DC_RING, DC_RING_REL, DC_CAL, DC_CNT, DC_CALREC, DC_CALTEMP, DET_CTRL, DET_STATUS, DET_PSEL, DET_ALIGN_MEAS, DET_LAST] ++
  [DET_SNR, DET_INT, DET_INTEN, DET_GSR_NEXT, DET_CNT_A, DET_CNT_B, DET_CNT_C, DET_CNT_D, DET_ITER_SUM, DET_ERR_SUM, DET_BB_BASE, DET_BB_CTRL] ++
  [DET_BB_TAIL, DET_BB_HEAD, DET_BB_STATUS, DET_BB_CNT, DET_ALIGN, WP_CTRL, WP_STATUS, WP_RATE, WP_PRECOMP, WP_ASSIST, WP_VERIFY, WP_INHIBIT] ++
  [WP_SHK, WP_SR_BASE, WP_SR_PTR, WP_INT, WP_INTEN, WP_CNT, WP_CAL, SVD_CTRL, SVD_STATUS, SVD_GEOM, SVD_S2D, SVD_PERIOD] ++
  [SVD_CFG, SVD_TARGET, SVD_POS, SVD_PES, SVD_SAM_L, SVD_SAM_H, SVD_MEAN, SVD_ID, SVD_CHEV, SVD_CNT, SVD_INT, SVD_INTEN]

end Sys2Proof.Machine
end

