-- ==== Sys2Proof/Machine/RegsMotion.lean ====
section
/-! DEFINITION. The registers of CLE, ADLn, SPM and FMSn, as the register tables of the spec's chapters give them (R10 to R13):
for each register its address, its instances, its reset word and its fields; for each field that can be read, its place. -/

namespace Sys2Proof.Machine

/-- CLE_CTRL: R326, 09_control_law_engine.md. -/
def CLE_CTRL : RegDef := ⟨"CLE_CTRL", .cle, 0xf00300000, [], 0x0#40,
  [⟨"CLR_STICKY", 3, 3, .wo⟩, ⟨"ACT1_EN", 2, 2, .rw⟩, ⟨"ACT0_EN", 1, 1, .rw⟩, ⟨"ENABLE", 0, 0, .rw⟩]⟩
def CLE_CTRL.ACT1_EN : Fld := ⟨0xf00300000, 2, 1, 0x0#40⟩
def CLE_CTRL.ACT0_EN : Fld := ⟨0xf00300000, 1, 1, 0x0#40⟩
def CLE_CTRL.ENABLE : Fld := ⟨0xf00300000, 0, 1, 0x0#40⟩

/-- CLE_STATUS: R326, 09_control_law_engine.md. -/
def CLE_STATUS : RegDef := ⟨"CLE_STATUS", .cle, 0xf00300008, [], 0x800ff#40,
  [⟨"FRAMES", 39, 24, .ro⟩, ⟨"LATE_INPUT", 23, 23, .w1c⟩, ⟨"GRADE", 22, 21, .ro⟩, ⟨"BANK", 20, 20, .ro⟩, ⟨"FREE", 19, 19, .ro⟩, ⟨"BUSY", 18, 18, .ro⟩, ⟨"SAFE", 17, 17, .ro⟩, ⟨"LAST_END", 15, 8, .ro⟩, ⟨"MIN_SLACK", 7, 0, .ro⟩]⟩
def CLE_STATUS.FRAMES : Fld := ⟨0xf00300008, 24, 16, 0x800ff#40⟩
def CLE_STATUS.LATE_INPUT : Fld := ⟨0xf00300008, 23, 1, 0x800ff#40⟩
def CLE_STATUS.GRADE : Fld := ⟨0xf00300008, 21, 2, 0x800ff#40⟩
def CLE_STATUS.BANK : Fld := ⟨0xf00300008, 20, 1, 0x800ff#40⟩
def CLE_STATUS.FREE : Fld := ⟨0xf00300008, 19, 1, 0x800ff#40⟩
def CLE_STATUS.BUSY : Fld := ⟨0xf00300008, 18, 1, 0x800ff#40⟩
def CLE_STATUS.SAFE : Fld := ⟨0xf00300008, 17, 1, 0x800ff#40⟩
def CLE_STATUS.LAST_END : Fld := ⟨0xf00300008, 8, 8, 0x800ff#40⟩
def CLE_STATUS.MIN_SLACK : Fld := ⟨0xf00300008, 0, 8, 0x800ff#40⟩

/-- CLE_CFG: R326, 09_control_law_engine.md. -/
def CLE_CFG : RegDef := ⟨"CLE_CFG", .cle, 0xf00300010, [], 0x60#40,
  [⟨"GUARD", 7, 0, .rw⟩]⟩
def CLE_CFG.GUARD : Fld := ⟨0xf00300010, 0, 8, 0x60#40⟩

/-- CLE_FREE: R326, 09_control_law_engine.md. -/
def CLE_FREE : RegDef := ⟨"CLE_FREE", .cle, 0xf00300018, [], 0x50028#40,
  [⟨"RELEASE", 23, 12, .rw⟩, ⟨"START", 11, 0, .rw⟩]⟩
def CLE_FREE.RELEASE : Fld := ⟨0xf00300018, 12, 12, 0x50028#40⟩
def CLE_FREE.START : Fld := ⟨0xf00300018, 0, 12, 0x50028#40⟩

/-- CLE_ACT_CMD: R326, 09_control_law_engine.md. -/
def CLE_ACT_CMD : RegDef := ⟨"CLE_ACT_CMD", .cle, 0xf00300020, [(2, 0x8)], 0x1fe0#40,
  [⟨"PFLAGS", 22, 15, .rw⟩, ⟨"SEEK_ARM", 14, 14, .rw⟩, ⟨"SLOT1_EN", 13, 13, .rw⟩, ⟨"HEAD1", 12, 9, .rw⟩, ⟨"HEAD0", 8, 5, .rw⟩, ⟨"INDEX", 4, 0, .rw⟩]⟩
def CLE_ACT_CMD.PFLAGS (a : Nat) : Fld := ⟨0xf00300020 + 0x8 * a, 15, 8, 0x1fe0#40⟩
def CLE_ACT_CMD.SEEK_ARM (a : Nat) : Fld := ⟨0xf00300020 + 0x8 * a, 14, 1, 0x1fe0#40⟩
def CLE_ACT_CMD.SLOT1_EN (a : Nat) : Fld := ⟨0xf00300020 + 0x8 * a, 13, 1, 0x1fe0#40⟩
def CLE_ACT_CMD.HEAD1 (a : Nat) : Fld := ⟨0xf00300020 + 0x8 * a, 9, 4, 0x1fe0#40⟩
def CLE_ACT_CMD.HEAD0 (a : Nat) : Fld := ⟨0xf00300020 + 0x8 * a, 5, 4, 0x1fe0#40⟩
def CLE_ACT_CMD.INDEX (a : Nat) : Fld := ⟨0xf00300020 + 0x8 * a, 0, 5, 0x1fe0#40⟩

/-- CLE_ACT_STATE: R326, 09_control_law_engine.md. -/
def CLE_ACT_STATE : RegDef := ⟨"CLE_ACT_STATE", .cle, 0xf00300030, [(2, 0x8)], 0xff20#40,
  [⟨"ERR_CODE", 34, 32, .ro⟩, ⟨"POINT", 31, 21, .ro⟩, ⟨"SEEK_ACTIVE", 20, 20, .ro⟩, ⟨"OVERWRITE", 19, 19, .w1c⟩, ⟨"ERR", 18, 18, .w1c⟩, ⟨"PEND", 17, 17, .ro⟩, ⟨"SLOT1_EN", 16, 16, .ro⟩, ⟨"HEAD1", 15, 12, .ro⟩, ⟨"HEAD0", 11, 8, .ro⟩, ⟨"ROLE", 7, 5, .ro⟩, ⟨"INDEX", 4, 0, .ro⟩]⟩
def CLE_ACT_STATE.ERR_CODE (a : Nat) : Fld := ⟨0xf00300030 + 0x8 * a, 32, 3, 0xff20#40⟩
def CLE_ACT_STATE.POINT (a : Nat) : Fld := ⟨0xf00300030 + 0x8 * a, 21, 11, 0xff20#40⟩
def CLE_ACT_STATE.SEEK_ACTIVE (a : Nat) : Fld := ⟨0xf00300030 + 0x8 * a, 20, 1, 0xff20#40⟩
def CLE_ACT_STATE.OVERWRITE (a : Nat) : Fld := ⟨0xf00300030 + 0x8 * a, 19, 1, 0xff20#40⟩
def CLE_ACT_STATE.ERR (a : Nat) : Fld := ⟨0xf00300030 + 0x8 * a, 18, 1, 0xff20#40⟩
def CLE_ACT_STATE.PEND (a : Nat) : Fld := ⟨0xf00300030 + 0x8 * a, 17, 1, 0xff20#40⟩
def CLE_ACT_STATE.SLOT1_EN (a : Nat) : Fld := ⟨0xf00300030 + 0x8 * a, 16, 1, 0xff20#40⟩
def CLE_ACT_STATE.HEAD1 (a : Nat) : Fld := ⟨0xf00300030 + 0x8 * a, 12, 4, 0xff20#40⟩
def CLE_ACT_STATE.HEAD0 (a : Nat) : Fld := ⟨0xf00300030 + 0x8 * a, 8, 4, 0xff20#40⟩
def CLE_ACT_STATE.ROLE (a : Nat) : Fld := ⟨0xf00300030 + 0x8 * a, 5, 3, 0xff20#40⟩
def CLE_ACT_STATE.INDEX (a : Nat) : Fld := ⟨0xf00300030 + 0x8 * a, 0, 5, 0xff20#40⟩

/-- CLE_SEEK_A: R326, 09_control_law_engine.md. -/
def CLE_SEEK_A : RegDef := ⟨"CLE_SEEK_A", .cle, 0xf00300040, [(2, 0x20)], 0x0#40,
  [⟨"START", 35, 0, .rw⟩]⟩
def CLE_SEEK_A.START (a : Nat) : Fld := ⟨0xf00300040 + 0x20 * a, 0, 36, 0x0#40⟩

/-- CLE_SEEK_B: R326, 09_control_law_engine.md. -/
def CLE_SEEK_B : RegDef := ⟨"CLE_SEEK_B", .cle, 0xf00300048, [(2, 0x20)], 0x0#40,
  [⟨"POINTS", 36, 25, .rw⟩, ⟨"LENGTH", 24, 0, .rw⟩]⟩
def CLE_SEEK_B.POINTS (a : Nat) : Fld := ⟨0xf00300048 + 0x20 * a, 25, 12, 0x0#40⟩
def CLE_SEEK_B.LENGTH (a : Nat) : Fld := ⟨0xf00300048 + 0x20 * a, 0, 25, 0x0#40⟩

/-- CLE_SEEK_C: R326, 09_control_law_engine.md. -/
def CLE_SEEK_C : RegDef := ⟨"CLE_SEEK_C", .cle, 0xf00300050, [(2, 0x20)], 0x2000000#40,
  [⟨"FF_SCALE", 28, 13, .rw⟩, ⟨"POINT_BASE", 12, 0, .rw⟩]⟩
def CLE_SEEK_C.FF_SCALE (a : Nat) : Fld := ⟨0xf00300050 + 0x20 * a, 13, 16, 0x2000000#40⟩
def CLE_SEEK_C.POINT_BASE (a : Nat) : Fld := ⟨0xf00300050 + 0x20 * a, 0, 13, 0x2000000#40⟩

/-- CLE_SPM_CMD: R326, 09_control_law_engine.md. -/
def CLE_SPM_CMD : RegDef := ⟨"CLE_SPM_CMD", .cle, 0xf00300080, [], 0x0#40,
  [⟨"ERR", 13, 13, .w1c⟩, ⟨"CUR", 12, 8, .ro⟩, ⟨"INDEX", 4, 0, .rw⟩]⟩
def CLE_SPM_CMD.ERR : Fld := ⟨0xf00300080, 13, 1, 0x0#40⟩
def CLE_SPM_CMD.CUR : Fld := ⟨0xf00300080, 8, 5, 0x0#40⟩
def CLE_SPM_CMD.INDEX : Fld := ⟨0xf00300080, 0, 5, 0x0#40⟩

/-- CLE_BANK: R326, 09_control_law_engine.md. -/
def CLE_BANK : RegDef := ⟨"CLE_BANK", .cle, 0xf00300088, [], 0x0#40,
  [⟨"WERR", 26, 26, .w1c⟩, ⟨"CHECK_OP", 25, 17, .ro⟩, ⟨"CHECK_PROG", 16, 12, .ro⟩, ⟨"CHECK_CODE", 11, 4, .ro⟩, ⟨"SWITCH_PEND", 3, 3, .ro⟩, ⟨"CHECK_OK", 2, 2, .ro⟩, ⟨"SWITCH", 1, 1, .wo⟩, ⟨"CHECK", 0, 0, .wo⟩]⟩
def CLE_BANK.WERR : Fld := ⟨0xf00300088, 26, 1, 0x0#40⟩
def CLE_BANK.CHECK_OP : Fld := ⟨0xf00300088, 17, 9, 0x0#40⟩
def CLE_BANK.CHECK_PROG : Fld := ⟨0xf00300088, 12, 5, 0x0#40⟩
def CLE_BANK.CHECK_CODE : Fld := ⟨0xf00300088, 4, 8, 0x0#40⟩
def CLE_BANK.SWITCH_PEND : Fld := ⟨0xf00300088, 3, 1, 0x0#40⟩
def CLE_BANK.CHECK_OK : Fld := ⟨0xf00300088, 2, 1, 0x0#40⟩

/-- CLE_OVF: R326, 09_control_law_engine.md. -/
def CLE_OVF : RegDef := ⟨"CLE_OVF", .cle, 0xf00300090, [], 0x0#40,
  [⟨"SLOT", 31, 0, .w1c⟩]⟩
def CLE_OVF.SLOT : Fld := ⟨0xf00300090, 0, 32, 0x0#40⟩

/-- CLE_CLAMP: R326, 09_control_law_engine.md. -/
def CLE_CLAMP : RegDef := ⟨"CLE_CLAMP", .cle, 0xf00300098, [], 0x0#40,
  [⟨"SLOT", 31, 0, .w1c⟩]⟩
def CLE_CLAMP.SLOT : Fld := ⟨0xf00300098, 0, 32, 0x0#40⟩

/-- CLE_LATE: R326, 09_control_law_engine.md. -/
def CLE_LATE : RegDef := ⟨"CLE_LATE", .cle, 0xf003000a0, [], 0x0#40,
  [⟨"SLOT", 31, 0, .w1c⟩]⟩
def CLE_LATE.SLOT : Fld := ⟨0xf003000a0, 0, 32, 0x0#40⟩

/-- CLE_FIRST: R326, 09_control_law_engine.md. -/
def CLE_FIRST : RegDef := ⟨"CLE_FIRST", .cle, 0xf003000a8, [], 0x0#40,
  [⟨"FRAME", 30, 15, .ro⟩, ⟨"VALID", 14, 14, .ro⟩, ⟨"PROG", 13, 9, .ro⟩, ⟨"OP", 8, 0, .ro⟩]⟩
def CLE_FIRST.FRAME : Fld := ⟨0xf003000a8, 15, 16, 0x0#40⟩
def CLE_FIRST.VALID : Fld := ⟨0xf003000a8, 14, 1, 0x0#40⟩
def CLE_FIRST.PROG : Fld := ⟨0xf003000a8, 9, 5, 0x0#40⟩
def CLE_FIRST.OP : Fld := ⟨0xf003000a8, 0, 9, 0x0#40⟩

/-- CLE_INT: R326, 09_control_law_engine.md. -/
def CLE_INT : RegDef := ⟨"CLE_INT", .cle, 0xf003000b0, [], 0x0#40,
  [⟨"PARITY", 7, 7, .w1c⟩, ⟨"WERR", 6, 6, .w1c⟩, ⟨"SWITCHED", 5, 5, .w1c⟩, ⟨"CHECK_DONE", 4, 4, .w1c⟩, ⟨"CMD_ERR", 3, 3, .w1c⟩, ⟨"OVF", 2, 2, .w1c⟩, ⟨"LATE", 1, 1, .w1c⟩, ⟨"FRAME", 0, 0, .w1c⟩]⟩
def CLE_INT.PARITY : Fld := ⟨0xf003000b0, 7, 1, 0x0#40⟩
def CLE_INT.WERR : Fld := ⟨0xf003000b0, 6, 1, 0x0#40⟩
def CLE_INT.SWITCHED : Fld := ⟨0xf003000b0, 5, 1, 0x0#40⟩
def CLE_INT.CHECK_DONE : Fld := ⟨0xf003000b0, 4, 1, 0x0#40⟩
def CLE_INT.CMD_ERR : Fld := ⟨0xf003000b0, 3, 1, 0x0#40⟩
def CLE_INT.OVF : Fld := ⟨0xf003000b0, 2, 1, 0x0#40⟩
def CLE_INT.LATE : Fld := ⟨0xf003000b0, 1, 1, 0x0#40⟩
def CLE_INT.FRAME : Fld := ⟨0xf003000b0, 0, 1, 0x0#40⟩

/-- CLE_INTEN: R326, 09_control_law_engine.md. -/
def CLE_INTEN : RegDef := ⟨"CLE_INTEN", .cle, 0xf003000b8, [], 0x0#40,
  [⟨"EN", 7, 0, .rw⟩]⟩
def CLE_INTEN.EN : Fld := ⟨0xf003000b8, 0, 8, 0x0#40⟩

/-- CLE_PARAM: R326, 09_control_law_engine.md. -/
def CLE_PARAM : RegDef := ⟨"CLE_PARAM", .cle, 0xf00300100, [(2, 0x40), (8, 0x8)], 0x0#40,
  [⟨"VALUE", 39, 0, .rw⟩]⟩
def CLE_PARAM.VALUE (a k : Nat) : Fld := ⟨0xf00300100 + 0x40 * a + 0x8 * k, 0, 40, 0x0#40⟩

/-- ADL_CTRL: R327, 09_control_law_engine.md. -/
def ADL_CTRL : RegDef := ⟨"ADL_CTRL", .adl, 0xf00440000, [(2, 0x1000)], 0x640a#40,
  [⟨"KA_PERIOD", 15, 8, .rw⟩, ⟨"PARK", 6, 6, .rw⟩, ⟨"UNPARK", 5, 5, .wo⟩, ⟨"CLR_ERR", 4, 4, .wo⟩, ⟨"AUTO_RENEG", 3, 3, .rw⟩, ⟨"NEGOTIATE", 2, 2, .wo⟩, ⟨"RST", 1, 1, .rw⟩, ⟨"ENABLE", 0, 0, .rw⟩]⟩
def ADL_CTRL.KA_PERIOD (n : Nat) : Fld := ⟨0xf00440000 + 0x1000 * n, 8, 8, 0x640a#40⟩
def ADL_CTRL.PARK (n : Nat) : Fld := ⟨0xf00440000 + 0x1000 * n, 6, 1, 0x640a#40⟩
def ADL_CTRL.AUTO_RENEG (n : Nat) : Fld := ⟨0xf00440000 + 0x1000 * n, 3, 1, 0x640a#40⟩
def ADL_CTRL.RST (n : Nat) : Fld := ⟨0xf00440000 + 0x1000 * n, 1, 1, 0x640a#40⟩
def ADL_CTRL.ENABLE (n : Nat) : Fld := ⟨0xf00440000 + 0x1000 * n, 0, 1, 0x640a#40⟩

/-- ADL_STATUS: R327, 09_control_law_engine.md. -/
def ADL_STATUS : RegDef := ⟨"ADL_STATUS", .adl, 0xf00440008, [(2, 0x1000)], 0x1080#40,
  [⟨"SEQ", 16, 13, .ro⟩, ⟨"PARK_CAUSE", 12, 8, .ro⟩, ⟨"PARKED", 7, 7, .ro⟩, ⟨"COMP_STATE", 6, 5, .ro⟩, ⟨"PEER_MAP", 4, 3, .ro⟩, ⟨"VERSION", 2, 1, .ro⟩, ⟨"LINK_UP", 0, 0, .ro⟩]⟩
def ADL_STATUS.SEQ (n : Nat) : Fld := ⟨0xf00440008 + 0x1000 * n, 13, 4, 0x1080#40⟩
def ADL_STATUS.PARK_CAUSE (n : Nat) : Fld := ⟨0xf00440008 + 0x1000 * n, 8, 5, 0x1080#40⟩
def ADL_STATUS.PARKED (n : Nat) : Fld := ⟨0xf00440008 + 0x1000 * n, 7, 1, 0x1080#40⟩
def ADL_STATUS.COMP_STATE (n : Nat) : Fld := ⟨0xf00440008 + 0x1000 * n, 5, 2, 0x1080#40⟩
def ADL_STATUS.PEER_MAP (n : Nat) : Fld := ⟨0xf00440008 + 0x1000 * n, 3, 2, 0x1080#40⟩
def ADL_STATUS.VERSION (n : Nat) : Fld := ⟨0xf00440008 + 0x1000 * n, 1, 2, 0x1080#40⟩
def ADL_STATUS.LINK_UP (n : Nat) : Fld := ⟨0xf00440008 + 0x1000 * n, 0, 1, 0x1080#40⟩

/-- ADL_CMD: R327, 09_control_law_engine.md. -/
def ADL_CMD : RegDef := ⟨"ADL_CMD", .adl, 0xf00440010, [(2, 0x1000)], 0x0#40,
  [⟨"ERR", 30, 30, .ro⟩, ⟨"BUSY", 29, 29, .ro⟩, ⟨"GO", 28, 28, .wo⟩, ⟨"DATA", 27, 12, .rw⟩, ⟨"ADDR", 11, 4, .rw⟩, ⟨"TYPE", 3, 0, .rw⟩]⟩
def ADL_CMD.ERR (n : Nat) : Fld := ⟨0xf00440010 + 0x1000 * n, 30, 1, 0x0#40⟩
def ADL_CMD.BUSY (n : Nat) : Fld := ⟨0xf00440010 + 0x1000 * n, 29, 1, 0x0#40⟩
def ADL_CMD.DATA (n : Nat) : Fld := ⟨0xf00440010 + 0x1000 * n, 12, 16, 0x0#40⟩
def ADL_CMD.ADDR (n : Nat) : Fld := ⟨0xf00440010 + 0x1000 * n, 4, 8, 0x0#40⟩
def ADL_CMD.TYPE (n : Nat) : Fld := ⟨0xf00440010 + 0x1000 * n, 0, 4, 0x0#40⟩

/-- ADL_RSP: R327, 09_control_law_engine.md. -/
def ADL_RSP : RegDef := ⟨"ADL_RSP", .adl, 0xf00440018, [(2, 0x1000)], 0x0#40,
  [⟨"TIMEOUT", 29, 29, .ro⟩, ⟨"VALID", 28, 28, .ro⟩, ⟨"DATA", 27, 12, .ro⟩, ⟨"ADDR", 11, 4, .ro⟩, ⟨"TYPE", 3, 0, .ro⟩]⟩
def ADL_RSP.TIMEOUT (n : Nat) : Fld := ⟨0xf00440018 + 0x1000 * n, 29, 1, 0x0#40⟩
def ADL_RSP.VALID (n : Nat) : Fld := ⟨0xf00440018 + 0x1000 * n, 28, 1, 0x0#40⟩
def ADL_RSP.DATA (n : Nat) : Fld := ⟨0xf00440018 + 0x1000 * n, 12, 16, 0x0#40⟩
def ADL_RSP.ADDR (n : Nat) : Fld := ⟨0xf00440018 + 0x1000 * n, 4, 8, 0x0#40⟩
def ADL_RSP.TYPE (n : Nat) : Fld := ⟨0xf00440018 + 0x1000 * n, 0, 4, 0x0#40⟩

/-- ADL_REPORT: R327, 09_control_law_engine.md. -/
def ADL_REPORT : RegDef := ⟨"ADL_REPORT", .adl, 0xf00440020, [(2, 0x1000)], 0x0#40,
  [⟨"SEQ", 39, 36, .ro⟩, ⟨"FAULT", 35, 30, .ro⟩, ⟨"STATE", 29, 28, .ro⟩, ⟨"VVCM", 27, 16, .ro⟩, ⟨"IVCM", 15, 0, .ro⟩]⟩
def ADL_REPORT.SEQ (n : Nat) : Fld := ⟨0xf00440020 + 0x1000 * n, 36, 4, 0x0#40⟩
def ADL_REPORT.FAULT (n : Nat) : Fld := ⟨0xf00440020 + 0x1000 * n, 30, 6, 0x0#40⟩
def ADL_REPORT.STATE (n : Nat) : Fld := ⟨0xf00440020 + 0x1000 * n, 28, 2, 0x0#40⟩
def ADL_REPORT.VVCM (n : Nat) : Fld := ⟨0xf00440020 + 0x1000 * n, 16, 12, 0x0#40⟩
def ADL_REPORT.IVCM (n : Nat) : Fld := ⟨0xf00440020 + 0x1000 * n, 0, 16, 0x0#40⟩

/-- ADL_ERR: R327, 09_control_law_engine.md. -/
def ADL_ERR : RegDef := ⟨"ADL_ERR", .adl, 0xf00440028, [(2, 0x1000)], 0x0#40,
  [⟨"NAK", 39, 32, .ro⟩, ⟨"SEQ_ERR", 31, 24, .ro⟩, ⟨"REPORT_MISS", 23, 16, .ro⟩, ⟨"OVERRUN", 15, 8, .ro⟩, ⟨"CRC_UP", 7, 0, .ro⟩]⟩
def ADL_ERR.NAK (n : Nat) : Fld := ⟨0xf00440028 + 0x1000 * n, 32, 8, 0x0#40⟩
def ADL_ERR.SEQ_ERR (n : Nat) : Fld := ⟨0xf00440028 + 0x1000 * n, 24, 8, 0x0#40⟩
def ADL_ERR.REPORT_MISS (n : Nat) : Fld := ⟨0xf00440028 + 0x1000 * n, 16, 8, 0x0#40⟩
def ADL_ERR.OVERRUN (n : Nat) : Fld := ⟨0xf00440028 + 0x1000 * n, 8, 8, 0x0#40⟩
def ADL_ERR.CRC_UP (n : Nat) : Fld := ⟨0xf00440028 + 0x1000 * n, 0, 8, 0x0#40⟩

/-- ADL_FAULT: R327, 09_control_law_engine.md. -/
def ADL_FAULT : RegDef := ⟨"ADL_FAULT", .adl, 0xf00440030, [(2, 0x1000)], 0x3c0#40,
  [⟨"LINK", 11, 11, .w1c⟩, ⟨"COMP", 10, 10, .w1c⟩, ⟨"HEAD", 9, 6, .ro⟩, ⟨"CODE", 5, 0, .ro⟩]⟩
def ADL_FAULT.LINK (n : Nat) : Fld := ⟨0xf00440030 + 0x1000 * n, 11, 1, 0x3c0#40⟩
def ADL_FAULT.COMP (n : Nat) : Fld := ⟨0xf00440030 + 0x1000 * n, 10, 1, 0x3c0#40⟩
def ADL_FAULT.HEAD (n : Nat) : Fld := ⟨0xf00440030 + 0x1000 * n, 6, 4, 0x3c0#40⟩
def ADL_FAULT.CODE (n : Nat) : Fld := ⟨0xf00440030 + 0x1000 * n, 0, 6, 0x3c0#40⟩

/-- SPM_CTRL: R367, 10_spindle.md. -/
def SPM_CTRL : RegDef := ⟨"SPM_CTRL", .spm, 0xf00380000, [], 0x2#40,
  [⟨"CLR_CNT", 2, 2, .wo⟩, ⟨"FW_EN", 1, 1, .rw⟩, ⟨"ENABLE", 0, 0, .rw⟩]⟩
def SPM_CTRL.FW_EN : Fld := ⟨0xf00380000, 1, 1, 0x2#40⟩
def SPM_CTRL.ENABLE : Fld := ⟨0xf00380000, 0, 1, 0x2#40⟩

/-- SPM_CMD: R367, 10_spindle.md. -/
def SPM_CMD : RegDef := ⟨"SPM_CMD", .spm, 0xf00380008, [], 0x0#40,
  [⟨"COAST", 2, 2, .wo⟩, ⟨"STOP", 1, 1, .wo⟩, ⟨"RUN", 0, 0, .wo⟩]⟩

/-- SPM_STATUS: R367, 10_spindle.md. -/
def SPM_STATUS : RegDef := ⟨"SPM_STATUS", .spm, 0xf00380010, [], 0x0#40,
  [⟨"MODE", 31, 28, .ro⟩, ⟨"GRADE_ACT", 27, 26, .ro⟩, ⟨"TARGET", 25, 24, .ro⟩, ⟨"CHANGING", 23, 23, .ro⟩, ⟨"SPEED_OK", 22, 22, .ro⟩, ⟨"PERMIT_WAIT", 21, 21, .ro⟩, ⟨"PERMIT", 20, 20, .ro⟩, ⟨"ANGLE_SRC", 19, 18, .ro⟩, ⟨"EST_OK", 17, 17, .ro⟩, ⟨"OFFSET_VALID", 16, 16, .ro⟩, ⟨"FW_ACTIVE", 15, 15, .ro⟩, ⟨"BRAKE_HOLD", 14, 14, .ro⟩, ⟨"DUMP", 13, 13, .ro⟩, ⟨"V_SAT", 12, 12, .ro⟩, ⟨"SAMPLES_OK", 11, 11, .ro⟩, ⟨"STOP_SEEN", 10, 10, .ro⟩, ⟨"START_TRY", 9, 8, .ro⟩, ⟨"GRADE_PEND", 4, 4, .ro⟩, ⟨"ERR_CODE", 3, 0, .ro⟩]⟩
def SPM_STATUS.MODE : Fld := ⟨0xf00380010, 28, 4, 0x0#40⟩
def SPM_STATUS.GRADE_ACT : Fld := ⟨0xf00380010, 26, 2, 0x0#40⟩
def SPM_STATUS.TARGET : Fld := ⟨0xf00380010, 24, 2, 0x0#40⟩
def SPM_STATUS.CHANGING : Fld := ⟨0xf00380010, 23, 1, 0x0#40⟩
def SPM_STATUS.SPEED_OK : Fld := ⟨0xf00380010, 22, 1, 0x0#40⟩
def SPM_STATUS.PERMIT_WAIT : Fld := ⟨0xf00380010, 21, 1, 0x0#40⟩
def SPM_STATUS.PERMIT : Fld := ⟨0xf00380010, 20, 1, 0x0#40⟩
def SPM_STATUS.ANGLE_SRC : Fld := ⟨0xf00380010, 18, 2, 0x0#40⟩
def SPM_STATUS.EST_OK : Fld := ⟨0xf00380010, 17, 1, 0x0#40⟩
def SPM_STATUS.OFFSET_VALID : Fld := ⟨0xf00380010, 16, 1, 0x0#40⟩
def SPM_STATUS.FW_ACTIVE : Fld := ⟨0xf00380010, 15, 1, 0x0#40⟩
def SPM_STATUS.BRAKE_HOLD : Fld := ⟨0xf00380010, 14, 1, 0x0#40⟩
def SPM_STATUS.DUMP : Fld := ⟨0xf00380010, 13, 1, 0x0#40⟩
def SPM_STATUS.V_SAT : Fld := ⟨0xf00380010, 12, 1, 0x0#40⟩
def SPM_STATUS.SAMPLES_OK : Fld := ⟨0xf00380010, 11, 1, 0x0#40⟩
def SPM_STATUS.STOP_SEEN : Fld := ⟨0xf00380010, 10, 1, 0x0#40⟩
def SPM_STATUS.START_TRY : Fld := ⟨0xf00380010, 8, 2, 0x0#40⟩
def SPM_STATUS.GRADE_PEND : Fld := ⟨0xf00380010, 4, 1, 0x0#40⟩
def SPM_STATUS.ERR_CODE : Fld := ⟨0xf00380010, 0, 4, 0x0#40⟩

/-- SPM_GRADE: R367, 10_spindle.md. -/
def SPM_GRADE : RegDef := ⟨"SPM_GRADE", .spm, 0xf00380018, [], 0x1f40030#40,
  [⟨"TOL", 31, 16, .rw⟩, ⟨"CURVE", 9, 8, .ro⟩, ⟨"MAX", 5, 4, .rw⟩, ⟨"REQ", 1, 0, .rw⟩]⟩
def SPM_GRADE.TOL : Fld := ⟨0xf00380018, 16, 16, 0x1f40030#40⟩
def SPM_GRADE.CURVE : Fld := ⟨0xf00380018, 8, 2, 0x1f40030#40⟩
def SPM_GRADE.MAX : Fld := ⟨0xf00380018, 4, 2, 0x1f40030#40⟩
def SPM_GRADE.REQ : Fld := ⟨0xf00380018, 0, 2, 0x1f40030#40⟩

/-- SPM_SPEED: R367, 10_spindle.md. -/
def SPM_SPEED : RegDef := ⟨"SPM_SPEED", .spm, 0xf00380020, [], 0x0#40,
  [⟨"REF", 39, 20, .ro⟩, ⟨"SPEED", 19, 0, .ro⟩]⟩
def SPM_SPEED.REF : Fld := ⟨0xf00380020, 20, 20, 0x0#40⟩
def SPM_SPEED.SPEED : Fld := ⟨0xf00380020, 0, 20, 0x0#40⟩

/-- SPM_ANGLE: R367, 10_spindle.md. -/
def SPM_ANGLE : RegDef := ⟨"SPM_ANGLE", .spm, 0xf00380028, [], 0x0#40,
  [⟨"OFFSET", 31, 16, .rw⟩, ⟨"THETA", 15, 0, .ro⟩]⟩
def SPM_ANGLE.OFFSET : Fld := ⟨0xf00380028, 16, 16, 0x0#40⟩
def SPM_ANGLE.THETA : Fld := ⟨0xf00380028, 0, 16, 0x0#40⟩

/-- SPM_PWM: R367, 10_spindle.md. -/
def SPM_PWM : RegDef := ⟨"SPM_PWM", .spm, 0xf00380030, [], 0x9c45020#40,
  [⟨"PERIOD", 27, 16, .ro⟩, ⟨"DEAD", 15, 12, .rw⟩, ⟨"ZMIN", 7, 0, .rw⟩]⟩
def SPM_PWM.PERIOD : Fld := ⟨0xf00380030, 16, 12, 0x9c45020#40⟩
def SPM_PWM.DEAD : Fld := ⟨0xf00380030, 12, 4, 0x9c45020#40⟩
def SPM_PWM.ZMIN : Fld := ⟨0xf00380030, 0, 8, 0x9c45020#40⟩

/-- SPM_ADC: R367, 10_spindle.md. -/
def SPM_ADC : RegDef := ⟨"SPM_ADC", .spm, 0xf00380038, [], 0x1404#40,
  [⟨"BACK", 15, 8, .rw⟩, ⟨"S3", 4, 0, .rw⟩]⟩
def SPM_ADC.BACK : Fld := ⟨0xf00380038, 8, 8, 0x1404#40⟩
def SPM_ADC.S3 : Fld := ⟨0xf00380038, 0, 5, 0x1404#40⟩

/-- SPM_IOFS: R367, 10_spindle.md. -/
def SPM_IOFS : RegDef := ⟨"SPM_IOFS", .spm, 0xf00380040, [], 0x0#40,
  [⟨"OFS_C", 35, 24, .rw⟩, ⟨"OFS_B", 23, 12, .rw⟩, ⟨"OFS_A", 11, 0, .rw⟩]⟩
def SPM_IOFS.OFS_C : Fld := ⟨0xf00380040, 24, 12, 0x0#40⟩
def SPM_IOFS.OFS_B : Fld := ⟨0xf00380040, 12, 12, 0x0#40⟩
def SPM_IOFS.OFS_A : Fld := ⟨0xf00380040, 0, 12, 0x0#40⟩

/-- SPM_CAL: R367, 10_spindle.md. -/
def SPM_CAL : RegDef := ⟨"SPM_CAL", .spm, 0xf00380048, [], 0x60#40,
  [⟨"REC_ADDR", 37, 16, .rw⟩, ⟨"RESULT", 15, 8, .ro⟩, ⟨"SPREAD", 7, 2, .rw⟩, ⟨"BUSY", 1, 1, .ro⟩, ⟨"START", 0, 0, .wo⟩]⟩
def SPM_CAL.REC_ADDR : Fld := ⟨0xf00380048, 16, 22, 0x60#40⟩
def SPM_CAL.RESULT : Fld := ⟨0xf00380048, 8, 8, 0x60#40⟩
def SPM_CAL.SPREAD : Fld := ⟨0xf00380048, 2, 6, 0x60#40⟩
def SPM_CAL.BUSY : Fld := ⟨0xf00380048, 1, 1, 0x60#40⟩

/-- SPM_CURR: R367, 10_spindle.md. -/
def SPM_CURR : RegDef := ⟨"SPM_CURR", .spm, 0xf00380050, [], 0x0#40,
  [⟨"IQ_REF", 31, 16, .ro⟩, ⟨"IQ", 15, 8, .ro⟩, ⟨"ID", 7, 0, .ro⟩]⟩
def SPM_CURR.IQ_REF : Fld := ⟨0xf00380050, 16, 16, 0x0#40⟩
def SPM_CURR.IQ : Fld := ⟨0xf00380050, 8, 8, 0x0#40⟩
def SPM_CURR.ID : Fld := ⟨0xf00380050, 0, 8, 0x0#40⟩

/-- SPM_VOLT: R367, 10_spindle.md. -/
def SPM_VOLT : RegDef := ⟨"SPM_VOLT", .spm, 0xf00380058, [], 0x0#40,
  [⟨"V12", 39, 32, .ro⟩, ⟨"VQ", 31, 16, .ro⟩, ⟨"VD", 15, 0, .ro⟩]⟩
def SPM_VOLT.V12 : Fld := ⟨0xf00380058, 32, 8, 0x0#40⟩
def SPM_VOLT.VQ : Fld := ⟨0xf00380058, 16, 16, 0x0#40⟩
def SPM_VOLT.VD : Fld := ⟨0xf00380058, 0, 16, 0x0#40⟩

/-- SPM_FW: R367, 10_spindle.md. -/
def SPM_FW : RegDef := ⟨"SPM_FW", .spm, 0xf00380060, [], 0x40#40,
  [⟨"ID_REF", 31, 16, .ro⟩, ⟨"STEP", 7, 0, .rw⟩]⟩
def SPM_FW.ID_REF : Fld := ⟨0xf00380060, 16, 16, 0x40#40⟩
def SPM_FW.STEP : Fld := ⟨0xf00380060, 0, 8, 0x40#40⟩

/-- SPM_START: R367, 10_spindle.md. -/
def SPM_START : RegDef := ⟨"SPM_START", .spm, 0xf00380068, [], 0x4b2322000#40,
  [⟨"BRAKE_RPM", 37, 26, .rw⟩, ⟨"RETRIES", 25, 24, .rw⟩, ⟨"STOP_WAIT", 23, 16, .rw⟩, ⟨"I_OL", 15, 0, .rw⟩]⟩
def SPM_START.BRAKE_RPM : Fld := ⟨0xf00380068, 26, 12, 0x4b2322000#40⟩
def SPM_START.RETRIES : Fld := ⟨0xf00380068, 24, 2, 0x4b2322000#40⟩
def SPM_START.STOP_WAIT : Fld := ⟨0xf00380068, 16, 8, 0x4b2322000#40⟩
def SPM_START.I_OL : Fld := ⟨0xf00380068, 0, 16, 0x4b2322000#40⟩

/-- SPM_DEMAND: R367, 10_spindle.md. -/
def SPM_DEMAND : RegDef := ⟨"SPM_DEMAND", .spm, 0xf00380070, [], 0x0#40,
  [⟨"DWELL_MS", 31, 16, .ro⟩, ⟨"MBPS", 15, 0, .ro⟩]⟩
def SPM_DEMAND.DWELL_MS : Fld := ⟨0xf00380070, 16, 16, 0x0#40⟩
def SPM_DEMAND.MBPS : Fld := ⟨0xf00380070, 0, 16, 0x0#40⟩

/-- SPM_CATCH: R367, 10_spindle.md. -/
def SPM_CATCH : RegDef := ⟨"SPM_CATCH", .spm, 0xf00380078, [], 0x0#40,
  [⟨"RESULT", 31, 28, .ro⟩, ⟨"RPM", 15, 0, .ro⟩]⟩
def SPM_CATCH.RESULT : Fld := ⟨0xf00380078, 28, 4, 0x0#40⟩
def SPM_CATCH.RPM : Fld := ⟨0xf00380078, 0, 16, 0x0#40⟩

/-- SPM_CNT: R367, 10_spindle.md. -/
def SPM_CNT : RegDef := ⟨"SPM_CNT", .spm, 0xf00380080, [], 0x0#40,
  [⟨"TRUNC", 39, 30, .ro⟩, ⟨"SHUNT_INV", 29, 20, .ro⟩, ⟨"CATCHES", 19, 10, .ro⟩, ⟨"STARTS", 9, 0, .ro⟩]⟩
def SPM_CNT.TRUNC : Fld := ⟨0xf00380080, 30, 10, 0x0#40⟩
def SPM_CNT.SHUNT_INV : Fld := ⟨0xf00380080, 20, 10, 0x0#40⟩
def SPM_CNT.CATCHES : Fld := ⟨0xf00380080, 10, 10, 0x0#40⟩
def SPM_CNT.STARTS : Fld := ⟨0xf00380080, 0, 10, 0x0#40⟩

/-- SPM_INT: R367, 10_spindle.md. -/
def SPM_INT : RegDef := ⟨"SPM_INT", .spm, 0xf00380088, [], 0x0#40,
  [⟨"OVERTIME", 13, 13, .w1c⟩, ⟨"WERR", 12, 12, .w1c⟩, ⟨"GATE_FAULT", 11, 11, .w1c⟩, ⟨"OVERCURRENT", 10, 10, .w1c⟩, ⟨"START_FAIL", 9, 9, .w1c⟩, ⟨"ANGLE", 8, 8, .w1c⟩, ⟨"DUMP", 7, 7, .w1c⟩, ⟨"BRAKE_HOLD", 6, 6, .w1c⟩, ⟨"CMD_ERR", 5, 5, .w1c⟩, ⟨"CAL_DONE", 4, 4, .w1c⟩, ⟨"GRADE_START", 3, 3, .w1c⟩, ⟨"GRADE_DONE", 2, 2, .w1c⟩, ⟨"SPEED_LOST", 1, 1, .w1c⟩, ⟨"SPEED_OK", 0, 0, .w1c⟩]⟩
def SPM_INT.OVERTIME : Fld := ⟨0xf00380088, 13, 1, 0x0#40⟩
def SPM_INT.WERR : Fld := ⟨0xf00380088, 12, 1, 0x0#40⟩
def SPM_INT.GATE_FAULT : Fld := ⟨0xf00380088, 11, 1, 0x0#40⟩
def SPM_INT.OVERCURRENT : Fld := ⟨0xf00380088, 10, 1, 0x0#40⟩
def SPM_INT.START_FAIL : Fld := ⟨0xf00380088, 9, 1, 0x0#40⟩
def SPM_INT.ANGLE : Fld := ⟨0xf00380088, 8, 1, 0x0#40⟩
def SPM_INT.DUMP : Fld := ⟨0xf00380088, 7, 1, 0x0#40⟩
def SPM_INT.BRAKE_HOLD : Fld := ⟨0xf00380088, 6, 1, 0x0#40⟩
def SPM_INT.CMD_ERR : Fld := ⟨0xf00380088, 5, 1, 0x0#40⟩
def SPM_INT.CAL_DONE : Fld := ⟨0xf00380088, 4, 1, 0x0#40⟩
def SPM_INT.GRADE_START : Fld := ⟨0xf00380088, 3, 1, 0x0#40⟩
def SPM_INT.GRADE_DONE : Fld := ⟨0xf00380088, 2, 1, 0x0#40⟩
def SPM_INT.SPEED_LOST : Fld := ⟨0xf00380088, 1, 1, 0x0#40⟩
def SPM_INT.SPEED_OK : Fld := ⟨0xf00380088, 0, 1, 0x0#40⟩

/-- SPM_INTEN: R367, 10_spindle.md. -/
def SPM_INTEN : RegDef := ⟨"SPM_INTEN", .spm, 0xf00380090, [], 0x0#40,
  [⟨"EN", 13, 0, .rw⟩]⟩
def SPM_INTEN.EN : Fld := ⟨0xf00380090, 0, 14, 0x0#40⟩

/-- SPM_PARAM: R367, 10_spindle.md. -/
def SPM_PARAM : RegDef := ⟨"SPM_PARAM", .spm, 0xf003800c0, [(8, 0x8)], 0x0#40,
  [⟨"VALUE", 39, 0, .rw⟩]⟩
def SPM_PARAM.VALUE (k : Nat) : Fld := ⟨0xf003800c0 + 0x8 * k, 0, 40, 0x0#40⟩

/-- FMS_CTRL: R396, 11_formatter.md. -/
def FMS_CTRL : RegDef := ⟨"FMS_CTRL", .fms, 0xf00200000, [(2, 0x8000)], 0x0#40,
  [⟨"ATTN", 14, 14, .wo⟩, ⟨"HALT", 13, 13, .wo⟩, ⟨"RUN", 12, 12, .wo⟩, ⟨"START_ADDR", 11, 0, .rw⟩]⟩
def FMS_CTRL.START_ADDR (n : Nat) : Fld := ⟨0xf00200000 + 0x8000 * n, 0, 12, 0x0#40⟩

/-- FMS_STATUS: R396, 11_formatter.md. -/
def FMS_STATUS : RegDef := ⟨"FMS_STATUS", .fms, 0xf00200008, [(2, 0x8000)], 0x10000#40,
  [⟨"WREJ", 23, 23, .w1c⟩, ⟨"ACTIVE", 22, 22, .ro⟩, ⟨"DEPTH", 21, 19, .ro⟩, ⟨"IN_IRQ", 18, 18, .ro⟩, ⟨"WAITING", 17, 17, .ro⟩, ⟨"HALTED", 16, 16, .ro⟩, ⟨"HALT_CAUSE", 14, 12, .ro⟩, ⟨"PC", 11, 0, .ro⟩]⟩
def FMS_STATUS.WREJ (n : Nat) : Fld := ⟨0xf00200008 + 0x8000 * n, 23, 1, 0x10000#40⟩
def FMS_STATUS.ACTIVE (n : Nat) : Fld := ⟨0xf00200008 + 0x8000 * n, 22, 1, 0x10000#40⟩
def FMS_STATUS.DEPTH (n : Nat) : Fld := ⟨0xf00200008 + 0x8000 * n, 19, 3, 0x10000#40⟩
def FMS_STATUS.IN_IRQ (n : Nat) : Fld := ⟨0xf00200008 + 0x8000 * n, 18, 1, 0x10000#40⟩
def FMS_STATUS.WAITING (n : Nat) : Fld := ⟨0xf00200008 + 0x8000 * n, 17, 1, 0x10000#40⟩
def FMS_STATUS.HALTED (n : Nat) : Fld := ⟨0xf00200008 + 0x8000 * n, 16, 1, 0x10000#40⟩
def FMS_STATUS.HALT_CAUSE (n : Nat) : Fld := ⟨0xf00200008 + 0x8000 * n, 12, 3, 0x10000#40⟩
def FMS_STATUS.PC (n : Nat) : Fld := ⟨0xf00200008 + 0x8000 * n, 0, 12, 0x10000#40⟩

/-- FMS_PAR: R396, 11_formatter.md. -/
def FMS_PAR : RegDef := ⟨"FMS_PAR", .fms, 0xf00200010, [(2, 0x8000)], 0x0#40,
  [⟨"VALID", 15, 15, .w1c⟩, ⟨"ILLEGAL", 14, 14, .ro⟩, ⟨"QUARTER", 13, 12, .ro⟩, ⟨"WORD", 11, 0, .ro⟩]⟩
def FMS_PAR.VALID (n : Nat) : Fld := ⟨0xf00200010 + 0x8000 * n, 15, 1, 0x0#40⟩
def FMS_PAR.ILLEGAL (n : Nat) : Fld := ⟨0xf00200010 + 0x8000 * n, 14, 1, 0x0#40⟩
def FMS_PAR.QUARTER (n : Nat) : Fld := ⟨0xf00200010 + 0x8000 * n, 12, 2, 0x0#40⟩
def FMS_PAR.WORD (n : Nat) : Fld := ⟨0xf00200010 + 0x8000 * n, 0, 12, 0x0#40⟩

/-- FMS_WREJ: R396, 11_formatter.md. -/
def FMS_WREJ : RegDef := ⟨"FMS_WREJ", .fms, 0xf00200018, [(2, 0x8000)], 0x0#40,
  [⟨"QUARTER", 13, 12, .ro⟩, ⟨"WORD", 11, 0, .ro⟩]⟩
def FMS_WREJ.QUARTER (n : Nat) : Fld := ⟨0xf00200018 + 0x8000 * n, 12, 2, 0x0#40⟩
def FMS_WREJ.WORD (n : Nat) : Fld := ⟨0xf00200018 + 0x8000 * n, 0, 12, 0x0#40⟩

/-- FMS_IRQ: R396, 11_formatter.md. -/
def FMS_IRQ : RegDef := ⟨"FMS_IRQ", .fms, 0xf00200020, [(2, 0x8000)], 0x0#40,
  [⟨"EN", 15, 8, .rw⟩, ⟨"PEND", 7, 0, .w1c⟩]⟩
def FMS_IRQ.EN (n : Nat) : Fld := ⟨0xf00200020 + 0x8000 * n, 8, 8, 0x0#40⟩
def FMS_IRQ.PEND (n : Nat) : Fld := ⟨0xf00200020 + 0x8000 * n, 0, 8, 0x0#40⟩

/-- FMS_INT: R396, 11_formatter.md. -/
def FMS_INT : RegDef := ⟨"FMS_INT", .fms, 0xf00200028, [(2, 0x8000)], 0x0#40,
  [⟨"MEV", 15, 8, .w1c⟩, ⟨"SEQ_ERR", 3, 3, .w1c⟩, ⟨"HALTED", 2, 2, .w1c⟩, ⟨"REFUSED", 1, 1, .w1c⟩, ⟨"PROG_END", 0, 0, .w1c⟩]⟩
def FMS_INT.MEV (n : Nat) : Fld := ⟨0xf00200028 + 0x8000 * n, 8, 8, 0x0#40⟩
def FMS_INT.SEQ_ERR (n : Nat) : Fld := ⟨0xf00200028 + 0x8000 * n, 3, 1, 0x0#40⟩
def FMS_INT.HALTED (n : Nat) : Fld := ⟨0xf00200028 + 0x8000 * n, 2, 1, 0x0#40⟩
def FMS_INT.REFUSED (n : Nat) : Fld := ⟨0xf00200028 + 0x8000 * n, 1, 1, 0x0#40⟩
def FMS_INT.PROG_END (n : Nat) : Fld := ⟨0xf00200028 + 0x8000 * n, 0, 1, 0x0#40⟩

/-- FMS_INTEN: R396, 11_formatter.md. -/
def FMS_INTEN : RegDef := ⟨"FMS_INTEN", .fms, 0xf00200030, [(2, 0x8000)], 0x0#40,
  [⟨"EN", 15, 0, .rw⟩]⟩
def FMS_INTEN.EN (n : Nat) : Fld := ⟨0xf00200030 + 0x8000 * n, 0, 16, 0x0#40⟩

/-- FMS_TPQ_BASE: R396, 11_formatter.md. -/
def FMS_TPQ_BASE : RegDef := ⟨"FMS_TPQ_BASE", .fms, 0xf00200038, [(2, 0x8000)], 0x0#40,
  [⟨"BASE", 39, 6, .rw⟩]⟩
def FMS_TPQ_BASE.BASE (n : Nat) : Fld := ⟨0xf00200038 + 0x8000 * n, 6, 34, 0x0#40⟩

/-- FMS_TPQ_PTR: R396, 11_formatter.md. -/
def FMS_TPQ_PTR : RegDef := ⟨"FMS_TPQ_PTR", .fms, 0xf00200040, [(2, 0x8000)], 0x400000#40,
  [⟨"SIZE_LOG2", 23, 20, .rw⟩, ⟨"TAIL", 19, 10, .rw⟩, ⟨"HEAD", 9, 0, .ro⟩]⟩
def FMS_TPQ_PTR.SIZE_LOG2 (n : Nat) : Fld := ⟨0xf00200040 + 0x8000 * n, 20, 4, 0x400000#40⟩
def FMS_TPQ_PTR.TAIL (n : Nat) : Fld := ⟨0xf00200040 + 0x8000 * n, 10, 10, 0x400000#40⟩
def FMS_TPQ_PTR.HEAD (n : Nat) : Fld := ⟨0xf00200040 + 0x8000 * n, 0, 10, 0x400000#40⟩

/-- FMS_PLAN_BASE: R396, 11_formatter.md. -/
def FMS_PLAN_BASE : RegDef := ⟨"FMS_PLAN_BASE", .fms, 0xf00200048, [(2, 0x8000)], 0x0#40,
  [⟨"BASE", 39, 3, .rw⟩]⟩
def FMS_PLAN_BASE.BASE (n : Nat) : Fld := ⟨0xf00200048 + 0x8000 * n, 3, 37, 0x0#40⟩

/-- FMS_COPY_BASE: R396, 11_formatter.md. -/
def FMS_COPY_BASE : RegDef := ⟨"FMS_COPY_BASE", .fms, 0xf00200050, [(2, 0x8000)], 0x0#40,
  [⟨"BASE", 39, 6, .rw⟩]⟩
def FMS_COPY_BASE.BASE (n : Nat) : Fld := ⟨0xf00200050 + 0x8000 * n, 6, 34, 0x0#40⟩

/-- FMS_COPY_PTR: R396, 11_formatter.md. -/
def FMS_COPY_PTR : RegDef := ⟨"FMS_COPY_PTR", .fms, 0xf00200058, [(2, 0x8000)], 0x20000#40,
  [⟨"SIZE_LOG2", 18, 16, .rw⟩, ⟨"CONS", 15, 8, .rw⟩, ⟨"PROD", 7, 0, .ro⟩]⟩
def FMS_COPY_PTR.SIZE_LOG2 (n : Nat) : Fld := ⟨0xf00200058 + 0x8000 * n, 16, 3, 0x20000#40⟩
def FMS_COPY_PTR.CONS (n : Nat) : Fld := ⟨0xf00200058 + 0x8000 * n, 8, 8, 0x20000#40⟩
def FMS_COPY_PTR.PROD (n : Nat) : Fld := ⟨0xf00200058 + 0x8000 * n, 0, 8, 0x20000#40⟩

/-- FMS_BB: R396, 11_formatter.md. -/
def FMS_BB : RegDef := ⟨"FMS_BB", .fms, 0xf00200060, [(2, 0x8000)], 0x407#40,
  [⟨"ITER", 15, 11, .rw⟩, ⟨"DEEP_THRESH", 10, 8, .rw⟩, ⟨"FLAGS", 2, 0, .rw⟩]⟩
def FMS_BB.ITER (n : Nat) : Fld := ⟨0xf00200060 + 0x8000 * n, 11, 5, 0x407#40⟩
def FMS_BB.DEEP_THRESH (n : Nat) : Fld := ⟨0xf00200060 + 0x8000 * n, 8, 3, 0x407#40⟩
def FMS_BB.FLAGS (n : Nat) : Fld := ⟨0xf00200060 + 0x8000 * n, 0, 3, 0x407#40⟩

/-- FMS_WCAL: R396, 11_formatter.md. -/
def FMS_WCAL : RegDef := ⟨"FMS_WCAL", .fms, 0xf00200068, [(2, 0x8000)], 0x0#40,
  [⟨"ADDR", 21, 0, .rw⟩]⟩
def FMS_WCAL.ADDR (n : Nat) : Fld := ⟨0xf00200068 + 0x8000 * n, 0, 22, 0x0#40⟩

/-- FMS_PROG: R396, 11_formatter.md. -/
def FMS_PROG : RegDef := ⟨"FMS_PROG", .fms, 0xf00200070, [(2, 0x8000)], 0x0#40,
  [⟨"PIECE", 30, 28, .ro⟩, ⟨"WEDGE", 27, 19, .ro⟩, ⟨"SLOT", 18, 8, .ro⟩, ⟨"STATUS", 7, 0, .ro⟩]⟩
def FMS_PROG.PIECE (n : Nat) : Fld := ⟨0xf00200070 + 0x8000 * n, 28, 3, 0x0#40⟩
def FMS_PROG.WEDGE (n : Nat) : Fld := ⟨0xf00200070 + 0x8000 * n, 19, 9, 0x0#40⟩
def FMS_PROG.SLOT (n : Nat) : Fld := ⟨0xf00200070 + 0x8000 * n, 8, 11, 0x0#40⟩
def FMS_PROG.STATUS (n : Nat) : Fld := ⟨0xf00200070 + 0x8000 * n, 0, 8, 0x0#40⟩

/-- FMS_CTX: R396, 11_formatter.md. -/
def FMS_CTX : RegDef := ⟨"FMS_CTX", .fms, 0xf00200080, [(2, 0x8000), (8, 0x8)], 0x0#40,
  [⟨"VALUE", 39, 0, .rw⟩]⟩
def FMS_CTX.VALUE (n k : Nat) : Fld := ⟨0xf00200080 + 0x8000 * n + 0x8 * k, 0, 40, 0x0#40⟩

/-- The registers of this file, for the decoding of an address (R15). -/
def regsMotionTable : List RegDef :=
  [CLE_CTRL, CLE_STATUS, CLE_CFG, CLE_FREE, CLE_ACT_CMD, CLE_ACT_STATE, CLE_SEEK_A, CLE_SEEK_B, CLE_SEEK_C, CLE_SPM_CMD, CLE_BANK, CLE_OVF] ++
  [CLE_CLAMP, CLE_LATE, CLE_FIRST, CLE_INT, CLE_INTEN, CLE_PARAM, ADL_CTRL, ADL_STATUS, ADL_CMD, ADL_RSP, ADL_REPORT, ADL_ERR] ++
  [ADL_FAULT, SPM_CTRL, SPM_CMD, SPM_STATUS, SPM_GRADE, SPM_SPEED, SPM_ANGLE, SPM_PWM, SPM_ADC, SPM_IOFS, SPM_CAL, SPM_CURR] ++
  [SPM_VOLT, SPM_FW, SPM_START, SPM_DEMAND, SPM_CATCH, SPM_CNT, SPM_INT, SPM_INTEN, SPM_PARAM, FMS_CTRL, FMS_STATUS, FMS_PAR] ++
  [FMS_WREJ, FMS_IRQ, FMS_INT, FMS_INTEN, FMS_TPQ_BASE, FMS_TPQ_PTR, FMS_PLAN_BASE, FMS_COPY_BASE, FMS_COPY_PTR, FMS_BB, FMS_WCAL, FMS_PROG] ++
  [FMS_CTX]

end Sys2Proof.Machine
end

