-- ==== Sys2Proof/Machine/RegsOutside.lean ====
section
/-! DEFINITION. The registers of PCE, NVQ, FNI, ODE, CIP, FLT, EVR and SUP, as the register tables of the spec's chapters give them (R10 to R13):
for each register its address, its instances, its reset word and its fields; for each field that can be read, its place. -/

namespace Sys2Proof.Machine

/-- PCE_CTRL: R539, 16_pcie.md. -/
def PCE_CTRL : RegDef := ⟨"PCE_CTRL", .pce, 0xf00500000, [], 0x150#40,
  [⟨"MAX_WIDTH", 8, 7, .rw⟩, ⟨"MAX_SPEED", 6, 4, .rw⟩, ⟨"CLR_CNT", 2, 2, .wo⟩, ⟨"CFG_READY", 1, 1, .rwl⟩, ⟨"LTSSM_EN", 0, 0, .rw⟩]⟩
def PCE_CTRL.MAX_WIDTH : Fld := ⟨0xf00500000, 7, 2, 0x150#40⟩
def PCE_CTRL.MAX_SPEED : Fld := ⟨0xf00500000, 4, 3, 0x150#40⟩
def PCE_CTRL.CFG_READY : Fld := ⟨0xf00500000, 1, 1, 0x150#40⟩
def PCE_CTRL.LTSSM_EN : Fld := ⟨0xf00500000, 0, 1, 0x150#40⟩

/-- PCE_STATUS: R539, 16_pcie.md. -/
def PCE_STATUS : RegDef := ⟨"PCE_STATUS", .pce, 0xf00500008, [], 0x10000#40,
  [⟨"PERST", 16, 16, .ro⟩, ⟨"FLR_BUSY", 15, 15, .ro⟩, ⟨"DSTATE", 14, 13, .ro⟩, ⟨"BME", 12, 12, .ro⟩, ⟨"MSE", 11, 11, .ro⟩, ⟨"LINK_UP", 10, 10, .ro⟩, ⟨"WIDTH", 9, 8, .ro⟩, ⟨"SPEED", 7, 5, .ro⟩, ⟨"LINK_STATE", 4, 0, .ro⟩]⟩
def PCE_STATUS.PERST : Fld := ⟨0xf00500008, 16, 1, 0x10000#40⟩
def PCE_STATUS.FLR_BUSY : Fld := ⟨0xf00500008, 15, 1, 0x10000#40⟩
def PCE_STATUS.DSTATE : Fld := ⟨0xf00500008, 13, 2, 0x10000#40⟩
def PCE_STATUS.BME : Fld := ⟨0xf00500008, 12, 1, 0x10000#40⟩
def PCE_STATUS.MSE : Fld := ⟨0xf00500008, 11, 1, 0x10000#40⟩
def PCE_STATUS.LINK_UP : Fld := ⟨0xf00500008, 10, 1, 0x10000#40⟩
def PCE_STATUS.WIDTH : Fld := ⟨0xf00500008, 8, 2, 0x10000#40⟩
def PCE_STATUS.SPEED : Fld := ⟨0xf00500008, 5, 3, 0x10000#40⟩
def PCE_STATUS.LINK_STATE : Fld := ⟨0xf00500008, 0, 5, 0x10000#40⟩

/-- PCE_ID: R539, 16_pcie.md. -/
def PCE_ID : RegDef := ⟨"PCE_ID", .pce, 0xf00500010, [], 0x0#40,
  [⟨"SSID", 31, 16, .rwl⟩, ⟨"SSVID", 15, 0, .rwl⟩]⟩
def PCE_ID.SSID : Fld := ⟨0xf00500010, 16, 16, 0x0#40⟩
def PCE_ID.SSVID : Fld := ⟨0xf00500010, 0, 16, 0x0#40⟩

/-- PCE_DSN_L: R539, 16_pcie.md. -/
def PCE_DSN_L : RegDef := ⟨"PCE_DSN_L", .pce, 0xf00500018, [], 0x0#40,
  [⟨"DSN_LO", 39, 0, .rwl⟩]⟩
def PCE_DSN_L.DSN_LO : Fld := ⟨0xf00500018, 0, 40, 0x0#40⟩

/-- PCE_DSN_H: R539, 16_pcie.md. -/
def PCE_DSN_H : RegDef := ⟨"PCE_DSN_H", .pce, 0xf00500020, [], 0x0#40,
  [⟨"DSN_HI", 23, 0, .rwl⟩]⟩
def PCE_DSN_H.DSN_HI : Fld := ⟨0xf00500020, 0, 24, 0x0#40⟩

/-- PCE_ASPM: R539, 16_pcie.md. -/
def PCE_ASPM : RegDef := ⟨"PCE_ASPM", .pce, 0xf00500028, [], 0x640010#40,
  [⟨"L1_IDLE", 31, 16, .rw⟩, ⟨"L0S_IDLE", 7, 0, .rw⟩]⟩
def PCE_ASPM.L1_IDLE : Fld := ⟨0xf00500028, 16, 16, 0x640010#40⟩
def PCE_ASPM.L0S_IDLE : Fld := ⟨0xf00500028, 0, 8, 0x640010#40⟩

/-- PCE_XROM: R539, 16_pcie.md. -/
def PCE_XROM : RegDef := ⟨"PCE_XROM", .pce, 0xf00500030, [], 0x0#40,
  [⟨"VALID", 28, 28, .rw⟩, ⟨"BASE", 27, 16, .rw⟩]⟩
def PCE_XROM.VALID : Fld := ⟨0xf00500030, 28, 1, 0x0#40⟩
def PCE_XROM.BASE : Fld := ⟨0xf00500030, 16, 12, 0x0#40⟩

/-- PCE_FLR: R539, 16_pcie.md. -/
def PCE_FLR : RegDef := ⟨"PCE_FLR", .pce, 0xf00500038, [], 0x0#40,
  [⟨"FORCED", 3, 3, .w1c⟩, ⟨"COMPLETE", 2, 2, .wo⟩, ⟨"DMA_QUIET", 1, 1, .ro⟩, ⟨"BUSY", 0, 0, .ro⟩]⟩
def PCE_FLR.FORCED : Fld := ⟨0xf00500038, 3, 1, 0x0#40⟩
def PCE_FLR.DMA_QUIET : Fld := ⟨0xf00500038, 1, 1, 0x0#40⟩
def PCE_FLR.BUSY : Fld := ⟨0xf00500038, 0, 1, 0x0#40⟩

/-- PCE_ERR: R539, 16_pcie.md. -/
def PCE_ERR : RegDef := ⟨"PCE_ERR", .pce, 0xf00500040, [], 0x0#40,
  [⟨"CPL_TIMEOUT", 39, 32, .ro⟩, ⟨"POISON_RX", 31, 24, .ro⟩, ⟨"UR", 23, 16, .ro⟩, ⟨"REPLAY", 15, 8, .ro⟩, ⟨"RX_ERR", 7, 0, .ro⟩]⟩
def PCE_ERR.CPL_TIMEOUT : Fld := ⟨0xf00500040, 32, 8, 0x0#40⟩
def PCE_ERR.POISON_RX : Fld := ⟨0xf00500040, 24, 8, 0x0#40⟩
def PCE_ERR.UR : Fld := ⟨0xf00500040, 16, 8, 0x0#40⟩
def PCE_ERR.REPLAY : Fld := ⟨0xf00500040, 8, 8, 0x0#40⟩
def PCE_ERR.RX_ERR : Fld := ⟨0xf00500040, 0, 8, 0x0#40⟩

/-- PCE_INT: R539, 16_pcie.md. -/
def PCE_INT : RegDef := ⟨"PCE_INT", .pce, 0xf00500048, [], 0x0#40,
  [⟨"XROM_ERR", 10, 10, .w1c⟩, ⟨"POISON_RX", 9, 9, .w1c⟩, ⟨"AER_UNCOR", 8, 8, .w1c⟩, ⟨"AER_COR", 7, 7, .w1c⟩, ⟨"HOT_RESET", 6, 6, .w1c⟩, ⟨"DSTATE", 5, 5, .w1c⟩, ⟨"BME", 4, 4, .w1c⟩, ⟨"FLR", 3, 3, .w1c⟩, ⟨"SPEED_WIDTH", 2, 2, .w1c⟩, ⟨"LINK_DOWN", 1, 1, .w1c⟩, ⟨"LINK_UP", 0, 0, .w1c⟩]⟩
def PCE_INT.XROM_ERR : Fld := ⟨0xf00500048, 10, 1, 0x0#40⟩
def PCE_INT.POISON_RX : Fld := ⟨0xf00500048, 9, 1, 0x0#40⟩
def PCE_INT.AER_UNCOR : Fld := ⟨0xf00500048, 8, 1, 0x0#40⟩
def PCE_INT.AER_COR : Fld := ⟨0xf00500048, 7, 1, 0x0#40⟩
def PCE_INT.HOT_RESET : Fld := ⟨0xf00500048, 6, 1, 0x0#40⟩
def PCE_INT.DSTATE : Fld := ⟨0xf00500048, 5, 1, 0x0#40⟩
def PCE_INT.BME : Fld := ⟨0xf00500048, 4, 1, 0x0#40⟩
def PCE_INT.FLR : Fld := ⟨0xf00500048, 3, 1, 0x0#40⟩
def PCE_INT.SPEED_WIDTH : Fld := ⟨0xf00500048, 2, 1, 0x0#40⟩
def PCE_INT.LINK_DOWN : Fld := ⟨0xf00500048, 1, 1, 0x0#40⟩
def PCE_INT.LINK_UP : Fld := ⟨0xf00500048, 0, 1, 0x0#40⟩

/-- PCE_INTEN: R539, 16_pcie.md. -/
def PCE_INTEN : RegDef := ⟨"PCE_INTEN", .pce, 0xf00500050, [], 0x0#40,
  [⟨"EN", 10, 0, .rw⟩]⟩
def PCE_INTEN.EN : Fld := ⟨0xf00500050, 0, 11, 0x0#40⟩

/-- NVQ_CTRL: R578, 17_nvme.md. -/
def NVQ_CTRL : RegDef := ⟨"NVQ_CTRL", .nvq, 0xf00580000, [], 0x0#40,
  [⟨"CLR_CNT", 1, 1, .wo⟩, ⟨"ENABLE", 0, 0, .rw⟩]⟩
def NVQ_CTRL.ENABLE : Fld := ⟨0xf00580000, 0, 1, 0x0#40⟩

/-- NVQ_STATUS: R578, 17_nvme.md. -/
def NVQ_STATUS : RegDef := ⟨"NVQ_STATUS", .nvq, 0xf00580008, [], 0x0#40,
  [⟨"DB_ERR_Q", 15, 9, .ro⟩, ⟨"CQ_WAIT", 8, 8, .ro⟩, ⟨"WAIT_CQ", 7, 1, .ro⟩, ⟨"FETCH_STOP", 0, 0, .ro⟩]⟩
def NVQ_STATUS.DB_ERR_Q : Fld := ⟨0xf00580008, 9, 7, 0x0#40⟩
def NVQ_STATUS.CQ_WAIT : Fld := ⟨0xf00580008, 8, 1, 0x0#40⟩
def NVQ_STATUS.WAIT_CQ : Fld := ⟨0xf00580008, 1, 7, 0x0#40⟩
def NVQ_STATUS.FETCH_STOP : Fld := ⟨0xf00580008, 0, 1, 0x0#40⟩

/-- NVQ_CC: R578, 17_nvme.md. -/
def NVQ_CC : RegDef := ⟨"NVQ_CC", .nvq, 0xf00580010, [], 0x0#40,
  [⟨"CC", 23, 0, .ro⟩]⟩
def NVQ_CC.CC : Fld := ⟨0xf00580010, 0, 24, 0x0#40⟩

/-- NVQ_CSTS: R578, 17_nvme.md. -/
def NVQ_CSTS : RegDef := ⟨"NVQ_CSTS", .nvq, 0xf00580018, [], 0x0#40,
  [⟨"SHST", 3, 2, .rw⟩, ⟨"CFS", 1, 1, .rw⟩, ⟨"RDY", 0, 0, .rw⟩]⟩
def NVQ_CSTS.SHST : Fld := ⟨0xf00580018, 2, 2, 0x0#40⟩
def NVQ_CSTS.CFS : Fld := ⟨0xf00580018, 1, 1, 0x0#40⟩
def NVQ_CSTS.RDY : Fld := ⟨0xf00580018, 0, 1, 0x0#40⟩

/-- NVQ_ARB: R578, 17_nvme.md. -/
def NVQ_ARB : RegDef := ⟨"NVQ_ARB", .nvq, 0xf00580020, [], 0x0#40,
  [⟨"AB", 26, 24, .rw⟩, ⟨"HPW", 23, 16, .rw⟩, ⟨"MPW", 15, 8, .rw⟩, ⟨"LPW", 7, 0, .rw⟩]⟩
def NVQ_ARB.AB : Fld := ⟨0xf00580020, 24, 3, 0x0#40⟩
def NVQ_ARB.HPW : Fld := ⟨0xf00580020, 16, 8, 0x0#40⟩
def NVQ_ARB.MPW : Fld := ⟨0xf00580020, 8, 8, 0x0#40⟩
def NVQ_ARB.LPW : Fld := ⟨0xf00580020, 0, 8, 0x0#40⟩

/-- NVQ_COAL: R578, 17_nvme.md. -/
def NVQ_COAL : RegDef := ⟨"NVQ_COAL", .nvq, 0xf00580028, [], 0x0#40,
  [⟨"TIME", 15, 8, .rw⟩, ⟨"THR", 7, 0, .rw⟩]⟩
def NVQ_COAL.TIME : Fld := ⟨0xf00580028, 8, 8, 0x0#40⟩
def NVQ_COAL.THR : Fld := ⟨0xf00580028, 0, 8, 0x0#40⟩

/-- NVQ_INT: R578, 17_nvme.md. -/
def NVQ_INT : RegDef := ⟨"NVQ_INT", .nvq, 0xf00580030, [], 0x0#40,
  [⟨"CQ_WAIT", 12, 12, .w1c⟩, ⟨"POST_ERR", 11, 11, .w1c⟩, ⟨"DB_ERR", 10, 10, .w1c⟩, ⟨"SHN", 9, 9, .w1c⟩, ⟨"CC_EN", 8, 8, .w1c⟩, ⟨"RING", 7, 0, .ro⟩]⟩
def NVQ_INT.CQ_WAIT : Fld := ⟨0xf00580030, 12, 1, 0x0#40⟩
def NVQ_INT.POST_ERR : Fld := ⟨0xf00580030, 11, 1, 0x0#40⟩
def NVQ_INT.DB_ERR : Fld := ⟨0xf00580030, 10, 1, 0x0#40⟩
def NVQ_INT.SHN : Fld := ⟨0xf00580030, 9, 1, 0x0#40⟩
def NVQ_INT.CC_EN : Fld := ⟨0xf00580030, 8, 1, 0x0#40⟩
def NVQ_INT.RING : Fld := ⟨0xf00580030, 0, 8, 0x0#40⟩

/-- NVQ_INTEN: R578, 17_nvme.md. -/
def NVQ_INTEN : RegDef := ⟨"NVQ_INTEN", .nvq, 0xf00580038, [], 0x0#40,
  [⟨"EN", 12, 0, .rw⟩]⟩
def NVQ_INTEN.EN : Fld := ⟨0xf00580038, 0, 13, 0x0#40⟩

/-- NVQ_CNT: R578, 17_nvme.md. -/
def NVQ_CNT : RegDef := ⟨"NVQ_CNT", .nvq, 0xf00580040, [], 0x0#40,
  [⟨"POSTED", 39, 20, .ro⟩, ⟨"FETCHED", 19, 0, .ro⟩]⟩
def NVQ_CNT.POSTED : Fld := ⟨0xf00580040, 20, 20, 0x0#40⟩
def NVQ_CNT.FETCHED : Fld := ⟨0xf00580040, 0, 20, 0x0#40⟩

/-- NVQ_POST_BASE: R578, 17_nvme.md. -/
def NVQ_POST_BASE : RegDef := ⟨"NVQ_POST_BASE", .nvq, 0xf00580080, [], 0x0#40,
  [⟨"BASE", 39, 5, .rw⟩]⟩
def NVQ_POST_BASE.BASE : Fld := ⟨0xf00580080, 5, 35, 0x0#40⟩

/-- NVQ_POST_PTR: R578, 17_nvme.md. -/
def NVQ_POST_PTR : RegDef := ⟨"NVQ_POST_PTR", .nvq, 0xf00580088, [], 0x6000000#40,
  [⟨"SIZE_LOG2", 27, 24, .rw⟩, ⟨"PROD", 23, 12, .rw⟩, ⟨"CONS", 11, 0, .ro⟩]⟩
def NVQ_POST_PTR.SIZE_LOG2 : Fld := ⟨0xf00580088, 24, 4, 0x6000000#40⟩
def NVQ_POST_PTR.PROD : Fld := ⟨0xf00580088, 12, 12, 0x6000000#40⟩
def NVQ_POST_PTR.CONS : Fld := ⟨0xf00580088, 0, 12, 0x6000000#40⟩

/-- NVQ_CR_BASE: R578, 17_nvme.md. -/
def NVQ_CR_BASE : RegDef := ⟨"NVQ_CR_BASE", .nvq, 0xf00580100, [(8, 0x10)], 0x0#40,
  [⟨"BASE", 39, 7, .rw⟩]⟩
def NVQ_CR_BASE.BASE (r : Nat) : Fld := ⟨0xf00580100 + 0x10 * r, 7, 33, 0x0#40⟩

/-- NVQ_CR_PTR: R578, 17_nvme.md. -/
def NVQ_CR_PTR : RegDef := ⟨"NVQ_CR_PTR", .nvq, 0xf00580108, [(8, 0x10)], 0x6000000#40,
  [⟨"SIZE_LOG2", 27, 24, .rw⟩, ⟨"CONS", 23, 12, .rw⟩, ⟨"PROD", 11, 0, .ro⟩]⟩
def NVQ_CR_PTR.SIZE_LOG2 (r : Nat) : Fld := ⟨0xf00580108 + 0x10 * r, 24, 4, 0x6000000#40⟩
def NVQ_CR_PTR.CONS (r : Nat) : Fld := ⟨0xf00580108 + 0x10 * r, 12, 12, 0x6000000#40⟩
def NVQ_CR_PTR.PROD (r : Nat) : Fld := ⟨0xf00580108 + 0x10 * r, 0, 12, 0x6000000#40⟩

/-- NVQ_SQ: R578, 17_nvme.md. -/
def NVQ_SQ : RegDef := ⟨"NVQ_SQ", .nvq, 0xf00580400, [(65, 0x8)], 0x0#40,
  [⟨"SIZE", 22, 13, .rw⟩, ⟨"CQID", 12, 6, .rw⟩, ⟨"RING", 5, 3, .rw⟩, ⟨"QPRIO", 2, 1, .rw⟩, ⟨"EN", 0, 0, .rw⟩]⟩
def NVQ_SQ.SIZE (q : Nat) : Fld := ⟨0xf00580400 + 0x8 * q, 13, 10, 0x0#40⟩
def NVQ_SQ.CQID (q : Nat) : Fld := ⟨0xf00580400 + 0x8 * q, 6, 7, 0x0#40⟩
def NVQ_SQ.RING (q : Nat) : Fld := ⟨0xf00580400 + 0x8 * q, 3, 3, 0x0#40⟩
def NVQ_SQ.QPRIO (q : Nat) : Fld := ⟨0xf00580400 + 0x8 * q, 1, 2, 0x0#40⟩
def NVQ_SQ.EN (q : Nat) : Fld := ⟨0xf00580400 + 0x8 * q, 0, 1, 0x0#40⟩

/-- NVQ_SQ_PTR: R578, 17_nvme.md. -/
def NVQ_SQ_PTR : RegDef := ⟨"NVQ_SQ_PTR", .nvq, 0xf00580800, [(65, 0x8)], 0x0#40,
  [⟨"TAIL", 19, 10, .ro⟩, ⟨"HEAD", 9, 0, .ro⟩]⟩
def NVQ_SQ_PTR.TAIL (q : Nat) : Fld := ⟨0xf00580800 + 0x8 * q, 10, 10, 0x0#40⟩
def NVQ_SQ_PTR.HEAD (q : Nat) : Fld := ⟨0xf00580800 + 0x8 * q, 0, 10, 0x0#40⟩

/-- NVQ_SQ_ADDR: R578, 17_nvme.md. -/
def NVQ_SQ_ADDR : RegDef := ⟨"NVQ_SQ_ADDR", .nvq, 0xf00580c00, [(65, 0x8)], 0x0#40,
  [⟨"PAGE", 39, 0, .rw⟩]⟩
def NVQ_SQ_ADDR.PAGE (q : Nat) : Fld := ⟨0xf00580c00 + 0x8 * q, 0, 40, 0x0#40⟩

/-- NVQ_CQ: R578, 17_nvme.md. -/
def NVQ_CQ : RegDef := ⟨"NVQ_CQ", .nvq, 0xf00581000, [(65, 0x8)], 0x10#40,
  [⟨"SIZE", 21, 12, .rw⟩, ⟨"IV", 11, 5, .rw⟩, ⟨"PHASE", 4, 4, .ro⟩, ⟨"CD", 3, 3, .rw⟩, ⟨"IEN", 2, 2, .rw⟩, ⟨"EN", 0, 0, .rw⟩]⟩
def NVQ_CQ.SIZE (q : Nat) : Fld := ⟨0xf00581000 + 0x8 * q, 12, 10, 0x10#40⟩
def NVQ_CQ.IV (q : Nat) : Fld := ⟨0xf00581000 + 0x8 * q, 5, 7, 0x10#40⟩
def NVQ_CQ.PHASE (q : Nat) : Fld := ⟨0xf00581000 + 0x8 * q, 4, 1, 0x10#40⟩
def NVQ_CQ.CD (q : Nat) : Fld := ⟨0xf00581000 + 0x8 * q, 3, 1, 0x10#40⟩
def NVQ_CQ.IEN (q : Nat) : Fld := ⟨0xf00581000 + 0x8 * q, 2, 1, 0x10#40⟩
def NVQ_CQ.EN (q : Nat) : Fld := ⟨0xf00581000 + 0x8 * q, 0, 1, 0x10#40⟩

/-- NVQ_CQ_PTR: R578, 17_nvme.md. -/
def NVQ_CQ_PTR : RegDef := ⟨"NVQ_CQ_PTR", .nvq, 0xf00581400, [(65, 0x8)], 0x0#40,
  [⟨"TAIL", 19, 10, .ro⟩, ⟨"HEAD", 9, 0, .ro⟩]⟩
def NVQ_CQ_PTR.TAIL (q : Nat) : Fld := ⟨0xf00581400 + 0x8 * q, 10, 10, 0x0#40⟩
def NVQ_CQ_PTR.HEAD (q : Nat) : Fld := ⟨0xf00581400 + 0x8 * q, 0, 10, 0x0#40⟩

/-- NVQ_CQ_ADDR: R578, 17_nvme.md. -/
def NVQ_CQ_ADDR : RegDef := ⟨"NVQ_CQ_ADDR", .nvq, 0xf00581800, [(65, 0x8)], 0x0#40,
  [⟨"PAGE", 39, 0, .rw⟩]⟩
def NVQ_CQ_ADDR.PAGE (q : Nat) : Fld := ⟨0xf00581800 + 0x8 * q, 0, 40, 0x0#40⟩

/-- FNI_CTRL: R614, 18_field_network_dictionary.md. -/
def FNI_CTRL : RegDef := ⟨"FNI_CTRL", .fni, 0xf00600000, [], 0x20#40,
  [⟨"RESTART", 7, 7, .wo⟩, ⟨"LISTEN_ONLY", 6, 6, .rw⟩, ⟨"AUTO_BUSOFF", 5, 5, .rw⟩, ⟨"CLR_CNT", 4, 4, .wo⟩, ⟨"ENABLE", 0, 0, .rw⟩]⟩
def FNI_CTRL.LISTEN_ONLY : Fld := ⟨0xf00600000, 6, 1, 0x20#40⟩
def FNI_CTRL.AUTO_BUSOFF : Fld := ⟨0xf00600000, 5, 1, 0x20#40⟩
def FNI_CTRL.ENABLE : Fld := ⟨0xf00600000, 0, 1, 0x20#40⟩

/-- FNI_STATUS: R614, 18_field_network_dictionary.md. -/
def FNI_STATUS : RegDef := ⟨"FNI_STATUS", .fni, 0xf00600008, [], 0x0#40,
  [⟨"STATE", 27, 26, .ro⟩, ⟨"DATA_CODE", 25, 24, .ro⟩, ⟨"NOM_CODE", 23, 23, .ro⟩, ⟨"SC_SEEN", 22, 22, .ro⟩, ⟨"NO_COMMON", 21, 21, .ro⟩, ⟨"VERSION", 20, 19, .ro⟩, ⟨"DUP_NODE", 18, 18, .ro⟩, ⟨"BAD_NODE", 17, 17, .ro⟩, ⟨"FALLBACK_HOLD", 16, 16, .ro⟩, ⟨"REC", 15, 8, .ro⟩, ⟨"TEC", 7, 0, .ro⟩]⟩
def FNI_STATUS.STATE : Fld := ⟨0xf00600008, 26, 2, 0x0#40⟩
def FNI_STATUS.DATA_CODE : Fld := ⟨0xf00600008, 24, 2, 0x0#40⟩
def FNI_STATUS.NOM_CODE : Fld := ⟨0xf00600008, 23, 1, 0x0#40⟩
def FNI_STATUS.SC_SEEN : Fld := ⟨0xf00600008, 22, 1, 0x0#40⟩
def FNI_STATUS.NO_COMMON : Fld := ⟨0xf00600008, 21, 1, 0x0#40⟩
def FNI_STATUS.VERSION : Fld := ⟨0xf00600008, 19, 2, 0x0#40⟩
def FNI_STATUS.DUP_NODE : Fld := ⟨0xf00600008, 18, 1, 0x0#40⟩
def FNI_STATUS.BAD_NODE : Fld := ⟨0xf00600008, 17, 1, 0x0#40⟩
def FNI_STATUS.FALLBACK_HOLD : Fld := ⟨0xf00600008, 16, 1, 0x0#40⟩
def FNI_STATUS.REC : Fld := ⟨0xf00600008, 8, 8, 0x0#40⟩
def FNI_STATUS.TEC : Fld := ⟨0xf00600008, 0, 8, 0x0#40⟩

/-- FNI_ERR: R614, 18_field_network_dictionary.md. -/
def FNI_ERR : RegDef := ⟨"FNI_ERR", .fni, 0xf00600010, [], 0x0#40,
  [⟨"BUSOFF", 39, 32, .ro⟩, ⟨"WITHDRAWN", 31, 24, .ro⟩, ⟨"RX_DROP", 23, 16, .ro⟩, ⟨"PROTO", 15, 8, .ro⟩, ⟨"XFER_ABORT", 7, 0, .ro⟩]⟩
def FNI_ERR.BUSOFF : Fld := ⟨0xf00600010, 32, 8, 0x0#40⟩
def FNI_ERR.WITHDRAWN : Fld := ⟨0xf00600010, 24, 8, 0x0#40⟩
def FNI_ERR.RX_DROP : Fld := ⟨0xf00600010, 16, 8, 0x0#40⟩
def FNI_ERR.PROTO : Fld := ⟨0xf00600010, 8, 8, 0x0#40⟩
def FNI_ERR.XFER_ABORT : Fld := ⟨0xf00600010, 0, 8, 0x0#40⟩

/-- FNI_EVQ: R614, 18_field_network_dictionary.md. -/
def FNI_EVQ : RegDef := ⟨"FNI_EVQ", .fni, 0xf00600018, [], 0x0#40,
  [⟨"GO", 39, 39, .wo⟩, ⟨"BUSY", 38, 38, .ro⟩, ⟨"SHELF", 37, 37, .rw⟩, ⟨"LEN", 36, 31, .rw⟩, ⟨"CLASS", 30, 23, .rw⟩, ⟨"OFS", 22, 10, .rw⟩]⟩
def FNI_EVQ.BUSY : Fld := ⟨0xf00600018, 38, 1, 0x0#40⟩
def FNI_EVQ.SHELF : Fld := ⟨0xf00600018, 37, 1, 0x0#40⟩
def FNI_EVQ.LEN : Fld := ⟨0xf00600018, 31, 6, 0x0#40⟩
def FNI_EVQ.CLASS : Fld := ⟨0xf00600018, 23, 8, 0x0#40⟩
def FNI_EVQ.OFS : Fld := ⟨0xf00600018, 10, 13, 0x0#40⟩

/-- FNI_INT: R614, 18_field_network_dictionary.md. -/
def FNI_INT : RegDef := ⟨"FNI_INT", .fni, 0xf00600020, [], 0x0#40,
  [⟨"VERSION", 9, 9, .w1c⟩, ⟨"NET_WRITE", 8, 8, .w1c⟩, ⟨"RX_DROP", 7, 7, .w1c⟩, ⟨"DUP_NODE", 6, 6, .w1c⟩, ⟨"BUSOFF", 5, 5, .w1c⟩, ⟨"EV_WITHDRAWN", 4, 4, .w1c⟩, ⟨"EV_SENT", 3, 3, .w1c⟩, ⟨"PERMIT", 2, 2, .w1c⟩, ⟨"SC_HELLO", 1, 1, .w1c⟩, ⟨"JOINED", 0, 0, .w1c⟩]⟩
def FNI_INT.VERSION : Fld := ⟨0xf00600020, 9, 1, 0x0#40⟩
def FNI_INT.NET_WRITE : Fld := ⟨0xf00600020, 8, 1, 0x0#40⟩
def FNI_INT.RX_DROP : Fld := ⟨0xf00600020, 7, 1, 0x0#40⟩
def FNI_INT.DUP_NODE : Fld := ⟨0xf00600020, 6, 1, 0x0#40⟩
def FNI_INT.BUSOFF : Fld := ⟨0xf00600020, 5, 1, 0x0#40⟩
def FNI_INT.EV_WITHDRAWN : Fld := ⟨0xf00600020, 4, 1, 0x0#40⟩
def FNI_INT.EV_SENT : Fld := ⟨0xf00600020, 3, 1, 0x0#40⟩
def FNI_INT.PERMIT : Fld := ⟨0xf00600020, 2, 1, 0x0#40⟩
def FNI_INT.SC_HELLO : Fld := ⟨0xf00600020, 1, 1, 0x0#40⟩
def FNI_INT.JOINED : Fld := ⟨0xf00600020, 0, 1, 0x0#40⟩

/-- FNI_INTEN: R614, 18_field_network_dictionary.md. -/
def FNI_INTEN : RegDef := ⟨"FNI_INTEN", .fni, 0xf00600028, [], 0x0#40,
  [⟨"EN", 9, 0, .rw⟩]⟩
def FNI_INTEN.EN : Fld := ⟨0xf00600028, 0, 10, 0x0#40⟩

/-- ODE_REQ: R615, 18_field_network_dictionary.md. -/
def ODE_REQ : RegDef := ⟨"ODE_REQ", .ode, 0xf00680000, [(3, 0x8)], 0x0#40,
  [⟨"ADDR", 39, 6, .rw⟩, ⟨"BLK_ERR", 2, 2, .ro⟩, ⟨"BUSY", 1, 1, .ro⟩, ⟨"GO", 0, 0, .wo⟩]⟩
def ODE_REQ.ADDR (c : Nat) : Fld := ⟨0xf00680000 + 0x8 * c, 6, 34, 0x0#40⟩
def ODE_REQ.BLK_ERR (c : Nat) : Fld := ⟨0xf00680000 + 0x8 * c, 2, 1, 0x0#40⟩
def ODE_REQ.BUSY (c : Nat) : Fld := ⟨0xf00680000 + 0x8 * c, 1, 1, 0x0#40⟩

/-- ODE_CNT: R615, 18_field_network_dictionary.md. -/
def ODE_CNT : RegDef := ⟨"ODE_CNT", .ode, 0xf00680018, [], 0x0#40,
  [⟨"WRITES", 39, 20, .ro⟩, ⟨"REFUSED", 19, 0, .ro⟩]⟩
def ODE_CNT.WRITES : Fld := ⟨0xf00680018, 20, 20, 0x0#40⟩
def ODE_CNT.REFUSED : Fld := ⟨0xf00680018, 0, 20, 0x0#40⟩

/-- ODE_INT: R615, 18_field_network_dictionary.md. -/
def ODE_INT : RegDef := ⟨"ODE_INT", .ode, 0xf00680020, [], 0x0#40,
  [⟨"ACTION", 5, 5, .w1c⟩, ⟨"PERSIST_ERR", 4, 4, .w1c⟩, ⟨"REFUSED", 3, 3, .w1c⟩, ⟨"DONE", 2, 0, .w1c⟩]⟩
def ODE_INT.ACTION : Fld := ⟨0xf00680020, 5, 1, 0x0#40⟩
def ODE_INT.PERSIST_ERR : Fld := ⟨0xf00680020, 4, 1, 0x0#40⟩
def ODE_INT.REFUSED : Fld := ⟨0xf00680020, 3, 1, 0x0#40⟩
def ODE_INT.DONE : Fld := ⟨0xf00680020, 0, 3, 0x0#40⟩

/-- ODE_INTEN: R615, 18_field_network_dictionary.md. -/
def ODE_INTEN : RegDef := ⟨"ODE_INTEN", .ode, 0xf00680028, [], 0x0#40,
  [⟨"EN", 5, 0, .rw⟩]⟩
def ODE_INTEN.EN : Fld := ⟨0xf00680028, 0, 6, 0x0#40⟩

/-- CIP_CTRL: R648, 19_security.md. -/
def CIP_CTRL : RegDef := ⟨"CIP_CTRL", .cip, 0xf00480000, [], 0x7000#40,
  [⟨"RET_OFS", 23, 8, .rw⟩, ⟨"CLR_CNT", 3, 3, .wo⟩, ⟨"ONDEMAND", 2, 2, .wo⟩, ⟨"ZEROIZE", 1, 1, .wo⟩, ⟨"ENABLE", 0, 0, .rwl⟩]⟩
def CIP_CTRL.RET_OFS : Fld := ⟨0xf00480000, 8, 16, 0x7000#40⟩
def CIP_CTRL.ENABLE : Fld := ⟨0xf00480000, 0, 1, 0x7000#40⟩

/-- CIP_STATUS: R648, 19_security.md. -/
def CIP_STATUS : RegDef := ⟨"CIP_STATUS", .cip, 0xf00480008, [], 0x8#40,
  [⟨"CORE_BUSY", 19, 12, .ro⟩, ⟨"PST_CORE", 11, 9, .ro⟩, ⟨"PST_ACTIVE", 8, 8, .ro⟩, ⟨"UNLK_FAILS", 7, 6, .ro⟩, ⟨"DBG_LEVEL", 5, 4, .ro⟩, ⟨"APPROVED", 3, 3, .ro⟩, ⟨"ERROR", 2, 2, .ro⟩, ⟨"SELFTEST", 1, 1, .ro⟩, ⟨"READY", 0, 0, .ro⟩]⟩
def CIP_STATUS.CORE_BUSY : Fld := ⟨0xf00480008, 12, 8, 0x8#40⟩
def CIP_STATUS.PST_CORE : Fld := ⟨0xf00480008, 9, 3, 0x8#40⟩
def CIP_STATUS.PST_ACTIVE : Fld := ⟨0xf00480008, 8, 1, 0x8#40⟩
def CIP_STATUS.UNLK_FAILS : Fld := ⟨0xf00480008, 6, 2, 0x8#40⟩
def CIP_STATUS.DBG_LEVEL : Fld := ⟨0xf00480008, 4, 2, 0x8#40⟩
def CIP_STATUS.APPROVED : Fld := ⟨0xf00480008, 3, 1, 0x8#40⟩
def CIP_STATUS.ERROR : Fld := ⟨0xf00480008, 2, 1, 0x8#40⟩
def CIP_STATUS.SELFTEST : Fld := ⟨0xf00480008, 1, 1, 0x8#40⟩
def CIP_STATUS.READY : Fld := ⟨0xf00480008, 0, 1, 0x8#40⟩

/-- CIP_ST: R648, 19_security.md. -/
def CIP_ST : RegDef := ⟨"CIP_ST", .cip, 0xf00480010, [], 0x0#40,
  [⟨"PASSED", 20, 12, .ro⟩, ⟨"FAIL_CORE", 11, 9, .ro⟩, ⟨"DONE", 8, 8, .ro⟩, ⟨"FAIL_CODE", 7, 0, .ro⟩]⟩
def CIP_ST.PASSED : Fld := ⟨0xf00480010, 12, 9, 0x0#40⟩
def CIP_ST.FAIL_CORE : Fld := ⟨0xf00480010, 9, 3, 0x0#40⟩
def CIP_ST.DONE : Fld := ⟨0xf00480010, 8, 1, 0x0#40⟩
def CIP_ST.FAIL_CODE : Fld := ⟨0xf00480010, 0, 8, 0x0#40⟩

/-- CIP_PST: R648, 19_security.md. -/
def CIP_PST : RegDef := ⟨"CIP_PST", .cip, 0xf00480018, [], 0x3c#40,
  [⟨"PERIOD", 10, 0, .rw⟩]⟩
def CIP_PST.PERIOD : Fld := ⟨0xf00480018, 0, 11, 0x3c#40⟩

/-- CIP_ERR: R648, 19_security.md. -/
def CIP_ERR : RegDef := ⟨"CIP_ERR", .cip, 0xf00480020, [], 0x0#40,
  [⟨"CAUSE", 7, 0, .ro⟩]⟩
def CIP_ERR.CAUSE : Fld := ⟨0xf00480020, 0, 8, 0x0#40⟩

/-- CIP_SLOT: R648, 19_security.md. -/
def CIP_SLOT : RegDef := ⟨"CIP_SLOT", .cip, 0xf00480028, [], 0x0#40,
  [⟨"LOADED", 31, 0, .ro⟩]⟩
def CIP_SLOT.LOADED : Fld := ⟨0xf00480028, 0, 32, 0x0#40⟩

/-- CIP_RLOCK: R648, 19_security.md. -/
def CIP_RLOCK : RegDef := ⟨"CIP_RLOCK", .cip, 0xf00480030, [], 0x0#40,
  [⟨"LOCKED", 31, 0, .ro⟩]⟩
def CIP_RLOCK.LOCKED : Fld := ⟨0xf00480030, 0, 32, 0x0#40⟩

/-- CIP_WLOCK: R648, 19_security.md. -/
def CIP_WLOCK : RegDef := ⟨"CIP_WLOCK", .cip, 0xf00480038, [], 0x0#40,
  [⟨"LOCKED", 31, 0, .ro⟩]⟩
def CIP_WLOCK.LOCKED : Fld := ⟨0xf00480038, 0, 32, 0x0#40⟩

/-- CIP_CH_CTX: R648, 19_security.md. -/
def CIP_CH_CTX : RegDef := ⟨"CIP_CH_CTX", .cip, 0xf00480040, [(8, 0x8)], 0x0#40,
  [⟨"ADDR", 39, 6, .rw⟩]⟩
def CIP_CH_CTX.ADDR (k : Nat) : Fld := ⟨0xf00480040 + 0x8 * k, 6, 34, 0x0#40⟩

/-- CIP_UNLK: R648, 19_security.md. -/
def CIP_UNLK : RegDef := ⟨"CIP_UNLK", .cip, 0xf00480080, [], 0x0#40,
  [⟨"ADDR", 39, 6, .rw⟩, ⟨"LEVEL", 5, 4, .rw⟩, ⟨"GO", 3, 3, .wo⟩, ⟨"BUSY", 2, 2, .ro⟩, ⟨"FAIL", 1, 1, .ro⟩, ⟨"NONCE_VALID", 0, 0, .ro⟩]⟩
def CIP_UNLK.ADDR : Fld := ⟨0xf00480080, 6, 34, 0x0#40⟩
def CIP_UNLK.LEVEL : Fld := ⟨0xf00480080, 4, 2, 0x0#40⟩
def CIP_UNLK.BUSY : Fld := ⟨0xf00480080, 2, 1, 0x0#40⟩
def CIP_UNLK.FAIL : Fld := ⟨0xf00480080, 1, 1, 0x0#40⟩
def CIP_UNLK.NONCE_VALID : Fld := ⟨0xf00480080, 0, 1, 0x0#40⟩

/-- CIP_UNLK_NONCE: R648, 19_security.md. -/
def CIP_UNLK_NONCE : RegDef := ⟨"CIP_UNLK_NONCE", .cip, 0xf00480088, [(8, 0x8)], 0x0#40,
  [⟨"NONCE", 31, 0, .ro⟩]⟩
def CIP_UNLK_NONCE.NONCE (i : Nat) : Fld := ⟨0xf00480088 + 0x8 * i, 0, 32, 0x0#40⟩

/-- CIP_RNG: R648, 19_security.md. -/
def CIP_RNG : RegDef := ⟨"CIP_RNG", .cip, 0xf004800c8, [], 0x0#40,
  [⟨"VALID", 32, 32, .ro⟩, ⟨"DATA", 31, 0, .ro⟩]⟩
def CIP_RNG.VALID : Fld := ⟨0xf004800c8, 32, 1, 0x0#40⟩
def CIP_RNG.DATA : Fld := ⟨0xf004800c8, 0, 32, 0x0#40⟩

/-- CIP_CNT: R648, 19_security.md. -/
def CIP_CNT : RegDef := ⟨"CIP_CNT", .cip, 0xf004800d0, [], 0x0#40,
  [⟨"AUTH_FAIL", 39, 30, .ro⟩, ⟨"OP_FAIL", 29, 20, .ro⟩, ⟨"NONAPPR", 19, 10, .ro⟩, ⟨"PST", 9, 0, .ro⟩]⟩
def CIP_CNT.AUTH_FAIL : Fld := ⟨0xf004800d0, 30, 10, 0x0#40⟩
def CIP_CNT.OP_FAIL : Fld := ⟨0xf004800d0, 20, 10, 0x0#40⟩
def CIP_CNT.NONAPPR : Fld := ⟨0xf004800d0, 10, 10, 0x0#40⟩
def CIP_CNT.PST : Fld := ⟨0xf004800d0, 0, 10, 0x0#40⟩

/-- CIP_INT: R648, 19_security.md. -/
def CIP_INT : RegDef := ⟨"CIP_INT", .cip, 0xf004800d8, [], 0x0#40,
  [⟨"UNLK", 5, 5, .w1c⟩, ⟨"KEYCHG", 4, 4, .w1c⟩, ⟨"AUTH_FAIL", 3, 3, .w1c⟩, ⟨"PST_DONE", 2, 2, .w1c⟩, ⟨"ERROR", 1, 1, .w1c⟩, ⟨"READY", 0, 0, .w1c⟩]⟩
def CIP_INT.UNLK : Fld := ⟨0xf004800d8, 5, 1, 0x0#40⟩
def CIP_INT.KEYCHG : Fld := ⟨0xf004800d8, 4, 1, 0x0#40⟩
def CIP_INT.AUTH_FAIL : Fld := ⟨0xf004800d8, 3, 1, 0x0#40⟩
def CIP_INT.PST_DONE : Fld := ⟨0xf004800d8, 2, 1, 0x0#40⟩
def CIP_INT.ERROR : Fld := ⟨0xf004800d8, 1, 1, 0x0#40⟩
def CIP_INT.READY : Fld := ⟨0xf004800d8, 0, 1, 0x0#40⟩

/-- CIP_INTEN: R648, 19_security.md. -/
def CIP_INTEN : RegDef := ⟨"CIP_INTEN", .cip, 0xf004800e0, [], 0x0#40,
  [⟨"EN", 5, 0, .rw⟩]⟩
def CIP_INTEN.EN : Fld := ⟨0xf004800e0, 0, 6, 0x0#40⟩

/-- FLT_CTRL: R672, 20_faults_events.md. -/
def FLT_CTRL : RegDef := ⟨"FLT_CTRL", .flt, 0xf00020000, [], 0x0#40,
  [⟨"LEAVE", 1, 1, .wo⟩, ⟨"CLR_CNT", 0, 0, .wo⟩]⟩

/-- FLT_STATUS: R672, 20_faults_events.md. -/
def FLT_STATUS : RegDef := ⟨"FLT_STATUS", .flt, 0xf00020008, [], 0x0#40,
  [⟨"QUIET_LEFT", 31, 16, .ro⟩, ⟨"OPEN", 15, 8, .ro⟩, ⟨"HIGHEST", 7, 5, .ro⟩, ⟨"HEALTH", 4, 3, .ro⟩, ⟨"LOADED", 2, 2, .ro⟩, ⟨"SAFE", 1, 1, .ro⟩, ⟨"FAULT", 0, 0, .ro⟩]⟩
def FLT_STATUS.QUIET_LEFT : Fld := ⟨0xf00020008, 16, 16, 0x0#40⟩
def FLT_STATUS.OPEN : Fld := ⟨0xf00020008, 8, 8, 0x0#40⟩
def FLT_STATUS.HIGHEST : Fld := ⟨0xf00020008, 5, 3, 0x0#40⟩
def FLT_STATUS.HEALTH : Fld := ⟨0xf00020008, 3, 2, 0x0#40⟩
def FLT_STATUS.LOADED : Fld := ⟨0xf00020008, 2, 1, 0x0#40⟩
def FLT_STATUS.SAFE : Fld := ⟨0xf00020008, 1, 1, 0x0#40⟩
def FLT_STATUS.FAULT : Fld := ⟨0xf00020008, 0, 1, 0x0#40⟩

/-- FLT_CFG: R672, 20_faults_events.md. -/
def FLT_CFG : RegDef := ⟨"FLT_CFG", .flt, 0xf00020010, [], 0x3e80c8#40,
  [⟨"QUIET", 27, 12, .ro⟩, ⟨"WINDOW", 11, 0, .rw⟩]⟩
def FLT_CFG.QUIET : Fld := ⟨0xf00020010, 12, 16, 0x3e80c8#40⟩
def FLT_CFG.WINDOW : Fld := ⟨0xf00020010, 0, 12, 0x3e80c8#40⟩

/-- FLT_FIRST: R672, 20_faults_events.md. -/
def FLT_FIRST : RegDef := ⟨"FLT_FIRST", .flt, 0xf00020018, [], 0x0#40,
  [⟨"VALID", 11, 11, .ro⟩, ⟨"SEV", 10, 8, .ro⟩, ⟨"SOURCE", 7, 0, .ro⟩]⟩
def FLT_FIRST.VALID : Fld := ⟨0xf00020018, 11, 1, 0x0#40⟩
def FLT_FIRST.SEV : Fld := ⟨0xf00020018, 8, 3, 0x0#40⟩
def FLT_FIRST.SOURCE : Fld := ⟨0xf00020018, 0, 8, 0x0#40⟩

/-- FLT_FIRST_TICK: R672, 20_faults_events.md. -/
def FLT_FIRST_TICK : RegDef := ⟨"FLT_FIRST_TICK", .flt, 0xf00020020, [], 0x0#40,
  [⟨"TICK", 39, 0, .ro⟩]⟩
def FLT_FIRST_TICK.TICK : Fld := ⟨0xf00020020, 0, 40, 0x0#40⟩

/-- FLT_LAST: R672, 20_faults_events.md. -/
def FLT_LAST : RegDef := ⟨"FLT_LAST", .flt, 0xf00020028, [], 0x0#40,
  [⟨"VALID", 11, 11, .ro⟩, ⟨"SEV", 10, 8, .ro⟩, ⟨"SOURCE", 7, 0, .ro⟩]⟩
def FLT_LAST.VALID : Fld := ⟨0xf00020028, 11, 1, 0x0#40⟩
def FLT_LAST.SEV : Fld := ⟨0xf00020028, 8, 3, 0x0#40⟩
def FLT_LAST.SOURCE : Fld := ⟨0xf00020028, 0, 8, 0x0#40⟩

/-- FLT_LAST_TICK: R672, 20_faults_events.md. -/
def FLT_LAST_TICK : RegDef := ⟨"FLT_LAST_TICK", .flt, 0xf00020030, [], 0x0#40,
  [⟨"TICK", 39, 0, .ro⟩]⟩
def FLT_LAST_TICK.TICK : Fld := ⟨0xf00020030, 0, 40, 0x0#40⟩

/-- FLT_ACTIVE: R672, 20_faults_events.md. -/
def FLT_ACTIVE : RegDef := ⟨"FLT_ACTIVE", .flt, 0xf00020040, [(5, 0x8)], 0x0#40,
  [⟨"ACTIVE", 39, 0, .w1c⟩]⟩
def FLT_ACTIVE.ACTIVE (i : Nat) : Fld := ⟨0xf00020040 + 0x8 * i, 0, 40, 0x0#40⟩

/-- FLT_LINECNT: R672, 20_faults_events.md. -/
def FLT_LINECNT : RegDef := ⟨"FLT_LINECNT", .flt, 0xf00020080, [(8, 0x8)], 0x0#40,
  [⟨"COUNT", 15, 0, .ro⟩]⟩
def FLT_LINECNT.COUNT (l : Nat) : Fld := ⟨0xf00020080 + 0x8 * l, 0, 16, 0x0#40⟩

/-- FLT_CNT: R672, 20_faults_events.md. -/
def FLT_CNT : RegDef := ⟨"FLT_CNT", .flt, 0xf000200c0, [], 0x0#40,
  [⟨"SECONDARY", 39, 20, .ro⟩, ⟨"PRIMARY", 19, 0, .ro⟩]⟩
def FLT_CNT.SECONDARY : Fld := ⟨0xf000200c0, 20, 20, 0x0#40⟩
def FLT_CNT.PRIMARY : Fld := ⟨0xf000200c0, 0, 20, 0x0#40⟩

/-- FLT_INJECT: R672, 20_faults_events.md. -/
def FLT_INJECT : RegDef := ⟨"FLT_INJECT", .flt, 0xf000200c8, [], 0x0#40,
  [⟨"GO", 39, 39, .wo⟩, ⟨"SOURCE", 7, 0, .rw⟩]⟩
def FLT_INJECT.SOURCE : Fld := ⟨0xf000200c8, 0, 8, 0x0#40⟩

/-- FLT_SRC: R673, 20_faults_events.md. -/
def FLT_SRC : RegDef := ⟨"FLT_SRC", .flt, 0xf00021000, [(192, 0x8)], 0x0#40,
  [⟨"COUNT", 39, 24, .ro⟩, ⟨"SEC_COUNT", 23, 12, .ro⟩, ⟨"OPEN", 11, 11, .ro⟩, ⟨"KIND", 10, 10, .ro⟩, ⟨"COND", 9, 9, .ro⟩, ⟨"LINE", 8, 6, .rw⟩, ⟨"SEV", 2, 0, .ro⟩]⟩
def FLT_SRC.COUNT (k : Nat) : Fld := ⟨0xf00021000 + 0x8 * k, 24, 16, (fltSrcReset k)⟩
def FLT_SRC.SEC_COUNT (k : Nat) : Fld := ⟨0xf00021000 + 0x8 * k, 12, 12, (fltSrcReset k)⟩
def FLT_SRC.OPEN (k : Nat) : Fld := ⟨0xf00021000 + 0x8 * k, 11, 1, (fltSrcReset k)⟩
def FLT_SRC.KIND (k : Nat) : Fld := ⟨0xf00021000 + 0x8 * k, 10, 1, (fltSrcReset k)⟩
def FLT_SRC.COND (k : Nat) : Fld := ⟨0xf00021000 + 0x8 * k, 9, 1, (fltSrcReset k)⟩
def FLT_SRC.LINE (k : Nat) : Fld := ⟨0xf00021000 + 0x8 * k, 6, 3, (fltSrcReset k)⟩
def FLT_SRC.SEV (k : Nat) : Fld := ⟨0xf00021000 + 0x8 * k, 0, 3, (fltSrcReset k)⟩

/-- FLT_DEP: R673, 20_faults_events.md. -/
def FLT_DEP : RegDef := ⟨"FLT_DEP", .flt, 0xf00022000, [(192, 0x28), (5, 0x8)], 0x0#40,
  [⟨"DEP", 39, 0, .rw⟩]⟩
def FLT_DEP.DEP (k i : Nat) : Fld := ⟨0xf00022000 + 0x28 * k + 0x8 * i, 0, 40, (fltDepReset k i)⟩

/-- EVR_CTRL: R674, 20_faults_events.md. -/
def EVR_CTRL : RegDef := ⟨"EVR_CTRL", .evr, 0xf00030000, [], 0x0#40,
  [⟨"CLR_CNT", 0, 0, .wo⟩]⟩

/-- EVR_STATUS: R674, 20_faults_events.md. -/
def EVR_STATUS : RegDef := ⟨"EVR_STATUS", .evr, 0xf00030008, [], 0x0#40,
  [⟨"QUEUED", 27, 22, .ro⟩, ⟨"BUSY", 21, 21, .ro⟩, ⟨"NEXT_OFS", 19, 0, .ro⟩]⟩
def EVR_STATUS.QUEUED : Fld := ⟨0xf00030008, 22, 6, 0x0#40⟩
def EVR_STATUS.BUSY : Fld := ⟨0xf00030008, 21, 1, 0x0#40⟩
def EVR_STATUS.NEXT_OFS : Fld := ⟨0xf00030008, 0, 20, 0x0#40⟩

/-- EVR_SEQ: R674, 20_faults_events.md. -/
def EVR_SEQ : RegDef := ⟨"EVR_SEQ", .evr, 0xf00030010, [], 0x0#40,
  [⟨"RECORDS", 39, 16, .ro⟩, ⟨"SEQ", 15, 0, .ro⟩]⟩
def EVR_SEQ.RECORDS : Fld := ⟨0xf00030010, 16, 24, 0x0#40⟩
def EVR_SEQ.SEQ : Fld := ⟨0xf00030010, 0, 16, 0x0#40⟩

/-- EVR_MIRROR: R674, 20_faults_events.md. -/
def EVR_MIRROR : RegDef := ⟨"EVR_MIRROR", .evr, 0xf00030018, [], 0x258000000#40,
  [⟨"AGE", 39, 24, .rw⟩, ⟨"DONE_OFS", 19, 0, .rw⟩]⟩
def EVR_MIRROR.AGE : Fld := ⟨0xf00030018, 24, 16, 0x258000000#40⟩
def EVR_MIRROR.DONE_OFS : Fld := ⟨0xf00030018, 0, 20, 0x258000000#40⟩

/-- EVR_MIRROR_LVL: R674, 20_faults_events.md. -/
def EVR_MIRROR_LVL : RegDef := ⟨"EVR_MIRROR_LVL", .evr, 0xf00030020, [], 0x10#40,
  [⟨"LEVEL", 7, 0, .rw⟩]⟩
def EVR_MIRROR_LVL.LEVEL : Fld := ⟨0xf00030020, 0, 8, 0x10#40⟩

/-- EVR_CNT: R674, 20_faults_events.md. -/
def EVR_CNT : RegDef := ⟨"EVR_CNT", .evr, 0xf00030028, [], 0x0#40,
  [⟨"DROPPED", 39, 30, .ro⟩, ⟨"MIRROR_LOST", 29, 10, .ro⟩, ⟨"REPAIRED", 9, 0, .ro⟩]⟩
def EVR_CNT.DROPPED : Fld := ⟨0xf00030028, 30, 10, 0x0#40⟩
def EVR_CNT.MIRROR_LOST : Fld := ⟨0xf00030028, 10, 20, 0x0#40⟩
def EVR_CNT.REPAIRED : Fld := ⟨0xf00030028, 0, 10, 0x0#40⟩

/-- EVR_POSTA: R674, 20_faults_events.md. -/
def EVR_POSTA : RegDef := ⟨"EVR_POSTA", .evr, 0xf00030040, [(6, 0x8)], 0x0#40,
  [⟨"ADDR", 39, 0, .rw⟩]⟩
def EVR_POSTA.ADDR (c : Nat) : Fld := ⟨0xf00030040 + 0x8 * c, 0, 40, 0x0#40⟩

/-- EVR_POSTB: R674, 20_faults_events.md. -/
def EVR_POSTB : RegDef := ⟨"EVR_POSTB", .evr, 0xf00030080, [(6, 0x8)], 0x0#40,
  [⟨"VER", 29, 26, .rw⟩, ⟨"ERR", 25, 25, .ro⟩, ⟨"BUSY", 24, 24, .ro⟩, ⟨"GO", 23, 23, .wo⟩, ⟨"LENGTH", 22, 12, .rw⟩, ⟨"TYPE", 11, 0, .rw⟩]⟩
def EVR_POSTB.VER (c : Nat) : Fld := ⟨0xf00030080 + 0x8 * c, 26, 4, 0x0#40⟩
def EVR_POSTB.ERR (c : Nat) : Fld := ⟨0xf00030080 + 0x8 * c, 25, 1, 0x0#40⟩
def EVR_POSTB.BUSY (c : Nat) : Fld := ⟨0xf00030080 + 0x8 * c, 24, 1, 0x0#40⟩
def EVR_POSTB.LENGTH (c : Nat) : Fld := ⟨0xf00030080 + 0x8 * c, 12, 11, 0x0#40⟩
def EVR_POSTB.TYPE (c : Nat) : Fld := ⟨0xf00030080 + 0x8 * c, 0, 12, 0x0#40⟩

/-- EVR_INT: R674, 20_faults_events.md. -/
def EVR_INT : RegDef := ⟨"EVR_INT", .evr, 0xf000300c0, [], 0x0#40,
  [⟨"POST_ERR", 4, 4, .w1c⟩, ⟨"MIRROR_LOST", 3, 3, .w1c⟩, ⟨"DROPPED", 2, 2, .w1c⟩, ⟨"MIRROR_DUE", 1, 1, .w1c⟩, ⟨"RECORD", 0, 0, .w1c⟩]⟩
def EVR_INT.POST_ERR : Fld := ⟨0xf000300c0, 4, 1, 0x0#40⟩
def EVR_INT.MIRROR_LOST : Fld := ⟨0xf000300c0, 3, 1, 0x0#40⟩
def EVR_INT.DROPPED : Fld := ⟨0xf000300c0, 2, 1, 0x0#40⟩
def EVR_INT.MIRROR_DUE : Fld := ⟨0xf000300c0, 1, 1, 0x0#40⟩
def EVR_INT.RECORD : Fld := ⟨0xf000300c0, 0, 1, 0x0#40⟩

/-- EVR_INTEN: R674, 20_faults_events.md. -/
def EVR_INTEN : RegDef := ⟨"EVR_INTEN", .evr, 0xf000300c8, [], 0x0#40,
  [⟨"EN", 4, 0, .rw⟩]⟩
def EVR_INTEN.EN : Fld := ⟨0xf000300c8, 0, 5, 0x0#40⟩

/-- SUP_CTRL: R698, 21_power_supply.md. -/
def SUP_CTRL : RegDef := ⟨"SUP_CTRL", .sup, 0xf00010000, [], 0x0#40,
  [⟨"CLR_CNT", 0, 0, .wo⟩]⟩

/-- SUP_REQ: R698, 21_power_supply.md. -/
def SUP_REQ : RegDef := ⟨"SUP_REQ", .sup, 0xf00010008, [], 0x1#40,
  [⟨"REFUSE", 15, 12, .ro⟩, ⟨"SOURCE", 11, 9, .ro⟩, ⟨"PEND", 8, 8, .ro⟩, ⟨"BUSY", 7, 7, .ro⟩, ⟨"GO", 3, 3, .wo⟩, ⟨"TARGET", 2, 0, .rw⟩]⟩
def SUP_REQ.REFUSE : Fld := ⟨0xf00010008, 12, 4, 0x1#40⟩
def SUP_REQ.SOURCE : Fld := ⟨0xf00010008, 9, 3, 0x1#40⟩
def SUP_REQ.PEND : Fld := ⟨0xf00010008, 8, 1, 0x1#40⟩
def SUP_REQ.BUSY : Fld := ⟨0xf00010008, 7, 1, 0x1#40⟩
def SUP_REQ.TARGET : Fld := ⟨0xf00010008, 0, 3, 0x1#40⟩

/-- SUP_STATUS: R698, 21_power_supply.md. -/
def SUP_STATUS : RegDef := ⟨"SUP_STATUS", .sup, 0xf00010010, [], 0x9001#40,
  [⟨"OV_DUMP", 29, 29, .ro⟩, ⟨"OV_HOLD", 28, 28, .ro⟩, ⟨"RESET_NOW", 27, 23, .ro⟩, ⟨"WARN_NOW", 22, 18, .ro⟩, ⟨"LAST_CAUSE", 15, 13, .ro⟩, ⟨"IO_ON", 12, 12, .ro⟩, ⟨"DRAM_ON", 11, 11, .ro⟩, ⟨"CORE_ON", 10, 10, .ro⟩, ⟨"SR_HOLD", 9, 9, .ro⟩, ⟨"STATE", 2, 0, .ro⟩]⟩
def SUP_STATUS.OV_DUMP : Fld := ⟨0xf00010010, 29, 1, 0x9001#40⟩
def SUP_STATUS.OV_HOLD : Fld := ⟨0xf00010010, 28, 1, 0x9001#40⟩
def SUP_STATUS.RESET_NOW : Fld := ⟨0xf00010010, 23, 5, 0x9001#40⟩
def SUP_STATUS.WARN_NOW : Fld := ⟨0xf00010010, 18, 5, 0x9001#40⟩
def SUP_STATUS.LAST_CAUSE : Fld := ⟨0xf00010010, 13, 3, 0x9001#40⟩
def SUP_STATUS.IO_ON : Fld := ⟨0xf00010010, 12, 1, 0x9001#40⟩
def SUP_STATUS.DRAM_ON : Fld := ⟨0xf00010010, 11, 1, 0x9001#40⟩
def SUP_STATUS.CORE_ON : Fld := ⟨0xf00010010, 10, 1, 0x9001#40⟩
def SUP_STATUS.SR_HOLD : Fld := ⟨0xf00010010, 9, 1, 0x9001#40⟩
def SUP_STATUS.STATE : Fld := ⟨0xf00010010, 0, 3, 0x9001#40⟩

/-- SUP_INT: R698, 21_power_supply.md. -/
def SUP_INT : RegDef := ⟨"SUP_INT", .sup, 0xf00010018, [], 0x0#40,
  [⟨"OV", 20, 20, .w1c⟩, ⟨"WAKE_HELD", 19, 19, .w1c⟩, ⟨"WAKE", 18, 18, .w1c⟩, ⟨"REFUSED", 17, 17, .w1c⟩, ⟨"DONE", 16, 16, .w1c⟩, ⟨"REQ", 15, 15, .w1c⟩, ⟨"RST", 14, 10, .w1c⟩, ⟨"CLEAR", 9, 5, .w1c⟩, ⟨"WARN", 4, 0, .w1c⟩]⟩
def SUP_INT.OV : Fld := ⟨0xf00010018, 20, 1, 0x0#40⟩
def SUP_INT.WAKE_HELD : Fld := ⟨0xf00010018, 19, 1, 0x0#40⟩
def SUP_INT.WAKE : Fld := ⟨0xf00010018, 18, 1, 0x0#40⟩
def SUP_INT.REFUSED : Fld := ⟨0xf00010018, 17, 1, 0x0#40⟩
def SUP_INT.DONE : Fld := ⟨0xf00010018, 16, 1, 0x0#40⟩
def SUP_INT.REQ : Fld := ⟨0xf00010018, 15, 1, 0x0#40⟩
def SUP_INT.RST : Fld := ⟨0xf00010018, 10, 5, 0x0#40⟩
def SUP_INT.CLEAR : Fld := ⟨0xf00010018, 5, 5, 0x0#40⟩
def SUP_INT.WARN : Fld := ⟨0xf00010018, 0, 5, 0x0#40⟩

/-- SUP_INTEN: R698, 21_power_supply.md. -/
def SUP_INTEN : RegDef := ⟨"SUP_INTEN", .sup, 0xf00010020, [], 0x0#40,
  [⟨"EN", 20, 0, .rw⟩]⟩
def SUP_INTEN.EN : Fld := ⟨0xf00010020, 0, 21, 0x0#40⟩

/-- SUP_WAKE: R698, 21_power_supply.md. -/
def SUP_WAKE : RegDef := ⟨"SUP_WAKE", .sup, 0xf00010028, [], 0x5#40,
  [⟨"HOURS", 23, 8, .ro⟩, ⟨"HELD", 4, 4, .ro⟩, ⟨"LEVEL", 3, 3, .ro⟩, ⟨"EN", 2, 2, .rw⟩, ⟨"TARGET", 1, 0, .rw⟩]⟩
def SUP_WAKE.HOURS : Fld := ⟨0xf00010028, 8, 16, 0x5#40⟩
def SUP_WAKE.HELD : Fld := ⟨0xf00010028, 4, 1, 0x5#40⟩
def SUP_WAKE.LEVEL : Fld := ⟨0xf00010028, 3, 1, 0x5#40⟩
def SUP_WAKE.EN : Fld := ⟨0xf00010028, 2, 1, 0x5#40⟩
def SUP_WAKE.TARGET : Fld := ⟨0xf00010028, 0, 2, 0x5#40⟩

/-- SUP_CNT: R698, 21_power_supply.md. -/
def SUP_CNT : RegDef := ⟨"SUP_CNT", .sup, 0xf00010030, [], 0x0#40,
  [⟨"WAKES", 39, 30, .ro⟩, ⟨"RESETS", 29, 20, .ro⟩, ⟨"WARNS", 19, 0, .ro⟩]⟩
def SUP_CNT.WAKES : Fld := ⟨0xf00010030, 30, 10, 0x0#40⟩
def SUP_CNT.RESETS : Fld := ⟨0xf00010030, 20, 10, 0x0#40⟩
def SUP_CNT.WARNS : Fld := ⟨0xf00010030, 0, 20, 0x0#40⟩

/-- SUP_RAIL: R698, 21_power_supply.md. -/
def SUP_RAIL : RegDef := ⟨"SUP_RAIL", .sup, 0xf00010100, [(5, 0x8)], 0xffff0000#40,
  [⟨"CLR_MIN", 32, 32, .wo⟩, ⟨"MIN_MV", 31, 16, .ro⟩, ⟨"MV", 15, 0, .ro⟩]⟩
def SUP_RAIL.MIN_MV (r : Nat) : Fld := ⟨0xf00010100 + 0x8 * r, 16, 16, 0xffff0000#40⟩
def SUP_RAIL.MV (r : Nat) : Fld := ⟨0xf00010100 + 0x8 * r, 0, 16, 0xffff0000#40⟩

/-- The registers of this file, for the decoding of an address (R15). -/
def regsOutsideTable : List RegDef :=
  [PCE_CTRL, PCE_STATUS, PCE_ID, PCE_DSN_L, PCE_DSN_H, PCE_ASPM, PCE_XROM, PCE_FLR, PCE_ERR, PCE_INT, PCE_INTEN, NVQ_CTRL] ++
  [NVQ_STATUS, NVQ_CC, NVQ_CSTS, NVQ_ARB, NVQ_COAL, NVQ_INT, NVQ_INTEN, NVQ_CNT, NVQ_POST_BASE, NVQ_POST_PTR, NVQ_CR_BASE, NVQ_CR_PTR] ++
  [NVQ_SQ, NVQ_SQ_PTR, NVQ_SQ_ADDR, NVQ_CQ, NVQ_CQ_PTR, NVQ_CQ_ADDR, FNI_CTRL, FNI_STATUS, FNI_ERR, FNI_EVQ, FNI_INT, FNI_INTEN] ++
  [ODE_REQ, ODE_CNT, ODE_INT, ODE_INTEN, CIP_CTRL, CIP_STATUS, CIP_ST, CIP_PST, CIP_ERR, CIP_SLOT, CIP_RLOCK, CIP_WLOCK] ++
  [CIP_CH_CTX, CIP_UNLK, CIP_UNLK_NONCE, CIP_RNG, CIP_CNT, CIP_INT, CIP_INTEN, FLT_CTRL, FLT_STATUS, FLT_CFG, FLT_FIRST, FLT_FIRST_TICK] ++
  [FLT_LAST, FLT_LAST_TICK, FLT_ACTIVE, FLT_LINECNT, FLT_CNT, FLT_INJECT, FLT_SRC, FLT_DEP, EVR_CTRL, EVR_STATUS, EVR_SEQ, EVR_MIRROR] ++
  [EVR_MIRROR_LVL, EVR_CNT, EVR_POSTA, EVR_POSTB, EVR_INT, EVR_INTEN, SUP_CTRL, SUP_REQ, SUP_STATUS, SUP_INT, SUP_INTEN, SUP_WAKE] ++
  [SUP_CNT, SUP_RAIL]

end Sys2Proof.Machine
end

