-- ==== Sys2Proof/Machine/State.lean ====
section
/-! DEFINITION. The state of the block as plain data, and the state after reset. -/

namespace Sys2Proof.Machine

/-- Why a command stops the model. The spec gives every command of the block an effect, so no meaning raises one. -/
inductive Fault where
  /-- Kept for a command whose operands `Instr.wellFormed` refuses; no meaning raises it; safe. -/
  | illFormed
  deriving DecidableEq, Repr

/-- Why a command has no meaning. -/
inductive Refusal where
  /-- Raised by the dispatch for a command whose meaning is not written; safe. -/
  | notModelled (mnemonic : String)
  deriving DecidableEq, Repr

/-- The answer a master gets to its last access (R15, R16, R35, R41). -/
inductive Resp where
  | none
  | ok
  | data (v : Word)
  | row (v : BitVec 64) (poison : Bool)
  | uncorrectable
  | decodeError
  | busError
  deriving DecidableEq, Repr

/-- What power domain of R33 is powered. -/
structure Power where
  alwaysOn : Bool := true
  retention : Bool := true
  core : Bool := true
  analog : Bool := true
  dramPhy : Bool := true
  pciePhy : Bool := true
  io : Bool := true
  deriving DecidableEq, Repr

/-- A record handed to EVR and not yet written (R663, R667). -/
structure EvRec where
  ty : Nat
  ver : Nat := 1
  origin : Nat := 0
  flags : Nat := 0
  payload : List Byte := []
  deriving DecidableEq, Repr

/-- What PSLn holds beside its registers (R164 to R170). -/
structure PslLink where
  /-- A negotiation waits for the preamp's HELLO. -/
  waitHello : Bool := false
  /-- HELLO frames sent in this negotiation. -/
  attempts : Nat := 0
  /-- A keepalive waits for its STATUS. -/
  kaWaiting : Bool := false
  /-- Keepalives unanswered in a row. -/
  unanswered : Nat := 0
  /-- Frames received in a row with CRC or SOF errors. -/
  badRow : Nat := 0
  /-- Gate-off echoes missing in a row. -/
  gateMiss : Nat := 0
  /-- Ticks of the automatic renegotiations. -/
  renegs : List Nat := []
  /-- The four timed-frame comparators: start tick and frame (R167). -/
  wg : Option (Nat × Nat) := none
  rg0 : Option (Nat × Nat) := none
  rg1 : Option (Nat × Nat) := none
  sel : Option (Nat × Nat) := none
  /-- Timed frames that wait for their comparator (0 WG, 1 RG0, 2 RG1, 3 SEL): comparator, tick, frame (R389). -/
  queue : List (Nat × Nat × Nat) := []
  /-- The tick from which PSLn_DO is free for a frame. -/
  lineFree : Nat := 0
  /-- The frames put on PSLn_DO, oldest first. -/
  sent : List Nat := []
  /-- Timed frames whose ECHO is awaited, oldest first, with whether the frame was resent (R170). -/
  echoes : List (Nat × Bool) := []
  /-- The frame of the pending command of PSL_CMD. -/
  cmd : Option Nat := none
  deriving DecidableEq, Repr

/-- The recording of a fragment in progress on DCn (R188 to R191). -/
structure RingRec where
  /-- The ring slot, or none for a fragment without a record. -/
  slot : Option Nat := none
  frag : Nat := 0
  /-- MEMBER, with 62 for P0 and 63 for P1, and GROUP_K of its group (R88). -/
  member : Nat := 0
  groupK : Nat := 0
  /-- The line-rate engine that took it (R209). -/
  engine : Option Nat := none
  /-- The capture count of R214. -/
  seq : Nat := 0
  pieces : List Piece := []
  /-- SYNC, SYNC1_END, SYNC2_END, CODED0, SYNC2_FREQ and SYNC2_PHASE of the header. -/
  sync : Nat := 0
  sync1 : Nat := 0xFFFFFFFF
  sync2 : Nat := 0xFFFFFFFF
  coded0 : Nat := 0xFFFFFFFF
  freq2 : Nat := 0
  phase2 : Nat := 0
  /-- LOOP0 as 12 bytes. -/
  loop0 : List Byte := []
  /-- Frozen intervals: start, length, type. -/
  defects : List (Nat × Nat × Nat) := []
  defOverflow : Bool := false
  /-- The fragment is reported as not read. -/
  notRead : Bool := false
  /-- Samples were dropped from the detector FIFO (R56). -/
  notDecoded : Bool := false
  /-- R186 sends the slot to HELD. -/
  toHeld : Bool := false
  deriving DecidableEq, Repr

/-- A front-end calibration routine that runs (R194 to R196). -/
structure DcCalRun where
  routine : Nat
  /-- The register words of DC_VGA and DC_TRIM at START. -/
  vga : BitVec 40
  trim : BitVec 40
  attempted : Nat := 0
  captured : Nat := 0
  frozen : Nat := 0
  recorded : Nat := 0
  deriving DecidableEq, Repr

/-- An open bank of the group accumulator (R216, R229), with the media-class channel of its track program. -/
structure AccBank where
  chan : Nat := 8
  gsr : Nat
  groupK : Nat
  first : Nat
  present : Nat := 0
  suspect : Nat := 0
  s0 : List Nat := []
  s1 : List Nat := []
  deriving DecidableEq, Repr

/-- A delivery of the checker that a media-class channel has not yet taken (R212). -/
structure Delivery where
  record : List Byte
  user : List Byte
  poisonMap : Nat
  deriving DecidableEq, Repr

/-- What DCn holds beside its registers. -/
structure DcChan where
  rcd : Option RingRec := none
  /-- Fragments captured since core power-on (SEQ of R189). -/
  seq : Nat := 0
  /-- A defect freeze in progress: start sample and type (R183). -/
  freeze : Option (Nat × Nat) := none
  cal : Option DcCalRun := none
  /-- A BIT_RATE written while the read gate is on (R177). -/
  ratePending : Option Nat := none
  /-- Fragments recorded and not yet delivered, in slot order (R212). -/
  waiting : List RingRec := []
  acc : Vector (Option AccBank) 2 := .replicate 2 none
  deliveries : List Delivery := []
  deriving DecidableEq, Repr

/-- A slot of a write track program whose record is not yet written (R261). -/
structure WpSlot where
  frag : Nat
  member : Nat := 0
  flags : Nat := 0
  lba : Nat := 0
  nsid : Nat := 0
  buf : Nat := 0
  /-- The descriptor's ENCRYPTED, KEY_SLOT, ZONE_GEN and KIND, for a rewrite of the slot (R394). -/
  enc : Bool := false
  key : Nat := 0xFF
  zgen : Nat := 0
  kind : Nat := 0
  /-- The slot's first piece has started; its last bit has passed. -/
  started : Bool := false
  ended : Bool := false
  verified : Bool := false
  /-- The PES of the closing wedge of its last piece has been checked. -/
  closed : Bool := false
  /-- The flag or void result so far. -/
  res : Option Nat := none
  synd : Nat := 0xFFFF
  sync : Nat := 0
  deriving DecidableEq, Repr

/-- A fragment that a media-class channel has handed to WPn: ciphertext and the descriptor's tag fields (R237). -/
structure Handed where
  user : List Byte
  kind : Nat := 0
  encrypted : Bool := true
  rewrite : Bool := false
  nsid : Nat := 1
  keySlot : Nat := 0
  lba : Nat := 0
  zoneGen : Nat := 0
  poisonMap : Nat := 0
  buf : Nat := 0
  deriving DecidableEq, Repr

/-- A filled staging bank (R238), with the information word whose fold is pending (R241). -/
structure Staged where
  frag : Nat
  member : Nat
  groupK : Nat
  word : List Byte
  framed : List Byte
  deriving DecidableEq, Repr

/-- An accumulator bank of WPn: its journal entry, its group, and the two sums over the members entered (R241). -/
structure WAcc where
  entry : Nat
  first : Nat
  groupK : Nat
  members : Nat := 0
  s0 : List Nat := []
  s1 : List Nat := []
  deriving DecidableEq, Repr

/-- What a parity journal entry says of itself (R92). -/
structure JEntry where
  first : Nat
  groupK : Nat
  members : Nat
  bank : Nat
  seq : Nat
  s0 : List Nat
  s1 : List Nat
  deriving DecidableEq, Repr

/-- An assist calibration that runs (R253). -/
structure WpCalRun where
  t : Int
  trimMin : Int
  trimMax : Int
  step : Nat
  oldTrim : Nat
  best : Option (Int × Nat × Nat) := none
  deriving DecidableEq, Repr

/-- What WPn holds beside its registers. -/
structure WpPath where
  /-- The media-class channel of its track program (R236). -/
  chan : Nat := 8
  inbox : List Handed := []
  banks : Vector (Option Staged) 2 := .replicate 2 none
  acc : Vector (Option WAcc) 2 := .replicate 2 none
  /-- Durability points that wait for the journal write in progress. -/
  journalWaits : List (Fin 2) := []
  /-- Flagged slots whose rewrite FMSn has not supplied, oldest first (R258). -/
  flagged : List WpSlot := []
  /-- Rewrites that FMSn has supplied to the channel and the channel has not handed over (R394). -/
  owed : List WpSlot := []
  /-- The opening wedge of the present field is out of limit; fields inhibited in a row (R250). -/
  pesBad : Bool := false
  pesRow : Nat := 0
  cal : Option WpCalRun := none
  /-- A supply warning or a function-level reset ends the write behind the fragment in progress (R94). -/
  finishing : Bool := false
  /-- Slot records written since core power-on (R261). -/
  seq : Nat := 0
  /-- Slots without their record, in slot order. -/
  slots : List WpSlot := []
  deriving DecidableEq, Repr

/-- An open track program (R386 to R390). -/
structure TrackProg where
  /-- The address of its TPD, and the TPD's 64 bytes. -/
  tpdAddr : Nat
  tpd : List Byte
  /-- A stop cause is present. -/
  stop : Bool := false
  /-- The addresses of the plan headers of TRACK0 and TRACK1 (R387). -/
  plan0 : Nat := 0
  plan1 : Nat := 0
  /-- STEP has prepared the field of the first piece; it has prepared that of the last (R389). -/
  begun : Bool := false
  finished : Bool := false
  deriving DecidableEq, Repr

/-- A copy of a HELD ring slot handed to the channel (R391, R392): channel of the half, ring slot and its SEQ, the buffer's
address, the program's TPD, and whether the transfer has completed. -/
structure RingCopy where
  chan : Nat
  slot : Nat
  seq : Nat
  frag : Nat
  buf : Nat
  tpd : List Byte
  plan : Nat
  done : Bool := false
  deriving DecidableEq, Repr

/-- What FMSn holds beside its registers (R369 to R385). -/
structure FmsSeq where
  prog : Option TrackProg := none
  /-- Events latched and not yet consumed, by their COND code (R378). -/
  events : List Nat := []
  /-- Quarters of the control store written since power-on, by 4 w + q: 32 bits and the parity bit above them (R370). -/
  store : List (Nat × BitVec 33) := []
  stack : List Nat := []
  lc : Vector (BitVec 16) 4 := .replicate 4 0
  flags : BitVec 8 := 0
  /-- Condition TIMEOUT holds. -/
  timeout : Bool := false
  /-- The word that was issued and has not completed. -/
  word : Option (BitVec 128) := none
  /-- The stack depth after the push of the interrupt being served. -/
  irqDepth : Nat := 0
  haltReq : Bool := false
  copies : List RingCopy := []
  deriving DecidableEq, Repr

/-- What SVDn holds beside its registers (R271 to R278). -/
structure SvdDemod where
  /-- The last stamp, measured or predicted, and whether it was predicted. -/
  last : Nat := 0
  predicted : Bool := false
  /-- The last measured stamp, and the wedges since it. -/
  lastMeas : Nat := 0
  span : Nat := 0
  /-- The intervals of the mean in 1/65,536 tk, newest first, at most 16. -/
  ivals : List Nat := []
  /-- SAMs of the acquisition so far. -/
  acq : Nat := 0
  index : Nat := 0
  /-- By how much the last accepted index differed from expectation. -/
  diff : Option Nat := none
  /-- The last two valid positions, newest first. -/
  hist : List Nat := []
  /-- Consecutive measured wedges while LOCKED. -/
  lockedRun : Nat := 0
  /-- Wedges left with the window of R275, and whether one of them gave a SAM. -/
  swLeft : Nat := 0
  swFound : Bool := false
  /-- The record of the present wedge is latched (R291). -/
  latched : Bool := false
  deriving DecidableEq, Repr

/-- What ADLn holds beside its registers (R318 to R324). -/
structure AdlLink where
  /-- A negotiation waits for the companion's HELLO; HELLO frames sent in it. -/
  waitHello : Bool := false
  attempts : Nat := 0
  /-- A STATUS_RQ waits for its REPORT; unanswered in a row. -/
  rqWaiting : Bool := false
  rqRow : Nat := 0
  /-- SEQ of the COMMAND frames sent while ACTIVE without their REPORT, oldest first; missing in a row. -/
  awaiting : List Nat := []
  repRow : Nat := 0
  /-- Frames received in a row with a wrong SOF or CRC. -/
  badRow : Nat := 0
  /-- Ticks of the automatic renegotiations. -/
  renegs : List Nat := []
  /-- The frames put on ADLn_D1 and ADLn_D0, oldest first. -/
  sent : List Nat := []
  /-- Untimed frames that wait for the next release (R322). -/
  queue : List Nat := []
  /-- The frame of the pending command of ADL_CMD, and its sends. -/
  cmd : Option Nat := none
  tries : Nat := 0
  deriving DecidableEq, Repr

/-- A seek as SEEK_ARM copied it (R308). -/
structure SeekRun where
  start : Nat
  length : Int
  points : Nat
  base : Nat
  ff : Nat
  i : Nat := 0
  started : Bool := false
  deriving DecidableEq, Repr

/-- A command of CLE_ACT_CMD (R306). -/
structure ActCmd where
  index : Nat
  head0 : Nat
  head1 : Nat
  slot1 : Bool
  pflags : Nat
  seek : Option SeekRun := none
  deriving DecidableEq, Repr

/-- What the CLE holds for one owner: actuator 0, actuator 1 or the spindle (R290, R299 to R301, R309). -/
structure CleOwner where
  /-- The release comparator. -/
  cmp : Option Nat := none
  /-- The tick at which the outputs of this frame reached the holding register. -/
  held : Option Nat := none
  /-- The output ports O0 to O2, and the ones last released. -/
  out : Vector (BitVec 16) 3 := .replicate 3 0
  released : Vector (BitVec 16) 3 := .replicate 3 0
  /-- Frames since the last program switch; the frame after a program switch and a bank switch. -/
  since : Nat := 0
  first : Bool := true
  newBank : Bool := false
  deriving DecidableEq, Repr

/-- The program that runs: its owner and directory slot, its coefficient set, W0 to W7, its snapshot of ports and flags,
and the index of its next operation (R293, R296). -/
structure CleRun where
  owner : Fin 3 := 2
  slot : Nat := 0
  coeff : Nat := 0
  w : Vector (BitVec 40) 8 := .replicate 8 0
  ports : List Int := []
  flags : Nat := 0
  op : Nat := 0
  deriving DecidableEq, Repr

/-- What the CLE holds beside its registers, banks and state memory. -/
structure CleEngine where
  owners : Vector CleOwner 3 := .replicate 3 {}
  cmd : Vector (Option ActCmd) 2 := .replicate 2 none
  pflags : Vector Nat 2 := .replicate 2 0
  seek : Vector (Option SeekRun) 2 := .replicate 2 none
  start : Vector Nat 2 := .replicate 2 0
  fresh : Vector Bool 2 := .replicate 2 false
  /-- The INDEX of CLE_SPM_CMD waits for a frame. -/
  spmCmd : Bool := false
  /-- The stamp of the frame's event; the frame has not started; it is a beat frame. -/
  base : Nat := 0
  due : Bool := false
  beatFrame : Bool := false
  /-- The beat interval contains a change of source; no demodulator was locked before it. -/
  change : Bool := false
  lockFirst : Bool := false
  run : CleRun := {}
  checking : Bool := false
  deriving DecidableEq, Repr

/-- What SPM holds beside its registers and parameter banks. -/
structure SpmDrive where
  /-- A RUN is held pending (R348, R366). -/
  runHeld : Bool := false
  /-- BRAKE goes on to IPS (R349); COAST is followed by another start (R352); COAST waits for the next period (R366). -/
  toIps : Bool := false
  restart : Bool := false
  coastReq : Bool := false
  senseTries : Nat := 0
  /-- Crossings of this sensing, oldest first: tick and code 0 to 5 in the order of R349. -/
  crossings : List (Nat × Nat) := []
  /-- A caught rotor enters RUN_EST at the next period: angle, speed in rpm, its stamp. -/
  caught : Option (Nat × Nat × Nat) := none
  /-- The frame is the first after a catch, and I7 of R351. -/
  catchFrame : Bool := false
  vqff : Int := 0
  /-- Failed sensings of this start. -/
  ipsFails : Nat := 0
  /-- The period: its start, its length P in tk, and whether a beat started it; the start of the one before. -/
  start : Nat := 0
  len : Nat := 2500
  prevStart : Nat := 0
  beat : Bool := false
  /-- The last beat stamp. -/
  lastBeat : Option Nat := none
  /-- The electrical angle at the period start, and its advance over the period, in 1/65,536 of an angle unit. -/
  theta : Nat := 0
  step : Int := 0
  /-- The grade that w_ref makes for. -/
  goal : Nat := 0
  /-- The open-loop speed and w_ref, in 1/16 rpm times 10^8, and the last step of w_ref. -/
  olSpeed : Nat := 0
  ref : Nat := 0
  refStep : Int := 0
  /-- The estimator: angle, speed in 1/16 rpm, and the run of periods within tan 10 degrees (R338). -/
  estTheta : Nat := 0
  estOmega : Int := 0
  estRun : Nat := 0
  /-- Runs of R356, R336 and R342. -/
  okRun : Nat := 0
  outRun : Nat := 0
  angleRun : Nat := 0
  ocRun : Nat := 0
  /-- vd, vq released and not yet applied (R332); the edges of the three high switches in tk from the start (R331). -/
  released : BitVec 16 × BitVec 16 := (0, 0)
  edges : List (Nat × Nat) := []
  /-- The edges computed for the next period, with whether its single-shunt set is valid. -/
  nextEdges : List (Nat × Nat) := []
  nextValid : Bool := true
  shuntValid : Bool := true
  /-- The latest valid sample set and its period's start (R342). -/
  id : BitVec 16 := 0
  iq : BitVec 16 := 0
  setStart : Option Nat := none
  /-- Current-offset calibration: the BEMF comparators changed. -/
  calMoved : Bool := false
  /-- A grade change waits to request its bank switch (R359). -/
  switchWanted : Bool := false
  /-- An activation request of R147 waits for its bank switch. -/
  activate : Bool := false
  /-- Bytes moved by host channels 0 to 7 in each of the last ten 100 ms, newest first, and the count since (R358). -/
  moved : List Nat := []
  movedNow : Nat := 0
  /-- The curve threshold that holds: up or down. -/
  dwellUp : Option Bool := none
  deriving DecidableEq, Repr

/-- A section of a schedule image: its 24-byte directory entry and its body (R120). -/
structure ImageSec where
  entry : List Byte
  body : List Byte
  deriving DecidableEq, Repr

/-- A schedule image: its 128-byte header, its sections in directory order, and the GENERATION of the manifest copy that holds it
(R118, R119); `raw` is the byte string it came in. -/
structure ImageInfo where
  raw : List Byte := []
  hdr : List Byte := []
  secs : List ImageSec := []
  generation : Nat := 0
  deriving DecidableEq, Repr

def ImageInfo.fmtVer (i : ImageInfo) : Nat := leAt i.hdr 4 2
def ImageInfo.headsMask (i : ImageInfo) : Nat := leAt i.hdr 20 4
def ImageInfo.serial (i : ImageInfo) : Nat := leAt i.hdr 24 8

/-- What the install service holds (R148 to R153): the staging area in DRAM, the status, section index and record index of the last
request, the image whose commit runs, with its bytes, whether FORCE applies, the origin of the request and whether its activation
follows, and whether an activation is pending. -/
structure RcpUnit where
  staged : List Byte := []
  status : Nat := 0
  section_ : Nat := 0xFFFF
  record : Nat := 0
  commit : Option (ImageInfo × Bool × Nat × Bool) := none
  activate : Bool := false
  deriving DecidableEq, Repr

/-- The media manifest (R114, R709): the three copy slots as last read or written, header and body, and the identity binding records
read with them, empty for none; the GENERATION of the selected copy, and the image committed in it. -/
structure ManUnit where
  copies : Vector (List Byte) 3 := .replicate 3 []
  ids : Vector (List Byte) 3 := .replicate 3 []
  generation : Nat := 0
  committed : Option ImageInfo := none
  deriving DecidableEq, Repr

/-- A zone of the zoned namespaces: its state code of the Zoned command set, write pointer and reset generation. -/
structure Zone where
  state : Nat := 1
  wp : Nat := 0
  gen : Nat := 0
  deriving DecidableEq, Repr

/-- What a row of 73 bits holds beside its data: the poison bit, and the bits in which it differs from the encoding of its
data, as a mask over D, C and P (R397, R398). -/
structure RowMeta where
  poison : Bool := false
  flip : Nat := 0
  deriving DecidableEq, Repr

/-- A scrubber's walk over one memory: the next group, the tick at which the lap began, the tick of the last group, and the
correctable errors of the memory in the lap (R412, R415). -/
structure Scrub where
  pos : Nat := 0
  start : Nat := 0
  last : Option Nat := none
  ce : Nat := 0
  deriving DecidableEq, Repr

/-- What the memories and their controllers hold beside registers and bytes: the rows of the SRAMs, the MRAM and the ROM by
address / 8, the symbols of DRAM blocks that differ from their codeword by address / 64 as a mask of 576 bits, the walks over
main SRAM, pantry SRAM, DRAM and MRAM, the running fill, a bring-up that runs (true for a retained one), a request for
self-refresh, and the mode register commands issued. -/
structure MemUnits where
  rows : List (Nat × RowMeta) := []
  blocks : List (Nat × Nat) := []
  scrubs : Vector Scrub 4 := .replicate 4 {}
  fill : Option (Nat × Nat × Nat) := none
  bringup : Option Bool := none
  srWait : Bool := false
  mrw : List (BitVec 40) := []
  deriving DecidableEq, Repr

/-- What EVR holds beside its queue and registers: the last record written with its ring offset (R667), and the tick at which
DONE_OFS last moved (R670). -/
structure EvrUnit where
  last : Option (Nat × EvRec) := none
  doneAt : Nat := 0
  deriving DecidableEq, Repr

/-- An open root of R657: the secondaries it has covered, and the sources that have their FAULT_SECONDARY record. -/
structure FltRoot where
  total : Nat := 0
  recorded : List Nat := []
  deriving DecidableEq, Repr

/-- What FLT holds beside its registers: for each source the tick of its last classification or of the fall of its condition, the
open roots, the tick of the last primary at severity 3 or more and of the start of the fault state, and the source and tick of a
severity-5 classification whose reset is due (R653 to R658). -/
structure FltUnit where
  last : List (Nat × Nat) := []
  roots : List (Nat × FltRoot) := []
  quiet : Nat := 0
  since : Nat := 0
  reset5 : Option (Nat × Nat) := none
  deriving DecidableEq, Repr

/-- One data element of a gather list: its address, its length and the hop it came with (R492). -/
structure DmaElem where
  addr : Nat
  len : Nat
  hop : Nat
  deriving DecidableEq, Repr

/-- A failure of one access of a channel: KIND and SOURCE of the fault record, the failing address, and the tries less 1 (R501,
R502). -/
structure DmaErr where
  kind : Nat
  source : Nat
  addr : Nat
  tries : Nat := 0
  deriving DecidableEq, Repr

/-- How the elements read so far end: with the list, or with a failure met in the list at `list` with `left` elements after `hop`
hops. -/
inductive DmaTail where
  | fin
  | bad (e : DmaErr) (list left hop : Nat)
  deriving DecidableEq, Repr

/-- A descriptor in progress: its address, its 32 bytes, the data elements that remain, what ends them, the ordinal of the current
element and its bytes moved, the bytes of earlier elements, the hops of the element, and, once nothing remains to move, the STATUS
and DONE to write back. -/
structure DmaDesc where
  addr : Nat
  raw : List Byte
  elems : List DmaElem := []
  tail : DmaTail := .fin
  ord : Nat := 1
  cur : Nat := 0
  done : Nat := 0
  hops : Nat := 0
  finish : Option (Nat × Nat) := none
  deriving DecidableEq, Repr

/-- Where a fault met its channel, which says what RESUME and SKIP do (R503, R510): at a data element; at the fetch access of a
descriptor; at its write-back; in an internal transfer of a unit (0 ring copy, 1 group record, 2 slot record); or where the
descriptor is fetched again. -/
inductive DmaSite where
  | element
  | fetch
  | writeBack
  | internal (unit : Nat)
  | refetch
  deriving DecidableEq, Repr

/-- A host-class read whose completion is awaited: its host address, length, local address and tries (R491, R528). -/
structure HostRead where
  addr : Nat
  len : Nat
  local_ : Nat
  tries : Nat := 0
  deriving DecidableEq, Repr

/-- What a DMA channel holds beside its registers: its state of R487 apart from DMA_CTRL.ENABLE, its descriptor, the place of its
fault, whether Bus Master Enable cleared in its descriptor, whether it waits for a TAIL write, its read toward the host, and the
reads in flight whose data is to be discarded. -/
structure DmaChan where
  st : Nat := 0
  desc : Option DmaDesc := none
  site : Option DmaSite := none
  hostCut : Bool := false
  asleep : Bool := false
  read : Option HostRead := none
  stale : Nat := 0
  deriving DecidableEq, Repr

/-- A translation held in a translation cache: its ASID, the page's first virtual page number and whether it is a 2 MiB page, and
the leaf entry (R446, R450, R498). -/
structure Xlat where
  asid : Nat
  vpn : Nat
  big : Bool
  leaf : BitVec 40
  deriving DecidableEq, Repr

/-- What the DMA engine holds: its channels, the channel last granted of each class, and its translation cache, oldest first. -/
structure DmaUnit where
  chan : Vector DmaChan 32 := .replicate 32 {}
  granted : Vector Nat 4 := .replicate 4 7
  xlat : List Xlat := []
  deriving DecidableEq, Repr

/-- The DRBG's working state: key, V, and the requests since the last seeding (R626). -/
structure Drbg where
  key : List Byte := []
  v : List Byte := []
  count : Nat := 0
  deriving DecidableEq, Repr

/-- An authority record of the key store (R628). -/
structure Authority where
  enabled : Bool := false
  salt : List Byte := []
  verifier : List Byte := []
  tries : Nat := 0
  limit : Nat := 0
  deriving DecidableEq, Repr

/-- A range record of the key store (R628): its geometry, the lock enables and states, LockOnReset, KEY_GEN, its media key, the
authorities whose KEK wraps a copy, and whether the default KEK wraps one (R627, R630). -/
structure RangeRec where
  geometry : List Byte := []
  readEnabled : Bool := false
  writeEnabled : Bool := false
  readLocked : Bool := false
  writeLocked : Bool := false
  lockOnReset : Bool := false
  gen : Nat := 0
  mek : List Byte := []
  copies : List Nat := []
  default : Bool := false
  deriving DecidableEq, Repr

/-- The key store region of the MRAM, which only CIP reaches (R616, R628), and the security version fuses (R616). -/
structure KeyStore where
  formatted : Bool := false
  auths : Vector Authority 38 := .replicate 38 {}
  ranges : Vector RangeRec 32 := .replicate 32 {}
  recipeKey : Option (List Byte) := none
  svnMin : Nat := 0
  /-- The retention key, and the slots whose blobs it wraps in pantry SRAM (R627, R631). -/
  retention : Option (List Byte) := none
  deriving DecidableEq, Repr

/-- What CIP holds beside its registers and the key store: the media keys in slots 0 to 31 and the management keys, the authorities
with a successful AUTH and those locked out since power-on, the DRBG, whether a run of the self-tests is the on-demand one, the next
core of the periodic test, the failed unlock attempts' end of refusal, and the unlock nonce. -/
structure CipUnit where
  slots : Vector (Option (List Byte)) 32 := .replicate 32 none
  mkeys : Vector (Option (List Byte)) 16 := .replicate 16 none
  authed : List Nat := []
  lockedOut : List Nat := []
  drbg : Drbg := {}
  retained : Bool := false
  pstNext : Nat := 0
  refuse : Option Nat := none
  nonce : List Byte := []
  deriving DecidableEq, Repr

/-- A posted write to host memory that the link layer has taken: its address, its data and whether the TLP is poisoned. -/
structure HostWrite where
  addr : Nat
  data : List Byte
  poison : Bool
  deriving DecidableEq, Repr

/-- What SUP holds beside its registers (R676 to R698, R730): the latched straps and whether they are latched, TEST_EN, the level of
PWR_EN_CORE, and whether the core domain is held in reset under R693. -/
structure SupUnit where
  slot : Nat := 0
  spingate : Bool := false
  strapped : Bool := false
  testEn : Bool := false
  pwrCore : Bool := true
  hold : Bool := false
  /-- The exit in progress: the state it leaves, its target and its cause (R683). -/
  exit : Option (Nat × Nat × Nat) := none
  /-- Whether the exit has raised PWR_EN_CORE, whether its rails have held, and whether a reset threshold was crossed in it: 0 no,
  1 crossed, 2 released (R683, R697). -/
  raised : Bool := false
  ready : Bool := false
  exitReset : Nat := 0
  /-- The cause of an entry to Deep Off that waits for EVR and ODE (R681). -/
  deepOff : Option Nat := none
  /-- A WAKE edge came during an entry (R688). -/
  wakeLater : Bool := false
  /-- The rails whose warning and reset levels are not armed yet (R691). -/
  unarmedWarn : List Nat := []
  unarmedReset : List Nat := []
  /-- VAUX has not yet cleared its reset level, and the cause of the start that follows (R694, R738). -/
  vauxLow : Bool := false
  coldCause : Nat := 4
  deriving DecidableEq, Repr

/-- What a Yomet-40 core holds beside the registers of its run control (R421, R431, R443, R450, R453): its general registers, PC and
control registers; whether it has halted under R440; whether its last instruction was a store (R436); the granule it has reserved;
its stores not yet performed, oldest first (R441); its translations, oldest first; and the lines in its L1 instruction and data
caches, oldest first, whose data is always that of memory or of the L2. -/
structure Core where
  regs : Vector Word 32 := .replicate 32 0
  pc : Word := 0
  status : Word := 2
  epc : Word := 0
  cause : Word := 0
  badaddr : Word := 0
  faultinfo : Word := 0
  evbase : Word := 0x1000
  ptbase : Word := 0
  asid : Word := 0
  scratch0 : Word := 0
  scratch1 : Word := 0
  halted : Bool := false
  shadow : Bool := false
  reserved : Option Nat := none
  stores : List (Nat × List Byte) := []
  tlb : List Xlat := []
  l1i : List Nat := []
  l1d : List Nat := []
  deriving DecidableEq, Repr

/-- YP at retention power-on (R466). -/
def Core.yp : Core := { evbase := 0x0020000000 }

/-- A line of the L2 or the victim cache: its address over 64, whether it is dirty, its data, and the rows that hold P = 1 or an
uncorrectable mark, as masks (R454, R455). -/
structure L2Line where
  line : Nat
  dirty : Bool
  data : List Byte
  poison : Nat := 0
  mark : Nat := 0
  deriving DecidableEq, Repr

/-- The L2: its valid lines by 16 × set + way, the victim cache, oldest first, and the lines whose prefetch is in a miss register
(R454 to R457). -/
structure L2 where
  ways : List (Nat × L2Line) := []
  victims : List L2Line := []
  misses : List Nat := []
  deriving DecidableEq, Repr

/-- What the boot ROM works on and leaves: the xSPI flash, whose unlisted bytes are erased (0xFF), the address and length of the image
last started, and whether Y0 stays in the recovery loop (R701, R705, R708). -/
structure BootUnit where
  flash : List (Nat × Byte) := []
  started : Option (Nat × Nat) := none
  recovery : Bool := false
  /-- The slot and the SVN of the image that runs (R642, R643). -/
  slot : Nat := 0
  svn : Nat := 0
  deriving DecidableEq, Repr

/-- What PCE answers to a request of the host: nothing, Configuration Request Retry Status, Unsupported Request, Completer Abort, a
completion without data, or data (R514, R519, R520, R529). -/
inductive HostReply where
  | none | crs | ur | ca | done
  | data (l : List Byte)
  deriving DecidableEq, Repr

/-- What PCE holds beside its registers (R516 to R537): the configuration dwords and MSI-X table dwords that differ from their reset
words, the PBA, whether the reset in progress is more than a function-level reset, the tick at which it began, the latency of the last
LTR message in µs, and the answer to the host's last request. -/
structure PcieUnit where
  cfg : List (Nat × BitVec 32) := []
  msix : List (Nat × BitVec 32) := []
  pba : List Nat := []
  hot : Bool := false
  ltr : Option Nat := none
  /-- Messages sent: the message code, and its payload. -/
  sent : List (Nat × Nat) := []
  reply : HostReply := .none
  deriving DecidableEq, Repr

/-- A command that NVQ has fetched and firmware has not completed: its SQ, its CID and its 64 bytes (R546). -/
structure NvmeCmd where
  sq : Nat
  cid : Nat
  raw : List Byte
  /-- Firmware has completed it; the post waits. -/
  done : Bool := false
  deriving DecidableEq, Repr

/-- What NVQ holds beside its registers: the host's CC, AQA, ASQ and ACQ; the commands fetched and not completed, oldest first; the
I/O submission queues in the order of their turns, the queue whose turn runs in each class with its commands taken, and the commands
that each weighted class has had in this round (R545); and for each vector the unannounced entries and the tick of the first (R549). -/
structure NvqUnit where
  cc : BitVec 32 := 0
  aqa : BitVec 32 := 0
  asq : BitVec 64 := 0
  acq : BitVec 64 := 0
  cmds : List NvmeCmd := []
  turns : List Nat := List.range' 1 64
  burst : Vector (Nat × Nat) 4 := .replicate 4 (0, 0)
  round : Vector Nat 3 := .replicate 3 0
  unannounced : List (Nat × (Nat × Nat)) := []
  deriving DecidableEq, Repr

/-- An entry of the Error Information log (R571, R575). -/
structure NvmeErr where
  sq : Nat
  cid : Nat
  status : Nat
  lba : Nat
  nsid : Nat
  deriving DecidableEq, Repr

/-- What firmware holds for the host: post entries that wait for room in the post ring (R577), the features set, by identifier and by
identifier and vector, the events that wait for an Asynchronous Event Request, the Error Information entries, newest first, and their
count, the firmware image downloaded, the power state last set and the last operational one, whether a sanitize runs and its status
log, the namespaces with a zone that changed, the namespace table in force, the active zones in the order last written with their
journal entries, and the media health counts of each head (R551 to R576). -/
structure NvmeUnit where
  waiting : List (List Byte) := []
  features : List (Nat × Nat) := []
  events : List Nat := []
  /-- The event types reported whose log page the host has not read since. -/
  masked : List Nat := []
  errors : List NvmeErr := []
  errorCount : Nat := 0
  image : List Byte := []
  ps : Nat := 0
  lastPs : Nat := 0
  /-- The tick at which the last sanitize ends, 0 for none, and its CDW10. -/
  sanitize : Nat := 0
  sanitized : Nat := 0
  changed : List (Nat × Nat) := []
  spaces : List (List Byte) := []
  active : List (Nat × Nat) := []
  cached : List (Nat × Nat) := []
  health : List (Nat × List Nat) := []
  deriving DecidableEq, Repr

/-- An open dictionary transfer (R590, R591): its other side and token, its entry, the MODE and version it began with, whether it
writes, its OFFSET and LENGTH, the bytes that have arrived or are to be sent, the CRC of a write, the next segment expected or
acknowledged, and the segments sent or received since the last SEG_ACK. -/
structure NdlXfer where
  src : Nat
  token : Nat
  write : Bool
  index : Nat
  sub : Nat
  mode : Nat
  offset : Nat
  length : Nat
  data : List Byte
  crc : Nat := 0
  next : Nat := 1
  run : Nat := 0
  deriving DecidableEq, Repr

/-- An episode of a shelf class (R598 to R600): the EVENT frames heard, whether its holdoff still runs, the payload that waits for
its end, whether a frame of it is queued, sent, or counted as sympathy, and its onsets. -/
structure Episode where
  cls : Nat
  heard : Nat := 0
  holdoff : Bool := true
  payload : Option (List Byte) := none
  sent : Bool := false
  counted : Bool := false
  deriving DecidableEq, Repr

/-- What FNI holds beside its registers: the LFSR (R585), the frames that wait for the bus and those sent, oldest first, each an
identifier and a payload; the HELLO answers and joins whose delay runs; the ticks of bus-off events (R581), of EVENT frames heard with
their class (R598); the listen-only of R583 and R584; whether the shelf controller's bitmap shares a version; the open transfers; the
episodes; and the state of the last HEARTBEAT with its tick (R593). -/
structure FniUnit where
  lfsr : BitVec 16 := 1
  queue : List (Nat × List Byte) := []
  sent : List (Nat × List Byte) := []
  /-- Each HELLO that waits for its delay: none for a join's, or the token of the HELLO it answers. -/
  hellos : List (Option Nat) := []
  busOffs : List Nat := []
  heard : List (Nat × Nat) := []
  listen : Bool := false
  xfers : List NdlXfer := []
  episodes : List Episode := []
  beat : List Nat := []
  beatAt : Option Nat := none
  /-- The delays drawn for the last HELLO and holdoff, in ms. -/
  delay : Nat := 0
  deriving DecidableEq, Repr

structure State where
  pending : List Instr := []
  variant1408 : Bool := false
  power : Power := {}
  tick : BitVec 64 := 0
  free : Nat := 0
  regs : List (Nat × BitVec 40) := []
  mem : List Host.Cell := []
  resp : Resp := .none
  raised : List Nat := []
  pulses : List Nat := []
  evrQueue : List EvRec := []
  opSeconds : Nat := 0
  psl : Vector PslLink 2 := .replicate 2 {}
  dc : Vector DcChan 4 := .replicate 4 {}
  wp : Vector WpPath 2 := .replicate 2 {}
  fms : Vector FmsSeq 2 := .replicate 2 {}
  svd : Vector SvdDemod 4 := .replicate 4 {}
  adl : Vector AdlLink 2 := .replicate 2 {}
  cle : CleEngine := {}
  spm : SpmDrive := {}
  memu : MemUnits := {}
  evr : EvrUnit := {}
  flt : FltUnit := {}
  dma : DmaUnit := {}
  cip : CipUnit := {}
  keys : KeyStore := {}
  sup : SupUnit := {}
  cores : Vector Core 5 := (Vector.replicate 5 {}).set 4 Core.yp
  l2 : L2 := {}
  hostOut : List HostWrite := []
  powerCycles : Nat := 0
  dieTemp : Int := 400
  manifest : Nat := 0
  dict : List (Nat × List Byte) := []
  locks : List Nat := []
  image : Option ImageInfo := none
  rcp : RcpUnit := {}
  man : ManUnit := {}
  boot : BootUnit := {}
  pce : PcieUnit := {}
  nvq : NvqUnit := {}
  nvme : NvmeUnit := {}
  fni : FniUnit := {}
  journal : List (Nat × JEntry) := []
  zones : List (Nat × Zone) := []
  deriving DecidableEq, Repr

/-- The machine right after reset. -/
def State.reset : State := {}

end Sys2Proof.Machine
end

