-- ==== Sys2Proof/Machine/Ops.lean ====
section
/-! DEFINITION. The named operations over State: registers and their fields, memory bytes, free values. -/

namespace Sys2Proof.Machine

/-- What an exec function answers. -/
abbrev Out := Host.Outcome State Fault Refusal

/-- The value listed at key `k`. -/
def kvFind {α : Type} : List (Nat × α) → Nat → Option α
  | [], _ => none
  | (j, v) :: r, k => if j = k then some v else kvFind r k

/-- The list without key `k`. -/
def kvErase {α : Type} : List (Nat × α) → Nat → List (Nat × α)
  | [], _ => []
  | (j, v) :: r, k => if j = k then kvErase r k else (j, v) :: kvErase r k

/-- The list, its keys rising, with `v` at key `k`. -/
def kvInsert {α : Type} : List (Nat × α) → Nat → α → List (Nat × α)
  | [], k, v => [(k, v)]
  | (j, u) :: r, k, v =>
    if k < j then (k, v) :: (j, u) :: r
    else if k = j then (k, v) :: r
    else (j, u) :: kvInsert r k v

/-- The word of the register at `addr`: its reset word where nothing else is listed (R13). -/
def State.regWord (s : State) (addr : Nat) (rst : BitVec 40) : BitVec 40 :=
  (kvFind s.regs addr).getD rst

/-- The word of a register replaced; a word equal to the reset word is not listed. -/
def State.setRegWord (s : State) (addr : Nat) (rst v : BitVec 40) : State :=
  { s with regs := if v = rst then kvErase s.regs addr else kvInsert s.regs addr v }

/-- A field of a register, as a number. -/
def State.get (s : State) (f : Fld) : Nat := bits (s.regWord f.addr f.rst).toNat f.lo f.len

/-- A one-bit field, as a truth value. -/
def State.bit (s : State) (f : Fld) : Bool := s.get f != 0

/-- A field of a register replaced by the low bits of `v`. -/
def State.set (s : State) (f : Fld) (v : Nat) : State :=
  s.setRegWord f.addr f.rst (BitVec.ofNat 40 (setBits (s.regWord f.addr f.rst).toNat f.lo f.len v))

/-- Whether an RWL field has been written since the reset of its block (R12). -/
def State.locked (s : State) (f : Fld) : Bool := s.locks.contains (64 * f.addr + f.lo)

/-- An RWL field written: the first write holds, later ones are ignored (R12). -/
def State.setOnce (s : State) (f : Fld) (v : Nat) : State :=
  if s.locked f then s else { s.set f v with locks := (64 * f.addr + f.lo) :: s.locks }

/-- A count field raised by `k`, stopping at its largest value. -/
def State.bump (s : State) (f : Fld) (k : Nat := 1) : State :=
  s.set f (satAdd (s.get f) k (2 ^ f.len - 1))

/-- A count field raised by `k`, modulo its width. -/
def State.wrapUp (s : State) (f : Fld) (k : Nat := 1) : State := s.set f (s.get f + k)

/-- Every field of the list set to 0. -/
def State.clearAll (s : State) : List Fld → State
  | [] => s
  | f :: r => (s.set f 0).clearAll r

/-- The same update for each element of a list, first to last. -/
def forEach {α : Type} (l : List α) (f : α → State → State) (s : State) : State :=
  l.foldl (fun s a => f a s) s

/-- The update only if the condition holds. -/
def State.when (s : State) (c : Bool) (f : State → State) : State := if c then f s else s

/-- One byte of memory; a byte that nothing has written reads 0. -/
def State.readByte (s : State) (a : Addr) : Byte := (kvFind s.mem a).getD 0

/-- One byte of memory written, the list staying in its canonical form. -/
def State.writeByte (s : State) (a : Addr) (b : Byte) : State :=
  { s with mem := if b = 0 then kvErase s.mem a else kvInsert s.mem a b }

/-- `n` bytes of memory from `a` up. -/
def State.readBytes (s : State) (a : Addr) : (n : Nat) → List Byte
  | 0 => []
  | n + 1 => s.readByte a :: s.readBytes (a + 1) n

/-- A list of bytes stored from `a` up, whatever the marks of their rows. -/
def State.writeRaw (s : State) (a : Addr) : List Byte → State
  | [] => s
  | b :: r => (s.writeByte a b).writeRaw (a + 1) r

/-- The rows and blocks that `n` bytes from `a` up touch are stored with valid check bits; a row written in part keeps its poison
bit (R399). -/
def State.clearMarks (s : State) (a n : Addr) : State :=
  { s with memu := { s.memu with
      rows := (s.memu.rows.map fun r =>
          if r.1 * 8 < a + n ∧ a < r.1 * 8 + 8 then
            (r.1, { poison := r.2.poison && !(decide (a ≤ r.1 * 8 ∧ r.1 * 8 + 8 ≤ a + n)), flip := 0 })
          else r).filter fun r => r.2 != {}
      blocks := s.memu.blocks.filter fun b => !(decide (b.1 * 64 < a + n ∧ a < b.1 * 64 + 64)) } }

/-- A unit's own write of a list of bytes from `a` up. -/
def State.writeBytes (s : State) (a : Addr) (l : List Byte) : State := (s.writeRaw a l).clearMarks a l.length

/-- A little-endian number of `n` bytes at `a`. -/
def State.readLE (s : State) (a n : Nat) : Nat := leNat (s.readBytes a n)

/-- A little-endian number of `n` bytes written at `a`. -/
def State.writeLE (s : State) (a n v : Nat) : State := s.writeBytes a (leBytes n v)

/-- `l` with the bytes `v` from offset `o` on. -/
def splice (l : List Byte) (o : Nat) (v : List Byte) : List Byte := l.take o ++ v ++ l.drop (o + v.length)

/-- The next free value, with the state that has used it. -/
def State.fresh (s : State) : Nat × State :=
  (Config.freeValue s.free, { s with free := s.free + 1 })

end Sys2Proof.Machine
end

