-- ==== Sys2Proof/Machine/Flags.lean ====
section
/-! DEFINITION. The flags and reports by which one unit tells another: fault sources, event records, interrupt pulses. -/

namespace Sys2Proof.Machine

/-- A unit raises source `k` of the fault collector; FAULT_CLASSIFY takes it from here (R649, R652). -/
def State.raise (s : State) (k : Nat) : State := { s with raised := s.raised ++ [k] }

/-- A pulse on the line of the edge source `k` of INTC; INTC_LINE_EVENT takes it from here (R470). -/
def State.pulse (s : State) (k : Nat) : State := { s with pulses := s.pulses ++ [k] }

/-- The record types that are dropped when they find the queue full (R667). -/
def evrDroppable (ty : Nat) : Bool := ty == 0x010 || ty == 0x012 || ty == 0x014 || ty == 0x001

/-- Whether a record is a LOST record of kind 0 (R664). -/
def EvRec.isLost (r : EvRec) : Bool := r.ty == 0x003 && leAt r.payload 4 1 == 0

/-- The LOST record of kind 0 counts one more drop; the first takes the entry kept apart for it (R667). -/
def evrCountLost : List EvRec → List EvRec
  | [] => [{ ty := 0x003, payload := leBytes 4 1 ++ leBytes 4 0 }]
  | r :: q =>
    if r.isLost then { r with payload := leBytes 4 (leAt r.payload 0 4 + 1) ++ leBytes 4 0 } :: q
    else r :: evrCountLost q

/-- A record is dropped and counted; the first drop raises source 104 (R667). -/
def State.evrDrop (s : State) : State :=
  let t := { s with evrQueue := evrCountLost s.evrQueue }
  ((t.bump EVR_CNT.DROPPED).set EVR_INT.DROPPED 1).when (!s.bit EVR_INT.DROPPED) (·.raise 104)

/-- The records of the queue other than the LOST record of drops. -/
def evrPlain (s : State) : Nat := (s.evrQueue.filter fun q => !q.isLost).length

/-- A record joins the queue of EVR. -/
def State.evrJoin (s : State) (r : EvRec) : State :=
  { s with evrQueue := s.evrQueue ++ [r] }.set EVR_STATUS.QUEUED (min 32 (evrPlain s + 1))

/-- A record enters the queue of EVR, or is dropped and counted where R667 says so. -/
def State.evrPush (s : State) (r : EvRec) : State :=
  if decide (32 ≤ evrPlain s) && evrDroppable r.ty then s.evrDrop else s.evrJoin r

/-- An event of type `ty` with its payload is handed to EVR for logging (R664); with the retention domain off
there is no EVR. -/
def State.log (s : State) (ty : Nat) (payload : List Byte) (origin : Nat := 0) (flags : Nat := 0) : State :=
  if s.power.retention then s.evrPush { ty := ty, payload := payload, origin := origin, flags := flags } else s

/-- A version change of link `link` (0x1020.0n) logs LINK with the old and the new version (R43, R664). -/
def State.logLink (s : State) (link old new : Nat) : State :=
  s.log 0x070 (leBytes 1 link ++ leBytes 1 old ++ leBytes 1 new ++ leBytes 1 0)

/-- Whether unit `n` of a block exists: units of the second half are fused off on the FQX-1408 (R2, R3). -/
def State.unitOn (s : State) (half : Nat) : Bool := s.power.core && (half == 0 || !s.variant1408)

/-- A unit of half `half` acts; where it is fused off or its domain is off, nothing happens (R3, R33). -/
def State.onHalf (s : State) (half : Nat) (f : State → State) : Out :=
  .next (if s.unitOn half then f s else s)

/-- A unit of the core domain acts (R33). -/
def State.onCore (s : State) (f : State → State) : Out := .next (if s.power.core then f s else s)

/-- A unit of the retention domain acts (R33). -/
def State.onRetention (s : State) (f : State → State) : Out := .next (if s.power.retention then f s else s)

/-- A unit of the always-on domain acts (R33). -/
def State.onAlways (s : State) (f : State → State) : Out := .next (if s.power.alwaysOn then f s else s)

end Sys2Proof.Machine
end

