-- ==== Sys2Proof/Machine/MediaOps.lean ====
section
/-! DEFINITION. The shared operations of the media side: stopping a write, reporting a piece as not read, stopping a
track program, and the state of the sample ring. -/

namespace Sys2Proof.Machine

/-- The base of the on-chip MRAM (R37). -/
def mramBase : Addr := 0x0030000000

def State.modPsl (s : State) (n : Fin 2) (f : PslLink → PslLink) : State :=
  { s with psl := s.psl.set n (f s.psl[n]) }

def State.modDc (s : State) (c : Fin 4) (f : DcChan → DcChan) : State :=
  { s with dc := s.dc.set c (f s.dc[c]) }

def State.modWp (s : State) (n : Fin 2) (f : WpPath → WpPath) : State :=
  { s with wp := s.wp.set n (f s.wp[n]) }

def State.modFms (s : State) (n : Fin 2) (f : FmsSeq → FmsSeq) : State :=
  { s with fms := s.fms.set n (f s.fms[n]) }

def State.modSvd (s : State) (v : Fin 4) (f : SvdDemod → SvdDemod) : State :=
  { s with svd := s.svd.set v (f s.svd[v]) }

/-- The mean period in 1/65,536 tk: of the intervals available, or NOM_PERIOD until one exists (R273). -/
def svdMean (v : Fin 4) (s : State) : Nat :=
  match s.svd[v].ivals with
  | [] => s.get (SVD_PERIOD.NOM_PERIOD v)
  | l => l.sum / l.length

/-- A demodulator enters SEARCH: the mean and the acquisition start afresh (R271, R273). -/
def svdSearch (v : Fin 4) (s : State) : State :=
  let s := s.modSvd v fun d => { d with ivals := [], acq := 0, diff := none, lockedRun := 0, swLeft := 0, span := 0 }
  let s := (s.set (SVD_STATUS.STATE v) 1).clearAll [SVD_STATUS.VERIFY v, SVD_STATUS.MISS_RUN v, SVD_STATUS.SWITCH v,
    SVD_STATUS.MEAN_FULL v, SVD_MEAN.COUNT v]
  s.set SYS_BEAT.LOCKED (setBits (s.get SYS_BEAT.LOCKED) v.val 1 0)

/-- The data channel on read output `o` of actuator `n` (R161). -/
def dcOf (n : Fin 2) (o : Fin 2) : Fin 4 := ⟨2 * n.val + o.val, by omega⟩

/-- The actuator of data channel or demodulator `c` (R17, R18). -/
def halfOf (c : Fin 4) : Fin 2 := ⟨c.val / 2, by omega⟩

/-- The order in which R263 ranks two void results of one slot; the lower wins. -/
def voidRank (code : Nat) : Nat :=
  if code = 0x22 then 0 else if code = 0x23 then 1 else if code = 0x21 then 2 else if code = 0x20 then 3
  else if code = 0x24 then 4 else if code = 0x25 then 5 else if code = 0x26 then 6
  else if code = 0x27 then 7 else 8

/-- A slot becomes void with a result; a void result stands over a flag, and the first of R263's order wins. -/
def WpSlot.void (code : Nat) (w : WpSlot) : WpSlot :=
  match w.res with
  | some r => if voidRank r ≤ voidRank code then w else { w with res := some code }
  | none => { w with res := some code }

/-- The slot in progress is void with `code` (R249): the slot whose first piece has started and whose last bit
has not passed. -/
def wpVoidCurrent (n : Fin 2) (code : Nat) (s : State) : State :=
  s.modWp n fun w => { w with slots := w.slots.map fun x => if x.started && !x.ended then x.void code else x }

/-- The write data pair of WPn enters its idle state. -/
def wpIdle (n : Fin 2) (s : State) : State := s.set (WP_STATUS.WG n) 0

/-- A condition of R249 idles the write data pair and voids the slot in progress. -/
def wpStop (n : Fin 2) (code : Nat) (s : State) : State := wpVoidCurrent n code (wpIdle n s)

/-- The fragment in progress on DCn is reported as not read (R166, R169, R170, R173). -/
def dcNotRead (c : Fin 4) (s : State) : State :=
  s.modDc c fun d => { d with rcd := d.rcd.map fun r => { r with notRead := true } }

/-- The media-class channel that the open track program names: 8 + CHAN of its TPD (R386). -/
def trackChan (n : Fin 2) (s : State) : Nat :=
  match s.fms[n].prog with
  | some p => 8 + leAt p.tpd 24 1 % 8
  | none => 8

/-- A stop cause of R390 is present for the open program of FMSn, and IRQ source 1 is latched (R383). -/
def fmsStopCause (n : Fin 2) (s : State) : State :=
  match s.fms[n].prog with
  | none => s
  | some p =>
    let s := s.modFms n fun f => { f with prog := some { p with stop := true } }
    s.set (FMS_IRQ.PEND n) (s.get (FMS_IRQ.PEND n) ||| 2)

/-- An event of R378 is latched until a word consumes it. -/
def fmsEvent (n : Fin 2) (code : Nat) (s : State) : State :=
  s.modFms n fun f => if code ∈ f.events then f else { f with events := f.events ++ [code] }

/-- The field of DC_RING that holds the state of slot `k` (R190). -/
def ringStateFld (c : Fin 4) (k : Nat) : Fld := { DC_RING.STATE0 c with lo := 3 * (k % 4) }

/-- The address of slot `k` of the sample ring slice of DCn (R187). -/
def ringSlotAddr (c : Fin 4) (k : Nat) : Addr := 0x0040000000 + c.val * 0x50000 + (k % 4) * 0x14000

/-- A ring slot takes a state of R190; going HELD is IRQ source 3 or 4 of the formatter (R383). -/
def ringSet (c : Fin 4) (k code : Nat) (s : State) : State :=
  let s := s.set (ringStateFld c k) code
  if code = 3 then
    let f := FMS_IRQ.PEND (halfOf c)
    s.set f (s.get f ||| (if c.val % 2 = 0 then 8 else 16))
  else s

/-- Count `k` of the media health record of the head in a fragment address rises (R572). -/
def mediaCount (frag k : Nat) (s : State) : State :=
  let h := frag / 2 ^ 35
  let l := (kvFind s.nvme.health h).getD (List.replicate 8 0)
  { s with nvme := { s.nvme with health := kvInsert s.nvme.health h (l.set k (l.getD k 0 + 1)) } }

end Sys2Proof.Machine
end

