-- ==== Sys2Proof/Machine/MotionOps.lean ====
section
/-! DEFINITION. The shared operations of the motion side: the CLE banks, parking an actuator, the frames of the Actuator Drive
Link and their CRC. -/

namespace Sys2Proof.Machine

def State.modAdl (s : State) (n : Fin 2) (f : AdlLink → AdlLink) : State :=
  { s with adl := s.adl.set n (f s.adl[n]) }

def State.modCle (s : State) (f : CleEngine → CleEngine) : State := { s with cle := f s.cle }

def State.modOwner (s : State) (k : Fin 3) (f : CleOwner → CleOwner) : State :=
  s.modCle fun c => { c with owners := c.owners.set k (f c.owners[k]) }

def State.modSpm (s : State) (f : SpmDrive → SpmDrive) : State := { s with spm := f s.spm }

/-- The tick count as a number. -/
def State.now (s : State) : Nat := s.tick.toNat

/-- The 40-bit slot of the CLE window at offset `ofs`: a bank or state memory (R311). -/
def cleSlot (ofs : Nat) : Fld := { addr := 0x0F00300000 + ofs, lo := 0, len := 40, rst := 0 }

/-- Offset `ofs` of CLE bank `b` (R311, R312). -/
def bankSlot (b ofs : Nat) : Fld := cleSlot (0x1000 + b * 0x3F000 + ofs)

/-- Word `w` of the state memory of an owner (R311). -/
def stateSlot (k : Fin 3) (w : Nat) : Fld := cleSlot (0x7E800 + 0x800 * k.val + 8 * (w % 256))

/-- The header fields GRADE, RELEASE_ACT and RELEASE_SPM of a bank (R312). -/
def bankGrade (b : Nat) (s : State) : Nat := bits (s.get (bankSlot b 0)) 0 8
def bankReleaseAct (b : Nat) (s : State) : Nat := bits (s.get (bankSlot b 0)) 8 16
def bankReleaseSpm (b : Nat) (s : State) : Nat := bits (s.get (bankSlot b 0)) 24 16

/-- The active bank. -/
def activeBank (s : State) : Nat := s.get CLE_STATUS.BANK

/-- The inactive bank. -/
def inactiveBank (s : State) : Nat := 1 - activeBank s

/-- One directory entry of a bank (R312). -/
structure ProgEntry where
  slot : Nat
  index : Nat
  role : Nat
  actuator : Nat
  coeff : Nat
  ops : Nat
  steps : Nat
  deriving DecidableEq, Repr

/-- Directory entry `p` of bank `b`. -/
def progEntry (b p : Nat) (s : State) : ProgEntry :=
  let h := s.get (bankSlot b (0x100 + 16 * p))
  let c := s.get (bankSlot b (0x108 + 16 * p))
  { slot := p, index := bits h 0 8, role := bits h 8 8, actuator := bits h 16 8, coeff := bits h 24 4,
    ops := bits c 0 16, steps := bits c 16 16 }

/-- The directory of bank `b`: at most the 32 entries it has room for. -/
def directory (b : Nat) (s : State) : List ProgEntry :=
  (List.range (min 32 (bits (s.get (bankSlot b 8)) 0 6))).map fun p => progEntry b p s

/-- The ACTUATOR code of an owner (R136). -/
def ownerCode (k : Fin 3) : Nat := if k.val = 2 then 0xFF else k.val

/-- The program of an owner with an INDEX in the active bank (R306, R307). -/
def findProgram (k : Fin 3) (index : Nat) (s : State) : Option ProgEntry :=
  (directory (activeBank s) s).find? fun e =>
    e.actuator == ownerCode k && e.index == index && (k.val != 2 || e.role == 0)

/-- Round `x / 2^n`: half the divisor is added before an arithmetic right shift (R303). -/
def roundShift (x : Int) (n : Nat) : Int := if n = 0 then x else (x + (2 ^ (n - 1) : Nat)) / (2 ^ n : Nat)

/-- Round `x / d` to the nearest integer, halves upward. -/
def roundDiv (x d : Int) : Int := (2 * x + d) / (2 * d)

/-- Saturation to s16, and a value as its 16 bits. -/
def sat16 (x : Int) : Int := clampI (-32768) 32767 x

/-- Three zero-extended fields of a downstream frame body: TYPE, SEQ and PAYLOAD under a CRC-16 (R316). -/
def adlFrame (ty seq payload : Nat) : Nat :=
  let body := (ty % 16) * 2 ^ 68 + (seq % 16) * 2 ^ 64 + payload % 2 ^ 64
  0x5A * 2 ^ 88 + body * 2 ^ 16 + crc16 72 body

/-- The TYPE of a downstream frame. -/
def adlType (f : Nat) : Nat := bits f 84 4

/-- A frame goes out on the data lanes of ADLn; a STATUS_RQ awaits its REPORT (R321). -/
def adlSend (n : Fin 2) (f : Nat) (s : State) : State :=
  s.modAdl n fun a => { a with sent := a.sent ++ [f], rqWaiting := a.rqWaiting || adlType f == 6 }

/-- SEQ as downstream frames carry it: that of the last COMMAND. -/
def adlSeq (n : Fin 2) (s : State) : Nat := s.get (ADL_STATUS.SEQ n)

/-- An untimed frame goes out if it ends at least 2 tk before the next loaded release tick, and waits for that release
otherwise (R322). A frame takes 12 tk. -/
def adlUntimed (n : Fin 2) (f : Nat) (s : State) : State :=
  match s.cle.owners[n.val].cmp with
  | none => adlSend n f s
  | some t => if s.now + 12 + 2 ≤ t ∨ t < s.now then adlSend n f s else s.modAdl n fun a => { a with queue := a.queue ++ [f] }

/-- ADLn_PARK_N is driven low for a cause of PARK_CAUSE; a new cause sends RETRACT with its reason on a link that is up
(R317, R324). -/
def adlPark (n : Fin 2) (cause reason : Nat) (s : State) : State :=
  let f := ADL_STATUS.PARK_CAUSE n
  let old := s.get f
  let s := (s.set f (old ||| 2 ^ cause ||| 0x10)).set (ADL_STATUS.PARKED n) 1
  if old.testBit cause || !s.bit (ADL_STATUS.LINK_UP n) then s
  else adlSend n (adlFrame 5 (adlSeq n s) (reason * 2 ^ 56)) s

/-- A park cause no longer holds; ADLn_PARK_N stays low until UNPARK (R324). -/
def adlUncause (n : Fin 2) (cause : Nat) (s : State) : State :=
  s.set (ADL_STATUS.PARK_CAUSE n) (setBits (s.get (ADL_STATUS.PARK_CAUSE n)) cause 1 0)

/-- Whether companion `n` reports ACTIVE. -/
def compActive (n : Fin 2) (s : State) : Bool := s.get (ADL_STATUS.COMP_STATE n) == 1

/-- SYS_BEAT.NONE becomes 1: every ACTIVE companion parks, and source 3 is raised (R324, R650). -/
def adlBeatLost (s : State) : State :=
  let any := compActive 0 s || compActive 1 s
  let s := if compActive 0 s then adlPark 0 2 3 s else s
  let s := if compActive 1 s then adlPark 1 2 3 s else s
  s.when any (·.raise 3)

/-- SYS_BEAT.NONE becomes 0: the cause of a lost beat falls. -/
def adlBeatBack (s : State) : State := adlUncause 1 2 (adlUncause 0 2 s)

/-- A RECIPE record: status, section, record, IMAGE_SERIAL (R153, R664). -/
def State.logRecipe (s : State) (status sec record serial origin : Nat) : State :=
  s.log 0x040 (leBytes 1 status ++ leBytes 1 0 ++ leBytes 2 sec ++ leBytes 4 record ++ leBytes 8 serial) origin

/-- At a bank switch a committed image whose activation was requested becomes the active one, every section at once (R147, R152). -/
def imageSwitch (s : State) : State :=
  if !s.rcp.activate then s
  else
    let serial := match s.man.committed with | some i => i.serial | none => 0
    ({ s with image := s.man.committed, rcp := { s.rcp with activate := false, status := 0x00 } }).logRecipe 0x00 0xFFFF 0 serial 0

/-- Whether a track program of FMS0 or FMS1 is open. -/
def programOpen (s : State) : Bool := s.fms[0].prog.isSome || s.fms[1].prog.isSome

end Sys2Proof.Machine
end

