-- ==== Sys2Proof/Machine/Adl.lean ====
section
/-! DEFINITION. The Actuator Drive Link (R315 to R324). -/

namespace Sys2Proof.Machine

/-- The link fault: ADL_FAULT.LINK and the link source of the link (R321, R650). -/
def adlLinkFault (n : Fin 2) (s : State) : State := (s.set (ADL_FAULT.LINK n) 1).raise (32 + 2 * n.val)

/-- The link is no longer up: everything queued or awaited on it is dropped. -/
def adlSetDown (n : Fin 2) (s : State) : State :=
  ((s.set (ADL_STATUS.LINK_UP n) 0).set (ADL_CMD.BUSY n) 0).modAdl n fun a =>
    { a with rqWaiting := false, rqRow := 0, awaiting := [], repRow := 0, badRow := 0, queue := [], cmd := none, tries := 0 }

/-- HELLO with the versions of the FQX: step 3 of R320. -/
def adlHello (n : Fin 2) (s : State) : State := adlSend n (adlFrame 1 (adlSeq n s) (0x0003 * 2 ^ 48)) s

/-- A negotiation starts: parked, reset, and the first HELLO (R320). -/
def adlStart (n : Fin 2) (s : State) : State :=
  let s := adlSetDown n (adlPark n 3 4 s)
  adlHello n (s.modAdl n fun a => { a with waitHello := true, attempts := 1 })

/-- Whether fewer than three automatic renegotiations fall within the last 10 s (R321). -/
def adlMayReneg (n : Fin 2) (s : State) : Bool :=
  (s.adl[n].renegs.filter fun t => s.now < t + 1000000000).length < 3

/-- The link goes down (R321): parked, the fault raised, and a renegotiation where AUTO_RENEG allows one. -/
def adlLinkDown (n : Fin 2) (s : State) : State :=
  if !s.bit (ADL_STATUS.LINK_UP n) then s
  else
    let s := adlLinkFault n (adlSetDown n (adlPark n 3 4 s))
    if s.bit (ADL_CTRL.AUTO_RENEG n) && adlMayReneg n s then
      adlStart n (s.modAdl n fun a => { a with renegs := a.renegs ++ [s.now] })
    else s

/-- The companion's HELLO bitmap settles the version: step 4 of R320. A change of version is logged (R43). -/
def adlConclude (n : Fin 2) (peer : BitVec 16) (s : State) : State :=
  let old := s.get (ADL_STATUS.VERSION n)
  let m := 3 &&& peer.toNat
  let v := if m.testBit 1 then 2 else if m.testBit 0 then 1 else 0
  let s := s.modAdl n fun a => { a with waitHello := false, attempts := 0 }
  let s := (s.set (ADL_STATUS.PEER_MAP n) m).set (ADL_STATUS.VERSION n) v
  let s := s.when (old != v) (·.logLink (n.val + 3) old v)
  if v = 0 then adlLinkFault n s else adlUncause n 3 (s.set (ADL_STATUS.LINK_UP n) 1)

/-- A whole negotiation with its answer (R320). -/
def execAdlNegotiate (n : Fin 2) (peer : BitVec 16) (s : State) : Out :=
  s.onHalf n.val fun s => adlConclude n peer (if s.adl[n].waitHello then s else adlStart n s)

/-- 100 us without an answer: HELLO again, and after four attempts the link fault (R320). -/
def execAdlHelloTimeout (n : Fin 2) (s : State) : Out :=
  s.onHalf n.val fun s =>
    if !s.adl[n].waitHello then s
    else if s.adl[n].attempts < 4 then adlHello n (s.modAdl n fun a => { a with attempts := a.attempts + 1 })
    else
      let s := adlLinkFault n (s.modAdl n fun a => { a with waitHello := false, attempts := 0 })
      let old := s.get (ADL_STATUS.VERSION n)
      (s.set (ADL_STATUS.VERSION n) 0).when (old != 0) (·.logLink (n.val + 3) old 0)

/-- Nothing has been sent for KA_PERIOD us: STATUS_RQ (R321). -/
def execAdlKeepalive (n : Fin 2) (s : State) : Out :=
  s.onHalf n.val fun s =>
    if s.bit (ADL_STATUS.LINK_UP n) then adlUntimed n (adlFrame 6 (adlSeq n s) 0) s else s

/-- A COMMAND (`cmd`) or a STATUS_RQ got no REPORT in time; three of a kind in a row end the link (R321). -/
def execAdlReportMiss (n : Fin 2) (cmd : Bool) (s : State) : Out :=
  s.onHalf n.val fun s =>
    if cmd then
      match s.adl[n].awaiting with
      | [] => s
      | _ :: r =>
        let k := s.adl[n].repRow + 1
        let s := (s.bump (ADL_ERR.REPORT_MISS n)).modAdl n fun a => { a with awaiting := r, repRow := k }
        if 3 ≤ k then adlLinkDown n s else s
    else if !s.adl[n].rqWaiting then s
    else
      let k := s.adl[n].rqRow + 1
      let s := s.modAdl n fun a => { a with rqWaiting := false, rqRow := k }
      if 3 ≤ k then adlLinkDown n s else s

/-- A fault of the companion is latched and raises the companion source of the link (R323). -/
def adlLatch (n : Fin 2) (code head : Nat) (s : State) : State :=
  let code := if 1 ≤ code ∧ code ≤ 9 then code else 9
  (((s.set (ADL_FAULT.CODE n) code).set (ADL_FAULT.HEAD n) head).set (ADL_FAULT.COMP n) 1).raise (33 + 2 * n.val)

/-- An upstream frame other than HELLO counts only on a link that is up; it ends a row of discarded frames. -/
def adlReceive (n : Fin 2) (f : State → State) (s : State) : State :=
  if s.bit (ADL_CTRL.ENABLE n) then f (s.modAdl n fun a => { a with badRow := 0 }) else s

/-- The answer of the pending command goes to ADL_RSP, and the command ends (R327). -/
def adlAnswer (n : Fin 2) (ty addr data : Nat) (s : State) : State :=
  let s := ((s.set (ADL_RSP.VALID n) 1).set (ADL_RSP.TYPE n) ty).set (ADL_RSP.ADDR n) addr
  ((s.set (ADL_RSP.DATA n) data).set (ADL_CMD.BUSY n) 0).modAdl n fun a => { a with cmd := none, tries := 0 }

/-- Whether the pending command of ADL_CMD awaits an answer of TYPE `ty`: CONFIG_RD awaits CONFIG_DATA, STATUS_RQ awaits
REPORT, and NAK answers either (R317, R327). -/
def adlAwaits (n : Fin 2) (ty : Nat) (s : State) : Bool :=
  match s.adl[n].cmd with
  | none => false
  | some f => (adlType f == 7 && ty == 2) || (adlType f == 6 && ty == 3) || (ty == 0xE && (adlType f == 7 || adlType f == 6))

/-- A REPORT is used when it echoes the SEQ of the COMMAND it answers, and counted otherwise (R318, R321, R323). -/
def execAdlRxReport (n : Fin 2) (seq : BitVec 4) (ivcm : BitVec 16) (vvcm : BitVec 12) (st : BitVec 2) (fault : BitVec 6)
    (s : State) : Out :=
  s.onHalf n.val fun s => adlReceive n (fun s =>
    let s := s.modAdl n fun a => { a with rqWaiting := false, rqRow := 0 }
    if seq.toNat ≠ s.get (ADL_STATUS.SEQ n) then s.bump (ADL_ERR.SEQ_ERR n)
    else
      let s := s.modAdl n fun a =>
        if seq.toNat ∈ a.awaiting then { a with awaiting := a.awaiting.filter (· != seq.toNat), repRow := 0 } else a
      let s := ((s.set (ADL_REPORT.SEQ n) seq.toNat).set (ADL_REPORT.FAULT n) fault.toNat).set (ADL_REPORT.STATE n) st.toNat
      let s := ((s.set (ADL_REPORT.VVCM n) vvcm.toNat).set (ADL_REPORT.IVCM n) ivcm.toNat).set (ADL_STATUS.COMP_STATE n) st.toNat
      let s := s.modCle fun c => { c with fresh := c.fresh.set n true }
      let s := if fault = 0 then s else adlLatch n fault.toNat 0xF s
      let s := s.when (s.bit SYS_BEAT.NONE && st == 1) (·.raise 3)
      if adlAwaits n 3 s then adlAnswer n 3 0 ivcm.toNat s else s) s

/-- A companion FAULT frame is latched (R323). -/
def execAdlRxFault (n : Fin 2) (code : BitVec 6) (head : BitVec 4) (s : State) : Out :=
  s.onHalf n.val fun s => adlReceive n (adlLatch n code.toNat head.toNat) s

/-- A companion HELLO frame during a negotiation (R320). -/
def execAdlRxHello (n : Fin 2) (peer : BitVec 16) (s : State) : Out :=
  s.onHalf n.val fun s => adlReceive n (fun s => if s.adl[n].waitHello then adlConclude n peer s else s) s

/-- CONFIG_DATA answers a CONFIG_RD (R317, R327). -/
def execAdlRxConfigData (n : Fin 2) (addr : BitVec 8) (value : BitVec 16) (s : State) : Out :=
  s.onHalf n.val fun s => adlReceive n (fun s =>
    if adlAwaits n 2 s then adlAnswer n 2 addr.toNat value.toNat s else s) s

/-- A NAK is counted, and answers the pending command with the TYPE it refuses (R317, R327). -/
def execAdlRxNak (n : Fin 2) (refused : BitVec 4) (s : State) : Out :=
  s.onHalf n.val fun s => adlReceive n (fun s =>
    let s := s.bump (ADL_ERR.NAK n)
    if adlAwaits n 0xE s then adlAnswer n 0xE 0 refused.toNat s else s) s

/-- An upstream frame with a wrong SOF or CRC is discarded and counted; three in a row end the link (R316, R321). -/
def execAdlRxDiscard (n : Fin 2) (s : State) : Out :=
  s.onHalf n.val fun s =>
    let k := s.adl[n].badRow + 1
    let s := (s.bump (ADL_ERR.CRC_UP n)).modAdl n fun a => { a with badRow := k }
    if 3 ≤ k then adlLinkDown n s else s

/-- ADL_CMD.GO with a TYPE: queued, or refused with ERR (R325, R327). A command that awaits an answer stays pending. -/
def adlCmd (n : Fin 2) (ty : Nat) (addr : BitVec 8) (data : BitVec 16) (s : State) : State :=
  let s := ((s.set (ADL_CMD.TYPE n) ty).set (ADL_CMD.ADDR n) addr.toNat).set (ADL_CMD.DATA n) data.toNat
  if s.bit (ADL_CMD.BUSY n) || !s.bit (ADL_STATUS.LINK_UP n) || !s.bit (ADL_CTRL.ENABLE n)
      || (ty == 4 && s.bit (ADL_STATUS.PARKED n)) then s.set (ADL_CMD.ERR n) 1
  else
    let s := (s.set (ADL_CMD.ERR n) 0).clearAll [ADL_RSP.VALID n, ADL_RSP.TIMEOUT n]
    let payload := addr.toNat * 2 ^ 56 + data.toNat * 2 ^ 40
    let f := adlFrame ty (adlSeq n s) payload
    let s := if ty = 6 ∨ ty = 7 then (s.set (ADL_CMD.BUSY n) 1).modAdl n fun a => { a with cmd := some f, tries := 1 } else s
    adlUntimed n f s

def execAdlCmdConfig (n : Fin 2) (addr : BitVec 8) (data : BitVec 16) (s : State) : Out :=
  s.onHalf n.val (adlCmd n 2 addr data)

def execAdlCmdArm (n : Fin 2) (s : State) : Out := s.onHalf n.val (adlCmd n 4 0 0)

def execAdlCmdRetract (n : Fin 2) (reason : BitVec 8) (s : State) : Out := s.onHalf n.val (adlCmd n 5 reason 0)

def execAdlCmdStatusRq (n : Fin 2) (s : State) : Out := s.onHalf n.val (adlCmd n 6 0 0)

def execAdlCmdConfigRd (n : Fin 2) (addr : BitVec 8) (s : State) : Out := s.onHalf n.val (adlCmd n 7 addr 0)

/-- 10 us without an answer: the command is sent again, and after three sends times out (R327). -/
def execAdlRspTimeout (n : Fin 2) (s : State) : Out :=
  s.onHalf n.val fun s =>
    match s.adl[n].cmd with
    | none => s
    | some f =>
      if s.adl[n].tries < 3 then adlUntimed n f (s.modAdl n fun a => { a with tries := a.tries + 1 })
      else ((s.set (ADL_RSP.TIMEOUT n) 1).set (ADL_CMD.BUSY n) 0).modAdl n fun a => { a with cmd := none, tries := 0 }

/-- Setting ADL_CTRL.PARK (R324). -/
def execAdlPark (n : Fin 2) (s : State) : Out :=
  s.onHalf n.val fun s => adlPark n 0 1 (s.set (ADL_CTRL.PARK n) 1)

/-- UNPARK releases ADLn_PARK_N when no cause remains, and is ignored otherwise (R324, R325). -/
def execAdlUnpark (n : Fin 2) (s : State) : Out :=
  s.onHalf n.val fun s =>
    if s.get (ADL_STATUS.PARK_CAUSE n) % 16 = 0 then s.clearAll [ADL_STATUS.PARK_CAUSE n, ADL_STATUS.PARKED n] else s

/-- ADL_CTRL.NEGOTIATE starts a negotiation on an enabled link (R320, R327). -/
def adlNegotiateReq (n : Fin 2) (s : State) : State := if s.bit (ADL_CTRL.ENABLE n) then adlStart n s else s

def execAdlCtrlNegotiate (n : Fin 2) (s : State) : Out := s.onHalf n.val (adlNegotiateReq n)

def execAdlClrErr (n : Fin 2) (s : State) : Out :=
  s.onHalf n.val fun s =>
    s.clearAll [ADL_ERR.NAK n, ADL_ERR.SEQ_ERR n, ADL_ERR.REPORT_MISS n, ADL_ERR.OVERRUN n, ADL_ERR.CRC_UP n]

/-- The release tick of ADLn (R309, R310): a COMMAND frame with the released outputs, VALID 0 when the program was late;
nothing on a link that is down, parked, in safe state or without an ACTIVE companion. Waiting untimed frames follow. -/
def adlRelease (n : Fin 2) (vcm ma0 ma1 : BitVec 16) (head0 head1 : Nat) (valid : Bool) (s : State) : State :=
  let s :=
    if s.bit (ADL_STATUS.LINK_UP n) && !s.bit (ADL_STATUS.PARKED n) && compActive n s && !s.bit CLE_STATUS.SAFE then
      let seq := (adlSeq n s + 1) % 16
      let two := s.get (ADL_STATUS.VERSION n) == 2
      let head1 := if two then head1 else 0xF
      let ma1 := if head1 = 0xF then 0 else ma1.toNat
      let p := vcm.toNat * 2 ^ 48 + (head0 % 16) * 2 ^ 44 + ma0.toNat * 2 ^ 28 + (head1 % 16) * 2 ^ 24 + ma1 * 2 ^ 8
        + boolNat valid
      let s := adlSend n (adlFrame 3 seq p) (s.set (ADL_STATUS.SEQ n) seq)
      s.modAdl n fun a => { a with awaiting := a.awaiting ++ [seq] }
    else s
  let q := s.adl[n].queue
  forEach q (fun f s => adlSend n f s) (s.modAdl n fun a => { a with queue := [] })

end Sys2Proof.Machine
end

