-- ==== Sys2Proof/Machine/Memory.lean ====
section
/-! DEFINITION. The on-chip memories and the buffer DRAM: protected rows, error capture, fills, scrubbing, bring-up and
self-refresh (R397 to R420, R684, R685). A row holds its data in memory and, where it differs from their encoding, a mask of the
73 bits that are wrong; the check matrix itself is not published (R416). -/

namespace Sys2Proof.Machine

def State.modMem (s : State) (f : MemUnits → MemUnits) : State := { s with memu := f s.memu }

def State.modScrub (s : State) (k : Fin 4) (f : Scrub → Scrub) : State :=
  s.modMem fun m => { m with scrubs := m.scrubs.set k (f m.scrubs[k]) }

/-- The memory of an address with the codes of MEM_CE_LAST.MEMORY: 0 main SRAM, 1 pantry SRAM, 2 MRAM, 3 boot ROM, and 4 for
the DRAM (R37, R418). -/
def memoryOf (a : Addr) : Option (Fin 5) :=
  if a < 0x40000 then some 3
  else if 0x0010000000 ≤ a ∧ a < 0x0010800000 then some 0
  else if 0x0020000000 ≤ a ∧ a < 0x0020080000 then some 1
  else if 0x0030000000 ≤ a ∧ a < 0x0030400000 then some 2
  else if 0x1000000000 ≤ a ∧ a < 0x11C0000000 then some 4
  else none

/-- The installed DRAM in GiB (R405). -/
def dramGiB (s : State) : Nat := 2 ^ s.get DRC_CFG.SIZE

/-- The end of the DRAM region: seven eighths of what is installed (R38). -/
def dramEnd (s : State) : Addr := 0x1000000000 + dramGiB s * 0x38000000

/-- Whether masters reach the DRAM (R406). -/
def dramOpen (s : State) : Bool := s.power.core && s.bit DRC_CTRL.ENABLE && s.bit DRC_STATUS.READY

/-! ### Rows and blocks -/

/-- The row that holds an address. -/
def State.row (s : State) (a : Addr) : RowMeta := (kvFind s.memu.rows (a / 8)).getD {}

/-- A row's poison bit and error mask replaced. -/
def State.setRow (s : State) (a : Addr) (r : RowMeta) : State :=
  s.modMem fun m => { m with rows := if r = {} then kvErase m.rows (a / 8) else kvInsert m.rows (a / 8) r }

/-- The wrong bits of the DRAM block that holds an address. -/
def State.block (s : State) (a : Addr) : Nat := (kvFind s.memu.blocks (a / 64)).getD 0

def State.setBlock (s : State) (a : Addr) (f : Nat) : State :=
  s.modMem fun m => { m with blocks := if f = 0 then kvErase m.blocks (a / 64) else kvInsert m.blocks (a / 64) f }

/-- How many of the low `k` bits are set. -/
def popCount (k w : Nat) : Nat := ((List.range k).filter fun i => w.testBit i).length

/-- How many of the 72 symbols of a block differ from the codeword (R408). -/
def badSymbols (f : Nat) : Nat := ((List.range 72).filter fun i => bits f (8 * i) 8 != 0).length

/-- What a syndrome says (R398): clean, correctable in one place or in two, uncorrectable, or wrong without a sign. -/
inductive Syndrome where
  | clean | ce | ce2 | ue | silent
  deriving DecidableEq, Repr

/-- The syndrome of the row or block at an address. Three and more wrong bits of a row, and six and more symbols of a block, lie
outside what the spec defines: any outcome, by the free value (R398, R408, R416). -/
def syndromeOf (a : Addr) (s : State) : Syndrome × State :=
  if memoryOf a = some 4 then
    let n := badSymbols (s.block a)
    if n = 0 then (.clean, s) else if n = 1 then (.ce, s) else if n = 2 then (.ce2, s) else if n ≤ 5 then (.ue, s)
    else
      let (v, s) := s.fresh
      (if v % 4 = 0 then .ce else if v % 4 = 1 then .ce2 else if v % 4 = 2 then .ue else .silent, s)
  else
    let n := popCount 73 (s.row a).flip
    if n = 0 then (.clean, s) else if n = 1 then (.ce, s) else if n = 2 then (.ue, s)
    else
      let (v, s) := s.fresh
      (if v % 3 = 0 then .ce else if v % 3 = 1 then .ue else .silent, s)

/-- The 64 data bits of a row as they are stored, wrong bits included. -/
def rawRow (a : Addr) (s : State) : BitVec 64 :=
  let a := a / 8 * 8
  let f := if memoryOf a = some 4 then bits (s.block a) (8 * (a % 64)) 64 else bits (s.row a).flip 0 64
  BitVec.ofNat 64 (s.readLE a 8 ^^^ f)

/-- The 64 data bits of a row, corrected. -/
def goodRow (a : Addr) (s : State) : BitVec 64 := BitVec.ofNat 64 (s.readLE (a / 8 * 8) 8)

/-- The data of a read by its syndrome: corrected where the wrong bits are few enough to correct, free where more are wrong. -/
def readData (a : Addr) (y : Syndrome) (s : State) : BitVec 64 × State :=
  let few := if memoryOf a = some 4 then decide (badSymbols (s.block a) ≤ 2) else decide (popCount 73 (s.row a).flip ≤ 1)
  if few then (goodRow a s, s)
  else if y = .ue then (rawRow a s, s)
  else
    let (v, s) := s.fresh
    (BitVec.ofNat 64 v, s)

/-! ### Errors found -/

/-- The walk whose lap counts the correctable errors of a memory. -/
def walkOf (m : Fin 5) : Option (Fin 4) :=
  match m.val with
  | 0 => some 0
  | 1 => some 1
  | 4 => some 2
  | 2 => some 3
  | _ => none

/-- One more correctable error in the present lap of a memory; CE_HIGH above the threshold (R415). -/
def lapCe (m : Fin 5) (s : State) : State :=
  match walkOf m with
  | none => s
  | some k =>
    let s := s.modScrub k fun w => { w with ce := w.ce + 1 }
    let limit := if m = 4 then s.get DRC_SCRUB.CE_THRESH else s.get MEM_CTRL.CE_THRESH
    s.when (decide (limit < s.memu.scrubs[k].ce)) (·.set (if m = 4 then DRC_INT.CE_HIGH else MEM_INT.CE_HIGH) 1)

/-- A correctable error counts (R414, R415). -/
def countCe (m : Fin 5) (two : Bool) (a : Addr) (s : State) : State :=
  if m = 4 then lapCe m ((s.bump (if two then DRC_CE.CE2 else DRC_CE.CE1)).set DRC_INT.CE 1)
  else
    let f := match m.val with | 0 => MEM_CE.MAIN | 1 => MEM_CE.PANTRY | 2 => MEM_CE.LARDER | _ => MEM_CE.ROM
    lapCe m ((((s.bump f).set MEM_CE_LAST.ADDR (a / 8)).set MEM_CE_LAST.MEMORY m.val).set MEM_INT.CE 1)

/-- An uncorrectable error is captured, the first until VALID is cleared, and raises the source of its memory (R414, R415). The
syndrome's value is free, since the check matrix is not published; so is CHECK_LINE, since the replacement of the check cache is
not given. -/
def captureUe (m : Fin 5) (req : Nat) (a : Addr) (s : State) : State :=
  let s := s.raise (72 + m.val)
  if m = 4 then
    let s := s.set DRC_INT.UE 1
    if s.bit DRC_UE_INFO.VALID then s.set DRC_UE_INFO.MULTI 1
    else
      let (v, s) := s.fresh
      (((((s.set DRC_UE_ADDR.ADDR (a / 64)).set DRC_UE_INFO.VALID 1).set DRC_UE_INFO.MULTI 0).set DRC_UE_INFO.REQ req)).set
        DRC_UE_INFO.CHECK_LINE v
  else
    let s := s.set MEM_INT.UE 1
    if s.bit MEM_UE_INFO.VALID then s.set MEM_UE_INFO.MULTI 1
    else
      let (v, s) := s.fresh
      (((((s.set MEM_UE_ADDR.ADDR (a / 8 * 8)).set MEM_UE_INFO.VALID 1).set MEM_UE_INFO.MULTI 0).set MEM_UE_INFO.MEMORY m.val).set
        MEM_UE_INFO.REQ req).set MEM_UE_INFO.SYNDROME v

/-- One protected row read for a requester of MEM_UE_INFO.REQ: the data, its poison bit, whether it is uncorrectable; errors are
counted and captured (R398, R414, R415). -/
def rowRead (req : Nat) (a : Addr) (s : State) : BitVec 64 × Bool × Bool × State :=
  match memoryOf a with
  | none => (0, false, false, s)
  | some m =>
    let (y, s) := syndromeOf a s
    let (v, s) := readData a y s
    let p := (s.row a).poison
    match y with
    | .ce => (v, p, false, countCe m false a s)
    | .ce2 => (v, p, false, countCe m true a s)
    | .ue => (v, p, true, captureUe m req a s)
    | _ => (v, p, false, s)

/-! ### Writes -/

/-- The mask of MEM_FLIP_L and MEM_FLIP_H over D, C and P. -/
def flipMask (s : State) : Nat :=
  s.get MEM_FLIP_L.D_MASK_L + 2 ^ 40 * s.get MEM_FLIP_H.D_MASK_H + 2 ^ 64 * s.get MEM_FLIP_H.C_MASK + 2 ^ 72 * s.get MEM_FLIP_H.P_MASK

/-- The mask that the next write of a row takes, with the state that has consumed it (R416). -/
def takeFlip (m : Fin 5) (a : Addr) (s : State) : Nat × State :=
  let r := a % 0x1000000 / 8
  if s.bit MEM_FLIP_CTL.ARM && s.get MEM_FLIP_CTL.TARGET == m.val && m != 3 && m != 4 &&
      (!s.bit MEM_FLIP_CTL.ADDR_EN || s.get MEM_FLIP_CTL.ROW == r) then
    (flipMask s, (((s.set MEM_FLIP_CTL.ARM 0).set MEM_FLIP_CTL.DONE 1).set MEM_FLIP_CTL.ROW r).set MEM_INT.FLIP_DONE 1)
  else (0, s)

/-- The mask that the next write of a DRAM block takes: MASK into each enabled symbol; indices above 71 act as 71 (R416, R419). -/
def takeInject (s : State) : Nat × State :=
  if s.bit DRC_INJECT.ARM then
    let en := s.get DRC_INJECT.EN
    let one := fun (k : Nat) (f : Fld) => if en.testBit k then s.get DRC_INJECT.MASK * 2 ^ (8 * min 71 (s.get f)) else 0
    (one 0 DRC_INJECT.SYM_A ^^^ one 1 DRC_INJECT.SYM_B ^^^ one 2 DRC_INJECT.SYM_C,
      ((s.set DRC_INJECT.ARM 0).set DRC_INJECT.DONE 1).set DRC_INT.INJ_DONE 1)
  else (0, s)

/-- The stored wrong data bits become the data, as after a merge with an uncorrectable row or block (R399). -/
def settleRaw (a : Addr) (n : Nat) (s : State) : State :=
  forEach (List.range n) (fun i s => s.writeRaw (a + 8 * i) (leBytes 8 (rawRow (a + 8 * i) s).toNat)) s

/-- A write of bytes that lie in one row of an SRAM or the MRAM: a full row is stored with its poison, a part of one is merged
(R399). -/
def rowWrite (m : Fin 5) (req : Nat) (poison : Bool) (a : Addr) (bs : List Byte) (s : State) : State :=
  let base := a / 8 * 8
  let full := bs.length == 8
  let (y, s) := if full then (Syndrome.clean, s) else syndromeOf a s
  let s := match y with
    | .ce => countCe m false a s
    | .ce2 => countCe m true a s
    | .ue => settleRaw base 1 (captureUe m req a s)
    | _ => s
  let p := if full then poison else poison || (s.row a).poison || y == .ue
  let (f, s) := takeFlip m a s
  (s.writeRaw a bs).setRow a { poison := p, flip := f }

/-- The poison bits of the rows of a block after a write of `n` bytes at `a`: a row written whole takes the writer's, a row written
in part keeps its own as well, and every row is poisoned by an uncorrectable block (R399, R408). -/
def blockPoison (poison ue : Bool) (a n : Nat) (s : State) : State :=
  let base := a / 64 * 64
  forEach (List.range 8) (fun i s =>
    let r := base + 8 * i
    let whole := decide (a ≤ r ∧ r + 8 ≤ a + n)
    let part := decide (a < r + 8 ∧ r < a + n)
    let old := (s.row r).poison
    let p := if ue then true else if whole then poison else if part then old || poison else old
    s.setRow r { poison := p }) s

/-- A write of bytes that lie in one block of the DRAM (R409). -/
def blockWrite (req : Nat) (poison : Bool) (a : Addr) (bs : List Byte) (s : State) : State :=
  let base := a / 64 * 64
  let full := bs.length == 64
  let (y, s) := if full then (Syndrome.clean, s) else syndromeOf a s
  let s := match y with
    | .ce => countCe 4 false a s
    | .ce2 => countCe 4 true a s
    | .ue => settleRaw base 8 (captureUe 4 req a s)
    | _ => s
  let (f, s) := takeInject s
  ((blockPoison poison (y == .ue) a bs.length s).writeRaw a bs).setBlock a f

/-- The bytes of `l` cut where an address is a multiple of `n`, with at most `fuel` pieces. -/
def cutAt (n : Nat) : (fuel : Nat) → Addr → List Byte → List (Addr × List Byte)
  | 0, _, _ => []
  | fuel + 1, a, l =>
    if l.isEmpty then []
    else
      let k := n - a % n
      (a, l.take k) :: cutAt n fuel (a + k) (l.drop k)

/-- A master's write of bytes to a protected memory, row by row or block by block, with its poison (R399, R400, R409). The boot
ROM takes no write (R41). -/
def memWrite (req : Nat) (poison : Bool) (a : Addr) (bs : List Byte) (s : State) : State :=
  match memoryOf a with
  | none => s.writeBytes a bs
  | some m =>
    if m = 3 then s
    else if m = 4 then forEach (cutAt 64 (bs.length + 1) a bs) (fun p s => blockWrite req poison p.1 p.2 s) s
    else forEach (cutAt 8 (bs.length + 1) a bs) (fun p s => rowWrite m req poison p.1 p.2 s) s

/-- What a master's read of bytes gives: the data, whether a row of it was poisoned, whether one was uncorrectable. -/
structure MemData where
  bytes : List Byte := []
  poison : Bool := false
  bad : Bool := false
  deriving DecidableEq, Repr

/-- `n` bytes read from a protected memory, row by row (R398, R414). -/
def memReadRows (req : Nat) : (fuel : Nat) → Addr → Nat → MemData → State → MemData × State
  | 0, _, _, d, s => (d, s)
  | fuel + 1, a, n, d, s =>
    if n = 0 then (d, s)
    else
      let k := min n (8 - a % 8)
      let (v, p, u, s) := rowRead req a s
      let bs := slice (leBytes 8 v.toNat) (a % 8) k
      memReadRows req fuel (a + k) (n - k)
        { bytes := d.bytes ++ bs, poison := d.poison || p, bad := d.bad || u } s

/-- A master's read of bytes; memory without protection gives its bytes (R401). -/
def memRead (req : Nat) (a : Addr) (n : Nat) (s : State) : MemData × State :=
  match memoryOf a with
  | none => ({ bytes := s.readBytes a n }, s)
  | some _ => memReadRows req (n + 1) a n {} s

/-! ### Commands on rows -/

/-- Disturbed bits join the wrong bits of a row or a block. -/
def upsetAt (a : Addr) (mask : Nat) (s : State) : State :=
  match memoryOf a with
  | none => s
  | some m => if m = 4 then s.setBlock a (s.block a ^^^ mask) else
    let r := s.row a
    s.setRow a { r with flip := r.flip ^^^ mask % 2 ^ 73 }

/-- Whether the memory of an address answers: its domain is on, and the DRAM is open. -/
def memoryOn (a : Addr) (s : State) : Bool :=
  match memoryOf a with
  | none => false
  | some m => if m = 4 then dramOpen s && decide (a < dramEnd s)
    else if m = 1 ∨ m = 2 then s.power.retention else s.power.core

/-- A requester reads the row at an address, in which the bits of `upset` have been disturbed (R398, R414). The debug port gets a
bus error for an uncorrectable row; any other requester gets the mark. -/
def execProtectedRowRead (req : Fin 5) (a : BitVec 40) (upset : BitVec 576) (s : State) : Out :=
  let a := a.toNat
  .next <|
    if memoryOn a s then
      let (v, p, bad, s) := rowRead req.val a (upsetAt a upset.toNat s)
      { s with resp := if bad then (if req = 4 then .busError else .uncorrectable) else .row v p }
    else match memoryOf a with
      | none => { s with resp := .decodeError }
      | some _ => { s with resp := .busError }

/-- A write narrower than a row or a block is merged into it (R399, R409). -/
def execPartialWriteRmw (req : Fin 5) (poison : Bool) (a : BitVec 40) (data : List Byte) (s : State) : Out :=
  let a := a.toNat
  .next <|
    match memoryOf a with
    | none => { s with resp := .decodeError }
    | some m =>
      if m = 3 ∨ !memoryOn a s then { s with resp := .busError }
      else { memWrite req.val poison a data s with resp := .ok }

/-! ### Fills -/

/-- The size of a fill target in 64-byte groups (R411). -/
def fillGroups (target : Nat) : Nat := if target = 0 then 0x20000 else if target = 1 then 0x2000 else 0

/-- Memory from `lo` up to `hi` becomes zero data with valid check bits and P = 0. -/
def zeroRange (lo hi : Nat) (s : State) : State :=
  { s with mem := s.mem.filter fun c => decide (c.1 < lo ∨ hi ≤ c.1) }.modMem fun m =>
    { m with rows := m.rows.filter fun r => decide (8 * r.1 < lo ∨ hi ≤ 8 * r.1)
             blocks := m.blocks.filter fun r => decide (64 * r.1 < lo ∨ hi ≤ 64 * r.1) }

/-- Writing MEM_INIT.GO with TARGET, COUNT and START in the same word starts a fill, or is ignored with INIT_ERR (R411, R417). -/
def memInitGo (w : BitVec 40) (s : State) : State :=
  let w := w.toNat
  if s.bit MEM_INIT.BUSY then s.set MEM_INT.INIT_ERR 1
  else
    let t := bits w 36 2
    let n := bits w 17 17 + 1
    let b := bits w 0 17
    let s := ((s.set MEM_INIT.TARGET t).set MEM_INIT.COUNT (n - 1)).set MEM_INIT.START b
    if b + n ≤ fillGroups t then (s.set MEM_INIT.BUSY 1).modMem fun m => { m with fill := some (t, b, n) }
    else s.set MEM_INT.INIT_ERR 1

def execMemInitGo (w : BitVec 40) (s : State) : Out := s.onCore (memInitGo w)

/-- A fill ends: its groups hold zero, and INIT_DONE is set (R411). -/
def execMemInitDone (s : State) : Out :=
  s.onCore fun s =>
    match s.memu.fill with
    | none => s
    | some (t, b, n) =>
      let base := if t = 0 then 0x0010000000 else 0x0020000000
      ((zeroRange (base + 64 * b) (base + 64 * (b + n)) s).modMem fun m => { m with fill := none }).set MEM_INIT.BUSY 0
        |>.set MEM_INT.INIT_DONE 1

/-- Writing MEM_CTRL.CLR_CNT clears MEM_CE (R418). -/
def execMemClrCnt (s : State) : Out :=
  s.onCore fun s => s.clearAll [MEM_CE.ROM, MEM_CE.LARDER, MEM_CE.PANTRY, MEM_CE.MAIN]

/-- Writing DRC_CTRL.CLR_CNT clears DRC_CE (R419). -/
def execDrcClrCnt (s : State) : Out := s.onCore fun s => s.clearAll [DRC_CE.CE2, DRC_CE.CE1]

/-! ### Scrubbing -/

/-- One row scrubbed: a correctable error is written back with its P, an uncorrectable one is counted and captured (R412). -/
def scrubRow (m : Fin 5) (a : Addr) (s : State) : State :=
  let (y, s) := syndromeOf a s
  match y with
  | .ce => if popCount 73 (s.row a).flip ≤ 1 then (countCe m false a s).setRow a { (s.row a) with flip := 0 } else countCe m false a s
  | .ue => captureUe m 5 a s
  | _ => s

/-- One block scrubbed (R412). -/
def scrubBlock (a : Addr) (s : State) : State :=
  let (y, s) := syndromeOf a s
  let good := decide (badSymbols (s.block a) ≤ 2)
  match y with
  | .ce => (countCe 4 false a s).when good (·.setBlock a 0)
  | .ce2 => (countCe 4 true a s).when good (·.setBlock a 0)
  | .ue => captureUe 4 5 a s
  | _ => s

/-- A lap ends: its time is reported and the next begins (R412). -/
def lapEnd (k : Fin 4) (s : State) : State :=
  let t := s.now - s.memu.scrubs[k].start
  let slow (limit : Nat) : Bool := limit != 0 && decide (limit * 100000 < t)
  let s := match k.val with
    | 0 => ((s.set MEM_SCRUB_LAP.MAIN (min 0xFFFFF (t / 100))).set MEM_INT.LAP_DONE 1).when (slow (s.get MEM_SCRUB.LAP_MAX))
        (·.set MEM_INT.SCRUB_SLOW 1)
    | 1 => ((s.set MEM_SCRUB_LAP.PANTRY (min 0xFFFFF (t / 100))).set MEM_INT.LAP_DONE 1).when (slow (s.get MEM_SCRUB.LAP_MAX))
        (·.set MEM_INT.SCRUB_SLOW 1)
    | _ => ((((s.set DRC_SCRUB_LAP.LAP (min 0xFFFFF (t / 100000))).bump DRC_SCRUB_LAP.LAPS).set DRC_INT.LAP_DONE 1).set
        DRC_STATUS.SCRUB_ACTIVE 0).when (slow (s.get DRC_SCRUB.LAP_MAX)) (·.set DRC_INT.SCRUB_SLOW 1)
  s.modScrub k fun w => { w with pos := 0, ce := 0 }

/-- Whether the walk over main SRAM, pantry SRAM or DRAM may take a group: enabled, and GAP tk after the last one (R412). -/
def scrubMay (k : Fin 3) (s : State) : Bool :=
  let gap := max 1 (if k.val = 2 then s.get DRC_SCRUB.GAP else s.get MEM_SCRUB.GAP)
  let on := match k.val with
    | 0 => s.bit MEM_CTRL.SCRUB_MAIN
    | 1 => s.bit MEM_CTRL.SCRUB_PANTRY
    | _ => s.bit DRC_CTRL.SCRUB_EN && dramOpen s
  on && (match s.memu.scrubs[k.castSucc].last with | none => true | some t => decide (t + gap ≤ s.now))

/-- The scrubber reads the next group or block of a memory (0 main SRAM, 1 pantry SRAM, 2 DRAM), in which the bits of `upset` have
been disturbed, 73 for each row or 576 for the block (R412). -/
def execScrubGroup (k : Fin 3) (upset : BitVec 584) (s : State) : Out :=
  s.onCore fun s =>
    if !scrubMay k s then s
    else
      let j : Fin 4 := k.castSucc
      let pos := s.memu.scrubs[j].pos
      let now := s.now
      let s := s.modScrub j fun w => { w with start := if w.pos = 0 then now else w.start, last := some now, pos := w.pos + 1 }
      if k.val = 2 then
        let a := 0x1000000000 + 64 * pos
        let s := scrubBlock a (upsetAt a (upset.toNat % 2 ^ 576) (s.set DRC_STATUS.SCRUB_ACTIVE 1))
        s.when (decide (dramEnd s ≤ a + 64)) (lapEnd j)
      else
        let m : Fin 5 := if k.val = 0 then 0 else 1
        let base := if k.val = 0 then 0x0010000000 else 0x0020000000
        let s := forEach (List.range 8) (fun i s =>
          let a := base + 64 * pos + 8 * i
          scrubRow m a (upsetAt a (bits upset.toNat (73 * i) 73) s)) s
        s.when (decide (fillGroups k.val ≤ pos + 1)) (lapEnd j)

/-- The retention scrubber's pass over the rows of one memory: corrected and counted, or counted and logged (R413, R420). A row
whose wrong bits lie outside what the spec defines takes the outcome that the free value names. -/
def retentionPass (m : Fin 5) (s : State) : State :=
  let mine := (s.memu.rows.map fun r => 8 * r.1).filter fun a => memoryOf a == some m
  let ceF := if m = 1 then SYS_PSCRUB.PANTRY_CE else SYS_PSCRUB.LARDER_CE
  let ueF := if m = 1 then SYS_PSCRUB.PANTRY_UE else SYS_PSCRUB.LARDER_UE
  forEach mine (fun a s =>
    let (y, s) := syndromeOf a s
    match y with
    | .ce => (s.bump ceF).when (decide (popCount 73 (s.row a).flip ≤ 1)) (fun s => s.setRow a { (s.row a) with flip := 0 })
    | .ue => ((s.bump ueF).pulse 231).log 0x0A0 (leBytes 1 m.val ++ leBytes 3 0 ++ leBytes 8 a)
    | _ => s) s

/-- Every 600 s the retention scrubber runs a lap over the MRAM, and over pantry SRAM in Standby and Pantry-only; its times in µs
are the lap's (R413, R420). -/
def execRetentionScrubLap (pantry larder : BitVec 20) (upsets : List (BitVec 40 × BitVec 73)) (s : State) : Out :=
  s.onRetention fun s =>
    let s := forEach upsets (fun u s => match memoryOf u.1.toNat with
      | some 1 => upsetAt u.1.toNat u.2.toNat s
      | some 2 => upsetAt u.1.toNat u.2.toNat s
      | _ => s) s
    let s := (retentionPass 2 s).set SYS_PSCRUB_LAP.LARDER larder.toNat
    let s := s.modScrub 3 fun w => { w with ce := 0 }
    if s.power.core then s.set SYS_PSCRUB_LAP.PANTRY 0
    else (retentionPass 1 s).set SYS_PSCRUB_LAP.PANTRY pantry.toNat

/-! ### DRAM controller -/

/-- The content of the DRAM is lost: nothing has been written since (R401, R406). -/
def dramLose (s : State) : State := zeroRange 0x1000000000 0x1200000000 s

/-- The condition of source 77 (R650). -/
def drcBroken (s : State) : Bool :=
  s.bit DRC_CTRL.ENABLE && (!s.bit DRC_STATUS.PLL_LOCK || !s.bit DRC_STATUS.PHY_UP || s.bit DRC_STATUS.DEV_LOST)

/-- A change of DRC, with source 77 raised where its condition rises. -/
def drcChange (f : State → State) (s : State) : State :=
  let t := f s
  t.when (drcBroken t && !drcBroken s) (·.raise 77)

/-- A write of DRC_CTRL.PHY_EN (R406). -/
def drcPhyEn (on : Bool) (s : State) : State :=
  drcChange (fun s =>
    if on then (s.set DRC_CTRL.PHY_EN 1).set DRC_STATUS.PHY_UP (boolNat s.power.dramPhy)
    else if s.bit DRC_STATUS.SR then s
    else dramLose ((s.modMem fun m => { m with bringup := none }).clearAll
      [DRC_CTRL.PHY_EN, DRC_STATUS.PHY_UP, DRC_STATUS.PLL_LOCK, DRC_STATUS.BRINGUP_DONE, DRC_STATUS.READY])) s

def execDrcPhyEnable (on : Bool) (s : State) : Out := s.onCore (drcPhyEn on)

/-- The DRC PLL locks (R406). -/
def execDrcPllLocked (s : State) : Out :=
  s.onCore fun s => s.when (s.bit DRC_CTRL.PHY_EN && s.bit DRC_STATUS.PHY_UP) (·.set DRC_STATUS.PLL_LOCK 1)

/-- A bring-up starts; the full sequence resets the device (R406). -/
def drcStart (retained : Bool) (s : State) : State :=
  let s := (s.modMem fun m => { m with bringup := some retained }).clearAll
    [DRC_STATUS.BRINGUP_DONE, DRC_STATUS.BRINGUP_FAIL, DRC_STATUS.LANE_FAIL, DRC_STATUS.READY]
  if retained then s else dramLose s

/-- Writing DRC_CTRL.BRINGUP with PHY_EN and PLL_LOCK at 1 runs the power-up sequence (R406); while SR_HOLD is 1 it runs the retained
bring-up (R684). -/
def drcBringup (s : State) : State :=
  if s.bit SUP_STATUS.SR_HOLD then
    let s := ((s.set DRC_CTRL.PHY_EN 1).set DRC_STATUS.PHY_UP (boolNat s.power.dramPhy)).set DRC_STATUS.PLL_LOCK 1
    drcStart true s
  else s.when (s.bit DRC_CTRL.PHY_EN && s.bit DRC_STATUS.PLL_LOCK) (drcStart false)

def execDrcBringup (s : State) : Out := s.onCore drcBringup

/-- The retained bring-up starts the PHY and the DRC PLL and leaves the array as it is (R684). -/
def execDrcRetainedBringup (s : State) : Out := s.onCore fun s => s.when (s.bit SUP_STATUS.SR_HOLD) drcBringup

/-- The self-refresh hold latches release (R684, R685). -/
def srRelease (s : State) : State := s.clearAll [SUP_STATUS.SR_HOLD, SYS_DRC_SAVE.VALID]

/-- A bring-up ends done, or failed with the lanes that failed (R406, R407, R684). -/
def execDrcBringupEnd (lanes : BitVec 4) (s : State) : Out :=
  s.onCore fun s =>
    match s.memu.bringup with
    | none => s
    | some retained =>
      let s := (s.modMem fun m => { m with bringup := none }).set DRC_INT.BRINGUP_END 1
      let s := if retained then (srRelease s).clearAll [DRC_STATUS.SR, DRC_SR.STATE] else s
      let s := s.set DRC_STATUS.DEV_LOST 0
      if lanes = 0 then
        (s.set DRC_STATUS.BRINGUP_DONE 1).set DRC_STATUS.READY (s.get DRC_STATUS.PHY_UP * s.get DRC_STATUS.PLL_LOCK)
      else
        let s := (s.set DRC_STATUS.BRINGUP_FAIL 1).set DRC_STATUS.LANE_FAIL lanes.toNat
        if retained then dramLose s else s

/-- No read strobe within 2 µs, or VDDQ below 0.40 V, with READY at 1: the device is lost (R407). -/
def execDrcDevLost (s : State) : Out :=
  s.onCore fun s => s.when (s.bit DRC_STATUS.READY)
    (drcChange fun s => (s.set DRC_STATUS.DEV_LOST 1).set DRC_STATUS.READY 0)

/-- PLL_LOCK or PHY_UP falls: READY falls with it (R407). -/
def execDrcPllPhyLoss (phy : Bool) (s : State) : Out :=
  s.onCore (drcChange fun s => (s.set (if phy then DRC_STATUS.PHY_UP else DRC_STATUS.PLL_LOCK) 0).set DRC_STATUS.READY 0)

/-- Writing DRC_INIT.GO starts the fill of all installed DRAM if READY is 1 (R411, R419). -/
def drcInitGo (s : State) : State :=
  s.when (s.bit DRC_STATUS.READY && !s.bit DRC_INIT.BUSY) fun s =>
    ((s.set DRC_INIT.BUSY 1).set DRC_STATUS.INIT_BUSY 1).set DRC_INIT.PROGRESS 0

def execDrcInitGo (s : State) : Out := s.onCore drcInitGo

/-- The DRAM fill ends (R411): zero data, valid check slots, PROGRESS at the installed size. -/
def execDrcInitDone (s : State) : Out :=
  s.onCore fun s => s.when (s.bit DRC_INIT.BUSY) fun s =>
    ((dramLose s).clearAll [DRC_INIT.BUSY, DRC_STATUS.INIT_BUSY]).set DRC_INIT.PROGRESS (dramGiB s * 16384)
      |>.set DRC_INT.INIT_DONE 1

/-- Writing DRC_SR.ENTER requests self-refresh (R409). -/
def drcSrEnter (s : State) : State := s.modMem fun m => { m with srWait := s.bit DRC_STATUS.READY }

def execDrcSrEnter (s : State) : Out := s.onCore drcSrEnter

/-- Accesses have drained and no fill runs: the DRAM enters self-refresh, and SYS_DRC_SAVE takes DRC_CFG (R409, R417, R685). -/
def execDrcSrEntryDone (s : State) : Out :=
  s.onCore fun s => s.when (s.memu.srWait && !s.bit DRC_INIT.BUSY) fun s =>
    let s := (((s.modMem fun m => { m with srWait := false }).set DRC_SR.STATE 1).set DRC_STATUS.SR 1).set DRC_STATUS.READY 0
    (((s.set SYS_DRC_SAVE.VALID 1).set SYS_DRC_SAVE.SIZE (s.get DRC_CFG.SIZE)).set SYS_DRC_SAVE.RANKS (s.get DRC_CFG.RANKS)).set
      SYS_DRC_SAVE.RATE (s.get DRC_CFG.RATE)

/-- Writing DRC_SR.EXIT leaves self-refresh (R406, R409, R685). READY returns where the bring-up stands and nothing was lost. -/
def drcSrExit (s : State) : State :=
  s.when (s.bit DRC_SR.STATE) fun s =>
    let s := s.clearAll [DRC_SR.STATE, DRC_STATUS.SR, SYS_DRC_SAVE.VALID]
    s.set DRC_STATUS.READY (boolNat (s.bit DRC_STATUS.BRINGUP_DONE && s.bit DRC_STATUS.PLL_LOCK && s.bit DRC_STATUS.PHY_UP &&
      !s.bit DRC_STATUS.DEV_LOST))

def execDrcSrExit (s : State) : Out := s.onCore drcSrExit

/-- The fields of DRC_MRW taken from a written word. -/
def drcMrwFields (w : Nat) (s : State) : State :=
  ((((s.set DRC_MRW.READ (bits w 27 1)).set DRC_MRW.RANK (bits w 26 1)).set DRC_MRW.CHAN (bits w 24 2)).set DRC_MRW.MA (bits w 16 8)).set
    DRC_MRW.OP (bits w 8 8)

/-- DRC_MRW.GO: refused while READY is 0, otherwise the mode register command goes to the device (R419). -/
def drcMrw (w : Nat) (s : State) : State :=
  let s := drcMrwFields w s
  if s.bit DRC_STATUS.READY && !s.bit DRC_MRW.BUSY then
    (s.set DRC_MRW.ERR 0).modMem fun m => { m with mrw := m.mrw ++ [BitVec.ofNat 40 w] }
  else s.set DRC_MRW.ERR 1

/-- DRC_MRW.GO with READ set: OP takes the value that the device returns (R419). -/
def execDrcMrwRead (w : BitVec 40) (value : BitVec 8) (s : State) : Out :=
  s.onCore fun s =>
    let s := drcMrw (setBits w.toNat 27 1 1) s
    s.when (!s.bit DRC_MRW.ERR) (·.set DRC_MRW.OP value.toNat)

/-- DRC_MRW.GO with READ clear writes a mode register (R419). -/
def execDrcMrwWrite (w : BitVec 40) (s : State) : Out := s.onCore (drcMrw (setBits w.toNat 27 1 0))

end Sys2Proof.Machine
end

