-- ==== Sys2Proof/Machine/Records.lean ====
section
/-! DEFINITION. The system records of the MRAM (R699, R700), dictionary values at rest, and the codes that reports carry. -/

namespace Sys2Proof.Machine

/-- A kind of system record: its offset in the MRAM, its length, and the offset of its SEQ; its CRC stands in its last 4 bytes. -/
structure SysRec where
  ofs : Nat
  len : Nat
  seq : Nat
  deriving DecidableEq, Repr

/-- The locator of copy slot `k`. -/
def recLocator (k : Nat) : SysRec := ⟨32 * k, 32, 16⟩
def recHash : SysRec := ⟨0x100, 64, 56⟩
def recBinding : SysRec := ⟨0x200, 64, 52⟩
def recBoot : SysRec := ⟨0x300, 64, 52⟩
def recRecovery : SysRec := ⟨0x400, 16, 8⟩

/-- Copy `c` of a record, 0 or 1, as its bytes. -/
def recCopy (r : SysRec) (c : Nat) (s : State) : List Byte := s.readBytes (mramBase + r.ofs + 0x8000 * c) r.len

/-- Whether a copy passes its CRC. -/
def recValid (r : SysRec) (l : List Byte) : Bool := leAt l (r.len - 4) 4 == crc32c (l.take (r.len - 4))

/-- The copy that a reader takes: the one with the higher SEQ of those that pass (R699). -/
def recRead (r : SysRec) (s : State) : Option (List Byte) :=
  let a := recCopy r 0 s
  let b := recCopy r 1 s
  if recValid r a then
    if recValid r b ∧ leAt a r.seq 4 < leAt b r.seq 4 then some b else some a
  else if recValid r b then some b else none

/-- A record written over the copy with the lower SEQ, with the higher SEQ plus 1 (R699); a copy that fails its CRC counts as the
lower. -/
def recWrite (r : SysRec) (body : List Byte) (s : State) : State :=
  let a := recCopy r 0 s
  let b := recCopy r 1 s
  let qa := if recValid r a then leAt a r.seq 4 + 1 else 0
  let qb := if recValid r b then leAt b r.seq 4 + 1 else 0
  let c := if qa ≤ qb then 0 else 1
  let l := splice (body ++ List.replicate (r.len - body.length) 0) r.seq (leBytes 4 (max qa qb))
  let l := splice l (r.len - 4) (leBytes 4 (crc32c (l.take (r.len - 4))))
  s.writeBytes (mramBase + r.ofs + 0x8000 * c) l

/-- COUNT of the recovery counter, which 0x5003.00 reads (R654, R699). -/
def recoveryCount (s : State) : Nat := match recRead recRecovery s with | some l => leAt l 0 2 | none => 0

/-- The recovery counter written. -/
def recoverySet (n : Nat) (s : State) : State := recWrite recRecovery (leBytes 2 n) s

/-- The key under which a dictionary entry's value is held. -/
def dictKey (index sub : Nat) : Nat := index * 256 + sub

/-- The number a dictionary entry holds, or its default. -/
def dictNat (index sub dflt : Nat) (s : State) : Nat :=
  match kvFind s.dict (dictKey index sub) with
  | some l => leNat l
  | none => dflt

/-- A dictionary entry takes a value. -/
def dictPut (index sub : Nat) (v : List Byte) (s : State) : State := { s with dict := kvInsert s.dict (dictKey index sub) v }

/-- The severity that 0x5010.k holds (R651). -/
def dictSeverity (k : Nat) (s : State) : Nat := dictNat 0x5010 k ((fltResetSeverity k).getD 0) s

/-- The origin code of a master (R605); DMA has none of its own. -/
def originOf (m : Master) (s : State) : Nat :=
  match m with
  | .y n => 0x50 + n.val
  | .yp => 0x54
  | .dma => 0
  | .debug => if s.get CIP_STATUS.DBG_LEVEL = 2 then 0x61 else 0x60

/-- The unit code of the block that drives a source (R665). -/
def unitOfSource (k : Nat) : Nat :=
  if k = 0 then 0x00 else if k = 1 then 0x01 else if k = 2 then 0x02 else if k = 3 then 0x00
  else if k ≤ 17 then 0x01
  else if 24 ≤ k ∧ k ≤ 31 then 0x40 + (k - 24) / 4
  else if 32 ≤ k ∧ k ≤ 35 then 0x44 + (k - 32) / 2
  else if k = 36 ∨ k = 37 then 0x18 + (k - 36) else if k = 38 then 0x18
  else if 40 ≤ k ∧ k ≤ 43 then 0x28 + (k - 40)
  else if 44 ≤ k ∧ k ≤ 47 then 0x10 + (k - 44)
  else if 48 ≤ k ∧ k ≤ 51 then 0x20 + k % 2
  else if k = 56 ∨ k = 57 then 0x30
  else if 60 ≤ k ∧ k ≤ 65 then 0x38
  else if 72 ≤ k ∧ k ≤ 75 then 0x05
  else if k = 76 ∨ k = 77 then 0x06
  else if 78 ≤ k ∧ k ≤ 87 then 0x70
  else if k = 88 then 0x00
  else if 96 ≤ k ∧ k ≤ 99 then 0x08
  else if k = 100 ∨ k = 101 then 0x50
  else if k = 102 then 0x48 else if k = 103 then 0x60 else 0x03

/-- A REG_CONFIG record: block, offset and value of a configuration write (R664). -/
def State.logConfig (s : State) (block ofs value origin : Nat) : State :=
  s.log 0x031 (leBytes 1 block ++ leBytes 1 0 ++ leBytes 2 ofs ++ leBytes 5 value ++ leBytes 3 0) origin

/-- A DICT_WRITE record: entry, STATUS, OFFSET, LENGTH, TASK and the first value bytes (R605, R664). -/
def State.logDict (s : State) (index sub status ofs len task : Nat) (value : List Byte) (origin : Nat) : State :=
  s.log 0x030 (leBytes 2 index ++ leBytes 1 sub ++ leBytes 1 status ++ leBytes 4 ofs ++ leBytes 4 len ++ leBytes 2 task ++
    leBytes 2 0 ++ value.take 16) origin

/-- The spin permit: entry 0x2020.00, which reads 1 while the SPINGATE strap is inactive (R594). -/
def permitted (s : State) : Bool := !s.sup.spingate || dictNat 0x2020 0 0 s != 0

/-- The permit returns to 0 (R595); the FQX's own write of the entry is logged (R605). -/
def permitEnd (s : State) : State :=
  if s.sup.spingate && dictNat 0x2020 0 0 s != 0 then
    { s with dict := kvErase s.dict (dictKey 0x2020 0) }.logDict 0x2020 0 0 0 1 0 [0] 0
  else s

/-- A FAULT record (R664). -/
def State.logFault (s : State) (k sev flags : Nat) : State :=
  s.log 0x010 (leBytes 1 k ++ leBytes 1 sev ++ leBytes 1 (boolNat (k ∈ fltLevelSources)) ++ leBytes 1 (unitOfSource k) ++
    leBytes 8 s.now) 0 flags

/-- A SUPPLY record (R664). -/
def State.logSupply (s : State) (rail event mv : Nat) : State :=
  s.log 0x020 (leBytes 1 rail ++ leBytes 1 event ++ leBytes 2 mv)

/-- A POWER_STATE record (R664). -/
def State.logPower (s : State) (old new cause : Nat) (origin : Nat := 0) : State :=
  s.log 0x002 (leBytes 1 old ++ leBytes 1 new ++ leBytes 2 cause) origin

/-- A POWER_ON record (R664). -/
def State.logOn (s : State) (cause : Nat) (source : Nat := 0xFF) : State :=
  s.log 0x001 (leBytes 1 cause ++ leBytes 1 source ++ leBytes 2 0)

end Sys2Proof.Machine
end

