-- ==== Sys2Proof/Machine/Spm.lean ====
section
/-! DEFINITION. The spindle drive and the speed grades (R328 to R368). -/

namespace Sys2Proof.Machine

/-- The 40-bit slot of SPM's window at offset `ofs` (R368). -/
def spmSlot (ofs : Nat) : Fld := { addr := 0x0F00380000 + ofs, lo := 0, len := 40, rst := 0 }

/-- Byte `k` of the SPINDLE record of the active bank (R368). -/
def spmByte (k : Nat) (s : State) : Nat :=
  bits (s.get (spmSlot (0x4000 + activeBank s * 0x4000 + 8 * (k / 5)))) (8 * (k % 5)) 8

/-- A little-endian field of the SPINDLE record (R141). -/
def spmRec (ofs len : Nat) (s : State) : Nat :=
  ((List.range len).map fun i => spmByte (ofs + i) s * 256 ^ i).sum

def polePairs (s : State) : Nat := spmRec 0 1 s
def iMax (s : State) : Nat := spmRec 16 2 s

/-- Entry `i` of the active commutation table (R142, R368). -/
def commEntry (i : Nat) (s : State) : Int :=
  toS 16 (s.get (spmSlot (0x6000 + activeBank s * 0x4000 + 8 * (i % 1024))))

/-- 2^21 times the sine of an angle: the table with its linear interpolation (R337). -/
def sine (th : Nat) (s : State) : Int :=
  let a := commEntry (th / 64) s
  let b := commEntry (th / 64 + 1) s
  64 * a + (b - a) * (th % 64 : Nat)

/-- 2^21 times the cosine of an angle (R337). -/
def cosine (th : Nat) (s : State) : Int := sine ((th + 0x4000) % 65536) s

/-- 2^40 / √3 and 2^40 × √3, rounded. -/
def invRoot3 : Int := 634803334273
def root3 : Int := 1904410002820

/-- The mode under R347. -/
def spmMode (s : State) : Nat := s.get SPM_STATUS.MODE

/-- A fault of SPM: its SPM_INT bit is set. -/
def spmInt (f : Fld) (s : State) : State := s.set f 1

/-- The mode is entered: OFFSET_VALID clears on entry into STOPPED, IPS and COAST (R336), the permit ends on entry into
STOPPED and COAST (R595), and COMMAND and angle sources follow the mode (R334). -/
def spmEnter (m : Nat) (s : State) : State :=
  let off := m = 0 ∨ m = 3 ∨ m = 8
  let s := if off then s.set SPM_STATUS.OFFSET_VALID 0 else s
  let s := if (m = 0 ∨ m = 8) ∧ spmMode s ≠ m then permitEnd s else s
  let src := if m = 3 ∨ m = 4 then 1 else if m = 5 ∨ m = 6 ∨ m = 7 then s.get SPM_STATUS.ANGLE_SRC ||| 2 else 0
  (s.set SPM_STATUS.MODE m).set SPM_STATUS.ANGLE_SRC (if src = 3 ∧ m = 5 then 2 else src)

/-- SENSE begins (R349). -/
def spmSense (s : State) : State :=
  (spmEnter 1 s).modSpm fun m => { m with runHeld := false, toIps := false, restart := false, crossings := [] }

/-- The speed codes of the grades (R355). -/
def gradeSpeed (g : Nat) : Nat := if g = 0 then 57600 else if g = 1 then 76800 else if g = 2 then 96000 else 115200

/-- The target grade (R357). -/
def spmTargetGrade (s : State) : Nat :=
  min (if s.variant1408 then s.get SPM_GRADE.CURVE else s.get SPM_GRADE.REQ) (s.get SPM_GRADE.MAX)

/-- The target follows its registers; in RUN_EST and RUN_WEDGE a target that differs from GRADE_ACT is a pending change,
unless a change runs (R359, R361). -/
def spmTarget (s : State) : State :=
  let g := spmTargetGrade s
  let s := s.set SPM_STATUS.TARGET g
  if s.bit SPM_STATUS.CHANGING || !(spmMode s == 5 || spmMode s == 6) then s
  else if g = s.get SPM_STATUS.GRADE_ACT then s.set SPM_STATUS.GRADE_PEND 0
  else if s.bit SPM_STATUS.GRADE_PEND then s
  else spmInt SPM_INT.GRADE_START (s.set SPM_STATUS.GRADE_PEND 1)

/-- RUN_EST is entered with w_ref, for the target in force (R350, R352, R357). -/
def spmRunEst (ref : Nat) (s : State) : State :=
  let g := spmTargetGrade s
  let s := ((spmEnter 5 s).set SPM_STATUS.GRADE_ACT g).set SPM_STATUS.TARGET g
  (s.set SPM_SPEED.REF (ref / 100000000)).modSpm fun m => { m with goal := g, ref := ref, refStep := 0 }

/-- A start fails for good: COAST with START_FAIL (R349, R351, R352). -/
def spmStartFail (s : State) : State :=
  spmInt SPM_INT.START_FAIL ((spmEnter 8 s).modSpm fun m => { m with restart := false, toIps := false })

/-- An attempt of the open loop fails: another start after STOP_WAIT, up to RETRIES times (R352). -/
def spmOpenFail (s : State) : State :=
  if s.get SPM_STATUS.START_TRY < s.get SPM_START.RETRIES then
    (spmEnter 8 (s.bump SPM_STATUS.START_TRY)).modSpm fun m => { m with restart := true }
  else (spmStartFail s).raise 62

/-- A refused command (R348). -/
def spmRefuse (code : Nat) (s : State) : State := spmInt SPM_INT.CMD_ERR (s.set SPM_STATUS.ERR_CODE code)

/-- RUN (R348, R366): refused, of no effect, held for the routine or the permit, or SENSE. -/
def spmRun (s : State) : State :=
  let m := spmMode s
  if !s.bit SPM_CTRL.ENABLE || s.bit SPM_INT.GATE_FAULT then spmRefuse 1 s
  else if (s.get SUP_STATUS.WARN_NOW).testBit 0 then spmRefuse 4 s
  else
    let s := if s.variant1408 then spmTarget (s.set SPM_GRADE.CURVE 0) else s
    if m = 9 then s.modSpm fun d => { d with runHeld := true }
    else if m = 0 ∨ m = 8 ∨ m = 2 then
      if !permitted s then
        (s.set SPM_STATUS.PERMIT_WAIT 1).modSpm fun d => { d with runHeld := true }
      else
        spmSense ((s.set SPM_STATUS.START_TRY 0).modSpm fun d => { d with senseTries := 0, ipsFails := 0 })
    else s

/-- PERMIT has become 1: a RUN that waits for it is carried out (R348, R594). -/
def spmPermit (s : State) : State :=
  if s.bit SPM_STATUS.PERMIT_WAIT then
    let s := (s.set SPM_STATUS.PERMIT_WAIT 0).modSpm fun d => { d with runHeld := false }
    spmRun s
  else s

def execSpmRun (s : State) : Out := s.onCore spmRun

/-- STOP (R348, R361, R362). -/
def spmStop (s : State) : State :=
  let m := spmMode s
  if compActive 0 s || compActive 1 s then spmRefuse 2 s
  else if m = 5 ∨ m = 6 then (spmEnter 7 s).clearAll [SPM_STATUS.CHANGING, SPM_STATUS.GRADE_PEND]
  else if m = 1 ∨ m = 3 ∨ m = 4 then (spmEnter 8 s).modSpm fun d => { d with restart := false }
  else s

def execSpmStop (s : State) : Out := s.onCore spmStop

/-- COAST (R348, R366): in a driving mode from the next period start. -/
def spmCoast (s : State) : State :=
  let m := spmMode s
  if 3 ≤ m ∧ m ≤ 7 then s.modSpm fun d => { d with coastReq := true }
  else if m = 1 ∨ m = 2 then (spmEnter 8 s).modSpm fun d => { d with restart := false, toIps := false }
  else s

def execSpmCoast (s : State) : Out := s.onCore spmCoast

/-- ENABLE is 0: the gates coast and the mode is STOPPED or COAST (R328, R367). -/
def spmDisable (s : State) : State :=
  if spmMode s = 0 then s else (spmEnter 8 s).modSpm fun d => { d with restart := false, toIps := false, coastReq := false }

/-- SPN_FLT_N low for 1 us: all outputs low, COAST, the flag and the gate fault (R365). -/
def execSpmGateFault (s : State) : Out :=
  s.onCore fun s => (spmInt SPM_INT.GATE_FAULT (spmDisable (spmEnter 8 s))).raise 65

def execSpmClrCnt (s : State) : Out :=
  s.onCore fun s => s.clearAll [SPM_CNT.TRUNC, SPM_CNT.SHUNT_INV, SPM_CNT.CATCHES, SPM_CNT.STARTS]

/-- A write of SPM_ANGLE.OFFSET (R336). -/
def execSpmAngleOffsetWrite (v : BitVec 16) (s : State) : Out :=
  s.onCore fun s => (s.set SPM_ANGLE.OFFSET v.toNat).set SPM_STATUS.OFFSET_VALID 1

/-- A write of SPM_GRADE.REQ (R348, R357). -/
def spmGradeReq (v : Nat) (s : State) : State :=
  if s.variant1408 then spmRefuse 3 s else spmTarget (s.set SPM_GRADE.REQ v)

def execSpmGradeReqWrite (v : BitVec 2) (s : State) : Out := s.onCore (spmGradeReq v.toNat)

/-- A quotient rounded to nearest, or a free value where the divisor is 0 and the spec states no result. -/
def divFree (a b : Int) (s : State) : Int × State :=
  if b = 0 then let (v, s) := s.fresh; ((v : Int), s) else (roundDiv a b, s)

/-- An ADC code as an exact current in Q1.15 of I_MAX before saturation (R339). -/
def spmCurrent (code ofs : Nat) (s : State) : Int × State :=
  divFree ((toS 12 code - toS 12 ofs) * 100000 * 32768) ((spmRec 4 4 s : Int) * iMax s) s

/-- The estimator takes a sample set: its loop has gains that the spec does not give, so the angle, the speed and whether the
d-axis back-EMF lies within tan 10° are free (R338). -/
def spmEstimate (s : State) : State :=
  let (a, s) := s.fresh
  let (w, s) := s.fresh
  let (q, s) := s.fresh
  let om := toS 20 w
  let run := if q % 2 = 1 then s.spm.estRun + 1 else 0
  let s := s.modSpm fun m => { m with estTheta := a % 65536, estOmega := om, estRun := run }
  s.set SPM_STATUS.EST_OK (boolNat (decide (spmRec 28 2 s * 16 ≤ 2 * om.natAbs ∧ 64 ≤ run)))

/-- The instant in tk after the period start at which a sample set counts as taken (R340 to R342): the S3 instant, or the
mean of the two falls less BACK. -/
def spmSetInstant (s : State) : Nat :=
  if spmRec 1 1 s = 1 then max 3 (s.get SPM_ADC.S3)
  else
    match (s.spm.edges.map fun e => e.2).mergeSort (· ≤ ·) with
    | [_, b, c] => (b + c) / 2 - s.get SPM_ADC.BACK
    | _ => 0

/-- A sample set is converted and transformed to id and iq (R339 to R342). `timely` says that its conversions completed
before the frame start. -/
def execSpmSampleSet (a b c : BitVec 12) (timely : Bool) (s : State) : Out :=
  s.onCore fun s =>
    let three := spmRec 1 1 s == 1
    let rail (x : BitVec 12) : Bool := x == 0x800#12 || x == 0x7FF#12
    let valid := timely && !rail a && !rail b && (!three || !rail c) && (three || s.spm.shuntValid)
    let s := if three || s.spm.shuntValid then s else s.bump SPM_CNT.SHUNT_INV
    let s := s.set SPM_STATUS.SAMPLES_OK (boolNat valid)
    if !valid then s
    else
      let ofA := s.get SPM_IOFS.OFS_A
      let (x, s) := spmCurrent a.toNat ofA s
      let (y, s) := spmCurrent b.toNat (if three then s.get SPM_IOFS.OFS_B else ofA) s
      let (z, s) := spmCurrent c.toNat (s.get SPM_IOFS.OFS_C) s
      -- single shunt: m1 gives the lowest phase as -m1, m2 the highest as +m2, by the order of the falls
      let lowest := (s.spm.edges.zipIdx.foldl (fun m e => if e.1.2 < m.1.2 then e else m) ((0, 1000000), 0)).2
      let highest := (s.spm.edges.zipIdx.foldl (fun m e => if m.1.2 < e.1.2 then e else m) ((0, 0), 1)).2
      let phase (k : Nat) : Int := if k = lowest then -x else if k = highest then y else x - y
      let ia := if three then x else phase 0
      let ib := if three then y else phase 1
      let ic := if three then z else phase 2
      let th := ((s.spm.theta : Int) + s.spm.step * spmSetInstant s / max 1 s.spm.len / 65536) % 65536
      let sn := sine th.toNat s
      let cs := cosine th.toNat s
      let al := sat16 ia
      let be40 := (sat16 ia + 2 * sat16 ib) * invRoot3
      let id := sat16 (roundShift (al * 2 ^ 40 * cs + be40 * sn) 61)
      let iq := sat16 (roundShift (be40 * cs - al * 2 ^ 40 * sn) 61)
      let tooHigh := 40960 < ia.natAbs ∧ 40960 < ib.natAbs ∧ 40960 < ic.natAbs
      let run := if tooHigh then s.spm.ocRun + 1 else 0
      let s := s.modSpm fun m => { m with id := BitVec.ofInt 16 id, iq := BitVec.ofInt 16 iq, setStart := some m.start, ocRun := run }
      let s := (s.set SPM_CURR.ID (bits (ofS 16 id) 8 8)).set SPM_CURR.IQ (bits (ofS 16 iq) 8 8)
      let s := if 3 ≤ spmMode s ∧ spmMode s ≤ 7 then spmEstimate s else s
      if 2 ≤ run then
        (spmInt SPM_INT.OVERCURRENT (spmDisable (spmEnter 8 s))).raise 61
      else s

/-- ZMIN in effect, in tk. -/
def spmZmin (s : State) : Nat := max 8 (s.get SPM_PWM.ZMIN)

/-- Field weakening (R346): enabled or not from the bank's grade and V12, and id_ref moved once at the release. -/
def spmFieldWeaken (sat low : Bool) (s : State) : State :=
  let v := s.get (SUP_RAIL.MV 0)
  let lim := spmRec 20 2 s
  let on := s.bit SPM_CTRL.FW_EN && bankGrade (activeBank s) s == 3 &&
    (decide (v < lim) || (s.bit SPM_STATUS.FW_ACTIVE && decide (100 * v ≤ 102 * lim)))
  let s := s.set SPM_STATUS.FW_ACTIVE (boolNat on)
  let step : Int := max 1 (s.get SPM_FW.STEP)
  let r := toS 16 (s.get SPM_FW.ID_REF)
  let (floor', s) := divFree (toS 16 (spmRec 18 2 s) * 32768) (iMax s) s
  let floor' := clampI (-32768) 0 floor'
  let r := if !on then min 0 (r + step) else if sat then max floor' (r - step) else if low then min 0 (r + step) else r
  s.set SPM_FW.ID_REF (ofS 16 r)

/-- Whether |v| exceeds `num / den` of DLIM = 1 - 4 ZMIN / P (R333, R346). -/
def spmAbove (vd vq : Int) (num den : Nat) (s : State) : Bool :=
  let p := s.spm.len
  let z := p - 4 * spmZmin s
  decide ((vd * vd + vq * vq) * (p * p * den * den : Nat) > (32768 * 32768 * z * z * num * num : Nat))

/-- The spindle outputs are released (R332, R346, R367): vd and vq for the next period, O2 into IQ_REF. -/
def spmRelease (vd vq iq : BitVec 16) (s : State) : State :=
  let s := (s.set SPM_CURR.IQ_REF iq.toNat).modSpm fun m => { m with released := (vd, vq) }
  spmFieldWeaken (s.bit SPM_STATUS.V_SAT) (!spmAbove vd.toInt vq.toInt 9 10 s) s

/-- The edges of a duty: the high switch is on from P/2 - h to P/2 + h, each rounded to the nearest tk, where `d` is the
duty times `u` (R331). -/
def spmEdges (p : Nat) (u d : Int) : Nat × Nat :=
  ((roundDiv (p * u - d * p) (2 * u)).toNat, (roundDiv (p * u + d * p) (2 * u)).toNat)

/-- Minimum-pulse insertion (R341): the middle phase, then the highest, moves later by the shortfall; a set that would put a
fall past P - ZMIN is invalid and moves nothing. -/
def spmInsert (p zmin minPulse : Nat) (e : List (Nat × Nat)) : List (Nat × Nat) × Bool :=
  match (e.map fun x => x.2).mergeSort (· ≤ ·) with
  | [lo, mid, hi] =>
    let d1 := minPulse - (mid - lo)
    let mid' := mid + d1
    let d2 := minPulse - (hi - mid')
    if p - zmin < mid' ∨ p - zmin < hi + d2 then (e, false)
    else
      let mi := (e.zipIdx.find? fun x => x.1.2 == mid && !(x.1.2 == lo && x.2 == ((e.map (·.2)).idxOf lo))).map (·.2)
      let hx := (e.zipIdx.reverse.find? fun x => x.1.2 == hi && some x.2 != mi).map (·.2)
      (e.zipIdx.map fun x =>
        if some x.2 = mi then (x.1.1 + d1, x.1.2 + d1) else if some x.2 = hx then (x.1.1 + d2, x.1.2 + d2) else x.1, true)
  | _ => (e, true)

/-- vd and vq become duties and edges for the next period: the steps of R333, the zero vector of R331 and the insertion of
R341. -/
def spmApply (s : State) : State :=
  let vd := s.spm.released.1.toInt
  let vq := s.spm.released.2.toInt
  let p := s.spm.len
  let z : Int := (p - 4 * spmZmin s : Nat)
  let sat := spmAbove vd vq 1 1 s
  let r : Int := Nat.sqrt ((vd * vd + vq * vq).toNat * 2 ^ 64)
  let scale (v : Int) : Int := if sat && r != 0 then roundDiv (v * 32768 * z * 2 ^ 32) (p * r) else v
  let vd := scale vd
  let vq := scale vq
  let th := (((s.spm.theta : Int) * 65536 + s.spm.step + s.spm.step / 2) / 65536 % 65536).toNat
  let sn := sine th s
  let cs := cosine th s
  -- the phase voltages times 2^77
  let al := vd * cs - vq * sn
  let be := vd * sn + vq * cs
  let va := al * 2 ^ 41
  let vb := be * root3 - al * 2 ^ 40
  let vc := -(be * root3) - al * 2 ^ 40
  let mid2 := max va (max vb vc) + min va (min vb vc)
  let u : Int := 2 ^ 118
  let duty (v : Int) : Int := u / 2 + (2 * v - mid2) * invRoot3
  let e := [spmEdges p u (duty va), spmEdges p u (duty vb), spmEdges p u (duty vc)]
  let (e, ok) := if spmRec 1 1 s = 0 then spmInsert p (spmZmin s) ((spmRec 2 2 s + 9) / 10) e else (e, true)
  let s := ((s.set SPM_STATUS.V_SAT (boolNat sat)).set SPM_VOLT.VD (ofS 16 vd)).set SPM_VOLT.VQ (ofS 16 vq)
  let s := s.set SPM_VOLT.V12 (s.get (SUP_RAIL.MV 0) / 100)
  s.modSpm fun m => { m with nextEdges := e, nextValid := ok }

/-- Released vd and vq are turned into the duties of the next period, in the modes that drive the motor by PWM (R332). -/
def execSpmOutputApply (s : State) : Out :=
  s.onCore fun s => if 4 ≤ spmMode s ∧ spmMode s ≤ 7 then spmApply s else s

/-- The angle of a crossing by its code 0 to 5 in forward order (R349). -/
def crossingAngle (k : Nat) : Nat :=
  if k = 0 then 0 else if k = 1 then 0x2AAB else if k = 2 then 0x5555 else if k = 3 then 0x8000 else if k = 4 then 0xAAAB else 0xD555

/-- The speed of four crossings in rpm: 10 / (p × Δ) with Δ the mean interval (R349). -/
def crossingSpeed (l : List (Nat × Nat)) (s : State) : Int × State :=
  match l with
  | [a, _, _, d] => divFree 3000000000 ((polePairs s : Int) * ((d.1 : Int) - a.1)) s
  | _ => (0, s)

/-- Whether the crossings follow one another in steps of `k` codes. -/
def crossingOrder (k : Nat) : List (Nat × Nat) → Bool
  | a :: b :: r => b.2 == (a.2 + k) % 6 && crossingOrder k (b :: r)
  | _ => true

/-- The rotor is classified from its first four crossings (R349, R350). -/
def spmClassify (l : List (Nat × Nat)) (s : State) : State :=
  let fwd := crossingOrder 1 l
  let rev := crossingOrder 5 l
  let (rpm, s) := crossingSpeed l s
  let rpm := rpm.toNat
  let s := (s.set SPM_CATCH.RPM rpm).set SPM_SPEED.SPEED (16 * rpm)
  let last := l.getD 3 (0, 0)
  if fwd ∧ spmRec 30 2 s ≤ rpm then
    ((s.set SPM_CATCH.RESULT 2).bump SPM_CNT.CATCHES).modSpm fun m =>
      { m with caught := some (crossingAngle last.2, rpm, last.1) }
  else if fwd ∨ rev then
    (spmEnter 2 (s.set SPM_CATCH.RESULT (if fwd then 3 else 4))).modSpm fun m => { m with toIps := true }
  else
    let k := s.spm.senseTries + 1
    let s := (s.set SPM_CATCH.RESULT 5).modSpm fun m => { m with senseTries := k, crossings := [] }
    if 3 ≤ k then spmStartFail s else s

/-- A BEMF comparator crosses zero at a tick (R347, R349, R353, R367). -/
def execBemfZeroCrossing (code : Fin 6) (t : BitVec 64) (s : State) : Out :=
  s.onCore fun s =>
    let s := s.set SPM_STATUS.STOP_SEEN 0
    let m := spmMode s
    let l := ((s.spm.crossings ++ [(t.toNat, code.val)]).reverse.take 4).reverse
    let s := s.modSpm fun d => { d with crossings := l, calMoved := d.calMoved || m == 9 }
    if m = 1 ∧ s.spm.caught = none ∧ l.length = 4 then spmClassify l s
    else if m = 8 ∧ l.length = 4 then
      let (rpm, s) := crossingSpeed l s
      s.set SPM_SPEED.SPEED (16 * rpm.toNat)
    else s

/-- IPS is entered (R349, R351). -/
def spmIps (s : State) : State := (spmEnter 3 s).modSpm fun m => { m with toIps := false, ipsFails := 0 }

/-- STOP_WAIT ms without a BEMF change (R347, R349, R352). -/
def execSpmStopWaitExpiry (s : State) : Out :=
  s.onCore fun s =>
    let s := s.set SPM_STATUS.STOP_SEEN 1
    let m := spmMode s
    if m = 1 ∧ s.spm.caught = none then spmIps (s.set SPM_CATCH.RESULT 1)
    else if m = 2 then if s.spm.toIps then spmIps s else spmEnter 0 s
    else if m = 8 then
      if s.spm.restart then spmSense s else spmEnter 0 s
    else s

/-- The six vectors of R351 in pulse order, as angles. -/
def ipsAngle (k : Nat) : Nat :=
  if k = 0 then 0 else if k = 1 then 0x8000 else if k = 2 then 0x2AAB else if k = 3 then 0xAAAB else if k = 4 then 0x5555 else 0xD555

/-- Six pulses with the magnitudes the ADCs sampled: the rotor's angle, or a failed sensing (R351). -/
def execSpmIps (m : Vector (BitVec 12) 6) (s : State) : Out :=
  s.onCore fun s =>
    if spmMode s ≠ 3 then s
    else
      let s := s.bump SPM_CNT.STARTS
      let l := m.toList.map (·.toNat)
      let best := l.foldl max 0
      let k := l.idxOf best
      let opp := l.getD (if k % 2 = 0 then k + 1 else k - 1) 0
      if best < spmRec 24 2 s ∨ (best - opp) * 32 < best then
        let f := s.spm.ipsFails + 1
        let s := s.modSpm fun d => { d with ipsFails := f }
        if 3 ≤ f then (spmStartFail s).raise 62 else s
      else
        (spmEnter 4 s).modSpm fun d => { d with theta := ipsAngle k, olSpeed := 0, ipsFails := 0 }

/-- The angle advance over a period of P tk at a speed in 1/16 rpm, in 1/65,536 of an angle unit (R334). -/
def spmAdvance (w : Int) (p : Nat) (s : State) : Int := w * polePairs s * 65536 * 65536 * p / (16 * 60 * 100000000)

/-- One step of the ramp toward the goal, in 1/16 rpm times 10^8 (R359, R362, R363). -/
def spmRamp (s : State) : State :=
  let m := spmMode s
  if m = 5 ∨ m = 6 ∨ m = 7 then
    let goal : Int := if m = 7 then 0 else gradeSpeed s.spm.goal * 100000000
    let r : Int := s.spm.ref
    let up : Int := spmRec 32 2 s * 16 * s.spm.len
    let dn : Int := spmRec 34 2 s * 16 * s.spm.len
    let r' := if r < goal then min goal (r + up) else if s.bit SPM_STATUS.BRAKE_HOLD then r else max goal (r - dn)
    (s.set SPM_SPEED.REF (r' / 100000000).toNat).modSpm fun d => { d with ref := r'.toNat, refStep := r' - r }
  else s.modSpm fun d => { d with refStep := 0 }

/-- SPEED_OK (R356), and with it the upward bank switch of R359. -/
def spmSpeedOk (s : State) : State :=
  let w : Int := s.get SPM_SPEED.SPEED
  let g : Int := gradeSpeed s.spm.goal
  let tol : Int := min 10000 (max 50 (s.get SPM_GRADE.TOL))
  let dev : Int := (w - g).natAbs * 1000000
  let ok := if dev ≤ tol * g then s.spm.okRun + 1 else 0
  let out := if 2 * tol * g < dev then s.spm.outRun + 1 else 0
  let s := s.modSpm fun d => { d with okRun := ok, outRun := out }
  if !s.bit SPM_STATUS.SPEED_OK && 64 ≤ ok then
    let s := spmInt SPM_INT.SPEED_OK (s.set SPM_STATUS.SPEED_OK 1)
    if s.bit SPM_STATUS.CHANGING && s.get SPM_STATUS.GRADE_ACT < s.spm.goal then s.set CLE_BANK.SWITCH_PEND 1 else s
  else if s.bit SPM_STATUS.SPEED_OK && 16 ≤ out then
    let s := s.set SPM_STATUS.SPEED_OK 0
    if s.bit SPM_STATUS.CHANGING then s else (spmInt SPM_INT.SPEED_LOST s).raise 63
  else s

/-- The open loop at a period start: it hands over to RUN_EST, or the start fails at 1.5 × HANDOVER (R352). -/
def spmOpenLoop (s : State) : State :=
  if spmMode s ≠ 4 then s
  else
    let w := s.spm.olSpeed + spmRec 26 2 s * 16 * s.spm.len
    let s := s.modSpm fun d => { d with olSpeed := w }
    let hand := spmRec 28 2 s * 1600000000
    let est := s.spm.estOmega * 100000000
    if hand ≤ w ∧ s.bit SPM_STATUS.EST_OK ∧ 10 * (est - w).natAbs ≤ w then spmRunEst est.toNat s
    else if 3 * hand ≤ 2 * w then spmOpenFail s
    else s

/-- The wedge angle at a beat event (R335). -/
def wedgeAngle (idx : Nat) (s : State) : Nat := (128 * polePairs s * idx + s.get SPM_ANGLE.OFFSET) % 65536

/-- The difference of two angles as a magnitude. -/
def angleDiff (a b : Nat) : Nat := let d := (a + 65536 - b % 65536) % 65536; min d (65536 - d)

/-- The angle at a beat event: OFFSET captured where it is not valid, the wedge angle compared with the estimator's, and the
estimator corrected to it in RUN_WEDGE (R334 to R336, R338). -/
def spmWedgeAngle (idx : Nat) (s : State) : State :=
  let m := spmMode s
  if ¬(m = 6 ∨ m = 7) then s
  else
    let est := s.spm.estTheta
    let used := s.bit SPM_STATUS.OFFSET_VALID && s.get SPM_STATUS.ANGLE_SRC == 3
    let s := if s.bit SPM_STATUS.OFFSET_VALID then s
      else
        ((s.set SPM_ANGLE.OFFSET (ofS 16 ((est : Int) - 128 * polePairs s * idx))).set SPM_STATUS.OFFSET_VALID 1).modSpm
          fun d => { d with angleRun := 0 }
    let th := wedgeAngle idx s
    let run := if used && decide (0x1555 < angleDiff th est) then s.spm.angleRun + 1 else 0
    let s := s.modSpm fun d => { d with angleRun := run, theta := th }
    if 16 ≤ run then
      ((spmInt SPM_INT.ANGLE ((s.set SPM_STATUS.OFFSET_VALID 0).set SPM_STATUS.ANGLE_SRC 2)).raise 60).modSpm fun d =>
        { d with angleRun := 0, theta := est }
    else
      (s.set SPM_STATUS.ANGLE_SRC 3).modSpm fun d => if m = 6 then { d with estTheta := th } else d

/-- The mode at a period start: COAST that waited, a caught rotor's RUN_EST, RUN_WEDGE with a beat and RUN_EST without
(R347, R350, R366). -/
def spmModeStep (t : Nat) (beat : Bool) (s : State) : State :=
  let m := spmMode s
  if s.spm.coastReq then (spmEnter 8 s).modSpm fun d => { d with coastReq := false, restart := false }
  else
    match s.spm.caught with
    | some (th, rpm, t4) =>
      if m ≠ 1 then s.modSpm fun d => { d with caught := none }
      else
        let s := spmRunEst (rpm * 1600000000) s
        let (ff, s) := divFree (32768 * (spmRec 14 2 s : Int) * rpm) (1000 * (s.get (SUP_RAIL.MV 0) : Int)) s
        let adv := (rpm : Int) * polePairs s * 65536 * ((t : Int) - t4) / (60 * 100000000)
        let th' := (((th : Int) + adv) % 65536).toNat
        s.modSpm fun d => { d with caught := none, catchFrame := true, vqff := ff, theta := th', estTheta := th',
                                   estOmega := 16 * rpm }
    | none =>
      if m = 5 ∧ beat then spmEnter 6 s
      else if m = 6 ∧ !beat then (spmEnter 5 s).set SPM_STATUS.ANGLE_SRC 2
      else s

/-- A PWM period starts at tick `t` with P `p`: the truncation, the mode, the angle, the speed, the ramp and the checks that
run once a period, and the edges loaded (R330, R331, R334, R343, R352, R356, R359, R362). -/
def spmPeriod (t p : Nat) (beat : Option Nat) (s : State) : State :=
  let trunc := beat.isSome && s.spm.edges.any fun e => decide (t < s.spm.start + e.2)
  let s := if trunc then s.bump SPM_CNT.TRUNC else s
  let m := spmMode s
  let th := s.spm.theta
  let sp := s.spm.step
  let s := s.modSpm fun d => { d with theta := (((th : Int) * 65536 + sp) / 65536 % 65536).toNat, prevStart := d.start, start := t, len := p }
  let s := spmModeStep t beat.isSome s
  let s := if (m = 5 ∨ m = 7) ∧ ¬(m = 7 ∧ beat.isSome) then s.modSpm fun d => { d with theta := d.estTheta } else s
  let s := if beat.isNone ∧ spmMode s = 7 then s.set SPM_STATUS.ANGLE_SRC 2 else s
  let s := match beat with
    | some idx => spmWedgeAngle idx s
    | none => s
  let s := match beat, s.spm.lastBeat with
    | some _, some l => if l < t then s.set SPM_SPEED.SPEED (roundDiv 187500000 ((t : Int) - l)).toNat else s
    | none, _ => if 4 ≤ spmMode s ∧ spmMode s ≤ 7 then s.set SPM_SPEED.SPEED s.spm.estOmega.toNat else s
    | some _, none => s
  let s := s.modSpm fun d => { d with lastBeat := beat.map fun _ => t }
  let s := spmSpeedOk (spmRamp (spmOpenLoop s))
  let s := if spmMode s = 7 ∧ s.get SPM_SPEED.SPEED < 16 * s.get SPM_START.BRAKE_RPM then spmEnter 2 s else s
  let m := spmMode s
  let step : Int := if m = 4 then spmAdvance (s.spm.olSpeed / 100000000 : Nat) p s
    else if s.get SPM_STATUS.ANGLE_SRC = 3 then 128 * polePairs s * 65536
    else if 5 ≤ m ∧ m ≤ 7 then spmAdvance s.spm.estOmega p s else 0
  let s := (s.set SPM_PWM.PERIOD p).set SPM_ANGLE.THETA s.spm.theta
  s.modSpm fun d => { d with step := step, edges := if 4 ≤ m ∧ m ≤ 7 then d.nextEdges else [], shuntValid := d.nextValid }

/-- A beat event starts a period of the active demodulator's mean, rounded to the nearest tk (R330). -/
def spmBeat (stamp index mean : Nat) (s : State) : State := spmPeriod stamp ((mean + 32768) / 65536) (some index) s

/-- The input ports of a ROLE 0 program (R343). -/
def spmPorts (s : State) : List Int :=
  let d := s.spm
  let m := spmMode s
  [d.id.toInt, d.iq.toInt, toS 16 (s.get SPM_FW.ID_REF), s.get SPM_SPEED.REF, s.get SPM_SPEED.SPEED,
    toS 16 (s.get SPM_START.I_OL), s.get (SUP_RAIL.MV 0), if d.catchFrame then d.vqff else 0,
    if m = 5 ∨ m = 6 ∨ m = 7 then roundDiv d.refStep 100000000 else 0, toS 16 (s.get SPM_VOLT.VD), toS 16 (s.get SPM_VOLT.VQ),
    bankGrade (activeBank s) s, d.len, 0, 0, 0] ++
  (List.range 8).map fun k => toS 40 (s.get (SPM_PARAM.VALUE k))

/-- The flag word of a ROLE 0 program (R344). -/
def spmFlags (first newBank lockFirst : Bool) (s : State) : Nat :=
  let m := spmMode s
  boolNat (s.spm.setStart == some s.spm.prevStart) + 2 * boolNat (m == 5 || m == 6 || m == 7) + 4 * s.get SPM_STATUS.V_SAT
    + 8 * s.get SPM_STATUS.FW_ACTIVE + 16 * s.get SPM_STATUS.BRAKE_HOLD + 32 * boolNat s.spm.catchFrame
    + 64 * boolNat first + 128 * boolNat newBank + 256 * boolNat (s.get SPM_STATUS.ANGLE_SRC == 3)
    + 4096 * boolNat lockFirst + 8192 * boolNat (m == 3 || m == 4)

/-- A grade change starts when the inactive bank is checked and of the target grade, or an activation request waits
(R147, R359): CHANGING, SPEED_OK cleared, the track programs stopped, and the switch of a change downward requested. -/
def execGradeChangeStart (s : State) : Out :=
  s.onCore fun s =>
    let g := s.get SPM_STATUS.TARGET
    let act := s.get SPM_STATUS.GRADE_ACT
    let asked := s.bit SPM_STATUS.GRADE_PEND || s.spm.activate
    if !asked || s.bit SPM_STATUS.CHANGING || !s.bit CLE_BANK.CHECK_OK || bankGrade (inactiveBank s) s != g then s
    else
      let s := ((s.set SPM_STATUS.GRADE_PEND 0).set SPM_STATUS.CHANGING 1).set SPM_STATUS.SPEED_OK 0
      let s := fmsStopCause 1 (fmsStopCause 0 s)
      s.modSpm fun d => { d with goal := g, okRun := 0, outRun := 0, switchWanted := decide (g ≤ act) }

/-- The change is complete: GRADE_ACT, and a target latched meanwhile begins a new change (R359, R361). The type of the
event record is open. -/
def execGradeChangeDone (s : State) : Out :=
  s.onCore fun s =>
    if !s.bit SPM_STATUS.CHANGING || s.spm.switchWanted || s.bit CLE_BANK.SWITCH_PEND
        || (!s.bit SPM_STATUS.SPEED_OK && !s.spm.activate) || bankGrade (activeBank s) s != s.spm.goal then s
    else
      let s := (s.set SPM_STATUS.GRADE_ACT s.spm.goal).set SPM_STATUS.CHANGING 0
      let s := (spmInt SPM_INT.GRADE_DONE s).modSpm fun d => { d with activate := false }
      let (ty, s) := s.fresh
      spmTarget (s.log (ty % 2048) (leBytes 4 s.spm.goal))

/-- 0.6 s after its start the change is not complete (R360). -/
def execGradeChangeOvertime (s : State) : Out :=
  s.onCore fun s => if s.bit SPM_STATUS.CHANGING then (spmInt SPM_INT.OVERTIME s).raise 64 else s

/-- Every 100 ms the demand is sampled; on the FQX-1408 in RUN_WEDGE with no change running the curve steps when a threshold
has held for DWELL (R358). -/
def execDemandSample (s : State) : Out :=
  s.onCore fun s =>
    let l := (s.spm.movedNow :: s.spm.moved).take 10
    let mb := l.sum / 1000000
    let s := (s.set SPM_DEMAND.MBPS (min 0xFFFF mb)).modSpm fun d => { d with moved := l, movedNow := 0 }
    if !s.variant1408 || spmMode s != 6 || s.bit SPM_STATUS.CHANGING then s
    else
      let g := s.get SPM_GRADE.CURVE
      let up := g < 3 ∧ spmRec (36 + 2 * g) 2 s ≤ mb
      let dn := 0 < g ∧ mb ≤ spmRec (42 + 2 * (g - 1)) 2 s
      let dir : Option Bool := if up then some true else if dn then some false else none
      let held := if dir.isNone then 0 else if s.spm.dwellUp = dir then s.get SPM_DEMAND.DWELL_MS + 100 else 0
      let s := (s.set SPM_DEMAND.DWELL_MS (min 0xFFFF held)).modSpm fun d => { d with dwellUp := dir }
      let dwell := (spmRec 48 2 s + 99) / 100 * 100
      if dir.isSome ∧ dwell ≤ held then
        let s := (s.set SPM_DEMAND.DWELL_MS 0).modSpm fun d => { d with dwellUp := none }
        spmTarget (s.set SPM_GRADE.CURVE (if up then g + 1 else g - 1))
      else s

/-- SPM_CAL.START (R353, R366). -/
def spmCalStart (s : State) : State :=
  if spmMode s ≠ 0 then s.set SPM_CAL.RESULT 2
  else ((spmEnter 9 s).set SPM_CAL.BUSY 1).set SPM_CAL.RESULT 1 |>.modSpm fun d => { d with calMoved := false }

def execSpmCalStart (s : State) : Out := s.onCore spmCalStart

/-- The record of R354 without its CRC. -/
def spmCalRecord (a b c : Int) (temp : Byte) (ops : Nat) : List Byte :=
  leBytes 2 (ofS 16 a) ++ leBytes 2 (ofS 16 b) ++ leBytes 2 (ofS 16 c) ++ [temp, 0] ++ leBytes 5 ops ++ List.replicate 15 0

/-- The routine ends with the sums and spreads of the 1,024 samples of each ADC (R353, R354). With one shunt only the ADC on
SPN_ISA is in use. -/
def execSpmCalDone (sa sb sc : Int) (pa pb pc : Nat) (temp : BitVec 8) (s : State) : Out :=
  s.onCore fun s =>
    if spmMode s ≠ 9 then s
    else
      let three := spmRec 1 1 s == 1
      let a := roundShift sa 10
      let b := if three then roundShift sb 10 else toS 12 (s.get SPM_IOFS.OFS_B)
      let c := if three then roundShift sc 10 else toS 12 (s.get SPM_IOFS.OFS_C)
      let wide := max pa (if three then max pb pc else 0)
      let code := if s.spm.calMoved ∨ s.get SPM_CAL.SPREAD < wide then 8
        else if 255 < a.natAbs ∨ 255 < b.natAbs ∨ 255 < c.natAbs then 6 else 0
      let s := (spmInt SPM_INT.CAL_DONE (spmEnter 0 s)).set SPM_CAL.BUSY 0 |>.set SPM_CAL.RESULT code
      let s := if code ≠ 0 then s.log 0x080 (leBytes 1 2 ++ leBytes 1 0 ++ leBytes 1 0 ++ leBytes 1 code)
        else
          let s := ((s.set SPM_IOFS.OFS_A (ofS 12 a)).set SPM_IOFS.OFS_B (ofS 12 b)).set SPM_IOFS.OFS_C (ofS 12 c)
          let body := spmCalRecord a b c temp s.opSeconds
          s.writeBytes (mramBase + s.get SPM_CAL.REC_ADDR) (body ++ leBytes 4 (crc32c body))
      if s.spm.runHeld then spmRun (s.modSpm fun d => { d with runHeld := false }) else s

/-- V12 crosses the hold or the dump level (R363, R696): 13.2 V and 13.8 V rising, 12.94 V and 13.52 V falling. Each entry
logs an event, whose kind is open. -/
def execV12OvCrossing (mv : BitVec 16) (s : State) : Out :=
  s.onRetention fun s =>
    let v := mv.toNat
    let step (hi lo : Nat) (old : Bool) : Bool := if hi < v then true else if v < lo then false else old
    let h0 := s.bit SUP_STATUS.OV_HOLD
    let d0 := s.bit SUP_STATUS.OV_DUMP
    let h := step 13200 12940 h0
    let d := step 13800 13520 d0
    let s := (s.set SUP_STATUS.OV_HOLD (boolNat h)).set SUP_STATUS.OV_DUMP (boolNat d)
    let s := if h != h0 || d != d0 then s.set SUP_INT.OV 1 else s
    if !s.power.core then s
    else
      let s := (s.set SPM_STATUS.BRAKE_HOLD (boolNat h)).set SPM_STATUS.DUMP (boolNat d)
      let enter (on : Bool) (f : Fld) (s : State) : State :=
        if on then
          let (k, s) := (spmInt f s).fresh
          s.log 0x020 (leBytes 1 0 ++ leBytes 1 k ++ leBytes 2 v)
        else s
      enter (d && !d0) SPM_INT.DUMP (enter (h && !h0) SPM_INT.BRAKE_HOLD s)

end Sys2Proof.Machine
end

