-- ==== Sys2Proof/Machine/Cle.lean ====
section
/-! DEFINITION. The control law engine: frames, operations, program selection, seeks, release and banks (R290 to R314). -/

namespace Sys2Proof.Machine

/-- One decoded operation word (R302). -/
structure CleOp where
  code : Nat
  wd : Fin 8
  space : Nat
  index : Nat
  cidx : Nat
  aux : Nat
  cond : Nat
  rest : Nat
  deriving DecidableEq, Repr

def cleDecode (w : Nat) : CleOp :=
  { code := bits w 36 4, wd := ⟨bits w 33 3, by simp only [bits]; omega⟩, space := bits w 30 3, index := bits w 22 8,
    cidx := bits w 14 8, aux := bits w 8 6, cond := bits w 6 2, rest := bits w 0 6 }

/-- The coefficient word `w` of set `k` of a bank (R139, R312). -/
def coeffWord (b k w : Nat) (s : State) : Nat := s.get (bankSlot b (0x18400 + k * 0x800 + 8 * (w % 256)))

/-- Its value, sign-extended, and its shift (R139). -/
def coeffValue (w : Nat) : Int := toS 32 w
def coeffShift (w : Nat) : Nat := bits w 35 5

/-- The bit of a directory slot is set in a sticky flag register. -/
def cleSticky (f : Fld) (slot : Nat) (s : State) : State := s.set f (s.get f ||| 2 ^ (slot % 32))

/-- An OVF of the operation that runs (R303, R326). -/
def cleOvf (s : State) : State :=
  let r := s.cle.run
  let s := (cleSticky CLE_OVF.SLOT r.slot s).set CLE_INT.OVF 1
  if s.bit CLE_FIRST.VALID then s
  else
    (((s.set CLE_FIRST.VALID 1).set CLE_FIRST.FRAME (s.get CLE_STATUS.FRAMES)).set CLE_FIRST.PROG r.slot).set CLE_FIRST.OP r.op

/-- A clamp of the program that runs (R301, R303). -/
def cleClamp (s : State) : State := cleSticky CLE_CLAMP.SLOT s.cle.run.slot s

/-- The operand of the running program: SPACE[INDEX] (R297). -/
def cleSrc (space index : Nat) (s : State) : Int :=
  let r := s.cle.run
  if space = 0 then (r.w[index % 8]'(Nat.mod_lt _ (by decide))).toInt
  else if space = 1 then toS 40 (s.get (stateSlot r.owner index))
  else if space = 2 then r.ports.getD index 0
  else if space = 3 then coeffValue (coeffWord (activeBank s) r.coeff index s)
  else 0

/-- W register `d` of the running program. -/
def cleW (d : Fin 8) (s : State) : Int := (s.cle.run.w[d]).toInt

/-- A result into W register `d`. -/
def clePut (d : Fin 8) (v : Int) (s : State) : State :=
  s.modCle fun c => { c with run := { c.run with w := c.run.w.set d (BitVec.ofInt 40 v) } }

/-- sat40 of a result into W register `d`, OVF when it saturates (R303). -/
def clePutSat (d : Fin 8) (v : Int) (s : State) : State :=
  let m := clampI (-2 ^ 39) (2 ^ 39 - 1) v
  clePut d m (if m = v then s else cleOvf s)

/-- A clamped result into W register `d`, CLAMP when it acts (R303). -/
def clePutClamp (d : Fin 8) (lo hi v : Int) (s : State) : State :=
  let m := clampI lo hi v
  clePut d m (if m = v then s else cleClamp s)

/-- The operation is done: the next one follows. -/
def cleNext (s : State) : State := s.modCle fun c => { c with run := { c.run with op := c.run.op + 1 } }

/-- LOAD (R303, R304). -/
def cleLoad (d : Fin 8) (space index cond flag : Nat) (s : State) : State :=
  let f := s.cle.run.flags.testBit flag
  cleNext (if cond = 0 ∨ (cond = 1 ∧ f) ∨ (cond = 2 ∧ !f) then clePut d (cleSrc space index s) s else s)

/-- STORE to state memory, or to an output port saturated to s16 (R301, R303). -/
def cleStore (d : Fin 8) (space index : Nat) (s : State) : State :=
  let v := cleW d s
  let o := s.cle.run.owner
  cleNext
    (if space = 1 then s.set (stateSlot o index) (ofS 40 v)
     else if h : space = 4 ∧ index < 3 then
       let m := sat16 v
       (if m = v then s else cleClamp s).modOwner o fun w => { w with out := w.out.set index (BitVec.ofInt 16 m) h.2 }
     else s)

def cleAdd (d : Fin 8) (space index : Nat) (s : State) : State := cleNext (clePutSat d (cleW d s + cleSrc space index s) s)

def cleSub (d : Fin 8) (space index : Nat) (s : State) : State := cleNext (clePutSat d (cleW d s - cleSrc space index s) s)

/-- MAC (R303). -/
def cleMac (d : Fin 8) (space index cidx : Nat) (s : State) : State :=
  let c := coeffWord (activeBank s) s.cle.run.coeff cidx s
  cleNext (clePutSat d (cleW d s + roundShift (cleSrc space index s * coeffValue c) (coeffShift c)) s)

/-- SHIFT by AUX as s6 (R303). -/
def cleShift (d : Fin 8) (aux : Nat) (s : State) : State :=
  let k := toS 6 aux
  let w := cleW d s
  cleNext (if 0 < k then clePutSat d (w * 2 ^ k.toNat) s else clePut d (roundShift w (-k).toNat) s)

/-- SAT to AUX bits (R303). -/
def cleSat (d : Fin 8) (aux : Nat) (s : State) : State :=
  cleNext (clePutClamp d (-2 ^ (aux - 1)) (2 ^ (aux - 1) - 1) (cleW d s) s)

/-- LIMIT between two coefficients (R303). -/
def cleLimit (d : Fin 8) (cidx : Nat) (s : State) : State :=
  let b := activeBank s
  let k := s.cle.run.coeff
  cleNext (clePutClamp d (coeffValue (coeffWord b k cidx s)) (coeffValue (coeffWord b k (cidx + 1) s)) (cleW d s) s)

/-- One operation word of a program (R302, R303). -/
def cleExec (w : Nat) (s : State) : State :=
  let o := cleDecode w
  if o.code = 1 then cleLoad o.wd o.space o.index o.cond o.aux s
  else if o.code = 2 then cleStore o.wd o.space o.index s
  else if o.code = 3 then cleAdd o.wd o.space o.index s
  else if o.code = 4 then cleSub o.wd o.space o.index s
  else if o.code = 5 then cleMac o.wd o.space o.index o.cidx s
  else if o.code = 6 then cleShift o.wd o.aux s
  else if o.code = 7 then cleSat o.wd o.aux s
  else if o.code = 8 then cleLimit o.wd o.cidx s
  else cleNext s

def execCleOpLoad (d : Fin 8) (space : Fin 4) (index : BitVec 8) (cond : Fin 3) (flag : BitVec 6) (s : State) : Out :=
  s.onCore (cleLoad d space.val index.toNat cond.val flag.toNat)

def execCleOpStore (d : Fin 8) (port : Bool) (index : BitVec 8) (s : State) : Out :=
  s.onCore (cleStore d (if port then 4 else 1) index.toNat)

def execCleOpAdd (d : Fin 8) (space : Fin 4) (index : BitVec 8) (s : State) : Out :=
  s.onCore (cleAdd d space.val index.toNat)

def execCleOpSub (d : Fin 8) (space : Fin 4) (index : BitVec 8) (s : State) : Out :=
  s.onCore (cleSub d space.val index.toNat)

def execCleOpMac (d : Fin 8) (space : Fin 3) (index cidx : BitVec 8) (s : State) : Out :=
  s.onCore (cleMac d space.val index.toNat cidx.toNat)

def execCleOpShift (d : Fin 8) (aux : BitVec 6) (s : State) : Out := s.onCore (cleShift d aux.toNat)

def execCleOpSat (d : Fin 8) (width : Fin 41) (s : State) : Out := s.onCore (cleSat d width.val)

def execCleOpLimit (d : Fin 8) (cidx : BitVec 8) (s : State) : Out := s.onCore (cleLimit d cidx.toNat)

/-- The outputs of a program are late (R66, R67, R309): LATE, the flag and the fault; the late values are discarded. -/
def cleLate (k : Fin 3) (slot : Nat) (s : State) : State :=
  let s := ((cleSticky CLE_LATE.SLOT slot s).set CLE_INT.LATE 1).raise 56
  s.modOwner k fun o => { o with out := o.released }

/-- The INDEX in effect of an owner. -/
def cleIndex (k : Fin 3) (s : State) : Nat := if k.val = 2 then s.get CLE_SPM_CMD.CUR else s.get (CLE_ACT_STATE.INDEX k.val)

/-- The program that an owner runs in a frame: enabled in CLE_CTRL, not fused, and present in the active bank (R292). -/
def cleProgram (k : Fin 3) (s : State) : Option ProgEntry :=
  if k.val = 0 ∧ !s.bit CLE_CTRL.ACT0_EN then none
  else if k.val = 1 ∧ (!s.bit CLE_CTRL.ACT1_EN ∨ s.variant1408) then none
  else findProgram k (cleIndex k s) s

/-- A release comparator is loaded (R65, R67, R290): a value it cannot reach in time counts as a late output. -/
def cleLoadCmp (k : Fin 3) (t : Nat) (s : State) : State :=
  if t ≤ s.now + 2 then
    let s := s.modOwner k fun o => { o with cmp := none, held := none }
    match cleProgram k s with
    | some e => cleLate k e.slot s
    | none => s
  else s.modOwner k fun o => { o with cmp := some t, held := none }

/-- The directory slot of the active bank holds no program of an owner with the INDEX in effect: INDEX 0 (R314). -/
def cleKeepIndex (k : Fin 3) (s : State) : State :=
  let s := match findProgram k (cleIndex k s) s with
    | some _ => s
    | none =>
      let s := if k.val = 2 then s.set CLE_SPM_CMD.CUR 0 else s.set (CLE_ACT_STATE.INDEX k.val) 0
      s.modOwner k fun o => { o with first := true, since := 0 }
  let s := match findProgram k (cleIndex k s) s with
    | some e => if k.val = 2 then s else s.set (CLE_ACT_STATE.ROLE k.val) e.role
    | none => s
  s.modOwner k fun o => { o with newBank := true }

/-- A seek ends. -/
def cleSeekEnd (a : Fin 2) (s : State) : State :=
  (s.set (CLE_ACT_STATE.SEEK_ACTIVE a.val) 0).modCle fun c => { c with seek := c.seek.set a none }

/-- The WEDGE_PERIOD of a grade (R129). -/
def wedgePeriod (g : Nat) : Nat :=
  if g = 0 then 213333333 else if g = 1 then 160000000 else if g = 2 then 128000000 else 106666667

/-- The inactive CLE and SPM banks become active (R273, R314): seeks end, INDEX is kept where the new bank holds it, and the
demodulators take the nominal period of the new grade. -/
def bankSwitch (s : State) : State :=
  let s := (s.set CLE_STATUS.BANK (inactiveBank s)).clearAll [CLE_BANK.SWITCH_PEND, CLE_BANK.CHECK_OK]
  let g := bankGrade (activeBank s) s
  let s := (s.set CLE_STATUS.GRADE g).set CLE_INT.SWITCHED 1
  let s := cleSeekEnd 1 (cleSeekEnd 0 s)
  let s := forEach [0, 1, 2] cleKeepIndex s
  let s := forEach [0, 1, 2, 3] (fun v s => s.set (SVD_PERIOD.NOM_PERIOD v) (wedgePeriod g)) s
  s.modSpm fun d => { d with switchWanted := false }

/-- A switch asked for is due at a beat event or a free-running period start: one of a grade change only once no track
program is open (R314, R359). -/
def switchDue (s : State) : Bool := s.bit CLE_BANK.SWITCH_PEND || (s.spm.switchWanted && !programOpen s)

/-- The next beat event or free-running period start brings the switch (R314). -/
def execBankSwitch (s : State) : Out := s.onCore fun s => if switchDue s then bankSwitch s else s

/-- The refusal of a command of an actuator: its ERR_CODE under R307, 0 for none. -/
def actRefusal (a : Fin 2) (c : ActCmd) (s : State) : Nat :=
  if a.val = 1 ∧ s.variant1408 then 5
  else
    match findProgram ⟨a.val, by omega⟩ c.index s with
    | none => 1
    | some e =>
      if c.slot1 ∧ s.get (ADL_STATUS.VERSION a.val) = 1 then 2
      else if e.role = 3 ∧ !c.slot1 then 3
      else
        match c.seek with
        | some k => if k.points < 2 ∨ 6144 < k.base + k.points then 4 else 0
        | none => 0

/-- The command of an actuator that waits takes effect at a frame start, or is refused (R306 to R308). -/
def actApply (a : Fin 2) (s : State) : State :=
  match s.cle.cmd[a] with
  | none => s
  | some c =>
    let s := (s.set (CLE_ACT_STATE.PEND a.val) 0).modCle fun e => { e with cmd := e.cmd.set a none }
    let code := actRefusal a c s
    if code ≠ 0 then ((s.set (CLE_ACT_STATE.ERR a.val) 1).set (CLE_ACT_STATE.ERR_CODE a.val) code).set CLE_INT.CMD_ERR 1
    else
      let k : Fin 3 := ⟨a.val, by omega⟩
      let s := if c.index = cleIndex k s then s else s.modOwner k fun o => { o with first := true, since := 0 }
      let role := match findProgram k c.index s with
        | some e => e.role
        | none => 1
      let s := ((s.set (CLE_ACT_STATE.INDEX a.val) c.index).set (CLE_ACT_STATE.ROLE a.val) role).set (CLE_ACT_STATE.HEAD0 a.val) c.head0
      let s := (s.set (CLE_ACT_STATE.HEAD1 a.val) c.head1).set (CLE_ACT_STATE.SLOT1_EN a.val) (boolNat c.slot1)
      let s := (s.set (CLE_ACT_STATE.SEEK_ACTIVE a.val) (boolNat c.seek.isSome)).set (CLE_ACT_STATE.POINT a.val) 0
      s.modCle fun e => { e with pflags := e.pflags.set a c.pflags, seek := e.seek.set a c.seek,
                                 start := match c.seek with
                                   | some k => e.start.set a k.start
                                   | none => e.start }

/-- The spindle INDEX that waits takes effect at a frame start, or is refused when it names no ROLE 0 program (R307). -/
def spmCmdApply (s : State) : State :=
  if !s.cle.spmCmd then s
  else
    let s := s.modCle fun e => { e with spmCmd := false }
    let i := s.get CLE_SPM_CMD.INDEX
    match findProgram 2 i s with
    | none => (s.set CLE_SPM_CMD.ERR 1).set CLE_INT.CMD_ERR 1
    | some _ =>
      let s := if i = cleIndex 2 s then s else s.modOwner 2 fun o => { o with first := true, since := 0 }
      s.set CLE_SPM_CMD.CUR i

/-- Writing CLE_ACT_CMD (R306, R308): the seek registers are copied at once, and an earlier command that waits is
overwritten. -/
def actCmdWrite (a : Fin 2) (w : BitVec 40) (s : State) : State :=
  let v := w.toNat
  let s := ((s.set (CLE_ACT_CMD.PFLAGS a.val) (bits v 15 8)).set (CLE_ACT_CMD.SEEK_ARM a.val) (bits v 14 1)).set
    (CLE_ACT_CMD.SLOT1_EN a.val) (bits v 13 1)
  let s := ((s.set (CLE_ACT_CMD.HEAD1 a.val) (bits v 9 4)).set (CLE_ACT_CMD.HEAD0 a.val) (bits v 5 4)).set
    (CLE_ACT_CMD.INDEX a.val) (bits v 0 5)
  let s := if s.cle.cmd[a].isSome then s.set (CLE_ACT_STATE.OVERWRITE a.val) 1 else s
  let seek : Option SeekRun :=
    if bits v 14 1 = 0 then none
    else some { start := s.get (CLE_SEEK_A.START a.val), length := toS 25 (s.get (CLE_SEEK_B.LENGTH a.val)),
                points := s.get (CLE_SEEK_B.POINTS a.val), base := s.get (CLE_SEEK_C.POINT_BASE a.val),
                ff := s.get (CLE_SEEK_C.FF_SCALE a.val) }
  let c : ActCmd := { index := bits v 0 5, head0 := bits v 5 4, head1 := bits v 9 4, slot1 := bits v 13 1 == 1,
                      pflags := bits v 15 8, seek := seek }
  (s.set (CLE_ACT_STATE.PEND a.val) 1).modCle fun e => { e with cmd := e.cmd.set a (some c) }

def execCleActCmdWrite (a : Fin 2) (w : BitVec 40) (s : State) : Out := s.onCore (actCmdWrite a w)

/-- Writing CLE_SPM_CMD: the INDEX waits for the next frame, and ERR is cleared by a 1 (R307, R326). -/
def spmCmdWrite (w : BitVec 40) (s : State) : State :=
  let s := s.set CLE_SPM_CMD.INDEX (bits w.toNat 0 5)
  let s := if w.toNat.testBit 13 then s.set CLE_SPM_CMD.ERR 0 else s
  s.modCle fun e => { e with spmCmd := true }

def execCleSpmCmdWrite (w : BitVec 40) (s : State) : Out := s.onCore (spmCmdWrite w)

/-- The demodulators whose records a frame awaits (R291). -/
def frameSet (s : State) : List (Fin 4) :=
  ([0, 1, 2, 3] : List (Fin 4)).filter fun v =>
    let a := halfOf v
    let k : Fin 3 := ⟨a.val, by omega⟩
    s.get (SVD_STATUS.STATE v) == 2 &&
      (s.get SYS_BEAT.ACTIVE == v.val ||
        match cleProgram k s with
        | none => false
        | some e => if v.val % 2 = 0 then 2 ≤ e.role && e.role ≤ 6 else s.bit (CLE_ACT_STATE.SLOT1_EN a.val))

/-- The record of demodulator `v` for the frame's wedge is latched: its stamp lies within half a period of the beat's. -/
def recordReady (v : Fin 4) (s : State) : Bool :=
  let d := s.svd[v]
  d.latched && decide (2 * ((d.last : Int) - s.cle.base).natAbs * 65536 < svdMean v s)

/-- The profile stepper's values for a seek at its point (R308). -/
def seekRefs (k : SeekRun) (s : State) : Int × Int × Int :=
  let b := activeBank s
  let q := k.base + k.i
  let pos := toS 40 (s.get (bankSlot b (0x20400 + 16 * q)))
  let vel := toS 40 (s.get (bankSlot b (0x20408 + 16 * q)))
  let ff := toS 16 (bits (s.get (bankSlot b (0x38400 + 8 * (q / 2)))) (16 * (q % 2)) 16)
  let f := sat16 (roundShift (ff * k.ff) 12)
  (roundShift (k.length * pos) 25, roundShift (k.length * vel) 25, if k.length < 0 then -f else f)

/-- The input ports of an actuator program (R299). -/
def actPorts (a : Fin 2) (s : State) : List Int :=
  let v0 := dcOf a 0
  let v1 := dcOf a 1
  let st : Int := s.cle.start[a]
  let (rp, rv, rf, i) : Int × Int × Int × Int := match s.cle.seek[a] with
    | some k => let (p, v, f) := seekRefs k s; (p, v, f, k.i)
    | none => (0, 0, 0, 0)
  [toS 16 (s.get (SVD_PES.PES v0)), toS 16 (s.get (SVD_PES.PES v1)), (s.get (SVD_POS.POS v0) : Int) - st,
    (s.get (SVD_POS.POS v1) : Int) - st, rp, rv, rf, i, toS 16 (s.get (ADL_REPORT.IVCM a.val)),
    if s.get (ADL_STATUS.VERSION a.val) = 2 then toS 12 (s.get (ADL_REPORT.VVCM a.val)) else 0,
    (s.cle.owners[a.val]'(by omega)).since, bankGrade (activeBank s) s, 0, 0, 0, 0] ++
  (List.range 8).map fun k => toS 40 (s.get (CLE_PARAM.VALUE a.val k))

/-- The flag word of an actuator program (R300). -/
def actFlags (a : Fin 2) (s : State) : Nat :=
  let set := frameSet s
  let o := s.cle.owners[a.val]'(by omega)
  let ready (v : Fin 4) : Bool := decide (v ∈ set) && recordReady v s
  let valid (v : Fin 4) (head : Nat) : Bool :=
    ready v && s.bit (SVD_PES.VALID v) && head != 0xF && s.get (SVD_STATUS.HEAD v) == 14 * a.val + head
  let sub (v : Fin 4) : Bool := ready v && s.get (SVD_PES.OUTCOME v) == 1
  let v0 := dcOf a 0
  let v1 := dcOf a 1
  let (seek, ended) : Bool × Bool := match s.cle.seek[a] with
    | some k => (true, k.i + 1 == k.points)
    | none => (false, false)
  boolNat (valid v0 (s.get (CLE_ACT_STATE.HEAD0 a.val))) + 2 * boolNat (valid v1 (s.get (CLE_ACT_STATE.HEAD1 a.val)))
    + 4 * boolNat (sub v0) + 8 * boolNat (sub v1) + 16 * boolNat seek + 32 * boolNat ended + 64 * boolNat o.first
    + 128 * boolNat o.newBank + 256 * boolNat s.cle.fresh[a] + 512 * boolNat s.cle.change
    + 1024 * boolNat (compActive a s) + 2048 * boolNat (v1 ∈ set) + 4096 * boolNat s.cle.lockFirst + 65536 * s.cle.pflags[a]

/-- The program of an owner runs: its context, its operations in order, and its outputs in the holding register at tick
`ended` (R292, R293, R296, R309). A parity error in its bank memory makes its outputs late (R325). -/
def cleRunProgram (k : Fin 3) (e : ProgEntry) (ports : List Int) (flags ended : Nat) (bad : Bool) (s : State) : State :=
  let b := activeBank s
  let s := s.modCle fun c => { c with run := { owner := k, slot := e.slot, coeff := e.coeff, ports := ports, flags := flags } }
  let s := (List.range (min 384 e.ops)).foldl (fun s j => cleExec (s.get (bankSlot b (0x400 + e.slot * 0xC00 + 8 * j))) s) s
  let s := if bad then (s.set CLE_INT.PARITY 1).raise 57 else s
  s.modOwner k fun o => { o with held := if bad then none else some ended, first := false, newBank := false,
                                 since := min 65535 (o.since + 1) }

/-- A frame runs (R292, R293, R306): the commands that wait take effect, the ports and flags are taken, and the programs of
actuator 0, actuator 1 and the spindle run in turn, or the spindle's alone before lock (R294). -/
def cleFrame (late : Bool) (ends : Vector Nat 3) (bad : List (Fin 3)) (s : State) : State :=
  let s := s.modCle fun c => { c with due := false }
  let s := if late then s.set CLE_STATUS.LATE_INPUT 1 else s
  let at0 := s
  let run (k : Fin 3) (ports : List Int) (flags : Nat) (s : State) : State :=
    match cleProgram k at0 with
    | some e => cleRunProgram k e ports flags ends[k] (decide (k ∈ bad)) s
    | none => s
  let s := if at0.cle.beatFrame then
      run 1 (actPorts 1 at0) (actFlags 1 at0) (run 0 (actPorts 0 at0) (actFlags 0 at0) s) else s
  let o := at0.cle.owners[2]
  let s := run 2 (spmPorts at0) (spmFlags o.first o.newBank at0.cle.lockFirst at0) s
  let last := ([0, 1, 2] : List (Fin 3)).foldl (fun m k =>
    if (k.val = 2 ∨ at0.cle.beatFrame) ∧ (cleProgram k at0).isSome then max m ends[k] else m) 0
  let d := last - at0.cle.base
  let s := ((s.wrapUp CLE_STATUS.FRAMES).set CLE_STATUS.LAST_END (min 0xFF d)).set CLE_INT.FRAME 1
  let s := if at0.cle.beatFrame then
      s.set CLE_STATUS.MIN_SLACK (min (s.get CLE_STATUS.MIN_SLACK) (bankReleaseAct (activeBank s) s - d)) else s
  let s := s.modSpm fun d => { d with catchFrame := false }
  s.modCle fun c => { c with fresh := .replicate 2 false, change := if at0.cle.beatFrame then false else c.change,
                             lockFirst := if at0.cle.beatFrame then false else c.lockFirst }

/-- The commands that wait take effect (R306). -/
def cleApplyCmds (s : State) : State := spmCmdApply (actApply 1 (actApply 0 s))

/-- A frame starts 6 st after the last record of its set, or with the free-running start (R291, R294). `ends` are the ticks
at which the programs' outputs reach their holding registers. -/
def execCleFrameStart (ends : Vector Nat 3) (bad : List (Fin 3)) (s : State) : Out :=
  s.onCore fun s =>
    if !s.cle.due || !s.bit CLE_CTRL.ENABLE then s
    else
      let t := cleApplyCmds s
      if !t.cle.beatFrame || (frameSet t).all fun v => recordReady v t then cleFrame false ends bad t else s

/-- The start limit is reached: the frame starts with the records not latched invalid (R291). -/
def execCleFrameStartLimit (ends : Vector Nat 3) (bad : List (Fin 3)) (s : State) : Out :=
  s.onCore fun s =>
    if !s.cle.due || !s.bit CLE_CTRL.ENABLE || !s.cle.beatFrame then s else cleFrame true ends bad (cleApplyCmds s)

/-- A running seek advances by one point at a beat event; a seek armed for its first frame starts (R308). -/
def seekStep (a : Fin 2) (s : State) : State :=
  match s.cle.seek[a] with
  | none => s
  | some k =>
    let k := if k.started then { k with i := min (k.i + 1) (k.points - 1) } else { k with started := true }
    (s.set (CLE_ACT_STATE.POINT a.val) k.i).modCle fun c => { c with seek := c.seek.set a (some k) }

/-- A beat event at stamp `t` (R284, R290, R314): a switch that waits, the seek points, the release comparators from the
active bank, and a frame that waits for its records. -/
def cleBeat (t : Nat) (s : State) : State :=
  let s := if switchDue s then imageSwitch (bankSwitch s) else s
  let s := (seekStep 1 (seekStep 0 s)).modCle fun c => { c with base := t, due := true, beatFrame := true }
  let s := s.set CLE_STATUS.FREE 0
  if !s.bit CLE_CTRL.ENABLE then s
  else
    let b := activeBank s
    let a := t + bankReleaseAct b s
    cleLoadCmp 2 (t + bankReleaseSpm b s) (cleLoadCmp 1 a (cleLoadCmp 0 a s))

/-- A free-running period starts at tick `t` before lock (R70, R294, R314, R330): a switch that waits, the PWM period of
2,500 tk, the spindle's comparator, and a spindle frame. -/
def freePeriod (t : Nat) (s : State) : State :=
  if !s.bit SYS_BEAT.NONE then s
  else
    let s := if switchDue s then imageSwitch (bankSwitch s) else s
    let s := spmPeriod t 2500 none s
    let s := s.set CLE_STATUS.FREE 1
    if !s.bit CLE_CTRL.ENABLE then s
    else
      let s := s.modCle fun c => { c with base := t, due := true, beatFrame := false }
      cleLoadCmp 2 (t + min 2499 (s.get CLE_FREE.RELEASE)) s

def execFreeRunPeriodStart (s : State) : Out := s.onCore fun s => freePeriod s.now s

/-- SYS_BEAT.NONE becomes 1 (R25): free-running frames. -/
def cleBeatLost (s : State) : State := (adlBeatLost s).set CLE_STATUS.FREE 1

/-- The tick count equals a release comparator's value (R65, R66, R309): the holding register goes out, with VALID 0 or the
previous outputs when it was filled less than 2 tk before. -/
def execReleaseComparatorMatch (k : Fin 3) (s : State) : Out :=
  s.onCore fun s =>
    let o := s.cle.owners[k]
    match o.cmp with
    | none => s
    | some t =>
      if t ≠ s.now then s
      else
        let ok := match o.held with
          | some e => decide (e + 2 ≤ t)
          | none => false
        let s := s.modOwner k fun o => { o with cmp := none, held := none, released := if ok then o.out else o.released }
        match cleProgram k s with
        | none => s
        | some e =>
          let s := if ok then s else cleLate k e.slot s
          let r := s.cle.owners[k].released
          if k.val = 2 then spmRelease r[0] r[1] r[2] s
          else
            let a : Fin 2 := ⟨k.val % 2, by omega⟩
            let head1 := if s.bit (CLE_ACT_STATE.SLOT1_EN a.val) then s.get (CLE_ACT_STATE.HEAD1 a.val) else 0xF
            adlRelease a r[0] r[1] r[2] (s.get (CLE_ACT_STATE.HEAD0 a.val)) head1 ok s

/-- The cost of an operation in steps (R303). -/
def opCost (code : Nat) : Nat :=
  if code = 1 ∨ code = 2 then 3 else if code = 5 then 6 else if code = 6 then 2 else 4

/-- Whether an operation word breaks R305, with the values and the COUNT of its coefficient set. -/
def opBadWith (value : Nat → Int) (count : Nat) (w : Nat) : Bool :=
  let o := cleDecode w
  let arith := o.code == 3 || o.code == 4
  let reads := o.code == 1 || arith || o.code == 5
  let spaceOk :=
    if o.code = 1 ∨ arith then decide (o.space ≤ 3)
    else if o.code = 2 then o.space == 1 || o.space == 4
    else if o.code = 5 then decide (o.space ≤ 2) else true
  let indexOk :=
    if reads ∨ o.code = 2 then
      if o.space = 0 then decide (o.index ≤ 7) else if o.space = 2 then decide (o.index ≤ 63)
      else if o.space = 4 then decide (o.index ≤ 2) else true
    else true
  let limitOk := (o.code != 5 || decide (o.cidx < count)) &&
    (o.code != 8 || (decide (o.cidx + 1 < count) && decide (value o.cidx ≤ value (o.cidx + 1))))
  let auxOk :=
    if o.code = 7 then decide (2 ≤ o.aux ∧ o.aux ≤ 40)
    else if o.code = 6 then o.aux != 32
    else if o.code = 1 ∧ o.cond ≠ 0 then true else o.aux == 0
  let condOk := if o.code = 1 then o.cond != 3 else o.cond == 0
  !(decide (1 ≤ o.code ∧ o.code ≤ 8) && spaceOk && indexOk && limitOk && auxOk && condOk && o.rest == 0)

/-- Whether an operation word of a bank breaks R305: a bank's sets have 256 slots (R311). -/
def opBad (b coeff w : Nat) (s : State) : Bool := opBadWith (fun k => coeffValue (coeffWord b coeff k s)) 256 w

/-- The word of operation `j` of program `p` of a bank. -/
def opWord (b p j : Nat) (s : State) : Nat := s.get (bankSlot b (0x400 + p * 0xC00 + 8 * j))

/-- The first failing operation of a program under R305, none for none. -/
def firstBadOp (b : Nat) (e : ProgEntry) (s : State) : Option Nat :=
  (List.range (min 384 e.ops)).find? fun j => opBad b e.coeff (opWord b e.slot j s) s

/-- Whether a directory entry breaks R305. -/
def entryBad (b : Nat) (e : ProgEntry) (s : State) : Bool :=
  decide (6 < e.role) || (e.role == 0) != (e.actuator == 0xFF) || (e.role != 0 && decide (1 < e.actuator))
    || decide (31 < e.index) || decide (384 < e.ops) || e.ops == 0
    || ((directory b s).any fun f => decide (f.slot < e.slot) && f.actuator == e.actuator && f.index == e.index)

/-- STEPS of a program recomputed (R137). -/
def programSteps (b : Nat) (e : ProgEntry) (s : State) : Nat :=
  10 + ((List.range (min 384 e.ops)).map fun j => opCost (bits (opWord b e.slot j s) 36 4)).sum

/-- The largest of a list. -/
def maxOf (l : List Nat) : Nat := l.foldl max 0

/-- The check of the inactive bank (R313): code, directory slot and operation of the first failure. -/
def bankCheck (b : Nat) (s : State) : Nat × Nat × Nat :=
  let d := directory b s
  let hold (a : Nat) : Bool := d.any fun e => e.actuator == a && e.index == 0 && e.role == 1
  let need1 := s.bit CLE_CTRL.ACT1_EN && !s.variant1408
  if (s.bit CLE_CTRL.ACT0_EN && !hold 0) || (need1 && !hold 1) || !(d.any fun e => e.role == 0) then (0x16, 0, 0)
  else
    match d.find? fun e => entryBad b e s || (firstBadOp b e s).isSome with
    | some e => (0x17, e.slot, if entryBad b e s then 0 else (firstBadOp b e s).getD 0)
    | none =>
      match d.find? fun e => programSteps b e s != e.steps with
      | some e => (0x1C, e.slot, 0)
      | none =>
        let top (a : Nat) : Nat := maxOf ((d.filter fun e => e.actuator == a).map fun e => e.steps)
        if 5600 < top 0 + (if s.variant1408 then 0 else top 1) + top 0xFF then (0x1C, 0, 0) else (0, 0, 0)

/-- Writing CLE_BANK.CHECK (R313). -/
def bankCheckReq (s : State) : State :=
  if s.cle.checking then s else (s.set CLE_BANK.CHECK_OK 0).modCle fun c => { c with checking := true }

def execCleBankCheck (s : State) : Out := s.onCore bankCheckReq

/-- The check ends with its code (R313). -/
def execCleBankCheckDone (s : State) : Out :=
  s.onCore fun s =>
    if !s.cle.checking then s
    else
      let (code, p, j) := bankCheck (inactiveBank s) s
      let s := ((s.set CLE_BANK.CHECK_CODE code).set CLE_BANK.CHECK_PROG p).set CLE_BANK.CHECK_OP j
      ((s.set CLE_BANK.CHECK_OK (boolNat (code == 0))).set CLE_INT.CHECK_DONE 1).modCle fun c => { c with checking := false }

/-- Writing CLE_BANK.SWITCH: pending after a passing check, and ignored with WERR otherwise (R314). -/
def bankSwitchReq (s : State) : State :=
  if s.bit CLE_BANK.CHECK_OK && !s.cle.checking then s.set CLE_BANK.SWITCH_PEND 1
  else (s.set CLE_BANK.WERR 1).set CLE_INT.WERR 1

def execCleBankSwitchReq (s : State) : Out := s.onCore bankSwitchReq

/-- A write to a slot of bank `b` (R311, R313): ignored in the active bank; in the inactive one it ends a check. -/
def bankWrite (b ofs : Nat) (v : BitVec 40) (s : State) : State :=
  if b = activeBank s then (s.set CLE_BANK.WERR 1).set CLE_INT.WERR 1
  else
    let s := (s.set (bankSlot b ofs) v.toNat).set CLE_BANK.CHECK_OK 0
    if s.cle.checking then
      ((s.set CLE_BANK.CHECK_CODE 2).set CLE_INT.CHECK_DONE 1).modCle fun c => { c with checking := false }
    else s

/-- CLE_CTRL.CLR_STICKY (R326). -/
def cleClrSticky (s : State) : State :=
  (s.clearAll [CLE_OVF.SLOT, CLE_CLAMP.SLOT, CLE_LATE.SLOT, CLE_FIRST.FRAME, CLE_FIRST.VALID, CLE_FIRST.PROG, CLE_FIRST.OP]).set
    CLE_STATUS.MIN_SLACK 0xFF

def execCleClrSticky (s : State) : Out := s.onCore cleClrSticky

end Sys2Proof.Machine
end

