-- ==== Sys2Proof/Machine/Region.lean ====
section
/-! DEFINITION. The regions of the physical address space and who may reach them (R35 to R41, R404, R645). -/

namespace Sys2Proof.Machine

/-- What stands at an address (R37): protected memory, the sample ring, a control store, register space, or nothing. -/
inductive Region where
  | mem (m : Fin 5) | ring | store (n : Fin 2) | regs | none
  deriving DecidableEq, Repr

/-- The region of an address; the DRAM ends with what is installed (R37, R38). -/
def regionOf (a : Addr) (s : State) : Region :=
  match memoryOf a with
  | some m => if m = 4 ∧ dramEnd s ≤ a then .none else .mem m
  | none =>
    if 0x0040000000 ≤ a ∧ a < 0x0040140000 then .ring
    else if 0x0080000000 ≤ a ∧ a < 0x0080010000 then .store 0
    else if 0x0080100000 ≤ a ∧ a < 0x0080110000 then .store 1
    else if 0x0F00000000 ≤ a ∧ a < 0x0F00800000 then .regs
    else .none

/-- Whether a master may read, write or fetch from a region (R40). A write to the boot ROM passes here and gets its bus error. -/
def mayReach (m : Master) (write : Bool) (r : Region) : Bool :=
  match r, m with
  | .none, _ => false
  | .mem 4, .yp => false
  | .mem _, _ => true
  | .ring, .yp => false
  | .ring, _ => !write
  | .store _, .yp => false
  | .store _, _ => true
  | .regs, .dma => false
  | .regs, _ => true

/-- Whether a master may fetch from a region (R40). -/
def mayFetch (m : Master) (r : Region) : Bool :=
  match r, m with
  | .mem 3, .y _ => true
  | .mem 3, .yp => true
  | .mem 0, .y _ => true
  | .mem 4, .y _ => true
  | .mem 1, .yp => true
  | _, _ => false

/-- How a physical access fails: a decode error or refusal, a bus error, or uncorrectable data; `region` marks an access that R40
refuses. -/
inductive AccFail where
  | decode | region | bus | off | ue
  deriving DecidableEq, Repr

/-- Whether the debug port at level 0 is kept from an access of memory (R645): it may write the last 256 bytes of pantry SRAM. -/
def debugBarred (m : Master) (write : Bool) (a n : Nat) (s : State) : Bool :=
  match m with
  | .debug => s.get CIP_STATUS.DBG_LEVEL == 0 && !(write && decide (0x002007FF00 ≤ a ∧ a + n ≤ 0x0020080000))
  | _ => false

/-- Whether an access to memory is turned away before it reaches its region (R35, R37, R40, R41, R404, R645). -/
def accessFail (m : Master) (write : Bool) (a n : Nat) (s : State) : Option AccFail :=
  let r := regionOf a s
  if debugBarred m write a n s then some .bus
  else if r = .none ∨ regionOf (a + n - 1) s ≠ r then some .decode
  else if !mayReach m write r then some .region
  else match r with
    | .mem k =>
      if k = 3 ∧ write then some .bus
      else if k = 2 ∧ a < mramBase + 0x40000 ∧ mramBase + 0x10000 < a + n then some .bus
      else if k = 4 ∧ !dramOpen s then some .bus
      else if !memoryOn a s then some .off
      else none
    | .ring => if s.power.core then none else some .off
    | .store _ => if !s.power.core then some .off else none
    | _ => some .decode

/-- The sample ring slices of DC2 and DC3 read zero on the FQX-1408 (R39). -/
def ringBytes (a n : Nat) (s : State) : List Byte :=
  if s.variant1408 ∧ 0x00400A0000 ≤ a then List.replicate n 0 else s.readBytes a n

end Sys2Proof.Machine
end

