-- ==== Sys2Proof/Machine/Mmu.lean ====
section
/-! DEFINITION. Address translation: table entries, the walk, and matching a held translation (R446 to R448, R450, R497). -/

namespace Sys2Proof.Machine

/-- Fields of a table entry (R446). -/
def pteV (e : BitVec 40) : Bool := e.toNat.testBit 0
def pteR (e : BitVec 40) : Bool := e.toNat.testBit 1
def pteW (e : BitVec 40) : Bool := e.toNat.testBit 2
def pteX (e : BitVec 40) : Bool := e.toNat.testBit 3
def pteU (e : BitVec 40) : Bool := e.toNat.testBit 4
def pteG (e : BitVec 40) : Bool := e.toNat.testBit 5
def pteUc (e : BitVec 40) : Bool := e.toNat.testBit 6
def ptePpn (e : BitVec 40) : Nat := bits e.toNat 12 28

/-- Whether an entry maps a page rather than points to a table. -/
def pteLeaf (e : BitVec 40) : Bool := pteR e || pteW e || pteX e

/-- What a walk gives: a leaf and whether it is a 2 MiB page, or a fault with REASON and LEVEL (R435). -/
inductive Walk where
  | leaf (e : BitVec 40) (big : Bool)
  | fault (reason level : Nat)
  deriving DecidableEq, Repr

/-- The level-1 table's size in bits of index: 9 to 19 (R431). -/
def l1Log (v : Nat) : Nat := max 9 (min 19 v)

/-- What a level-1 entry says (R446): a leaf, a fault, or the page of a level-2 table. -/
def level1 (e : BitVec 40) : Walk ⊕ Nat :=
  if !pteV e then .inl (.fault 1 1)
  else if bits e.toNat 7 5 != 0 then .inl (.fault 3 1)
  else if pteLeaf e then
    if (pteW e && !pteR e) || bits e.toNat 12 9 != 0 then .inl (.fault 3 1) else .inl (.leaf e true)
  else if pteU e || pteG e || pteUc e then .inl (.fault 3 1)
  else .inr (ptePpn e)

/-- What a level-2 entry says (R446). -/
def level2 (e : BitVec 40) : Walk :=
  if !pteV e then .fault 1 2
  else if bits e.toNat 7 5 != 0 || !pteLeaf e || (pteW e && !pteR e) then .fault 3 2
  else .leaf e false

/-- The walk of R447 with a reader of table entries; a read that fails ends it with REASON 0x5 (R449). -/
def walk (rd : Addr → State → Option (BitVec 40) × State) (base log va : Nat) (s : State) : Walk × State :=
  let i := va / 2 ^ 21
  if 2 ^ l1Log log ≤ i then (.fault 4 1, s)
  else
    match rd (base + 8 * i) s with
    | (none, s) => (.fault 5 1, s)
    | (some e, s) =>
      match level1 e with
      | .inl w => (w, s)
      | .inr p =>
        match rd (p * 4096 + 8 * bits va 12 9) s with
        | (none, s) => (.fault 5 2, s)
        | (some e, s) => (level2 e, s)

/-- The physical address that a leaf gives (R447). -/
def leafAddr (e : BitVec 40) (big : Bool) (va : Nat) : Nat :=
  if big then ptePpn e / 512 * 2 ^ 21 + va % 2 ^ 21 else ptePpn e * 4096 + va % 4096

/-- Whether a page-table read may touch an address: main SRAM, pantry SRAM, MRAM or DRAM (R449). -/
def tableRegion (a : Addr) (s : State) : Bool :=
  match regionOf a s with
  | .mem m => m != 3
  | _ => false

/-- Whether a held translation covers an address for an ASID (R450, R498). -/
def Xlat.covers (x : Xlat) (asid va : Nat) : Bool :=
  (pteG x.leaf || x.asid == asid) && (if x.big then x.vpn / 512 == va / 2 ^ 21 else x.vpn == va / 4096)

/-- A held translation for an address and an ASID. -/
def xlatFind (l : List Xlat) (asid va : Nat) : Option Xlat := l.find? fun x => x.covers asid va

/-- A new translation replaces the oldest of `size` entries, round-robin. -/
def xlatAdd (size : Nat) (l : List Xlat) (x : Xlat) : List Xlat :=
  (if size ≤ l.length then l.drop (l.length + 1 - size) else l) ++ [x]

end Sys2Proof.Machine
end

