-- ==== Sys2Proof/Machine/Via.lean ====
section
/-! DEFINITION. The internal transfers that units make through a media-class channel: when the channel serves them, and where its
translation takes them (R487, R496, R497, R499). -/

namespace Sys2Proof.Machine

/-- Whether channel `k` serves internal transfers: the engine and the channel run, and it is neither paused, waiting nor faulted. -/
def dmaServes (k : Nat) (s : State) : Bool :=
  s.bit DMA_CTRL.ENABLE &&
    (let st := (s.dma.chan.toList.getD k {}).st
     st == 1 || st == 2)

/-- A table entry as it stands in memory. -/
def tableEntry (a : Addr) (s : State) : Option (BitVec 40) × State :=
  (if tableRegion a s then some (BitVec.ofNat 40 (s.readLE a 8)) else none, s)

/-- The physical address that channel `k` gives a local address for a read or a write. -/
def viaAddr (k : Nat) (write : Bool) (va : Nat) (s : State) : Option Nat :=
  if !s.bit (DMA_CH_CFG.XLAT_EN k) then some va
  else
    match (walk tableEntry (4096 * s.get (DMA_CH_PTBASE.ADDR k)) (s.get (DMA_CH_PTBASE.L1LOG k)) va s).1 with
    | .leaf e big => if pteR e && (!write || pteW e) then some (leafAddr e big va) else none
    | .fault _ _ => none

/-- The pages that `n` bytes from `va` touch, as addresses and lengths. -/
def pageRuns : (fuel va n : Nat) → List (Nat × Nat)
  | 0, _, _ => []
  | fuel + 1, va, n =>
    if n = 0 then []
    else
      let k := min n (4096 - va % 4096)
      (va, k) :: pageRuns fuel (va + k) (n - k)

/-- The pages of a range of at most 24, or more. -/
def pagesOf (va n : Nat) : List (Nat × Nat) := pageRuns (n / 4096 + 2) va n

/-- Whether every page of a transfer of at most 24 pages translates and may be reached. -/
def viaOk (k : Nat) (write : Bool) (va n : Nat) (s : State) : Bool :=
  let l := pagesOf va n
  decide (l.length ≤ 24) && l.all fun p =>
    match viaAddr k write p.1 s with
    | some a => (accessFail .dma write a p.2 s).isNone
    | none => false

/-- Bytes read through the channel. -/
def State.readVia (s : State) (k va n : Nat) : List Byte :=
  (pagesOf va n).flatMap fun p =>
    match viaAddr k false p.1 s with
    | some a => s.readBytes a p.2
    | none => []

/-- Bytes written through the channel. -/
def State.writeVia (s : State) (k va : Nat) (l : List Byte) : State :=
  (pagesOf va l.length).foldl (fun t p =>
    match viaAddr k true p.1 s with
    | some a => t.writeBytes a (slice l (p.1 - va) p.2)
    | none => t) s

end Sys2Proof.Machine
end

