-- ==== Sys2Proof/Machine/FrontEnd.lean ====
section
/-! DEFINITION. The reader front ends: calibration, the defect detector, sync marks and the sample ring (R176 to R199). -/

namespace Sys2Proof.Machine

/-- Whether the open program of the formatter runs in a mode other than calibration (R386). -/
def progNotCal (n : Fin 2) (s : State) : Bool :=
  match s.fms[n].prog with
  | none => false
  | some p => leAt p.tpd 0 1 % 4 != 2

/-- A calibration routine of DCn ends with `code`, other than 0x00: the values at START return and the event is logged
(R196). -/
def dcCalFail (c : Fin 4) (routine code : Nat) (s : State) : State :=
  let s := match s.dc[c].cal with
    | none => s
    | some k => (s.setRegWord (DC_VGA.GAIN_A c).addr DC_VGA.rst k.vga).setRegWord (DC_TRIM.ASYM_A c).addr DC_TRIM.rst k.trim
  let s := s.modDc c fun d => { d with cal := none }
  let s := ((s.set (DC_CAL.RESULT c) code).set (DC_CAL.BUSY c) 0).set (DC_STATUS.CAL_BUSY c) 0
  s.log 0x080 (leBytes 1 0 ++ leBytes 1 (s.get (DC_STATUS.HEAD c)) ++ leBytes 1 routine ++ leBytes 1 code)

/-- DC_CAL.START with a routine of R194: ignored while one runs, refused with 0x02 or 0x03 under R196, otherwise running. -/
def dcCalStart (c : Fin 4) (routine : Nat) (s : State) : State :=
  let n := halfOf c
  if s.bit (DC_CAL.BUSY c) then s
  else
    let s := s.set (DC_CAL.ROUTINE c) routine
    if progNotCal n s || (routine == 0 && s.bit (DC_STATUS.RG_ON c)) || !s.bit (PSL_STATUS.LINK_UP n) ||
        (routine != 0 && s.get (DC_CTRL.MODE c) != 2) then dcCalFail c routine 0x02 s
    else if s.get (DC_STATUS.HEAD c) = 0x1F then dcCalFail c routine 0x03 s
    else
      let s := ((s.set (DC_CAL.RESULT c) 0x01).set (DC_CAL.BUSY c) 1).set (DC_STATUS.CAL_BUSY c) 1
      s.modDc c fun d => { d with
        cal := some { routine := routine
                      vga := s.regWord (DC_VGA.GAIN_A c).addr DC_VGA.rst
                      trim := s.regWord (DC_TRIM.ASYM_A c).addr DC_TRIM.rst } }

def execDcCalAdcOffset (c : Fin 4) (s : State) : Out := s.onHalf (halfOf c).val (dcCalStart c 0)
def execDcCalGain (c : Fin 4) (s : State) : Out := s.onHalf (halfOf c).val (dcCalStart c 1)
def execDcCalAsymmetry (c : Fin 4) (s : State) : Out := s.onHalf (halfOf c).val (dcCalStart c 2)

/-- Whether a trimmed value is at the limit of its field: s5, u9 or s8 by routine (R196, code 0x06). -/
def dcCalAtLimit (routine v : Nat) : Bool :=
  if routine = 0 then v % 32 == 15 || v % 32 == 16
  else if routine = 1 then v % 512 == 0 || v % 512 == 511
  else v % 256 == 127 || v % 256 == 128

/-- The values that a routine found take effect in DC_TRIM or DC_VGA. -/
def dcCalApply (c : Fin 4) (routine a b d : Nat) (s : State) : State :=
  if routine = 0 then ((s.set (DC_TRIM.ADCOFS_A c) a).set (DC_TRIM.ADCOFS_B c) b).set (DC_TRIM.ADCOFS_C c) d
  else if routine = 1 then ((s.set (DC_VGA.GAIN_A c) a).set (DC_VGA.GAIN_B c) b).set (DC_VGA.GAIN_C c) d
  else ((s.set (DC_TRIM.ASYM_A c) a).set (DC_TRIM.ASYM_B c) b).set (DC_TRIM.ASYM_C c) d

/-- The first 28 bytes of a front-end calibration record after a routine passed (R197). -/
def dcCalRecord (old : List Byte) (head routine a b d temp ops : Nat) : List Byte :=
  let s5 (v : Nat) : List Byte := leBytes 1 (ofS 8 (toS 5 v))
  leBytes 1 head ++ leBytes 1 (leAt old 1 1 % 8 ||| 2 ^ routine) ++ leBytes 1 temp ++ leBytes 1 0 ++ leBytes 5 ops ++
    leBytes 3 0 ++
    (if routine = 1 then leBytes 2 a ++ leBytes 2 b ++ leBytes 2 d else slice old 12 6) ++
    (if routine = 0 then s5 a ++ s5 b ++ s5 d else slice old 18 3) ++
    (if routine = 2 then leBytes 1 a ++ leBytes 1 b ++ leBytes 1 d else slice old 21 3) ++ leBytes 4 0

/-- A routine ends with the values it found and the diode's temperature: the tests of R195 and R196 in the order of
their codes, then the record of R197. -/
def execDcCalDone (c : Fin 4) (va vb vc : BitVec 16) (temp : BitVec 8) (s : State) : Out :=
  s.onHalf (halfOf c).val fun s =>
    match s.dc[c].cal with
    | none => s
    | some k =>
      let a := va.toNat
      let b := vb.toNat
      let d := vc.toNat
      if k.routine ≠ 0 ∧ k.captured * 100 < s.get (DC_CAL.MIN_CAPTURE c) * k.attempted then dcCalFail c k.routine 0x04 s
      else if k.routine ≠ 0 ∧ k.recorded < k.frozen * 4 then dcCalFail c k.routine 0x05 s
      else if dcCalAtLimit k.routine a || dcCalAtLimit k.routine b || dcCalAtLimit k.routine d then
        dcCalFail c k.routine 0x06 s
      else
        let s := dcCalApply c k.routine a b d (s.modDc c fun x => { x with cal := none })
        let s := ((s.set (DC_CAL.RESULT c) 0x00).set (DC_CAL.BUSY c) 0).set (DC_STATUS.CAL_BUSY c) 0
        let s := s.set (DC_CALTEMP.TEMP c) temp.toNat
        let head := s.get (DC_STATUS.HEAD c)
        let at' := mramBase + 0x040000 + 32 * head
        let body := dcCalRecord (s.readBytes at' 32) head k.routine a b d temp.toNat s.opSeconds
        s.writeBytes at' (body ++ leBytes 4 (crc32c body))

/-- A write of 1 frees a slot only if it is HELD (R192). -/
def dcRelease (c : Fin 4) (mask : Nat) (s : State) : State :=
  forEach [0, 1, 2, 3] (fun k s =>
    if mask.testBit k && s.get (ringStateFld c k) == 3 then ringSet c k 0 s else s) s

def execDcRingRel (c : Fin 4) (mask : BitVec 4) (s : State) : Out := s.onHalf (halfOf c).val (dcRelease c mask.toNat)

/-- DC_CTRL.CLR_CNT clears DC_CNT, DEF_CNT and CSLIP (R199). -/
def execDcClrCnt (c : Fin 4) (s : State) : Out :=
  s.onHalf (halfOf c).val fun s =>
    s.clearAll [DC_CNT.NO_SYNC c, DC_CNT.SEC_RECOV c, DC_CNT.PRI_MISS c, DC_CNT.SLIP c, DC_DEFECT.DEF_CNT c, DC_TIMING.CSLIP c]

/-- A dropout or a thermal asperity begins, unless its level of 0 disables it: every loop freezes (R182, R183). -/
def execDefectFreezeStart (c : Fin 4) (sample : BitVec 32) (asperity : Bool) (s : State) : Out :=
  s.onHalf (halfOf c).val fun s =>
    if s.get (if asperity then DC_DEFECT.TA_LEVEL c else DC_DEFECT.DROPOUT_LEVEL c) = 0 then s
    else if s.bit (DC_STATUS.DEFECT c) then s
    else
      let s := (s.set (DC_STATUS.DEFECT c) 1).bump (DC_DEFECT.DEF_CNT c)
      s.modDc c fun d => { d with freeze := some (sample.toNat, if asperity then 2 else 1) }

/-- An interval enters the ring header; past the eighth, the eighth is stretched to its end (R183, R189). -/
def RingRec.addDefect (start len ty : Nat) (r : RingRec) : RingRec :=
  if r.defects.length < 8 then { r with defects := r.defects ++ [(start, len, ty)] }
  else
    let last := r.defects.getD 7 (0, 0, 0)
    { r with defects := r.defects.take 7 ++ [(last.1, start + len - last.1, last.2.2)], defOverflow := true }

/-- Both conditions ended at sample `ended`; the freeze ends HANGOVER × 8 sample times later (R183). -/
def execDefectFreezeEnd (c : Fin 4) (ended : BitVec 32) (s : State) : Out :=
  s.onHalf (halfOf c).val fun s =>
    match s.dc[c].freeze with
    | none => s
    | some (start, ty) =>
      let len := ended.toNat + 8 * s.get (DC_DEFECT.HANGOVER c) - start
      (s.set (DC_STATUS.DEFECT c) 0).modDc c fun d => { d with
        freeze := none
        rcd := d.rcd.map (RingRec.addDefect start len ty)
        cal := d.cal.map fun k => { k with frozen := k.frozen + len } }

/-- Free values for the fields of a loop, unless its code of 15 freezes it (R179). -/
def dcLoop (code : Fld) (l : List Fld) (s : State) : State :=
  if s.get code = 15 then s else forEach l (fun (f : Fld) s => let (v, s) := s.fresh; s.set f v) s

/-- While the read gate is on and nothing is frozen the loops adapt to samples that no command carries: their values are free, the
frequency correction within its limit (R179, R181). -/
def dcLoops (c : Fin 4) (s : State) : State :=
  if !s.bit (DC_CTRL.ENABLE c) || !s.bit (DC_STATUS.RG_ON c) || s.dc[c].freeze.isSome then s
  else
    let s := dcLoop (DC_LOOP.AGC_MU c) [DC_VGA.GAIN_A c, DC_VGA.GAIN_B c, DC_VGA.GAIN_C c] s
    let s := dcLoop (DC_LOOP.BASE_MU c) [DC_BASE.BASE_A c, DC_BASE.BASE_B c, DC_BASE.BASE_C c] s
    let s := dcLoop (DC_LOOP.ASYM_MU c) [DC_TRIM.ASYM_A c, DC_TRIM.ASYM_B c, DC_TRIM.ASYM_C c] s
    let s := dcLoop (DC_LOOP.TIM_KI c) [DC_TIMING.FREQ c] s
    let s := s.set (DC_TIMING.FREQ c) (ofS 16 (clampI (-20000) 20000 (toS 16 (s.get (DC_TIMING.FREQ c)))))
    let (v, s) := s.fresh
    ((s.set (DC_TIMING.PHASE c) v).set (DC_TIMING.LOCK c) (v / 64)).set (DC_STATUS.LOCK c) (v / 64)

/-- DET_ALIGN_MEAS at a captured primary mark: the best offsets of readers A and C, which no command carries, are free (R202). -/
def alignMeasure (c : Fin 4) (s : State) : State :=
  let (v, s) := s.fresh
  (((s.set (DET_ALIGN_MEAS.OFS_A c) v).set (DET_ALIGN_MEAS.OFS_C c) (v / 32)).set (DET_ALIGN_MEAS.HEAD c)
    (s.get (DC_STATUS.HEAD c) % 14)).set (DET_ALIGN_MEAS.VALID c) 1

/-- LOOP0 of the header: gains, baselines and asymmetries at sample 0 (R189). -/
def dcLoop0 (c : Fin 4) (s : State) : List Byte :=
  leBytes 2 (s.get (DC_VGA.GAIN_A c)) ++ leBytes 2 (s.get (DC_VGA.GAIN_B c)) ++ leBytes 2 (s.get (DC_VGA.GAIN_C c)) ++
  leBytes 1 (s.get (DC_BASE.BASE_A c)) ++ leBytes 1 (s.get (DC_BASE.BASE_B c)) ++ leBytes 1 (s.get (DC_BASE.BASE_C c)) ++
  leBytes 1 (s.get (DC_TRIM.ASYM_A c)) ++ leBytes 1 (s.get (DC_TRIM.ASYM_B c)) ++ leBytes 1 (s.get (DC_TRIM.ASYM_C c))

/-- The FRAG_ADDR of data member 0 of the group of a fragment: the slots of a group are consecutive (R88). -/
def groupFirst (frag member groupK : Nat) : Nat :=
  frag - (if member = 62 then groupK else if member = 63 then groupK + 1 else member)

/-- A group opens a free accumulator bank when GSR_EN is 1 and DET_GSR_NEXT is armed; without a new value it opens none
(R229). -/
def accOpen (c : Fin 4) (r : RingRec) (s : State) : State :=
  let first := groupFirst r.frag r.member r.groupK
  let isOpen (b : Option AccBank) : Bool := match b with | some a => a.first == first | none => false
  if isOpen s.dc[c].acc[0] || isOpen s.dc[c].acc[1] || !s.bit (DET_CTRL.GSR_EN c) || !s.bit (DET_GSR_NEXT.ARMED c) then s
  else
    let bank : AccBank := { chan := trackChan (halfOf c) s, gsr := 64 * s.get (DET_GSR_NEXT.ADDR c), groupK := r.groupK, first := first }
    let k : Fin 2 := if s.dc[c].acc[0].isNone then 0 else 1
    let s := (s.set (DET_GSR_NEXT.ARMED c) 0).set (DET_STATUS.GSR_OPEN c) (s.get (DET_STATUS.GSR_OPEN c) ||| (k.val + 1))
    s.modDc c fun d => { d with acc := d.acc.set k (some bank) }

/-- A fragment's first piece begins: the next slot starts FILLING; where it is DECODING or HELD, or RING_EN is 0, the
fragment slips (R191). In verify mode the ring is not written (R193). -/
def execRingRecordStart (c : Fin 4) (frag : BitVec 40) (member groupK : BitVec 6) (pieces : List Piece) (s : State) : Out :=
  s.onHalf (halfOf c).val fun s =>
    let s := dcLoops c s
    let r : RingRec := { frag := frag.toNat, member := member.toNat, groupK := groupK.toNat, seq := s.dc[c].seq,
                         pieces := pieces, loop0 := dcLoop0 c s }
    let s := accOpen c r (s.modDc c fun d => { d with seq := d.seq + 1, rcd := some r })
    let k := s.get (DC_RING.NEXT c)
    let st := s.get (ringStateFld c k)
    if s.get (DC_CTRL.MODE c) = 1 then s
    else if !s.bit (DC_CTRL.RING_EN c) || st == 2 || st == 3 then s.bump (DC_CNT.SLIP c)
    else
      let s := ringSet c k 1 (s.set (DC_RING.NEXT c) (k + 1))
      s.modDc c fun d => { d with rcd := some { r with slot := some k } }

/-- The piece entry of the header (R189). -/
def pieceBytes (p : Piece) : List Byte :=
  leBytes 8 p.tick ++ leBytes 4 p.first ++ leBytes 2 p.count ++ leBytes 2 p.fragOfs

/-- The first 252 bytes of a slot header (R189). -/
def ringHeader (r : RingRec) (state samples seq : Nat) : List Byte :=
  let pad (k : Nat) (l : List Byte) : List Byte := (l ++ List.replicate k 0).take k
  leBytes 8 r.frag ++ leBytes 1 state ++ leBytes 1 r.pieces.length ++ leBytes 1 r.sync ++
  leBytes 1 (r.defects.length + (if r.defOverflow then 128 else 0)) ++ leBytes 4 samples ++ leBytes 4 r.sync1 ++
  leBytes 4 r.sync2 ++ leBytes 4 r.coded0 ++ leBytes 2 r.freq2 ++ leBytes 1 r.phase2 ++ leBytes 1 0 ++ leBytes 8 seq ++
  r.loop0 ++ leBytes 12 0 ++
  pad 64 (r.defects.flatMap fun d => leBytes 4 d.1 ++ leBytes 2 d.2.1 ++ leBytes 1 d.2.2 ++ leBytes 1 0) ++
  pad 112 (r.pieces.flatMap pieceBytes) ++ leBytes 12 0

/-- The fragment's last bit is recorded: samples and header with HDR_CRC land, and the slot goes DECODING, HELD under
R186, or FREE where the link went down (R189, R190, R198). -/
def execRingRecordEnd (c : Fin 4) (samples : BitVec 32) (data : List Byte) (s : State) : Out :=
  s.onHalf (halfOf c).val fun s =>
    match s.dc[c].rcd with
    | none => s
    | some r =>
      let s := s.modDc c fun d => { d with cal := d.cal.map fun k => { k with recorded := k.recorded + samples.toNat } }
      let s := s.modDc c fun d => { d with rcd := none, waiting := d.waiting ++ [r] }
      match r.slot with
      | none => s
      | some k =>
        let code := if r.notRead then 0 else if r.toHeld then 3 else 2
        let h := ringHeader r code samples.toNat r.seq
        let s := (s.writeBytes (ringSlotAddr c k) (h ++ leBytes 4 (crc32c h))).writeBytes (ringSlotAddr c k + 0x100) data
        (ringSet c k code s).when (code == 3) (·.set (DET_INT.HELD c) 1)

/-- The ring write FIFO filled while recording: the slot becomes SLIPPED and its header stays invalid (R190). -/
def execRingWriteOverrun (c : Fin 4) (s : State) : Out :=
  s.onHalf (halfOf c).val fun s =>
    match s.dc[c].rcd with
    | none => s
    | some r =>
      match r.slot with
      | none => s
      | some k => (ringSet c k 4 s).modDc c fun d => { d with rcd := some { r with slot := none } }

/-- The captured position: the fewest mismatches at most `thresh` within `win` of `centre`, the earlier on a tie (R184). -/
def bestMark (centre win thresh : Nat) : List (Nat × Nat) → Option (Nat × Nat)
  | [] => none
  | (p, m) :: r =>
    let b := bestMark centre win thresh r
    if m ≤ thresh ∧ centre ≤ p + win ∧ p ≤ centre + win then
      match b with
      | none => some (p, m)
      | some (q, k) => if m < k ∨ (m = k ∧ p < q) then some (p, m) else some (q, k)
    else b

/-- The half-width in effect: a value outside 8 to 512 was never taken (R199). -/
def syncThresh (c : Fin 4) (s : State) : Nat := min 4 (s.get (DC_SYNC.SYNC_THRESH c))

/-- The counts of a search: PRI_MISS, SEC_RECOV, NO_SYNC, and a timing slip for a non-zero offset (R186). -/
def syncCounts (c : Fin 4) (p q : Option (Nat × Nat)) (offset : Int) (s : State) : State :=
  let s := if p.isNone then s.bump (DC_CNT.PRI_MISS c) else s
  let s := if p.isNone && q.isSome then s.bump (DC_CNT.SEC_RECOV c) else s
  let s := if p.isNone && q.isNone then s.bump (DC_CNT.NO_SYNC c) else s
  if p.isSome && q.isSome && offset != 0 then s.bump (DC_TIMING.CSLIP c) else s

/-- The two windows have closed over the positions and mismatch counts given (R184 to R186). -/
def execSyncMarkSearch (c : Fin 4) (plan : BitVec 32) (primary secondary : List (Nat × Nat)) (freq : BitVec 16)
    (phase : BitVec 6) (s : State) : Out :=
  s.onHalf (halfOf c).val fun s =>
    let p := bestMark plan.toNat (s.get (DC_SYNC.SYNC_WIN c)) (syncThresh c s) primary
    let expect := (match p with | some x => x.1 | none => plan.toNat) + 16400
    let q := bestMark expect (s.get (DC_SYNC.SYNC2_WIN c)) (syncThresh c s) secondary
    let offset : Int := match q with | some y => (y.1 : Int) - (expect : Int) | none => 0
    let s := syncCounts c p q offset s
    let s := s.set (DC_SYNC_LAST.RESULT c) (if p.isSome then 0 else if q.isSome then 1 else 2)
    let s := s.set (DC_SYNC_LAST.OFFSET c) (ofS 16 offset)
    let s := (s.set (DC_SYNC_LAST.MISM1 c) ((p.map (·.2)).getD 0)).set (DC_SYNC_LAST.MISM2 c) ((q.map (·.2)).getD 0)
    let s := s.modDc c fun d => { d with cal := d.cal.map fun k =>
      { k with attempted := k.attempted + 1, captured := k.captured + boolNat (p.isSome || q.isSome) } }
    let s := s.when p.isSome (alignMeasure c)
    match s.dc[c].rcd with
    | none => s
    | some r =>
      let r := { r with
        sync := boolNat p.isSome + 2 * boolNat q.isSome
        sync1 := (p.map (·.1)).getD 0xFFFFFFFF
        sync2 := (q.map (·.1)).getD 0xFFFFFFFF
        coded0 := match p, q with
          | some x, _ => x.1
          | none, some y => y.1 - 16400
          | none, none => 0xFFFFFFFF
        freq2 := if q.isSome then freq.toNat else 0
        phase2 := if q.isSome then phase.toNat else 0
        notDecoded := r.notDecoded || p.isNone
        toHeld := r.toHeld || p.isNone }
      (s.set (DC_SYNC_LAST.SLOT c) (r.slot.getD 0)).modDc c fun d => { d with rcd := some r }

end Sys2Proof.Machine
end

