-- ==== Sys2Proof/Machine/Detector.lean ====
section
/-! DEFINITION. The detector: engines, the checker, the group accumulator and the deferred decode queue (R200 to R235). -/

namespace Sys2Proof.Machine

/-- The lowest-numbered free line-rate engine (R209). -/
def freeEngine (busy : Nat) : Option Nat :=
  if !busy.testBit 0 then some 0 else if !busy.testBit 1 then some 1
  else if !busy.testBit 2 then some 2 else if !busy.testBit 3 then some 3 else none

/-- The fragment in recording starts its intake: it takes an engine and the active parameter record, or is NOT_DECODED
where no engine is free or the detector FIFO drops samples (R209, R218, R56). -/
def execFragmentIntakeStart (c : Fin 4) (fifoDrop : Bool) (s : State) : Out :=
  s.onHalf (halfOf c).val fun s =>
    match s.dc[c].rcd with
    | none => s
    | some r =>
      let s := (s.set (DET_STATUS.PSEL c) (s.get (DET_PSEL.PSEL c))).set (DET_STATUS.EQ_SAT c) 0
      let e := if fifoDrop || !s.bit (DET_CTRL.ENABLE c) || !s.bit (DC_CTRL.ENABLE c) then none
        else freeEngine (s.get (DET_STATUS.ENG_BUSY c))
      match e with
      | none => s.modDc c fun d => { d with rcd := some { r with notDecoded := true } }
      | some k =>
        let s := s.set (DET_STATUS.ENG_BUSY c) (s.get (DET_STATUS.ENG_BUSY c) ||| 2 ^ k)
        (s.set (DET_STATUS.INTAKE c) 1).modDc c fun d => { d with rcd := some { r with engine := some k } }

/-- The tag check of R213 on an information word: 0x00, 0x02, 0x11 or 0x12. -/
def tagCheck (word : List Byte) (expect : Nat) : Nat :=
  let tag := slice word 4096 32
  let kind := leAt tag 0 1 % 16
  if leAt tag 28 4 ≠ crc32c (word.take 4096 ++ tag.take 28) ∨ leAt tag 0 1 / 16 ≠ 1 ∨ 2 < kind then 0x11
  else if leAt tag 9 5 ≠ expect then 0x12
  else if kind = 2 then 0x02
  else 0x00

/-- The outcome of a fragment at delivery (R215). One that would go to HELD without a ring record is SLIPPED. -/
def outcomeOf (r : RingRec) (d : Decoded) : Nat :=
  let o :=
    if r.notRead then 0x16
    else if r.toHeld && r.sync == 0 then 0x13
    else if r.toHeld && r.sync == 2 then 0x14
    else if r.notDecoded then 0x15
    else if !d.converged then 0x10
    else if 62 ≤ r.member then 0x01
    else tagCheck d.word r.frag
  if 0x10 ≤ o ∧ o ≤ 0x15 ∧ r.slot.isNone then 0x17 else o

/-- The fragment result record of R214. -/
def resultRecord (frag outcome ring seq : Nat) (d : Decoded) : List Byte :=
  let tag := if outcome = 0x00 ∨ outcome = 0x02 ∨ outcome = 0x11 ∨ outcome = 0x12 then slice d.word 4096 32
    else List.replicate 32 0
  let body := tag ++ leBytes 5 frag ++ leBytes 1 outcome ++ leBytes 1 d.globals ++ leBytes 1 ring ++ leBytes 2 d.locals ++
    leBytes 2 d.synd ++ leBytes 2 (if d.converged then min d.bitsFixed 0xFFFF else 0) ++ leBytes 2 d.noise ++
    leBytes 8 seq ++ leBytes 4 0
  body ++ leBytes 4 (crc32c body)

/-- The exponent of a member of a group (R89). -/
def memberExp (member groupK : Nat) : Nat :=
  if member = 62 then 1 else if member = 63 then 0 else groupK + 1 - member

/-- A word folded into a bank at exponent `e` (R216). -/
def AccBank.fold (e : Nat) (word : List Byte) (suspect : Bool) (b : AccBank) : AccBank :=
  { b with
    present := b.present ||| 2 ^ e
    suspect := if suspect then b.suspect ||| 2 ^ e else b.suspect
    s0 := gfAddScaled 0 b.s0 (symbols word)
    s1 := gfAddScaled e b.s1 (symbols word) }

/-- The bank of DCn for the group of `first`, folded with a word. -/
def accFold (c : Fin 4) (first e : Nat) (word : List Byte) (suspect : Bool) (s : State) : State :=
  s.modDc c fun d => { d with acc := d.acc.map fun b =>
    match b with
    | some a => if a.first = first then some (a.fold e word suspect) else some a
    | none => none }

/-- A statistics count rises; STATS_SAT is set when it is at its largest value (R235). -/
def statBump (c : Fin 4) (f : Fld) (k : Nat) (s : State) : State :=
  let s := s.bump f k
  if s.get f = 2 ^ f.len - 1 then s.set (DET_INT.STATS_SAT c) 1 else s

/-- The counts of a delivery (R235). -/
def detCounts (c : Fin 4) (outcome : Nat) (d : Decoded) (s : State) : State :=
  let conv := d.converged && (outcome ≤ 0x02 || outcome == 0x11 || outcome == 0x12)
  let s := if !conv then s
    else if d.globals ≤ 1 then statBump c (DET_CNT_A.CONV1 c) 1 s
    else if d.globals = 2 then statBump c (DET_CNT_A.CONV2 c) 1 s
    else if d.globals = 3 then statBump c (DET_CNT_B.CONV3 c) 1 s
    else statBump c (DET_CNT_B.CONV4 c) 1 s
  let s := if outcome = 0x15 then statBump c (DET_CNT_C.NOT_DEC c) 1 s
    else if outcome = 0x10 then statBump c (DET_CNT_C.FAIL c) 1 s
    else if outcome = 0x12 then statBump c (DET_CNT_D.MISPLACED c) 1 s
    else if outcome = 0x11 then statBump c (DET_CNT_D.TAG_FAIL c) 1 s
    else s
  let s := statBump c (DET_ITER_SUM.LOCALS c) d.locals s
  if conv then statBump c (DET_ERR_SUM.BITS_FIXED c) d.bitsFixed s else s

/-- The state in which an outcome leaves the ring slot (R215). -/
def ringAfter (c : Fin 4) (outcome : Nat) (slot : Option Nat) (s : State) : State :=
  match slot with
  | none => s
  | some k =>
    if outcome ≤ 0x02 ∨ outcome = 0x16 then ringSet c k 0 s
    else if 0x10 ≤ outcome ∧ outcome ≤ 0x15 then
      if s.get (ringStateFld c k) = 3 then s else (ringSet c k 3 s).set (DET_INT.HELD c) 1
    else s

/-- What the health record counts of a delivery: the fragment, a line-rate failure, a failed tag check or a misplaced one. -/
def deliveryCounts (frag o : Nat) (s : State) : State :=
  let s := mediaCount frag 0 s
  if o = 0x10 ∨ o = 0x13 ∨ o = 0x14 ∨ o = 0x15 then mediaCount frag 1 s
  else if o = 0x11 ∨ o = 0x12 then mediaCount frag 7 s else s

/-- What it counts of a fragment recovered by the deferred decode or the outer code, as count `k`. -/
def recoveryCounts (frag o k : Nat) (s : State) : State :=
  if o ≤ 0x02 then mediaCount frag k s else if o = 0x11 ∨ o = 0x12 then mediaCount frag 7 s else s

/-- The checker delivers the next fragment in slot order, with what its engine reports (R212 to R216). -/
def execFragmentDelivery (c : Fin 4) (d : Decoded) (s : State) : Out :=
  s.onHalf (halfOf c).val fun s =>
    match s.dc[c].waiting with
    | [] => s
    | r :: rest =>
      let o := outcomeOf r d
      let ring := match r.slot with | some k => 0x80 + k % 4 | none => 0
      let rec' := resultRecord r.frag o ring r.seq d
      let user := if o = 0x00 then d.word.take 4096 else []
      let s := deliveryCounts r.frag o s
      let s := s.modDc c fun x => { x with
        waiting := rest
        deliveries := x.deliveries ++ [{ record := rec', user := user,
                                         poisonMap := if o = 0x00 then leAt d.word (4096 + 18) 8 else 0 }] }
      let s := if o ≤ 0x02 ∨ o = 0x11 then
          accFold c (groupFirst r.frag r.member r.groupK) (memberExp r.member r.groupK) d.word (o == 0x11) s
        else s
      let s := match r.engine with
        | none => s
        | some e => s.set (DET_STATUS.ENG_BUSY c) (setBits (s.get (DET_STATUS.ENG_BUSY c)) e 1 0)
      let s := detCounts c o d s
      let s := (((s.set (DET_LAST.SLOT c) (r.frag % 2048)).set (DET_LAST.OUTCOME c) o).set (DET_LAST.GLOBALS c)
        d.globals).set (DET_LAST.SYND c) d.synd
      let s := (s.set (DET_SNR.NOISE c) d.noise).set (DET_SNR.SNR c) d.snr
      let s := if 0x10 ≤ o then s.set (DET_INT.FAIL c) 1 else s
      fmsEvent (halfOf c) (5 + c.val % 2) (ringAfter c o r.slot s)

/-- A symbol list at the 2,064 positions of a word (R228). -/
def padSymbols (l : List Nat) : List Nat := (l ++ List.replicate 2064 0).take 2064

/-- The first 60 bytes of a group syndrome record (R228). -/
def gsrHeader (groupK first present suspect : Nat) : List Byte :=
  [0x46, 0x51, 0x47, 0x53] ++ leBytes 1 groupK ++ leBytes 3 0 ++ leBytes 5 first ++ leBytes 3 0 ++ leBytes 8 present ++
    leBytes 8 suspect ++ leBytes 28 0

/-- A bank as the bytes of a group syndrome record. -/
def gsrBytes (b : AccBank) : List Byte :=
  let h := gsrHeader b.groupK b.first b.present b.suspect
  h ++ leBytes 4 (crc32c h) ++ symbolBytes (padSymbols b.s0) ++ symbolBytes (padSymbols b.s1)

/-- At P1 delivery or program end an open bank is written to its record through the program's channel and closes (R229, R496); it
waits while the channel does not serve it. -/
def gsrWrite (c : Fin 4) (bank : Fin 2) (s : State) : State :=
  match s.dc[c].acc[bank] with
  | none => s
  | some b =>
    if !dmaServes b.chan s || !viaOk b.chan true b.gsr 8320 s then s else
    let s := (s.writeVia b.chan b.gsr (gsrBytes b)).modDc c fun d => { d with acc := d.acc.set bank none }
    let s := s.set (DET_STATUS.GSR_OPEN c) (setBits (s.get (DET_STATUS.GSR_OPEN c)) bank.val 1 0)
    fmsEvent (halfOf c) (0x10 + c.val % 2) (s.set (DET_INT.GSR_DONE c) 1)

def execGsrWrite (c : Fin 4) (bank : Fin 2) (s : State) : Out := s.onHalf (halfOf c).val (gsrWrite c bank)

/-- A write of DET_GSR_NEXT arms the address of the next group; with GSR_EN 0 it is ignored (R229, R235). -/
def gsrNext (c : Fin 4) (addr : Nat) (s : State) : State :=
  if !s.bit (DET_CTRL.GSR_EN c) then s
  else (s.set (DET_GSR_NEXT.ADDR c) (addr / 64)).set (DET_GSR_NEXT.ARMED c) 1

def execDetGsrNextWrite (c : Fin 4) (addr : BitVec 40) (s : State) : Out := s.onHalf (halfOf c).val (gsrNext c addr.toNat)

def execDetClrStats (c : Fin 4) (s : State) : Out :=
  s.onHalf (halfOf c).val fun s =>
    s.clearAll [DET_CNT_A.CONV1 c, DET_CNT_A.CONV2 c, DET_CNT_B.CONV3 c, DET_CNT_B.CONV4 c, DET_CNT_C.FAIL c,
      DET_CNT_C.NOT_DEC c, DET_CNT_D.TAG_FAIL c, DET_CNT_D.MISPLACED c, DET_ITER_SUM.LOCALS c, DET_ERR_SUM.BITS_FIXED c]

/-- The size of the deferred decode ring: values outside 4 to 10 act as 4 (R220). -/
def bbSize (c : Fin 4) (s : State) : Nat :=
  let k := s.get (DET_BB_CTRL.SIZE_LOG2 c)
  2 ^ (if 4 ≤ k ∧ k ≤ 10 then k else 4)

/-- A write of DET_BB_TAIL posts entries, or is ignored with OVF where the ring would overflow (R220). -/
def bbTail (c : Fin 4) (tail : Nat) (s : State) : State :=
  let h := s.get (DET_BB_HEAD.HEAD c)
  if tail % bbSize c s = h ∧ s.get (DET_BB_TAIL.TAIL c) ≠ h then s.set (DET_BB_STATUS.OVF c) 1
  else (s.set (DET_BB_TAIL.TAIL c) (tail % bbSize c s)).set (DET_BB_STATUS.NOT_OWNED c) 0

def execDetBbTailWrite (c : Fin 4) (tail : BitVec 10) (s : State) : Out := s.onHalf (halfOf c).val (bbTail c tail.toNat)

/-- The address of the entry at the head of the queue. -/
def bbEntry (c : Fin 4) (s : State) : Addr := 32 * s.get (DET_BB_BASE.BASE c) + 32 * s.get (DET_BB_HEAD.HEAD c)

/-- The media-class channel of the deferred engine (R221). -/
def bbChan (c : Fin 4) (s : State) : Nat := 8 + s.get (DET_BB_CTRL.CHAN c)

/-- An entry ends with its status and results: OWN clears, the head advances and the counts rise (R220). -/
def bbFinish (c : Fin 4) (status globals synd : Nat) (s : State) : State :=
  let e := s.readVia (bbChan c s) (bbEntry c s) 32
  let e := splice (splice (splice (splice e 0 (leBytes 1 (leAt e 0 1 % 128))) 3 (leBytes 1 status)) 26 (leBytes 1 globals)) 28
    (leBytes 2 synd)
  let s := s.writeVia (bbChan c s) (bbEntry c s) e
  let s := s.set (DET_BB_HEAD.HEAD c) ((s.get (DET_BB_HEAD.HEAD c) + 1) % bbSize c s)
  let s := (s.set (DET_BB_STATUS.BUSY c) 0).set (DET_STATUS.BB_BUSY c) 0
  let s := if 0x10 ≤ status then s.bump (DET_BB_CNT.BB_FAIL c) else s.bump (DET_BB_CNT.BB_DONE c)
  s.set (DET_INT.BB_DONE c) 1

/-- Whether the reserved fields of an entry of a kind are zero (R222). -/
def bbReservedOk (kind : Nat) (e : List Byte) : Bool :=
  bits (leAt e 0 1) 3 4 == 0 && leAt e 27 1 == 0 && leAt e 30 2 == 0 &&
  (if kind = 0 then leAt e 1 1 / 8 == 0
   else leAt e 1 1 == 0 && leAt e 2 1 == 0 && leAt e 14 5 == 0 && leAt e 19 5 == 0 &&
     (if kind = 1 then leAt e 24 1 == 0 else leAt e 25 1 == 0))

/-- The deferred engine takes the entry at the head: it stops at one without OWN, ends an invalid one with 0x26 and one
of a failing channel with 0x21, and serves one of `kind`, whose accesses `need` lists (R220 to R222, R496). It waits while its
channel does not serve it. -/
def bbServe (c : Fin 4) (kind : Nat) (dmaError : Bool) (need : List Byte → List (Bool × Nat × Nat)) (f : List Byte → State → State)
    (s : State) : Out :=
  s.onHalf (halfOf c).val fun s =>
    let ch := bbChan c s
    let e := s.readVia ch (bbEntry c s) 32
    let bad := dmaError || !viaOk ch true (bbEntry c s) 32 s || !(need e).all fun a => viaOk ch a.1 a.2.1 a.2.2 s
    let k := leAt e 0 1 % 8
    if !s.bit (DET_CTRL.BB_ENABLE c) || s.get (DET_BB_HEAD.HEAD c) == s.get (DET_BB_TAIL.TAIL c) ||
        s.bit (DET_BB_STATUS.NOT_OWNED c) || !dmaServes ch s then s
    else if leAt e 0 1 < 128 then (s.set (DET_BB_STATUS.NOT_OWNED c) 1).set (DET_INT.BB_STOP c) 1
    else if 2 < k ∨ (k = kind ∧ !bbReservedOk k e) then bbFinish c 0x26 0 0 s
    else if k ≠ kind then s
    else if bad then (bbFinish c 0x21 0 0 (s.set (DET_BB_STATUS.DMA_HALT c) 1)).set (DET_INT.BB_STOP c) 1
    else f e s

/-- Whether a DETECTOR record has its fields in the ranges of R143. -/
def paramOk (p : List Byte) : Bool :=
  let b (k : Nat) : Nat := leAt p k 1
  1 ≤ b 2 && b 2 ≤ 4 && 1 ≤ b 3 && b 3 ≤ 8 && b 2 ≤ b 4 && b 4 ≤ 30 && b 5 == 0 &&
  b 8 ≤ 31 && b 9 ≤ 31 && b 10 ≤ 31 && leAt p 14 2 == 0 &&
  b 276 ≤ 15 && b 277 ≤ 15 && b 278 ≤ 15 && b 279 ≤ 15 && b 280 ≤ 15 && b 283 == 0 && b 284 ≤ 4 && leAt p 285 19 == 0

/-- Whether a group syndrome record in memory is valid for an exponent (R226, code 0x25). -/
def gsrOk (g : List Byte) (e : Nat) : Bool :=
  g.take 4 == [0x46, 0x51, 0x47, 0x53] && leAt g 60 4 == crc32c (g.take 60) && 1 ≤ leAt g 4 1 && leAt g 4 1 ≤ 62 &&
    e ≤ leAt g 4 1 + 1

/-- A word folded into a record in memory, or into the open bank of the same DCn that the record's address names (R230,
R393): the status, 0x23 or 0x25 for a refusal, otherwise 0. -/
def gsrFold (c : Fin 4) (gsr e : Nat) (word : List Byte) (suspect : Bool) (s : State) : Nat × State :=
  let opened := s.dc[c].acc.toList.any fun b => match b with | some a => a.gsr == gsr | none => false
  if opened then
    (0, s.modDc c fun d => { d with acc := d.acc.map fun b =>
      match b with
      | some a => if a.gsr = gsr then some (a.fold e word suspect) else some a
      | none => none })
  else
    let g := s.readVia (bbChan c s) gsr 8320
    if !gsrOk g e then (0x25, s)
    else if (leAt g 16 8).testBit e then (0x23, s)
    else
      let b : AccBank := { gsr := gsr, groupK := leAt g 4 1, first := leAt g 8 5, present := leAt g 16 8,
                           suspect := leAt g 24 8, s0 := symbols (slice g 64 4128), s1 := symbols (slice g 4192 4128) }
      (0, s.writeVia (bbChan c s) gsr (gsrBytes (b.fold e word suspect)))

/-- The marks the DECODE entry works with: those of the copy's header, replaced by the marks of a deep search (R224). -/
def bbMarks (flags thresh : Nat) (h : List Byte) (plan : Nat) (primary secondary : List (Nat × Nat)) : Bool × Bool :=
  let sy := leAt h 10 1
  if flags.testBit 1 then
    let p := bestMark plan 1024 thresh primary
    let expect := (match p with | some x => x.1 | none => plan) + 16400
    (p.isSome || sy.testBit 0, (bestMark expect 1024 thresh secondary).isSome || sy.testBit 1)
  else (sy.testBit 0, sy.testBit 1)

/-- The deferred engine runs a DECODE entry (R223); the iterations' result is delivered with the command. -/
def execBbDecode (c : Fin 4) (d : Decoded) (plan : BitVec 32) (primary secondary : List (Nat × Nat)) (dmaError : Bool)
    (s : State) : Out :=
  bbServe c 0 dmaError (fun e => [(false, leAt e 4 5, 81920), (true, leAt e 9 5, 4224), (false, leAt e 14 5, 304)] ++
      if (leAt e 1 1).testBit 2 then [(true, leAt e 19 5, 8320)] else []) (fun e s =>
    let ch := bbChan c s
    let src := leAt e 4 5
    let dst := leAt e 9 5
    let ex := leAt e 25 1
    let h := s.readVia ch src 256
    if leAt h 252 4 ≠ crc32c (h.take 252) then bbFinish c 0x20 0 0 s
    else if !paramOk (s.readVia ch (leAt e 14 5) 304) then bbFinish c 0x22 0 0 s
    else
      let m := bbMarks (leAt e 1 1) (leAt e 24 1) h plan.toNat primary secondary
      if !m.1 && !m.2 then bbFinish c 0x13 0 0 s
      else
        let frag := leAt h 0 5
        let o := if !d.converged then 0x10 else if ex ≤ 1 then 0x01 else tagCheck d.word frag
        let (fv, s) := s.fresh
        let s := recoveryCounts frag o 2 s
        let s := (s.writeVia ch dst (d.word.take 4128)).writeVia ch (dst + 4160)
          (resultRecord frag o (0x80 + fv % 4) (leAt h 32 8) d)
        if o ≤ 0x02 ∧ (leAt e 1 1).testBit 2 then
          let (st, s) := gsrFold c (leAt e 19 5) ex d.word false s
          bbFinish c (if st = 0 then o else st) d.globals d.synd s
        else bbFinish c o d.globals d.synd s) s

/-- The deferred engine runs a FOLD entry (R230). -/
def execBbFold (c : Fin 4) (dmaError : Bool) (s : State) : Out :=
  bbServe c 1 dmaError (fun e => [(false, leAt e 4 5, 4128), (true, leAt e 9 5, 8320)]) (fun e s =>
    let word := s.readVia (bbChan c s) (leAt e 4 5) 4128
    let ex := leAt e 25 1
    let (st, s) := gsrFold c (leAt e 9 5) ex word (2 ≤ ex && tagCheck word (leAt word (4096 + 9) 5) == 0x11) s
    bbFinish c st 0 0 s) s

/-- The exponents from 0 to GROUP_K + 1 that are absent, with ZMAX counting as present (R231). -/
def absentExps (groupK present zmax : Nat) : List Nat :=
  (List.range (groupK + 2)).filter fun e => !present.testBit e && !(2 ≤ e && e ≤ zmax)

/-- A rebuilt word and its result record are written at an offset of DST; answers the outcome (R231). The spec gives no
noise estimate and no capture count for a rebuilt word: both are free. -/
def eraseWrite (ch dst off first groupK e : Nat) (word : List Byte) (s : State) : Nat × State :=
  let addr := if e = 1 then first + groupK else if e = 0 then first + groupK + 1 else first + (groupK + 1 - e)
  let o := if e ≤ 1 then 0x01 else tagCheck word addr
  let s := recoveryCounts addr o 3 s
  let (noise, s) := s.fresh
  let (seq, s) := s.fresh
  let d : Decoded := ⟨true, word, 0, 0, 0, 0, noise, 0⟩
  (o, (s.writeVia ch (dst + off) word).writeVia ch (dst + off + 4160) (resultRecord addr o 0 seq d))

/-- Symbol by symbol, the member of exponent q from S0 and S1 (R231). -/
def eraseSolve (p q : Nat) (s0 s1 : List Nat) : List Nat :=
  let inv := gfInv (gfAlphaPow p 1 ^^^ gfAlphaPow q 1)
  (gfAddScaled p s1 s0).map fun x => gfMul x inv

/-- The deferred engine runs an ERASE entry, rebuilding one or two absent members (R231). -/
def execBbErase (c : Fin 4) (dmaError : Bool) (s : State) : Out :=
  bbServe c 2 dmaError (fun e => [(false, leAt e 4 5, 8320), (true, leAt e 9 5, 8448)]) (fun e s =>
    let ch := bbChan c s
    let g := s.readVia ch (leAt e 4 5) 8320
    let dst := leAt e 9 5
    let k := leAt g 4 1
    let first := leAt g 8 5
    let s0 := symbols (slice g 64 4128)
    let s1 := symbols (slice g 4192 4128)
    if !gsrOk g 0 then bbFinish c 0x25 0 0 s
    else
      match absentExps k (leAt g 16 8) (leAt e 24 1) with
      | [] => bbFinish c 0x00 0 0 s
      | [p] =>
        let (o, s) := eraseWrite ch dst 0 first k p (symbolBytes s0) s
        bbFinish c o 1 0 s
      | [p, q] =>
        let cq := eraseSolve p q s0 s1
        let (o1, s) := eraseWrite ch dst 0 first k p (symbolBytes (gfAddScaled 0 s0 cq)) s
        let (o2, s) := eraseWrite ch dst 4224 first k q (symbolBytes cq) s
        bbFinish c (max o1 o2) 2 0 s
      | _ => bbFinish c 0x24 0 0 s) s

end Sys2Proof.Machine
end

