-- ==== Sys2Proof/Machine/Psl.lean ====
section
/-! DEFINITION. The Preamp Serial Link (R155 to R175). -/

namespace Sys2Proof.Machine

/-- A 40-bit frame: SOF, TYPE, ARG, DATA and the CRC-8 over bits 35:8 (R156). -/
def pslFrame (ty arg data : Nat) : Nat :=
  let body := (ty % 16) * 2 ^ 24 + (arg % 256) * 2 ^ 16 + data % 2 ^ 16
  0x6 * 2 ^ 36 + body * 256 + crc8 28 body

/-- TYPE, ARG and DATA of a frame. -/
def pslType (f : Nat) : Nat := bits f 32 4
def pslArg (f : Nat) : Nat := bits f 24 8
def pslData (f : Nat) : Nat := bits f 8 16

/-- The source of the fault collector for link `n` and class 0 write, 1 read, 2 power, 3 link (R650). -/
def pslSource (n : Fin 2) (cls : Nat) : Nat := 24 + 4 * n.val + cls

/-- A frame goes out on PSLn_DO. -/
def pslSend (n : Fin 2) (f : Nat) (s : State) : State := s.modPsl n fun p => { p with sent := p.sent ++ [f] }

/-- The reset pulse and the first HELLO of a negotiation: steps 1 and 2 of R164. The preamp comes out of its reset
with no head selected and every gate off. -/
def pslStart (n : Fin 2) (s : State) : State :=
  let s := s.clearAll [PSL_STATUS.LINK_UP n, PSL_STATUS.WG n, PSL_STATUS.RG0 n, PSL_STATUS.RG1 n, PSL_STATUS.RDW_ON n]
  let s := ((s.set (PSL_STATUS.RHEAD0 n) 0xF).set (PSL_STATUS.RHEAD1 n) 0xF).set (PSL_STATUS.WHEAD n) 0xF
  pslSend n (pslFrame 1 0 0x0007)
    (s.modPsl n fun p => { p with waitHello := true, attempts := 1, kaWaiting := false, unanswered := 0, badRow := 0,
                                  gateMiss := 0, echoes := [] })

/-- Whether fewer than three automatic renegotiations fall within the last 10 s (R166). -/
def pslMayReneg (n : Fin 2) (s : State) : Bool :=
  ((s.psl[n].renegs.filter fun t => s.tick.toNat < t + 1000000000).length < 3)

/-- The read gate of output `o` counts as off; a BIT_RATE that waited for it takes effect (R177). -/
def pslReadGateOff (n : Fin 2) (o : Fin 2) (s : State) : State :=
  let c := dcOf n o
  let s := (s.set (if o = 0 then PSL_STATUS.RG0 n else PSL_STATUS.RG1 n) 0).set (DC_STATUS.RG_ON c) 0
  match s.dc[c].ratePending with
  | none => s
  | some r => (s.set (DC_RATE.BIT_RATE c) r).modDc c fun d => { d with ratePending := none }

/-- The link fault is raised, with the link class of PSL_FAULT set. -/
def pslLinkFault (n : Fin 2) (s : State) : State := (s.set (PSL_FAULT.LINK n) 1).raise (pslSource n 3)

/-- The link goes down (R166). -/
def pslLinkDown (n : Fin 2) (s : State) : State :=
  let s := wpStop n 0x23 s
  let s := dcNotRead (dcOf n 0) (dcNotRead (dcOf n 1) s)
  let s := pslReadGateOff n 0 (pslReadGateOff n 1 s)
  let s := s.clearAll [PSL_STATUS.LINK_UP n, PSL_STATUS.WG n, PSL_STATUS.RDW_ON n]
  let s := s.modPsl n fun p => { p with wg := none, rg0 := none, rg1 := none, sel := none, queue := [], echoes := [],
                                        kaWaiting := false, unanswered := 0, badRow := 0, gateMiss := 0 }
  let s := fmsStopCause n (pslLinkFault n s)
  if s.bit (PSL_CTRL.AUTO_RENEG n) && pslMayReneg n s then
    pslStart n (s.modPsl n fun p => { p with renegs := p.renegs ++ [s.tick.toNat] })
  else s

/-- The highest version in both bitmaps, 0 for none: step 4 of R164. -/
def pslCommon (ours peer : Nat) : Nat :=
  let m := ours &&& peer
  if m.testBit 2 then 3 else if m.testBit 1 then 2 else if m.testBit 0 then 1 else 0

/-- The preamp answers HELLO with its bitmap and its capability words: steps 4 to 7 of R164, and R160. A change of
the version is logged (R43). -/
def pslConclude (n : Fin 2) (peer cap0 cap1 : BitVec 16) (s : State) : State :=
  let old := s.get (PSL_STATUS.VERSION n)
  let v := pslCommon 0x7 peer.toNat
  let ok := v != 0 && cap0.getLsbD 8
  let new := if ok then v else 0
  let s := s.modPsl n fun p => { p with waitHello := false, attempts := 0 }
  let s := s.set (PSL_STATUS.PEER_MAP n) peer.toNat
  let s := if v = 0 then s else
    pslSend n (pslFrame 2 1 0) (pslSend n (pslFrame 2 0 0)
      ((s.set (PSL_CAP.CAP0 n) cap0.toNat).set (PSL_CAP.CAP1 n) cap1.toNat))
  let s := (s.set (PSL_STATUS.VERSION n) new).set (PSL_STATUS.LINK_UP n) (boolNat ok)
  let s := s.when ok (·.set (WP_ASSIST.TYPE n) (bits cap0.toNat 6 2))
  let s := s.when (old != new) (·.logLink (n.val + 1) old new)
  s.when (!ok) (pslLinkFault n)

def execPslNegotiate (n : Fin 2) (peer cap0 cap1 : BitVec 16) (s : State) : Out :=
  s.onHalf n.val fun s =>
    pslConclude n peer cap0 cap1 (if s.psl[n].waitHello then s else pslStart n s)

def execPslHelloTimeout (n : Fin 2) (s : State) : Out :=
  s.onHalf n.val fun s =>
    if !s.psl[n].waitHello then s
    else if s.psl[n].attempts < 4 then
      pslSend n (pslFrame 1 0 0x0007) (s.modPsl n fun p => { p with attempts := p.attempts + 1 })
    else pslLinkFault n (s.modPsl n fun p => { p with waitHello := false, attempts := 0 })

def execPslKeepalive (n : Fin 2) (s : State) : Out :=
  s.onHalf n.val fun s =>
    if s.bit (PSL_STATUS.LINK_UP n) then
      pslSend n (pslFrame 0xB 0 0) (s.modPsl n fun p => { p with kaWaiting := true })
    else s

def execPslStatusTimeout (n : Fin 2) (s : State) : Out :=
  s.onHalf n.val fun s =>
    if !s.psl[n].kaWaiting then s
    else
      let k := s.psl[n].unanswered + 1
      let s := s.modPsl n fun p => { p with kaWaiting := false, unanswered := k }
      if 3 ≤ k then pslLinkDown n s else s

/-- Whether a timed frame turns a gate off: RG or WG with DATA bit 0 clear. -/
def pslGateOff (f : Nat) : Bool := (pslType f == 6 || pslType f == 7) && !(pslData f).testBit 0

/-- Whether the version in use and the gates let a timed frame out at all (R158, R171). -/
def pslAllowed (n : Fin 2) (f : Nat) (s : State) : Bool :=
  let v := s.get (PSL_STATUS.VERSION n)
  let out := bits (pslArg f) 4 4
  if pslType f = 5 then
    (out == 0 || 2 ≤ v) && !s.bit (if out = 0 then PSL_STATUS.RG0 n else PSL_STATUS.RG1 n) &&
      (!(pslData f).testBit 3 || !s.bit (PSL_STATUS.WG n))
  else if pslType f = 9 then 3 ≤ v
  else if pslType f = 6 then pslArg f == 0 || 2 ≤ v
  else true

/-- A data channel connects a different head: its demodulator keeps its state, widens its window for two wedges and
discards its positions (R275); one that was OFF for want of a head begins its search (R271). -/
def svdHeadSwitch (c : Fin 4) (head : Nat) (s : State) : State :=
  let s := s.set (SVD_STATUS.HEAD c) head
  if s.get (SVD_STATUS.STATE c) = 0 then
    if s.bit (SVD_CTRL.ENABLE c) then svdSearch c s else s
  else
    (s.set (SVD_STATUS.SWITCH c) 1).modSvd c fun d => { d with swLeft := 2, swFound := false, hist := [] }

/-- What a sent timed frame does inside the FQX: the head, gate, assist and routing that PSL_STATUS and the units report. -/
def pslTimedEffect (n : Fin 2) (f : Nat) (s : State) : State :=
  let arg := pslArg f
  let data := pslData f
  if pslType f = 5 then
    let o : Fin 2 := if bits arg 4 4 = 0 then 0 else 1
    let c := dcOf n o
    let loc := bits arg 0 4
    let glob := 14 * n.val + loc
    let s := if s.get (DC_STATUS.HEAD c) = glob then s else svdHeadSwitch c glob s
    let s := (s.set (if o = 0 then PSL_STATUS.RHEAD0 n else PSL_STATUS.RHEAD1 n) loc).set (DC_STATUS.HEAD c) glob
    let s := s.set (DC_CALREC.ADDR c) (0x040000 + 32 * glob)
    if data.testBit 3 then (s.set (PSL_STATUS.WHEAD n) loc).set (WP_STATUS.HEAD n) glob else s
  else if pslType f = 6 then
    let o : Fin 2 := if arg = 0 then 0 else 1
    if data.testBit 0 then
      (s.set (if o = 0 then PSL_STATUS.RG0 n else PSL_STATUS.RG1 n) 1).set (DC_STATUS.RG_ON (dcOf n o)) 1
    else pslReadGateOff n o s
  else if pslType f = 8 then s.set (WP_STATUS.ASSIST_ON n) (boolNat (data != 0))
  else if pslType f = 9 then
    let on := boolNat (data.testBit 0)
    (s.set (PSL_STATUS.RDW_ON n) on).set (DC_STATUS.RDW_ON (dcOf n (if arg = 0 then 0 else 1))) on
  else s

/-- A timed frame goes out after the frame before it and two idle bits, and its ECHO is awaited (R168, R170). -/
def pslSendTimed (n : Fin 2) (f : Nat) (s : State) : State :=
  let start := max s.tick.toNat s.psl[n].lineFree
  pslTimedEffect n f (s.modPsl n fun p =>
    { p with sent := p.sent ++ [f], echoes := p.echoes ++ [(f, false)], lineFree := start + 42 })

/-- A late frame: it is never sent, it is counted, and its slot, piece or program bears it (R169). -/
def pslLate (n : Fin 2) (f : Nat) (s : State) : State :=
  let s := s.bump (PSL_ERR.LATE n)
  if pslType f = 7 then wpStop n 0x24 s
  else if pslType f = 6 then dcNotRead (dcOf n (if pslArg f = 0 then 0 else 1)) s
  else fmsStopCause n s

/-- One comparator of R167 at the present tick: on its tick its frame goes out; past it, or where the version or a
gate forbids the frame, it is late, but a gate-off frame is never cancelled. -/
def pslFire (n : Fin 2) (c : Option (Nat × Nat)) (s : State) : State :=
  match c with
  | none => s
  | some (t, f) =>
    if s.tick.toNat < t then s
    else if pslGateOff f || (t == s.tick.toNat && pslAllowed n f s) then pslSendTimed n f s
    else pslLate n f s

/-- A comparator after the match: kept while its tick has not come. -/
def pslKeep (s : State) (c : Option (Nat × Nat)) : Option (Nat × Nat) :=
  match c with
  | some (t, f) => if s.tick.toNat < t then some (t, f) else none
  | none => none

/-- A comparator by its number: 0 WG, 1 RG0, 2 RG1, 3 SEL. -/
def PslLink.comp (p : PslLink) (c : Nat) : Option (Nat × Nat) :=
  if c = 0 then p.wg else if c = 1 then p.rg0 else if c = 2 then p.rg1 else p.sel

/-- A comparator loaded with a tick and a frame. -/
def PslLink.load (c : Nat) (x : Nat × Nat) (p : PslLink) : PslLink :=
  if c = 0 then { p with wg := some x } else if c = 1 then { p with rg0 := some x }
  else if c = 2 then { p with rg1 := some x } else { p with sel := some x }

/-- An empty comparator takes the oldest frame that waits for it. -/
def PslLink.refill (c : Nat) (p : PslLink) : PslLink :=
  match p.comp c, p.queue.find? fun q => q.1 == c with
  | none, some q => { p.load c q.2 with queue := p.queue.erase q }
  | _, _ => p

/-- FMSn loads a comparator (R67, R167, R389): a tick too soon makes the frame late; a comparator in use takes it later. -/
def pslLoad (n : Fin 2) (c t f : Nat) (s : State) : State :=
  if t ≤ s.tick.toNat + 2 ∧ !pslGateOff f then pslLate n f s
  else if (s.psl[n].comp c).isNone ∧ (s.psl[n].queue.all fun q => q.1 != c) then s.modPsl n (PslLink.load c (t, f))
  else s.modPsl n fun p => { p with queue := p.queue ++ [(c, t, f)] }

/-- The comparators of link `n` that match fire in the order WG, RG0, RG1, SEL (R168). -/
def execPslTimedFrameMatch (n : Fin 2) (s : State) : Out :=
  s.onHalf n.val fun s =>
    let p := s.psl[n]
    let s := s.modPsl n fun p => { p with wg := pslKeep s p.wg, rg0 := pslKeep s p.rg0, rg1 := pslKeep s p.rg1,
                                          sel := pslKeep s p.sel }
    let s := pslFire n p.sel (pslFire n p.rg1 (pslFire n p.rg0 (pslFire n p.wg s)))
    s.modPsl n fun p => (((p.refill 0).refill 1).refill 2).refill 3

/-- The echo of the oldest timed frame that awaits one is missing (R170, R165). -/
def execPslEchoMiss (n : Fin 2) (s : State) : Out :=
  s.onHalf n.val fun s =>
    match s.psl[n].echoes with
    | [] => s
    | (f, resent) :: rest =>
      let s := (s.bump (PSL_ERR.ECHO_MISS n)).modPsl n fun p => { p with echoes := rest }
      if pslGateOff f then
        let k := s.psl[n].gateMiss + 1
        let s := s.modPsl n fun p => { p with gateMiss := k }
        if 2 ≤ k then pslLinkDown n s
        else if resent then s
        else s.modPsl n fun p => { p with sent := p.sent ++ [f], echoes := p.echoes ++ [(f, true)] }
      else if pslType f = 7 then wpStop n 0x24 s
      else if pslType f = 6 then dcNotRead (dcOf n (if pslArg f = 0 then 0 else 1)) s
      else s

/-- A frame arrives: dropped and counted where the receive FIFO is full, otherwise taken; a good frame ends a run of
bad ones (R56, R165, R174). -/
def pslRx (n : Fin 2) (full : Bool) (f : State → State) (s : State) : Out :=
  s.onHalf n.val fun s =>
    if full then s.bump (PSL_ERR.OVERRUN n)
    else f (s.modPsl n fun p => { p with badRow := 0 })

/-- Whether an ECHO with `arg` and `data` answers the timed frame `f` (R158). -/
def pslEchoes (arg data f : Nat) : Bool :=
  bits arg 0 4 == pslType f && bits arg 4 4 == pslArg f % 16 && data == pslData f

/-- The list without its first element that the ECHO answers. -/
def pslTakeEcho (arg data : Nat) : List (Nat × Bool) → List (Nat × Bool)
  | [] => []
  | e :: r => if pslEchoes arg data e.1 then r else e :: pslTakeEcho arg data r

def execPslRxEcho (n : Fin 2) (full : Bool) (arg : BitVec 8) (data : BitVec 16) (s : State) : Out :=
  pslRx n full (fun s =>
    if s.psl[n].echoes.any (fun e => pslEchoes arg.toNat data.toNat e.1) then
      let s := s.modPsl n fun p => { p with
        echoes := pslTakeEcho arg.toNat data.toNat p.echoes
        gateMiss := if (bits arg.toNat 0 4 == 6 || bits arg.toNat 0 4 == 7) && !data.getLsbD 0 then 0 else p.gateMiss }
      if bits arg.toNat 0 4 = 7 then s.set (PSL_STATUS.WG n) (data.toNat % 2) else s
    else s) s

/-- An inhibit withdraws a WG-on frame from its comparator, and sends WG off where the gate is on (R251, R263). -/
def pslWgOff (n : Fin 2) (s : State) : State :=
  let f := pslFrame 7 (s.get (PSL_STATUS.WHEAD n)) 0
  if s.bit (PSL_STATUS.WG n) then
    s.modPsl n fun p => { p with sent := p.sent ++ [f], echoes := p.echoes ++ [(f, false)], wg := none, queue := p.queue.filter (·.1 != 0) }
  else s.modPsl n fun p => { p with wg := none, queue := p.queue.filter (·.1 != 0) }

/-- The class of a preamp fault code: 0 write, 1 read, 2 power, 3 link (R172). -/
def pslFaultClass (code : Nat) : Nat :=
  if code = 1 ∨ code = 2 ∨ code = 3 ∨ code = 8 ∨ code = 9 then 0
  else if code = 4 ∨ code = 5 then 1
  else if code = 6 ∨ code = 7 then 2
  else 3

/-- A fault of class write idles the pair, voids the slot and sends WG off (R173). -/
def pslWriteClass (n : Fin 2) (s : State) : State :=
  let f := pslFrame 7 (s.get (PSL_STATUS.WHEAD n)) 0
  (wpStop n 0x23 s).modPsl n fun p => { p with sent := p.sent ++ [f], echoes := p.echoes ++ [(f, false)], wg := none, queue := p.queue.filter (·.1 != 0) }

/-- A fault of class read reports the fragments in progress on that head as not read (R173). -/
def pslReadClass (n : Fin 2) (head : Nat) (s : State) : State :=
  let s := if s.get (PSL_STATUS.RHEAD0 n) = head ∨ head = 0xF then dcNotRead (dcOf n 0) s else s
  if s.get (PSL_STATUS.RHEAD1 n) = head ∨ head = 0xF then dcNotRead (dcOf n 1) s else s

def execPslRxFault (n : Fin 2) (full : Bool) (code : BitVec 8) (data : BitVec 16) (s : State) : Out :=
  pslRx n full (fun s =>
    let c := if 1 ≤ code.toNat ∧ code.toNat ≤ 0x0B then code.toNat else 0x0B
    let cls := pslFaultClass c
    let head := data.toNat % 16
    let s := (s.set (PSL_FAULT.CODE n) c).set (PSL_FAULT.HEAD n) head
    let s := s.set (if cls = 0 then PSL_FAULT.WRITE n else if cls = 1 then PSL_FAULT.READ n
      else if cls = 2 then PSL_FAULT.POWER n else PSL_FAULT.LINK n) 1
    let s := s.raise (pslSource n cls)
    if cls = 0 then pslWriteClass n s else if cls = 1 then pslReadClass n head s else s) s

/-- An unsolicited HELLO is a link loss; a HELLO that a negotiation waits for brings the preamp's bitmap (R174, R164). -/
def execPslRxHello (n : Fin 2) (full : Bool) (data : BitVec 16) (s : State) : Out :=
  pslRx n full (fun s =>
    if s.psl[n].waitHello then s.set (PSL_STATUS.PEER_MAP n) data.toNat
    else pslLinkDown n s) s

/-- The answer to the pending command goes into PSL_RSP (R158, R175). -/
def pslAnswer (n : Fin 2) (ty arg data : Nat) (s : State) : State :=
  match s.psl[n].cmd with
  | none => s
  | some _ =>
    let s := ((s.set (PSL_RSP.TYPE n) ty).set (PSL_RSP.ARG n) arg).set (PSL_RSP.DATA n) data
    let s := (s.set (PSL_RSP.VALID n) 1).set (PSL_CMD.BUSY n) 0
    s.modPsl n fun p => { p with cmd := none }

/-- The TYPE of the pending command, or none. -/
def pslPending (n : Fin 2) (s : State) : Option Nat := s.psl[n].cmd.map pslType

def execPslRxCap (n : Fin 2) (full : Bool) (arg : BitVec 8) (data : BitVec 16) (s : State) : Out :=
  pslRx n full (fun s =>
    let s := if arg.toNat = 0 then s.set (PSL_CAP.CAP0 n) data.toNat
      else if arg.toNat = 1 then s.set (PSL_CAP.CAP1 n) data.toNat else s
    if pslPending n s = some 2 then pslAnswer n 2 arg.toNat data.toNat s else s) s

def execPslRxAck (n : Fin 2) (full : Bool) (arg : BitVec 8) (data : BitVec 16) (s : State) : Out :=
  pslRx n full (fun s =>
    if pslPending n s = some (arg.toNat % 16) then pslAnswer n 3 arg.toNat data.toNat s else s) s

def execPslRxRegData (n : Fin 2) (full : Bool) (arg : BitVec 8) (data : BitVec 16) (s : State) : Out :=
  pslRx n full (fun s =>
    if pslPending n s = some 4 then pslAnswer n 4 arg.toNat data.toNat s else s) s

/-- STATUS answers the keepalive that waits and a pending STATUS_RQ (R165, R175). -/
def execPslRxStatus (n : Fin 2) (full : Bool) (data : BitVec 16) (s : State) : Out :=
  pslRx n full (fun s =>
    let s := s.modPsl n fun p => { p with kaWaiting := false, unanswered := 0 }
    if pslPending n s = some 0xB then pslAnswer n 7 0 data.toNat s else s) s

def execPslRxNak (n : Fin 2) (full : Bool) (arg : BitVec 8) (data : BitVec 16) (s : State) : Out :=
  pslRx n full (fun s =>
    pslAnswer n 0xE arg.toNat data.toNat (s.bump (PSL_ERR.NAK n))) s

/-- A frame with a wrong SOF or CRC, or with too short a gap, is discarded and counted; three in a row with CRC or SOF
errors take the link down (R157, R165). -/
def execPslRxDiscard (n : Fin 2) (gapOnly : Bool) (s : State) : Out :=
  s.onHalf n.val fun s =>
    let s := s.bump (PSL_ERR.CRC_UP n)
    if gapOnly then s
    else
      let k := s.psl[n].badRow + 1
      let s := s.modPsl n fun p => { p with badRow := k }
      if 3 ≤ k then pslLinkDown n s else s

/-- PSL_CMD.GO: the frame is queued, or refused with ERR where a command is pending or the link is down (R174, R175). -/
def pslCommand (n : Fin 2) (ty : Nat) (arg : BitVec 8) (data : BitVec 16) (s : State) : Out :=
  s.onHalf n.val fun s =>
    if s.bit (PSL_CMD.BUSY n) then s.set (PSL_CMD.ERR n) 1
    else
      let s := ((s.set (PSL_CMD.TYPE n) ty).set (PSL_CMD.ARG n) arg.toNat).set (PSL_CMD.DATA n) data.toNat
      let s := (s.set (PSL_RSP.VALID n) 0).set (PSL_RSP.TIMEOUT n) 0
      if !s.bit (PSL_STATUS.LINK_UP n) then s.set (PSL_CMD.ERR n) 1
      else
        let f := pslFrame ty arg.toNat data.toNat
        pslSend n f (((s.set (PSL_CMD.ERR n) 0).set (PSL_CMD.BUSY n) 1).modPsl n fun p => { p with cmd := some f })

def execPslCmdNop (n : Fin 2) (arg : BitVec 8) (data : BitVec 16) (s : State) : Out := pslCommand n 0x0 arg data s
def execPslCmdCapRd (n : Fin 2) (arg : BitVec 8) (data : BitVec 16) (s : State) : Out := pslCommand n 0x2 arg data s
def execPslCmdRegWr (n : Fin 2) (arg : BitVec 8) (data : BitVec 16) (s : State) : Out := pslCommand n 0x3 arg data s
def execPslCmdRegRd (n : Fin 2) (arg : BitVec 8) (data : BitVec 16) (s : State) : Out := pslCommand n 0x4 arg data s
def execPslCmdStatusRq (n : Fin 2) (arg : BitVec 8) (data : BitVec 16) (s : State) : Out := pslCommand n 0xB arg data s

/-- The pending command has gone out three times with no answer (R175). -/
def execPslCmdTimeout (n : Fin 2) (s : State) : Out :=
  s.onHalf n.val fun s =>
    match s.psl[n].cmd with
    | none => s
    | some f =>
      ((pslSend n f (pslSend n f s)).modPsl n fun p => { p with cmd := none })
        |>.set (PSL_RSP.TIMEOUT n) 1 |>.set (PSL_CMD.BUSY n) 0

/-- The link stops: a write in progress idles and its slot is void, and no negotiation goes on (R174). -/
def pslHalt (n : Fin 2) (s : State) : State :=
  let s := if s.bit (PSL_STATUS.WG n) || s.bit (WP_STATUS.WG n) then wpStop n 0x23 s else s
  (s.clearAll [PSL_STATUS.LINK_UP n, PSL_STATUS.WG n, PSL_STATUS.RG0 n, PSL_STATUS.RG1 n]).modPsl
    n fun p => { p with waitHello := false, attempts := 0 }

/-- A negotiation by request: a write in progress idles and its slot is void, then the reset pulse begins (R174). -/
def pslNegotiate (n : Fin 2) (s : State) : State :=
  pslStart n (if s.bit (PSL_STATUS.WG n) || s.bit (WP_STATUS.WG n) then wpStop n 0x23 s else s)

/-- PSL_CTRL.NEGOTIATE is written, or RST is set, which holds the preamp in reset until firmware clears it (R174). -/
def execPslCtrlNegotiate (n : Fin 2) (rst : Bool) (s : State) : Out :=
  s.onHalf n.val fun s => if rst then pslHalt n (s.set (PSL_CTRL.RST n) 1) else pslNegotiate n s

def execPslCtrlClrErr (n : Fin 2) (s : State) : Out :=
  s.onHalf n.val fun s =>
    s.clearAll [PSL_ERR.NAK n, PSL_ERR.LATE n, PSL_ERR.ECHO_MISS n, PSL_ERR.OVERRUN n, PSL_ERR.CRC_UP n]

end Sys2Proof.Machine
end

