-- ==== Sys2Proof/Machine/WritePath.lean ====
section
/-! DEFINITION. The write paths: staging, handover, inhibits, verify, slot records, the parity journal and the assist
calibration (R91 to R96, R236 to R264). -/

namespace Sys2Proof.Machine

/-- The zone at an index, Empty where nothing else is listed. -/
def State.zone (s : State) (z : Nat) : Zone := (kvFind s.zones z).getD {}

/-- The first 28 bytes of a fragment tag (R83). -/
def tagBytes (kind : Nat) (h : Handed) (frag member groupK : Nat) : List Byte :=
  leBytes 1 (0x10 + kind % 16) ++
  leBytes 1 (boolNat (h.poisonMap != 0) + 2 * boolNat h.encrypted + 4 * boolNat h.rewrite) ++
  leBytes 1 h.nsid ++ leBytes 1 h.keySlot ++ leBytes 5 h.lba ++ leBytes 5 frag ++ leBytes 2 h.zoneGen ++
  leBytes 1 member ++ leBytes 1 groupK ++ leBytes 8 h.poisonMap ++ leBytes 2 0

/-- The information word of a data fragment: user bytes and tag with TAG_CRC (R79, R84). -/
def infoWord (kind : Nat) (h : Handed) (frag member groupK : Nat) : List Byte :=
  let tag := tagBytes kind h frag member groupK
  h.user ++ tag ++ leBytes 4 (crc32c (h.user ++ tag))

/-- The coded word of an information word (R79). -/
def codedWord (word : List Byte) : List Byte :=
  word ++ (Config.ldpcParity word ++ List.replicate 264 0).take 264

/-- The framed fragment of R76: preamble, marks and the scrambled coded halves. -/
def framed (word : List Byte) (frag : Nat) : List Byte :=
  let c := scrambleFrom (scrambleSeed frag) (codedWord word)
  List.replicate 12 0x33 ++ [0xB8, 0x6D] ++ c.take 2048 ++ [0x2D, 0x4F] ++ c.drop 2048

/-- Whether the descriptor fields of a user fragment are inconsistent (R237). -/
def descriptorBad (h : Handed) : Bool :=
  1 < h.kind || (h.kind == 0 && (h.nsid == 0 || 8 < h.nsid)) || (!h.encrypted && h.keySlot != 0xFF)

/-- P0 and P1 of the members entered so far: the remainder of R89. -/
def parityWord (p1 : Bool) (s0 s1 : List Nat) : List Byte :=
  let inv := gfInv (gfAlpha 1 ^^^ 1)
  let w0 := (gfAddScaled 0 s0 s1).map fun x => gfMul x inv
  symbolBytes (padSymbols (if p1 then gfAddScaled 0 s0 w0 else w0))

/-- The accumulator bank of WPn for a group. -/
def wpAccOf (n : Fin 2) (first : Nat) (s : State) : Option WAcc :=
  (s.wp[n].acc.toList.filterMap id).find? fun a => a.first == first

/-- A group opens an accumulator bank at its first member, tagged with the program's journal entry (R241). -/
def wpAccOpen (n : Fin 2) (first groupK : Nat) (s : State) : State :=
  if (wpAccOf n first s).isSome then s
  else
    let entry := match s.fms[n].prog with | some p => leAt p.tpd 27 1 | none => 0
    let k : Fin 2 := if s.wp[n].acc[0].isNone then 0 else 1
    let s := s.set (WP_STATUS.ACC_OPEN n) (s.get (WP_STATUS.ACC_OPEN n) ||| (k.val + 1))
    s.modWp n fun w => { w with acc := w.acc.set k (some { entry := entry, first := first, groupK := groupK }) }

/-- A bank filled with a word, in the lower free bank. -/
def wpStage (n : Fin 2) (b : Staged) (slot : WpSlot) (s : State) : State :=
  s.modWp n fun w => { w with
    banks := if w.banks[0].isNone then w.banks.set 0 (some b) else w.banks.set 1 (some b)
    slots := w.slots ++ [slot] }

/-- WPn finishes the fragment of a slot's staging turn in a free bank (R236 to R238). A user fragment comes from the
channel, and none is taken while a rewrite is owed (R258); one with an inconsistent descriptor leaves its slot void with
0x26 (R237). -/
def execWpStagingDone (n : Fin 2) (kind : StageKind) (frag : BitVec 40) (member groupK : BitVec 6) (s : State) : Out :=
  s.onHalf n.val fun s =>
    let f := frag.toNat
    let m := member.toNat
    let k := groupK.toNat
    let first := groupFirst f m k
    if s.wp[n].banks[0].isSome && s.wp[n].banks[1].isSome then s
    else
      match kind with
      | .parity =>
        match wpAccOf n first s with
        | none => s
        | some a =>
          let w := parityWord (m == 63) a.s0 a.s1
          wpStage n ⟨f, m, k, w, framed w f⟩ { frag := f, member := m, flags := 1 } s
      | .fill =>
        let h : Handed := { user := List.replicate 4096 0, encrypted := false, nsid := 0, keySlot := 0xFF }
        let w := infoWord 2 h f m k
        wpStage n ⟨f, m, k, w, framed w f⟩ { frag := f, member := m, flags := 4 } (wpAccOpen n first k s)
      | .user =>
        match s.wp[n].inbox with
        | [] => s
        | h :: rest =>
          if !s.wp[n].flagged.isEmpty && !h.rewrite then s
          else
            let s := s.modWp n fun w => { w with inbox := rest }
            let slot : WpSlot := { frag := f, member := m, flags := 2 * boolNat h.rewrite, lba := h.lba, nsid := h.nsid,
                                   buf := h.buf, enc := h.encrypted, key := h.keySlot, zgen := h.zoneGen, kind := h.kind }
            if descriptorBad h then
              s.modWp n fun w => { w with slots := w.slots ++ [{ slot with res := some 0x26, ended := true }] }
            else
              let w := infoWord h.kind h f m k
              wpStage n ⟨f, m, k, w, framed w f⟩ slot (wpAccOpen n first k s)

/-- The slots of a fragment address updated. -/
def wpSlotMap (n : Fin 2) (frag : Nat) (f : WpSlot → WpSlot) (s : State) : State :=
  s.modWp n fun w => { w with slots := w.slots.map fun x => if x.frag = frag then f x else x }

/-- Which staging bank holds a fragment. -/
def wpBankOf (n : Fin 2) (frag : Nat) (s : State) : Option (Fin 2) :=
  let holds (b : Option Staged) : Bool := match b with | some x => x.frag == frag | none => false
  if holds s.wp[n].banks[0] then some 0 else if holds s.wp[n].banks[1] then some 1 else none

/-- A staging bank returns to the core. -/
def wpBankFree (n : Fin 2) (k : Fin 2) (s : State) : State :=
  (s.set (WP_STATUS.BANK_OWN n) (setBits (s.get (WP_STATUS.BANK_OWN n)) k.val 1 0)).modWp n fun w =>
    { w with banks := w.banks.set k none }

/-- The void code that a condition of R249 present now gives a slot that starts, or none. -/
def wpInhibited (n : Fin 2) (s : State) : Option Nat :=
  if s.bit FLT_STATUS.SAFE || !s.bit (PSL_STATUS.LINK_UP n) then some 0x23
  else if s.bit (WP_STATUS.SHK_HOLD n) then some 0x21
  else if s.wp[n].pesBad then some 0x20
  else if s.bit (WP_CTRL.INHIBIT n) then some 0x27
  else none

/-- WPn hands a bank to the serializer. Less than 2 tk before the preamble lead, or with no bank staged, the slot is void
with 0x25 and its fold is discarded (R239, R240); a slot that an inhibit reaches is void unwritten (R249). -/
def execWpBankHandover (n : Fin 2) (frag : BitVec 40) (lead : BitVec 64) (s : State) : Out :=
  s.onHalf n.val fun s =>
    let f := frag.toNat
    match wpBankOf n f s with
    | none => wpSlotMap n f (fun x => { (x.void 0x25) with ended := true }) s
    | some k =>
      if lead.toNat < s.tick.toNat + 2 then
        wpBankFree n k (wpSlotMap n f (fun x => { (x.void 0x25) with ended := true }) s)
      else
        match wpInhibited n s with
        | some code => wpSlotMap n f (fun x => { (x.void code) with started := true }) s
        | none =>
          let s := s.set (WP_STATUS.BANK_OWN n) (s.get (WP_STATUS.BANK_OWN n) ||| 2 ^ k.val)
          (wpSlotMap n f (fun x => { x with started := true }) s).set (WP_STATUS.WG n) 1

/-- The header and the inactive bank of a journal entry take the accumulator, bank first and header last (R92). -/
def journalStore (a : WAcc) (s : State) : State :=
  let old := kvFind s.journal a.entry
  let bank := match old with | some e => 1 - e.bank | none => 0
  let seq := match old with | some e => e.seq + 1 | none => 0
  let base := mramBase + 0x080000 + 0x4100 * a.entry
  let s := s.writeBytes (base + 32 + 8256 * bank + 0) (parityWord false a.s0 a.s1)
  let s := s.writeBytes (base + 32 + 8256 * bank + 4128) (parityWord true a.s0 a.s1)
  let s := s.writeBytes base ((Config.journalHeader a.first a.members bank seq).take 32)
  let e : JEntry := { first := a.first, groupK := a.groupK, members := a.members, bank := bank, seq := seq,
                      s0 := a.s0, s1 := a.s1 }
  { s with journal := kvInsert s.journal a.entry e }

/-- A durability point in the open group of a bank: its journal write starts, or waits for the one that runs (R91, R241). -/
def journalPoint (n : Fin 2) (bank : Fin 2) (s : State) : State :=
  match s.wp[n].acc[bank] with
  | none => s
  | some a =>
    if s.bit (WP_STATUS.JOURNAL_BUSY n) then s.modWp n fun w => { w with journalWaits := w.journalWaits ++ [bank] }
    else journalStore a (s.set (WP_STATUS.JOURNAL_BUSY n) 1)

def execParityJournalWrite (n : Fin 2) (bank : Fin 2) (s : State) : Out := s.onHalf n.val (journalPoint n bank)

/-- A journal write or load completes; a durability point that waited proceeds (R241). -/
def execJournalDone (n : Fin 2) (s : State) : Out :=
  s.onHalf n.val fun s =>
    let s := (s.set (WP_STATUS.JOURNAL_BUSY n) 0).set (WP_INT.JOURNAL_DONE n) 1
    match s.wp[n].journalWaits with
    | [] => s
    | b :: rest => journalPoint n b (s.modWp n fun w => { w with journalWaits := rest })

/-- The pending fold of a fragment enters the accumulator (R241). -/
def wpFold (n : Fin 2) (b : Staged) (s : State) : State :=
  let first := groupFirst b.frag b.member b.groupK
  if 62 ≤ b.member then s
  else s.modWp n fun w => { w with acc := w.acc.map fun o =>
    match o with
    | none => none
    | some a =>
      if a.first = first then
        some { a with members := max a.members (b.member + 1), s0 := gfAddScaled 0 a.s0 (symbols b.word),
                      s1 := gfAddScaled (memberExp b.member b.groupK) a.s1 (symbols b.word) }
      else some a }

/-- A durability point in every open group of WPn (R91). -/
def journalOpen (n : Fin 2) (s : State) : State := journalPoint n 1 (journalPoint n 0 s)

/-- A supply warning or a function-level reset meets WPn: the fragment in progress completes, the write gate falls and the journal
entry is written (R94). -/
def wpFinish (n : Fin 2) (s : State) : State :=
  if s.wp[n].slots.any fun x => x.started && !x.ended then s.modWp n fun w => { w with finishing := true }
  else journalOpen n (wpIdle n s)

/-- The last bit of the slot in progress passes: its fold enters the accumulator unless it is void with 0x25 or 0x26, its
bank returns unless write-time verify applies, and SLOT_END is latched (R239 to R241, R260). -/
def execSlotEnd (n : Fin 2) (s : State) : Out :=
  s.onHalf n.val fun s =>
    match s.wp[n].slots.find? (fun x => x.started && !x.ended) with
    | none => s
    | some x =>
      let verify := s.bit (WP_STATUS.VERIFYING n)
      let s := match wpBankOf n x.frag s with
        | none => s
        | some k =>
          let s := match s.wp[n].banks[k] with
            | some b => if x.res = some 0x25 ∨ x.res = some 0x26 then s else wpFold n b s
            | none => s
          if verify && x.res.isNone then s else wpBankFree n k s
      let s := wpSlotMap n x.frag (fun y =>
        { y with ended := true, verified := !verify, res := if verify then y.res else some (y.res.getD 0x01) }) s
      let s := if s.wp[n].slots.any (fun y => y.started && !y.ended) then s
        else if s.wp[n].finishing then journalOpen n (wpIdle n (s.modWp n fun w => { w with finishing := false }))
        else wpIdle n s
      fmsEvent n 3 s

/-- The verify detector's count and marks reach WPn for the oldest slot that waits for them (R256, R257). A void result
stands; a flagged slot is owed a rewrite, and IRQ source 2 of the formatter is latched (R258, R383). -/
def execVerifyResult (n : Fin 2) (count : BitVec 12) (primary secondary : Bool) (s : State) : Out :=
  s.onHalf n.val fun s =>
    match s.wp[n].slots.find? (fun x => x.ended && !x.verified && x.res != some 0x26 && x.res != some 0x25) with
    | none => s
    | some x =>
      let flag := if (s.bit (WP_VERIFY.SYNC_REQUIRED n) && !primary) || (!primary && !secondary) then some 0x11
        else if s.get (WP_VERIFY.SYND_THRESH n) < count.toNat then some 0x10 else none
      let y := { x with verified := true, synd := count.toNat, sync := boolNat primary + 2 * boolNat secondary,
                        res := some (x.res.getD (flag.getD 0x00)) }
      let s := wpSlotMap n x.frag (fun _ => y) s
      let s := match wpBankOf n x.frag s with | some k => wpBankFree n k s | none => s
      if x.res.isNone && flag.isSome then
        let s := if y.member < 62 ∧ y.flags % 2 = 0 ∧ (y.flags / 4) % 2 = 0 then
            s.modWp n fun w => { w with flagged := w.flagged ++ [y] } else s
        s.set (FMS_IRQ.PEND n) (s.get (FMS_IRQ.PEND n) ||| 4)
      else s

/-- Whether a slot's result is final (R261): its write has ended, its verify result is in or it is void, and the PES of
its closing wedge has been checked. -/
def WpSlot.final (x : WpSlot) : Bool :=
  match x.res with
  | none => false
  | some r => x.ended && (x.verified || 0x20 ≤ r) && (x.closed || r == 0x25 || r == 0x26)

/-- The 32 bytes of a slot record (R261). -/
def slotRecord (x : WpSlot) (seq : Nat) : List Byte :=
  leBytes 5 x.frag ++ leBytes 1 (x.res.getD 0) ++ leBytes 2 x.synd ++ leBytes 1 x.sync ++ leBytes 1 x.member ++
  leBytes 1 x.flags ++ leBytes 1 0 ++ leBytes 5 x.lba ++ leBytes 1 x.nsid ++ leBytes 2 0 ++ leBytes 5 x.buf ++
  leBytes 3 0 ++ leBytes 4 seq

/-- The size of the slot record ring: values outside 4 to 10 act as 4. -/
def srSize (n : Fin 2) (s : State) : Nat :=
  let k := s.get (WP_SR_PTR.SIZE_LOG2 n)
  2 ^ (if 4 ≤ k ∧ k ≤ 10 then k else 4)

/-- The counts and flags of a record's result (R264). -/
def slotCounts (n : Fin 2) (r : Nat) (s : State) : State :=
  let s := s.set (WP_INT.RECORD n) 1
  let s := if r = 0x10 ∨ r = 0x11 then (s.bump (WP_CNT.FLAGGED n)).set (WP_INT.FLAG n) 1 else s
  if 0x20 ≤ r then
    (s.bump (if r = 0x25 then WP_CNT.UNDERRUN n else if r = 0x20 then WP_CNT.VOID_PES n else WP_CNT.VOID_OTHER n)).set
      (WP_INT.VOID n) 1
  else s

/-- The final result of P1 releases the journal entry of its group and closes the accumulator bank (R93, R259). -/
def journalRelease (n : Fin 2) (x : WpSlot) (s : State) : State :=
  if x.member ≠ 63 then s
  else
    let inGroup (a : WAcc) : Bool := a.first ≤ x.frag && x.frag < a.first + 64
    let ks := (s.wp[n].acc.toList.filterMap id).filter inGroup
    let s := forEach ks (fun a s => { s with journal := kvErase s.journal a.entry }) s
    let s := s.modWp n fun w => { w with acc := w.acc.map fun o =>
      match o with | some a => if inGroup a then none else some a | none => none }
    s.set (WP_STATUS.ACC_OPEN n) (boolNat s.wp[n].acc[0].isSome + 2 * boolNat s.wp[n].acc[1].isSome)

/-- WPn writes the record of the oldest slot through the program's channel when its result is final; a full ring stops the program and sets SR_FULL
(R261). -/
def execSlotRecordWrite (n : Fin 2) (s : State) : Out :=
  s.onHalf n.val fun s =>
    match s.wp[n].slots with
    | [] => s
    | x :: rest =>
      let prod := s.get (WP_SR_PTR.PROD n)
      let next := (prod + 1) % srSize n s
      if !x.final then s
      else if next = s.get (WP_SR_PTR.CONS n) then
        fmsStopCause n ((s.set (WP_STATUS.SR_FULL n) 1).set (WP_INT.SR_FULL n) 1)
      else if !dmaServes s.wp[n].chan s || !viaOk s.wp[n].chan true (32 * s.get (WP_SR_BASE.BASE n) + 32 * prod) 32 s then s
      else
        let s := s.writeVia s.wp[n].chan (32 * s.get (WP_SR_BASE.BASE n) + 32 * prod) (slotRecord x s.wp[n].seq)
        let s := (s.set (WP_SR_PTR.PROD n) next).set (WP_STATUS.SR_FULL n) 0
        let s := s.modWp n fun w => { w with slots := rest, seq := (w.seq + 1) % 2 ^ 32 }
        let s := journalRelease n x (slotCounts n (x.res.getD 0) s)
        let s := let r := x.res.getD 0
          if 0x20 ≤ r then mediaCount x.frag 5 s else if r = 0x10 ∨ r = 0x11 then mediaCount x.frag 6 s else s
        fmsEvent n 0xF (s.set (FMS_IRQ.PEND n) (s.get (FMS_IRQ.PEND n) ||| 128))

/-- The assist calibration of WPn ends with a code; other than 0x00 leaves the trim as it was and logs (R253). -/
def wpCalEnd (n : Fin 2) (code : Nat) (s : State) : State :=
  let s := match s.wp[n].cal with
    | some r => if code = 0 then s else s.set (WP_ASSIST.TRIM n) r.oldTrim
    | none => s
  let s := ((s.set (WP_CAL.RESULT n) code).set (WP_CAL.BUSY n) 0).set (WP_INT.CAL_DONE n) 1
  let s := s.modWp n fun w => { w with cal := none }
  if code = 0 then s
  else s.log 0x080 (leBytes 1 1 ++ leBytes 1 (s.get (WP_STATUS.HEAD n)) ++ leBytes 1 0 ++ leBytes 1 code)

/-- SHK above its level idles one write path and voids its slot (R249, R251, R263). -/
def shkOne (n : Fin 2) (s : State) : State :=
  if s.unitOn n.val then
    let s := pslWgOff n (wpStop n 0x21 s)
    let s := (s.set (WP_STATUS.SHK_HOLD n) 1).set (WP_INT.SHK n) 1
    if s.wp[n].cal.isSome then wpCalEnd n 0x02 s else s
  else s

/-- SHK trips, unless WP_SHK.ENABLE is 0 (R249). WP_SHK is one register, held at its offset in WP0 (R264). -/
def execShkTrip (s : State) : Out :=
  s.onCore fun s =>
    if !s.bit (WP_SHK.ENABLE 0) then s
    else (shkOne 1 (shkOne 0 ((s.set (WP_SHK.TRIPPED 0) 1).raise 38)))

/-- SHK has stayed below its level for HOLD ms: writing may resume (R249). -/
def execShkHoldEnd (s : State) : Out :=
  s.onCore fun s => s.clearAll [WP_STATUS.SHK_HOLD 0, WP_STATUS.SHK_HOLD 1]

/-- WP_CTRL.INHIBIT = 1 idles the pair and voids the slot with 0x27 (R249). -/
def wpInhibit (n : Fin 2) (s : State) : State := pslWgOff n (wpStop n 0x27 (s.set (WP_CTRL.INHIBIT n) 1))

def execWpFirmwareInhibit (n : Fin 2) (s : State) : Out := s.onHalf n.val (wpInhibit n)

def execWpClrCnt (n : Fin 2) (s : State) : Out :=
  s.onHalf n.val fun s =>
    s.clearAll [WP_CNT.UNDERRUN n, WP_CNT.FLAGGED n, WP_CNT.VOID_PES n, WP_CNT.VOID_OTHER n]

/-- The open program of WPn when it writes (MODE 01b of R386). -/
def writeProg (n : Fin 2) (s : State) : Option TrackProg :=
  match s.fms[n].prog with
  | some p => if leAt p.tpd 0 1 % 4 = 1 then some p else none
  | none => none

/-- The PES check of R250 at a wedge: out of limit or missed idles the pair, voids every slot not yet closed, and stops the
program after MAX_CONSEC fields or with RESUME 0; within limit it closes the slots that have ended. -/
def wpPes (n : Fin 2) (beyond : Bool) (s : State) : State :=
  if (writeProg n s).isNone then s
  else if beyond then
    let k := s.wp[n].pesRow + 1
    let s := pslWgOff n (wpIdle n s)
    let s := s.modWp n fun w => { w with
      pesBad := true, pesRow := k,
      slots := w.slots.map fun x => if x.started && !x.closed then { (x.void 0x20) with closed := x.ended } else x }
    let s := s.raise (36 + n.val)
    if max 1 (s.get (WP_INHIBIT.MAX_CONSEC n)) ≤ k ∨ !s.bit (WP_INHIBIT.RESUME n) then fmsStopCause n s else s
  else
    s.modWp n fun w => { w with
      pesBad := false, pesRow := 0,
      slots := w.slots.map fun x => if x.ended then { x with closed := true } else x }

/-- WP_CAL.START: ignored while the routine runs; 0x02 with no write program, or when the zone is not Empty or the program
does not write fill; 0x07 for assist type none (R253, R263). -/
def wpCalStart (n : Fin 2) (zone : Nat) (s : State) : State :=
  if s.bit (WP_CAL.BUSY n) then s
  else
    match writeProg n s with
    | none => s.set (WP_CAL.RESULT n) 0x02
    | some p =>
      if s.get (WP_ASSIST.TYPE n) = 0 then wpCalEnd n 0x07 s
      else if (s.zone zone).state ≠ 1 ∨ !(leAt p.tpd 1 1).testBit 4 then wpCalEnd n 0x02 s
      else
        let aux := leAt p.tpd 48 5
        let lo := toS 8 (s.readLE (aux + 4) 1)
        let hi := toS 8 (s.readLE (aux + 5) 1)
        let s := ((s.set (WP_CAL.BUSY n) 1).set (WP_CAL.RESULT n) 0x01).modWp n fun w => { w with
          cal := some { t := lo, trimMin := lo, trimMax := hi, step := max 1 (s.get (WP_CAL.STEP n)),
                        oldTrim := s.get (WP_ASSIST.TRIM n) } }
        s.set (WP_ASSIST.TRIM n) (ofS 8 lo)

def execWpCalStart (n : Fin 2) (zone : BitVec 20) (s : State) : Out := s.onHalf n.val (wpCalStart n zone.toNat)

/-- Whether a trial is better than the best so far: a lower metric, or an equal one at a smaller trim (R253). -/
def calBetter (t : Int) (m : Nat) (best : Option (Int × Nat × Nat)) : Bool :=
  match best with
  | none => true
  | some (bt, bm, _) => m < bm || (m == bm && t.natAbs < bt.natAbs)

/-- The write calibration record of a head after a routine at grade `g` passed (R254). -/
def wpCalRecord (old : List Byte) (head g : Nat) (t : Int) (m temp ops : Nat) : List Byte :=
  let body := leBytes 1 head ++ leBytes 1 (leAt old 1 1 % 16 ||| 2 ^ g) ++ leBytes 1 temp ++ leBytes 1 0 ++ leBytes 5 ops ++
    leBytes 3 0 ++ ((slice old 12 4).set g (BitVec.ofNat 8 (ofS 8 t))) ++
    (slice old 16 (2 * g) ++ leBytes 2 m ++ slice old (18 + 2 * g) (6 - 2 * g)) ++ leBytes 4 0
  body ++ leBytes 4 (crc32c body)

/-- A trial ends with its metric and its captured percentage; after the last one the routine ends (R253). -/
def execWpCalTrialEnd (n : Fin 2) (metric : BitVec 16) (captured : BitVec 7) (temp : BitVec 8) (s : State) : Out :=
  s.onHalf n.val fun s =>
    match s.wp[n].cal with
    | none => s
    | some r =>
      let best := if calBetter r.t metric.toNat r.best then some (r.t, metric.toNat, captured.toNat) else r.best
      let t := r.t + r.step
      if t ≤ r.trimMax then
        (s.modWp n fun w => { w with cal := some { r with t := t, best := best } }).set (WP_ASSIST.TRIM n) (ofS 8 t)
      else
        match best with
        | none => wpCalEnd n 0x04 s
        | some (bt, bm, cap) =>
          if cap < s.get (WP_CAL.MIN_CAPTURE n) then wpCalEnd n 0x04 s
          else if bt ≠ 0 ∧ (bt = r.trimMin ∨ bt = r.trimMax) then wpCalEnd n 0x06 s
          else
            let head := s.get (WP_STATUS.HEAD n)
            let a := mramBase + s.get (FMS_WCAL.ADDR n) + 32 * head
            let g := s.get CLE_STATUS.GRADE % 4
            let s := s.writeBytes a (wpCalRecord (s.readBytes a 32) head g bt bm temp.toNat s.opSeconds)
            wpCalEnd n 0x00 (s.set (WP_ASSIST.TRIM n) (ofS 8 bt))

end Sys2Proof.Machine
end

