-- ==== Sys2Proof/Machine/Servo.lean ====
section
/-! DEFINITION. The servo demodulators and the wedge beat (R24, R25, R265 to R289). -/

namespace Sys2Proof.Machine

/-- The half-width in cells of the window in use, or none for the open search (R271, R275). -/
def samWindow (v : Fin 4) (s : State) : Option Nat :=
  let d := s.svd[v]
  if s.get (SVD_STATUS.STATE v) = 1 ∧ !s.bit (SVD_STATUS.VERIFY v) then none
  else if 0 < d.swLeft then some (s.get (SVD_CFG.SW_WIN v))
  else if s.bit (SVD_STATUS.VERIFY v) && d.acq == 1 then some (s.get (SVD_CFG.ACQ_WIN v))
  else some (max 2 (s.get (SVD_CFG.SAM_WIN v)))

/-- The SAM among the candidates: the fewest differing bits within the threshold and the window, the earlier on a tie
(R272). -/
def bestSam (win : Option Nat) (thresh : Nat) : List SamHit → Option SamHit
  | [] => none
  | h :: r =>
    let b := bestSam win thresh r
    let inside : Bool := match win with | none => true | some w => h.offset.natAbs ≤ w
    if h.mismatches ≤ thresh ∧ inside then
      match b with
      | none => some h
      | some q => if h.mismatches < q.mismatches ∨ (h.mismatches = q.mismatches ∧ h.offset < q.offset) then some h else some q
    else b

/-- Whether the ten bits of an index field hold even parity: nine index bits, then the parity bit (R265). -/
def evenParity (b : BitVec 10) : Bool :=
  (List.range 10).foldl (fun p i => p ^^ b.getLsbD i) false == false

/-- A measured SAM's interval enters the mean, divided by the wedges it spans (R273). -/
def svdInterval (v : Fin 4) (stamp : Nat) (s : State) : State :=
  let d := s.svd[v]
  let iv := ((stamp - d.lastMeas) * 65536) / max 1 d.span
  let l := (iv :: d.ivals).take 16
  let s := s.modSvd v fun d => { d with ivals := l }
  ((s.set (SVD_MEAN.COUNT v) l.length).set (SVD_MEAN.MEAN v) (l.sum / l.length)).set (SVD_STATUS.MEAN_FULL v)
    (boolNat (l.length == 16))

/-- The wedge index of a measured SAM (R276): the expected one unless two accepted indices differ from expectation by the
same amount. -/
def svdIndex (v : Fin 4) (read : Nat) (accepted : Bool) (s : State) : State :=
  let expect := (s.svd[v].index + 1) % 512
  let s := (s.set (SVD_ID.INDEX v) read).set (SVD_ID.IDX_OK v) (boolNat accepted)
  let off := (read + 512 - expect) % 512
  if !accepted then (s.bump (SVD_CNT.BAD_ID v)).modSvd v fun d => { d with index := expect }
  else if off = 0 then s.modSvd v fun d => { d with index := expect, diff := none }
  else
    let s := s.bump (SVD_CNT.IDX_MISMATCH v)
    if s.svd[v].diff = some off then
      (s.set (SVD_INT.IDX_RESYNC v) 1).modSvd v fun d => { d with index := read, diff := none }
    else s.modSvd v fun d => { d with index := expect, diff := some off }

/-- A change of the beat is counted and logged (R285). -/
def beatLog (old new none' : Nat) (s : State) : State :=
  (s.bump SYS_BEAT.CHANGES).log 0x071 (leBytes 1 old ++ leBytes 1 new ++ leBytes 1 none' ++ leBytes 1 0)

/-- The next locked demodulator after `v` in the cyclic order, on the FQX-1408 among SVD0 and SVD1 only (R24). -/
def beatSuccessor (v : Nat) (s : State) : Option Nat :=
  let m := if s.variant1408 then 2 else 4
  ([1, 2, 3].map fun k => (v + k) % m).find? fun k => (s.get SYS_BEAT.LOCKED).testBit k && k != v

/-- The demodulator `v` is no longer locked: the beat passes on, or no demodulator is locked, the write gates fall and the
spindle falls back (R24, R25). -/
def beatLost (v : Nat) (s : State) : State :=
  if s.bit SYS_BEAT.NONE || s.get SYS_BEAT.ACTIVE != v then s
  else
    match beatSuccessor v s with
    | some k => (beatLog v k 0 (s.set SYS_BEAT.ACTIVE k)).modCle fun c => { c with change := true }
    | none =>
      let s := beatLog v v 1 (s.set SYS_BEAT.NONE 1)
      let s := pslWgOff 1 (wpStop 1 0x23 (pslWgOff 0 (wpStop 0 0x23 s)))
      cleBeatLost s

/-- Lock is lost: SEARCH, with the flag, the count and the fault source (R274). -/
def svdLockLost (v : Fin 4) (s : State) : State :=
  let s := ((s.set (SVD_INT.LOCK_LOST v) 1).bump (SVD_CNT.LOCK_LOSS v)).raise (40 + v.val)
  beatLost v.val (svdSearch v s)

/-- WP_RATE.FREQ from the mean wedge period of the active demodulator (R243). -/
def wpTrackSpin (n : Fin 2) (v : Fin 4) (s : State) : State :=
  let mean := svdMean v s
  if s.unitOn n.val && s.bit (WP_CTRL.TRACK_SPIN n) && mean != 0 then
    let nom := s.get (SVD_PERIOD.NOM_PERIOD v)
    let ppm : Int := (((nom : Int) - (mean : Int)) * 10000000) / (mean : Int)
    s.set (WP_RATE.FREQ n) (ofS 16 (clampI (-20000) 20000 ppm))
  else s

/-- A beat event with its stamp (R284): release comparators, one PWM period with the rotor angle, the write clocks. -/
def beatEvent (v : Fin 4) (s : State) : State :=
  let d := s.svd[v]
  let s := cleBeat d.last s
  let s := wpTrackSpin 1 v (wpTrackSpin 0 v s)
  spmBeat d.last d.index (svdMean v s) s

/-- The beat event follows when `v` supplies the beat; MASTER takes the beat back at its first SAM after 16 locked wedges
(R284, R285). -/
def beatFrom (v : Fin 4) (measured : Bool) (s : State) : State :=
  let s := if measured && s.bit SYS_BEAT.RETURN && s.get SYS_BEAT.MASTER == v.val && !s.bit SYS_BEAT.NONE &&
      s.get SYS_BEAT.ACTIVE != v.val && 16 ≤ s.svd[v].lockedRun then
      (beatLog (s.get SYS_BEAT.ACTIVE) v.val 0 (s.set SYS_BEAT.ACTIVE v.val)).modCle fun c => { c with change := true }
    else s
  if !s.bit SYS_BEAT.NONE && s.get SYS_BEAT.ACTIVE == v.val then beatEvent v s else s

/-- Acquisition is complete: LOCKED, and the beat starts where no demodulator was locked (R271, R24). -/
def svdLocked (v : Fin 4) (s : State) : State :=
  let s := ((s.set (SVD_STATUS.STATE v) 2).set (SVD_STATUS.VERIFY v) 0).set (SVD_INT.LOCKED v) 1
  let s := s.set SYS_BEAT.LOCKED (s.get SYS_BEAT.LOCKED ||| 2 ^ v.val)
  if s.bit SYS_BEAT.NONE then
    let s := beatLog (s.get SYS_BEAT.ACTIVE) v.val 0 ((s.set SYS_BEAT.NONE 0).set SYS_BEAT.ACTIVE v.val)
    (adlBeatBack s).modCle fun c => { c with lockFirst := true }
  else s

/-- A measured SAM moves the acquisition on (R271): from SEARCH to VERIFY, through VERIFY with indices rising by 1, or on in
LOCKED with the index rule of R276. -/
def svdAdvance (v : Fin 4) (read : Nat) (accepted : Bool) (s : State) : State :=
  if s.get (SVD_STATUS.STATE v) = 2 then
    (svdIndex v read accepted s).modSvd v fun d => { d with lockedRun := d.lockedRun + 1 }
  else if !s.bit (SVD_STATUS.VERIFY v) then
    (s.set (SVD_STATUS.VERIFY v) 1).modSvd v fun d => { d with acq := 1, index := read }
  else if accepted && read != (s.svd[v].index + 1) % 512 then svdSearch v s
  else
    let s := (svdIndex v read accepted s).modSvd v fun d => { d with acq := d.acq + 1 }
    if max 2 (s.get (SVD_CFG.ACQ_COUNT v)) ≤ s.svd[v].acq then svdLocked v s else s

/-- A demodulator finds a SAM in its window, stamps it and advances (R271 to R276); the beat event follows where it supplies
the beat (R284). -/
def execSamEvent (v : Fin 4) (found : List SamHit) (index : BitVec 10) (violation : Bool) (s : State) : Out :=
  s.onHalf (halfOf v).val fun s =>
    if s.get (SVD_STATUS.STATE v) = 0 then s
    else
      match bestSam (samWindow v s) (min 2 (s.get (SVD_CFG.SAM_THRESH v))) found with
      | none => s
      | some h =>
        let d := s.svd[v]
        let fresh := s.get (SVD_STATUS.STATE v) = 1 ∧ !s.bit (SVD_STATUS.VERIFY v)
        let s := s.modSvd v fun d => { d with span := d.span + 1 }
        let s := if fresh ∨ 0 < d.swLeft then s else svdInterval v h.stamp s
        let s := s.modSvd v fun d => { d with last := h.stamp, predicted := false, lastMeas := h.stamp, span := 0,
                                              latched := false, swLeft := d.swLeft - 1, swFound := true }
        let s := (s.set (SVD_STATUS.MISS_RUN v) 0).set (SVD_STATUS.SWITCH v) (boolNat (1 < d.swLeft))
        let s := s.set (SVD_SAM_L.STAMP_LO v) h.stamp
        let s := svdAdvance v (index.toNat / 2) (!violation && evenParity index) s
        beatFrom v true (fmsEvent (halfOf v) (1 + v.val % 2) s)

/-- A window closes without a SAM (R274): in VERIFY the search begins again; in LOCKED a predicted SAM event and an invalid
record are issued, and MISS_MAX misses in a row, or two wedges without a SAM after a head switch, end the lock (R275). -/
def execMissedWedge (v : Fin 4) (s : State) : Out :=
  s.onHalf (halfOf v).val fun s =>
    if s.bit (SVD_STATUS.VERIFY v) then svdSearch v s
    else if s.get (SVD_STATUS.STATE v) ≠ 2 then s
    else
      let d := s.svd[v]
      let stamp := d.last + svdMean v s / 65536
      let index := (d.index + 1) % 512
      let s := s.modSvd v fun d => { d with last := stamp, predicted := true, span := d.span + 1, index := index,
                                            lockedRun := 0, latched := true, swLeft := d.swLeft - 1 }
      let s := (s.set (SVD_SAM_L.STAMP_LO v) stamp).set (SVD_STATUS.SWITCH v) (boolNat (1 < d.swLeft))
      let s := ((s.set (SVD_PES.OUTCOME v) 2).set (SVD_PES.VALID v) 0).set (SVD_PES.WEDGE v) index
      let s := ((s.set (SVD_POS.VALID v) 0).bump (SVD_CNT.MISSED v)).set (SVD_INT.MISSED v) 1
      let s := s.bump (SVD_STATUS.MISS_RUN v)
      let s := if v.val % 2 = 0 then wpPes (halfOf v) true s else s
      let s := beatFrom v false (fmsEvent (halfOf v) (1 + v.val % 2) s)
      if max 1 (s.get (SVD_CFG.MISS_MAX v)) ≤ s.get (SVD_STATUS.MISS_RUN v) ∨ (d.swLeft = 1 ∧ !d.swFound) then
        svdLockLost v s
      else s

/-- Binary from Gray code (R277). -/
def grayToBin : (k g : Nat) → Nat
  | 0, g => g
  | k + 1, g => grayToBin k (g ^^^ (g >>> 2 ^ k))

/-- The absolute difference. -/
def absDiff (a b : Int) : Nat := (a - b).natAbs

/-- The position expected from the last two valid positions (R278). -/
def svdExpected (v : Fin 4) (s : State) : Option Int :=
  match s.svd[v].hist with
  | a :: b :: _ => some (2 * (a : Int) - (b : Int))
  | _ => none

/-- The track ID of its 24 bits: with one erased bit the nearer of both values, with more the ID is bad (R277). -/
def svdTrackId (gray : Nat) (erased : List Nat) (near : Int) : Option Nat :=
  match erased with
  | [] => some (grayToBin 5 gray)
  | [b] =>
    let x := grayToBin 5 (setBits gray b 1 0)
    let y := grayToBin 5 (setBits gray b 1 1)
    some (if absDiff (4096 * x) near ≤ absDiff (4096 * y) near then x else y)
  | _ => none

/-- `28 * a / s - 14` in 1/4,096 track with halves rounded up, where `a` and `2 s` are sums of interval times (R279, R281). -/
def chevOffset (a d : Int) : Int := (2 * 56 * 4096 * a + d) / (2 * d) - 14 * 4096

/-- Whether the pair spacing lies within 2 % of 28 cells at the current cell length; `d` is 512 times the spacing (R280). -/
def spacingOk (v : Fin 4) (d : Int) (s : State) : Bool :=
  -- the cell length as a fraction num / den of sample times
  let nd : Nat × Nat := match s.svd[v].ivals with
    | [] => (s.get (SVD_GEOM.CELL v), 65536)
    | _ => (svdMean v s * s.get (DC_RATE.BIT_RATE v), 65536 * 100000 * 4096)
  let lhs : Int := d * nd.2
  let mid : Int := 512 * 28 * nd.1
  50 * (lhs - mid).natAbs ≤ mid.natAbs

/-- The track nearest `i` that is congruent to `r` modulo 8, for `r` 0 or 4. -/
def nearestCycle (i r : Nat) : Int := 8 * (((i : Int) - r + 4) / 8) + r

/-- The position of a wedge from its ID and the stripes' transition times (R279 to R281): the pair and the position, or none
for CHEV_BAD. -/
def svdPosition (v : Fin 4) (id : Nat) (t1 t2 t3 t4 : List Nat) (s : State) : Option (Nat × Int) :=
  let a : Int := t1.sum
  let b : Int := t2.sum
  let c : Int := t3.sum
  let e : Int := t4.sum
  let d := c + e - a - b
  let k := id % 8
  let pair := if k = 3 ∨ k = 4 ∨ k = 5 then 1 else 0
  let pos := if pair = 0 then 4096 * nearestCycle id 0 + chevOffset (b - a) d else 4096 * nearestCycle id 4 + chevOffset (e - c) d
  if t1.length = 4 ∧ t2.length = 4 ∧ t3.length = 4 ∧ t4.length = 4 ∧ 0 < d ∧ spacingOk v d s ∧ absDiff pos (4096 * id) ≤ 6144
    ∧ 0 ≤ pos then some (pair, pos) else none

/-- The record of a wedge with VALID 0 (R282). -/
def svdInvalid (v : Fin 4) (outcome : Nat) (s : State) : State :=
  ((s.set (SVD_PES.OUTCOME v) outcome).set (SVD_PES.VALID v) 0).set (SVD_POS.VALID v) 0

/-- The record of a wedge with VALID 1 (R282). -/
def svdValid (v : Fin 4) (sub : Bool) (pair : Nat) (pos : Int) (s : State) : State :=
  let pes := clampI (-32767) 32767 (pos - (s.get (SVD_TARGET.TARGET v) : Int))
  let s := (((s.set (SVD_POS.PAIR v) pair).set (SVD_POS.ID_SUB v) (boolNat sub)).set (SVD_POS.VALID v) 1).set (SVD_POS.POS v)
    pos.toNat
  let s := ((s.set (SVD_PES.OUTCOME v) (boolNat sub)).set (SVD_PES.VALID v) 1).set (SVD_PES.PES v) (ofS 16 pes)
  s.modSvd v fun d => { d with hist := (pos.toNat :: d.hist).take 2 }

/-- The PES check of the writing head, which DC(2n) and SVD(2n) serve: over the limit, or VALID 0 (R244, R249, R282). -/
def svdPesCheck (v : Fin 4) (s : State) : State :=
  if v.val % 2 = 1 then s
  else
    let n := halfOf v
    let limit := min 100 (max 10 (s.get (WP_INHIBIT.PES_LIMIT n)))
    let pes := (toS 16 (s.get (SVD_PES.PES v))).natAbs
    wpPes n (!s.bit (SVD_PES.VALID v) || limit * 4096 < pes * 1000) s

/-- After the chevrons the demodulator latches the wedge's record (R277 to R282). -/
def execPositionRecordLatch (v : Fin 4) (gray : BitVec 24) (erased : List Nat) (s1 s2 s3 s4 : List Nat) (s : State) : Out :=
  s.onHalf (halfOf v).val fun s =>
    if s.get (SVD_STATUS.STATE v) = 0 then s
    else
      let expect := svdExpected v s
      let near : Int := match expect with | some e => e | none => s.get (SVD_TARGET.TARGET v)
      let id := svdTrackId gray.toNat erased near
      let s := (s.set (SVD_ID.ERASED v) (min 2 erased.length)).set (SVD_PES.WEDGE v) s.svd[v].index
      let s : State := match id with | some t => s.set (SVD_ID.TRACK v) t | none => s.bump (SVD_CNT.BAD_ID v)
      let run : Nat := s.get (SVD_STATUS.ID_SUB_RUN v)
      let used : Option (Nat × Bool) := match id, expect with
        | some t, _ => some (t, false)
        | none, some e => if run < s.get (SVD_CFG.ID_SUB_MAX v) then some (((e + 2048) / 4096).toNat, true) else none
        | none, none => none
      let d : Int := (s3.sum : Int) + s4.sum - s1.sum - s2.sum
      let s := if 0 < d then
          (s.set (SVD_CHEV.X1 v) (ofS 16 (chevOffset ((s2.sum : Int) - s1.sum) d))).set (SVD_CHEV.X2 v)
            (ofS 16 (chevOffset ((s4.sum : Int) - s3.sum) d))
        else s
      let s := match used with
        | none => svdInvalid v 3 s
        | some (t, sub) =>
          let s := s.set (SVD_STATUS.ID_SUB_RUN v) (if sub then run + 1 else 0)
          match svdPosition v t s1 s2 s3 s4 s with
          | none => (svdInvalid v 4 s).set (SVD_INT.CHEV_BAD v) 1
          | some (pair, pos) => svdValid v sub pair pos s
      svdPesCheck v (s.modSvd v fun d => { d with latched := true })

/-- FORCE_SEARCH sends the demodulator to SEARCH, and the beat passes on where it supplied the beat (R271, R287). -/
def execSvdForceSearch (v : Fin 4) (s : State) : Out :=
  s.onHalf (halfOf v).val fun s =>
    if s.get (SVD_STATUS.STATE v) = 0 then s else beatLost v.val (svdSearch v s)

def execSvdClrCnt (v : Fin 4) (s : State) : Out :=
  s.onHalf (halfOf v).val fun s =>
    s.clearAll [SVD_CNT.LOCK_LOSS v, SVD_CNT.IDX_MISMATCH v, SVD_CNT.BAD_ID v, SVD_CNT.MISSED v]

/-- A read of SVD_SAM_L returns the low bits of the last stamp and latches SVD_SAM_H of the same SAM (R288). -/
def svdSamRead (v : Fin 4) (s : State) : State :=
  let d := s.svd[v]
  let s := (s.set (SVD_SAM_H.STAMP_HI v) (d.last / 2 ^ 40)).set (SVD_SAM_H.PREDICTED v) (boolNat d.predicted)
  { s with resp := .data (BitVec.ofNat 40 d.last) }

def execSvdSamLRead (v : Fin 4) (s : State) : Out := s.onHalf (halfOf v).val (svdSamRead v)

end Sys2Proof.Machine
end

