-- ==== Sys2Proof/Machine/Formatter.lean ====
section
/-! DEFINITION. The formatter sequencers: control store, microword sequencing, interrupts, track programs, copies and posts
(R369 to R395). WR and RD, which reach any register of a unit, stand in Microcode. -/

namespace Sys2Proof.Machine

/-- The data channel on read output `o` of formatter `n`. -/
abbrev fmsDc (n : Fin 2) (o : Nat) : Fin 4 := dcOf n ⟨o % 2, Nat.mod_lt _ (by decide)⟩

/-! ### Control store -/

/-- The 33 bits of quarter `q`: the written ones, or what power-on left (R370, R374). -/
def storeQuarter (n : Fin 2) (q : Nat) (s : State) : BitVec 33 := (kvFind s.fms[n].store q).getD (Config.storePowerOn n.val q)

/-- The number of ones of the low `k` bits. -/
def onesOf (k w : Nat) : Nat := ((List.range k).filter fun i => w.testBit i).length

/-- Whether a quarter and its parity bit hold an odd number of ones (R370). -/
def quarterOk (v : BitVec 33) : Bool := onesOf 33 v.toNat % 2 == 1

/-- A quarter with the parity bit that the FQX sets on a write (R370, R371). -/
def quarterWrite (v : BitVec 32) : BitVec 33 :=
  BitVec.ofNat 33 (v.toNat + (if onesOf 32 v.toNat % 2 = 1 then 0 else 2 ^ 32))

/-- FMS_PAR takes a failing word (R373, R381, R396). -/
def fmsPar (n : Fin 2) (illegal : Bool) (q word : Nat) (s : State) : State :=
  (((s.set (FMS_PAR.VALID n) 1).set (FMS_PAR.ILLEGAL n) (boolNat illegal)).set (FMS_PAR.QUARTER n) q).set (FMS_PAR.WORD n) word

/-- A 32-bit write of quarter `q` of word `w` (R372): accepted while halted, otherwise rejected with a bus error. The first
rejected write since WREJ was cleared is latched (R396). -/
def storeWrite (n : Fin 2) (w q : Nat) (v : BitVec 32) (s : State) : State :=
  if s.bit (FMS_STATUS.HALTED n) then
    { s.modFms n (fun f => { f with store := kvInsert f.store (4 * w + q) (quarterWrite v) }) with resp := .ok }
  else
    let s := if s.bit (FMS_STATUS.WREJ n) then s
      else ((s.set (FMS_STATUS.WREJ n) 1).set (FMS_WREJ.QUARTER n) q).set (FMS_WREJ.WORD n) w
    { s.raise (48 + n.val) with resp := .busError }

def execControlStoreWrite (n : Fin 2) (w : BitVec 12) (q : Fin 4) (v : BitVec 32) (s : State) : Out :=
  s.onHalf n.val (storeWrite n w.toNat q.val v)

/-- A 32-bit read of quarter `q` of word `w` by a master (R373). -/
def storeRead (n : Fin 2) (w q : Nat) (s : State) : State :=
  let v := storeQuarter n (4 * w + q) s
  if quarterOk v then { s with resp := .data (BitVec.ofNat 40 (v.toNat % 2 ^ 32)) }
  else { fmsPar n false q w s with resp := .busError }

def execControlStoreRead (n : Fin 2) (w : BitVec 12) (q : Fin 4) (s : State) : Out := s.onHalf n.val (storeRead n w.toNat q.val)

/-! ### Microwords -/

/-- The fields of a microword (R375). -/
def mwField (w : BitVec 128) (lo len : Nat) : Nat := bits w.toNat lo len
def mwNext (w : BitVec 128) : Nat := mwField w 125 3
def mwWait (w : BitVec 128) : Nat := mwField w 123 2
def mwCond (w : BitVec 128) : Nat := mwField w 116 7
def mwLc (w : BitVec 128) : Fin 4 := ⟨mwField w 114 2, by simp only [mwField, bits]; omega⟩
def mwTarget (w : BitVec 128) : Nat := mwField w 100 12
def mwAct (w : BitVec 128) : Nat := mwField w 92 4
def mwUnit (w : BitVec 128) : Nat := mwField w 88 4
def mwReg (w : BitVec 128) : Nat := mwField w 76 12
def mwSrc (w : BitVec 128) : Nat := mwField w 74 2
def mwArg (w : BitVec 128) : Nat := mwField w 64 8
def mwImm (w : BitVec 128) : Nat := mwField w 24 40
def mwTimeout (w : BitVec 128) : Nat := mwField w 0 24

/-- Whether a word is illegal (R381). -/
def mwIllegal (w : BitVec 128) : Bool :=
  mwWait w == 3 || !(decide (mwCond w ≤ 0x17) || (decide (0x20 ≤ mwCond w) && decide (mwCond w ≤ 0x2B))) ||
  decide (9 < mwAct w) || decide (6 < mwUnit w) || decide (2 ≤ mwSrc w) || mwField w 112 2 != 0 || mwField w 96 4 != 0 ||
  mwField w 72 2 != 0

/-- Whether a COND code is an event of R378. -/
def condEvent (c : Nat) : Bool := c ∈ [1, 2, 3, 4, 5, 6, 0x0A, 0x0F, 0x10, 0x11, 0x17]

/-- SEQ of the header in ring slot `k` of a channel (R189). -/
def ringSeq (c : Fin 4) (k : Nat) (s : State) : Nat := s.readLE (ringSlotAddr c k + 32) 8

/-- Whether ring slot `k` is HELD and not copied. -/
def ringUncopied (n : Fin 2) (o k : Nat) (s : State) : Bool :=
  let c := fmsDc n o
  s.get (ringStateFld c k) == 3 && !s.fms[n].copies.any fun x => x.chan == o && x.slot == k && x.seq == ringSeq c k s

/-- The oldest HELD slot of channel `o` that is not copied. -/
def oldestUncopied (n : Fin 2) (o : Nat) (s : State) : Option Nat :=
  ([0, 1, 2, 3].filter fun k => ringUncopied n o k s).foldl (fun m k =>
    match m with
    | none => some k
    | some j => if ringSeq (fmsDc n o) k s < ringSeq (fmsDc n o) j s then some k else some j) none

/-- The size of the copy pool: values outside 1 to 6 act as 1 (R396). -/
def copySize (n : Fin 2) (s : State) : Nat :=
  let k := s.get (FMS_COPY_PTR.SIZE_LOG2 n)
  2 ^ (if 1 ≤ k ∧ k ≤ 6 then k else 1)

/-- The copy pool has a free buffer (R391). -/
def copyFree (n : Fin 2) (s : State) : Bool :=
  (s.get (FMS_COPY_PTR.PROD n) + 1) % copySize n s != s.get (FMS_COPY_PTR.CONS n) % copySize n s

/-- The size of the descriptor ring: values outside 4 to 10 act as 4 (R396). -/
def tpqSize (n : Fin 2) (s : State) : Nat :=
  let k := s.get (FMS_TPQ_PTR.SIZE_LOG2 n)
  2 ^ (if 4 ≤ k ∧ k ≤ 10 then k else 4)

/-- The address of the descriptor at the queue head. -/
def tpdAddr (n : Fin 2) (s : State) : Addr := 64 * s.get (FMS_TPQ_BASE.BASE n) + 64 * (s.get (FMS_TPQ_PTR.HEAD n) % tpqSize n s)

/-- The descriptor at the queue head has OWN = 1 (R378). -/
def tpdReady (n : Fin 2) (s : State) : Bool := (s.readByte (tpdAddr n s)).getLsbD 7

/-- TPD becomes true: IRQ source 6 (R383). -/
def tpdIrq (n : Fin 2) (s : State) : State :=
  if tpdReady n s then s.set (FMS_IRQ.PEND n) (s.get (FMS_IRQ.PEND n) ||| 64) else s

/-- Whether a condition of R378 holds. -/
def condHolds (n : Fin 2) (c : Nat) (s : State) : Bool :=
  let f := s.fms[n]
  let room (o : Nat) : Bool :=
    let d := fmsDc n o
    (s.get (DET_BB_TAIL.TAIL d) + 1) % bbSize d s != s.get (DET_BB_HEAD.HEAD d)
  if c = 0 then true
  else if condEvent c then decide (c ∈ f.events)
  else if c = 7 then (oldestUncopied n 0 s).isSome
  else if c = 8 then (oldestUncopied n 1 s).isSome
  else if c = 9 then copyFree n s
  else if c = 0x0B then room 0
  else if c = 0x0C then room 1
  else if c = 0x0D then s.get (WP_STATUS.BANK_OWN n) != 3
  else if c = 0x0E then !s.wp[n].flagged.isEmpty
  else if c = 0x12 then tpdReady n s
  else if c = 0x13 then f.prog.isSome
  else if c = 0x14 then match f.prog with | some p => p.stop | none => false
  else if c = 0x15 then f.timeout
  else if c = 0x16 then s.bit SPM_STATUS.SPEED_OK
  else if 0x20 ≤ c ∧ c ≤ 0x27 then f.flags.getLsbD (c - 0x20)
  else if 0x28 ≤ c ∧ c ≤ 0x2B then f.lc[c - 0x28]? == some 0
  else false

/-- Whether the wait of a word is over (R375, R376). -/
def waitOver (n : Fin 2) (w : BitVec 128) (s : State) : Bool :=
  mwWait w == 0 || (mwWait w == 1 && condHolds n (mwCond w) s) || (mwWait w == 2 && !condHolds n (mwCond w) s)

/-! ### The end of a track program -/

/-- The descriptor goes back to firmware: STATUS, DONE, OWN cleared, HEAD advanced (R386). -/
def tpdWriteBack (n : Fin 2) (addr status done : Nat) (s : State) : State :=
  let s := (s.writeLE (addr + 58) 1 status).writeLE (addr + 60) 2 done
  let s := s.writeByte addr (BitVec.ofNat 8 ((s.readByte addr).toNat % 128))
  let s := s.set (FMS_PROG.STATUS n) status
  tpdIrq n (s.set (FMS_TPQ_PTR.HEAD n) ((s.get (FMS_TPQ_PTR.HEAD n) + 1) % tpqSize n s))

/-- The open program ends with a status (R390): its group records are written, an assist that is on is switched off with the
last gate, its frames are withdrawn, the descriptor goes back, and PROG_END is raised. -/
def progEnd (n : Fin 2) (status done : Nat) (s : State) : State :=
  match s.fms[n].prog with
  | none => s
  | some p =>
    let s := s.modFms n fun f => { f with prog := none }
    let s := gsrWrite (fmsDc n 1) 1 (gsrWrite (fmsDc n 1) 0 (gsrWrite (fmsDc n 0) 1 (gsrWrite (fmsDc n 0) 0 s)))
    let keep (q : Option (Nat × Nat)) : Option (Nat × Nat) := match q with
      | some x => if pslGateOff x.2 then some x else none
      | none => none
    let s := s.modPsl n fun l => { l with
      queue := l.queue.filter (fun q => pslGateOff q.2.2), wg := keep l.wg, rg0 := keep l.rg0, rg1 := keep l.rg1, sel := keep l.sel }
    let s := if s.bit (WP_STATUS.ASSIST_ON n) then
        pslLoad n 3 (s.now + 3) (pslFrame 8 (s.get (PSL_STATUS.WHEAD n)) 0) s else s
    let s := tpdWriteBack n p.tpdAddr status done s
    fmsEvent n 4 ((s.set (FMS_STATUS.ACTIVE n) 0).set (FMS_INT.PROG_END n) 1)

/-- The open program aborts: the fragment in progress ends with the write gate low and result 0x27 (R390). -/
def progAbort (n : Fin 2) (s : State) : State :=
  if s.fms[n].prog.isNone then s else progEnd n 2 0 (pslWgOff n (wpStop n 0x27 s))

/-- The slots of an open program: FIRST to LAST, through the end of the track where LAST is below FIRST (R388). -/
def progSlots (p : TrackProg) (s : State) : Nat :=
  let a := leAt p.tpd 20 2
  let b := leAt p.tpd 22 2
  let k := s.readLE (p.plan0 + 18) 2
  if a ≤ b then b - a + 1 else (k - a) + (b + 1)

/-- A track program completes with every slot passed, or stops where a stop cause is present (R390). -/
def execTrackProgramEnd (n : Fin 2) (done : BitVec 12) (s : State) : Out :=
  s.onHalf n.val fun s =>
    match s.fms[n].prog with
    | none => s
    | some p =>
      if p.stop then progEnd n 1 done.toNat (pslWgOff n s)
      else if done.toNat = progSlots p s then progEnd n 0 done.toNat s
      else s

/-! ### Sequencing -/

/-- The sequencer halts with a cause; an open program aborts (R385). -/
def fmsHalt (n : Fin 2) (cause : Nat) (s : State) : State :=
  let s := ((s.set (FMS_STATUS.HALTED n) 1).set (FMS_STATUS.HALT_CAUSE n) cause).set (FMS_INT.HALTED n) 1
  let s := (s.set (FMS_STATUS.WAITING n) 0).modFms n fun f => { f with word := none, haltReq := false }
  progAbort n s

/-- A machine check of the store: FMS_PAR, the halt and the fault source (R373, R381). -/
def fmsMachineCheck (n : Fin 2) (illegal : Bool) (q : Nat) (s : State) : State :=
  let s := fmsPar n illegal q (s.get (FMS_STATUS.PC n)) s
  (fmsHalt n (if illegal then 4 else 3) s).raise (50 + n.val)

/-- The stack with its depth in FMS_STATUS. -/
def setStack (n : Fin 2) (l : List Nat) (s : State) : State :=
  (s.set (FMS_STATUS.DEPTH n) l.length).modFms n fun f => { f with stack := l }

/-- The word at PC is fetched (R373, R376, R381): parity of every quarter, legality, then its wait begins. -/
def execMicrowordFetch (n : Fin 2) (s : State) : Out :=
  s.onHalf n.val fun s =>
    if s.bit (FMS_STATUS.HALTED n) || s.fms[n].word.isSome then s
    else
      let pc := s.get (FMS_STATUS.PC n)
      let q (k : Nat) : BitVec 33 := storeQuarter n (4 * pc + k) s
      match [0, 1, 2, 3].find? fun k => !quarterOk (q k) with
      | some k => fmsMachineCheck n false k s
      | none =>
        let v (k : Nat) : Nat := (q k).toNat % 2 ^ 32
        let w : BitVec 128 := BitVec.ofNat 128 (v 0 + v 1 * 2 ^ 32 + v 2 * 2 ^ 64 + v 3 * 2 ^ 96)
        if mwIllegal w then fmsMachineCheck n true 0 s
        else (s.set (FMS_STATUS.WAITING n) (boolNat (!waitOver n w s))).modFms n fun f => { f with word := some w }

/-- The word completes (R376, R377): NEXT chooses the next word by COND as it stands, a waited event is consumed, and a
halt that was requested is taken at the boundary. -/
def fmsComplete (n : Fin 2) (w : BitVec 128) (timedOut : Bool) (s : State) : State :=
  let pc := s.get (FMS_STATUS.PC n)
  let s := s.modFms n fun f => { f with timeout := timedOut, word := none }
  let c := condHolds n (mwCond w) s
  let inc := (pc + 1) % 4096
  let k := mwLc w
  let st := s.fms[n].stack
  let l := s.fms[n].lc[k] - 1
  let s := s.set (FMS_STATUS.WAITING n) 0
  let s := if mwWait w = 1 ∧ condEvent (mwCond w) ∧ c ∧ !timedOut then
      s.modFms n fun f => { f with events := f.events.filter (· != mwCond w) } else s
  let go (a : Nat) (s : State) : State := s.set (FMS_STATUS.PC n) a
  let x := mwNext w
  let s :=
    if x = 0 then go inc s
    else if x = 1 then go (mwTarget w) s
    else if x = 2 then go (if c then mwTarget w else inc) s
    else if x = 3 then go (if c then inc else mwTarget w) s
    else if x = 4 then go (mwTarget w) (setStack n (inc :: st) s)
    else if x = 5 then
      let s := if s.bit (FMS_STATUS.IN_IRQ n) && st.length == s.fms[n].irqDepth then s.set (FMS_STATUS.IN_IRQ n) 0 else s
      go (st.headD 0) (setStack n st.tail s)
    else if x = 6 then go (if l = 0 then inc else mwTarget w) (s.modFms n fun f => { f with lc := f.lc.set k l })
    else go pc s
  if s.bit (FMS_STATUS.HALTED n) then s
  else if x = 7 then fmsHalt n 1 s
  else if s.fms[n].haltReq then fmsHalt n 2 s
  else s

/-- Whether the CALL or RET of a word breaks the stack, which halts before its action (R377). -/
def stackBad (n : Fin 2) (w : BitVec 128) (s : State) : Bool :=
  (mwNext w == 4 && decide (4 ≤ s.fms[n].stack.length)) || (mwNext w == 5 && s.fms[n].stack.isEmpty)

/-- The issued word performs its action of code `act` once its wait is over, and completes (R376, R379). -/
def fmsAct (n : Fin 2) (act : Nat) (f : BitVec 128 → State → State) (s : State) : Out :=
  s.onHalf n.val fun s =>
    match s.fms[n].word with
    | none => s
    | some w =>
      if mwAct w ≠ act ∨ !waitOver n w s then s
      else if stackBad n w s then fmsHalt n 5 s
      else
        let t := f w s
        if t.bit (FMS_STATUS.HALTED n) then t else fmsComplete n w false t

/-- TIMEOUT tk have passed in the wait: the word completes without its action (R376). -/
def execMicrowordWaitTimeout (n : Fin 2) (s : State) : Out :=
  s.onHalf n.val fun s =>
    match s.fms[n].word with
    | none => s
    | some w =>
      if mwTimeout w = 0 ∨ waitOver n w s then s
      else if stackBad n w s then fmsHalt n 5 s
      else fmsComplete n w true s

def execMwNop (n : Fin 2) (s : State) : Out := fmsAct n 0 (fun _ s => s) s

def execMwFlag (n : Fin 2) (s : State) : Out :=
  fmsAct n 6 (fun w s => s.modFms n fun f => { f with
    flags := BitVec.ofNat 8 (setBits f.flags.toNat (mwArg w % 8) 1 (boolNat ((mwArg w).testBit 3))) }) s

def execMwLdlc (n : Fin 2) (s : State) : Out :=
  fmsAct n 7 (fun w s => s.modFms n fun f => { f with lc := f.lc.set (mwLc w) (BitVec.ofNat 16 (mwImm w)) }) s

def execMwEvt (n : Fin 2) (s : State) : Out :=
  fmsAct n 8 (fun w s => s.set (FMS_INT.MEV n) (s.get (FMS_INT.MEV n) ||| 2 ^ (mwArg w % 8))) s

/-- FMS_CTRL.RUN (R385): START_ADDR with a clean state; ignored while running. -/
def fmsRun (n : Fin 2) (start : Nat) (s : State) : State :=
  let s := s.set (FMS_CTRL.START_ADDR n) start
  if !s.bit (FMS_STATUS.HALTED n) then s
  else
    let s := (s.clearAll [FMS_STATUS.HALTED n, FMS_STATUS.IN_IRQ n, FMS_STATUS.DEPTH n, FMS_STATUS.WAITING n]).set (FMS_STATUS.PC n)
      (s.get (FMS_CTRL.START_ADDR n))
    s.modFms n fun f => { f with stack := [], flags := 0, lc := .replicate 4 0, events := [], timeout := false, word := none,
                                 haltReq := false }

def execFmsRun (n : Fin 2) (start : BitVec 12) (s : State) : Out := s.onHalf n.val (fmsRun n start.toNat)

/-- FMS_CTRL.HALT (R384, R385): at a boundary or at the safe point of a waiting word at once, otherwise at the next boundary. -/
def fmsHaltReq (n : Fin 2) (s : State) : State :=
  if s.bit (FMS_STATUS.HALTED n) then s
  else
    match s.fms[n].word with
    | none => fmsHalt n 2 s
    | some w => if waitOver n w s then s.modFms n fun f => { f with haltReq := true } else fmsHalt n 2 s

def execFmsHalt (n : Fin 2) (s : State) : Out := s.onHalf n.val (fmsHaltReq n)

/-- FMS_CTRL.ATTN (R378, R383). -/
def fmsAttn (n : Fin 2) (s : State) : State := fmsEvent n 0x17 (s.set (FMS_IRQ.PEND n) (s.get (FMS_IRQ.PEND n) ||| 1))

def execFmsAttn (n : Fin 2) (s : State) : Out := s.onHalf n.val (fmsAttn n)

/-- The interrupt of R384 at a boundary or a safe point: the lowest enabled pending source. -/
def execFmsIrqTake (n : Fin 2) (s : State) : Out :=
  s.onHalf n.val fun s =>
    let m := s.get (FMS_IRQ.PEND n) &&& s.get (FMS_IRQ.EN n)
    let safe := match s.fms[n].word with
      | none => true
      | some w => !waitOver n w s
    match (List.range 8).find? fun k => m.testBit k with
    | none => s
    | some k =>
      if s.bit (FMS_STATUS.HALTED n) || s.bit (FMS_STATUS.IN_IRQ n) || !safe then s
      else
        let s := s.set (FMS_IRQ.PEND n) (setBits (s.get (FMS_IRQ.PEND n)) k 1 0)
        let st := s.fms[n].stack
        if 4 ≤ st.length then fmsHalt n 5 s
        else
          let s := setStack n (s.get (FMS_STATUS.PC n) :: st) s
          let s := ((s.set (FMS_STATUS.IN_IRQ n) 1).set (FMS_STATUS.PC n) (8 + k)).set (FMS_STATUS.WAITING n) 0
          s.modFms n fun f => { f with word := none, irqDepth := st.length + 1 }

/-! ### Copies and posts -/

/-- COPY (R379, R391): the oldest uncopied HELD slot goes to the next buffer of the pool; without one, or without a free
buffer, SEQ_ERR. -/
def mwCopy (n : Fin 2) (o : Nat) (s : State) : State :=
  match oldestUncopied n o s, s.fms[n].prog with
  | some k, some p =>
    if !copyFree n s then s.set (FMS_INT.SEQ_ERR n) 1
    else
      let c := fmsDc n o
      let prod := s.get (FMS_COPY_PTR.PROD n)
      let a := ringSlotAddr c k
      let x : RingCopy := { chan := o, slot := k, seq := ringSeq c k s, frag := s.readLE a 5,
                            buf := 64 * s.get (FMS_COPY_BASE.BASE n) + 90112 * (prod % copySize n s), tpd := p.tpd,
                            plan := if o = 0 then p.plan0 else p.plan1 }
      (s.set (FMS_COPY_PTR.PROD n) ((prod + 1) % copySize n s)).modFms n fun f => { f with copies := f.copies ++ [x] }
  | _, _ => s.set (FMS_INT.SEQ_ERR n) 1

def execMwCopy (n : Fin 2) (s : State) : Out := fmsAct n 4 (fun w s => mwCopy n (mwArg w % 2) s) s

/-- The first copy of the list that meets a test, updated. -/
def copyUpdate (p : RingCopy → Bool) (f : RingCopy → RingCopy) : List RingCopy → List RingCopy
  | [] => []
  | x :: r => if p x then f x :: r else x :: copyUpdate p f r

/-- The channel has moved the 81,920 bytes of the oldest copy (R391): COPY_DONE and IRQ source 5. -/
def execFmsCopyDone (n : Fin 2) (s : State) : Out :=
  s.onHalf n.val fun s =>
    match s.fms[n].copies.find? fun x => !x.done with
    | none => s
    | some x =>
      let k := 8 + leAt x.tpd 24 1 % 8
      if !dmaServes k s || !viaOk k true x.buf 81920 s then s else
      let s := s.writeVia k x.buf (s.readBytes (ringSlotAddr (fmsDc n x.chan) x.slot) 81920)
      let s := s.modFms n fun f => { f with copies := copyUpdate (fun y => !y.done) (fun y => { y with done := true }) f.copies }
      fmsEvent n 0x0A (s.set (FMS_IRQ.PEND n) (s.get (FMS_IRQ.PEND n) ||| 32))

/-- Group number and place in the group of slot `k` of a track (R88, R130): GROUP_K data members, then P0 and P1. -/
def slotGroup (k : Nat) : Nat := k / 64
def groupsOf (slots lastK : Nat) : Nat := (slots - lastK - 2) / 64 + 1
def groupK (slots lastK k : Nat) : Nat := if slotGroup k + 1 = groupsOf slots lastK then lastK else 62

/-- EXP of a slot: GROUP_K + 1 - MEMBER for data, 1 for P0, 0 for P1 (R392). -/
def slotExp (slots lastK k : Nat) : Nat :=
  let g := groupK slots lastK k
  let m := k % 64
  if m < g then g + 1 - m else if m = g then 1 else 0

/-- How many groups a program opened on a channel before that of slot `k` (R388, R392). -/
def groupIndex (slots lastK first k : Nat) : Nat :=
  (slotGroup k + groupsOf slots lastK - slotGroup first) % groupsOf slots lastK

/-- POST (R379, R392): a DECODE entry for the oldest completed copy, then the release of its ring slot; without one,
SEQ_ERR. -/
def mwPost (n : Fin 2) (o : Nat) (s : State) : State :=
  match s.fms[n].copies.find? fun x => x.chan == o && x.done with
  | none => s.set (FMS_INT.SEQ_ERR n) 1
  | some x =>
    let c := fmsDc n o
    let slots := s.readLE (x.plan + 18) 2
    let lastK := s.readLE (x.plan + 20) 1
    let k := x.frag % 2048
    let gsr := if (leAt x.tpd 1 1).testBit 2 then
        leAt x.tpd 48 5 + 8320 * groupIndex slots lastK (leAt x.tpd 20 2) k else 0
    let thresh := min 6 (s.get (FMS_BB.DEEP_THRESH n))
    let e := leBytes 1 0x80 ++ leBytes 1 (s.get (FMS_BB.FLAGS n)) ++ leBytes 1 (s.get (FMS_BB.ITER n)) ++ leBytes 1 0 ++
      leBytes 5 x.buf ++ leBytes 5 (x.buf + 81920) ++ leBytes 5 (leAt x.tpd (if o = 0 then 38 else 43) 5) ++
      leBytes 5 gsr ++ leBytes 1 thresh ++ leBytes 1 (slotExp slots lastK k) ++ leBytes 6 0
    let tail := s.get (DET_BB_TAIL.TAIL c)
    let s := s.writeBytes (32 * s.get (DET_BB_BASE.BASE c) + 32 * tail) e
    let s := dcRelease c (2 ^ x.slot) (bbTail c ((tail + 1) % bbSize c s) s)
    s.modFms n fun f => { f with copies := f.copies.erase x }

def execMwPost (n : Fin 2) (s : State) : Out := fmsAct n 5 (fun w s => mwPost n (mwArg w % 2) s) s

/-- REWRITE (R379, R394): the oldest flagged slot of WPa goes back to the channel with REWRITE = 1. -/
def mwRewrite (n : Fin 2) (s : State) : State :=
  match s.wp[n].flagged with
  | [] => s
  | x :: rest => s.modWp n fun w => { w with flagged := rest, owed := w.owed ++ [x] }

def execMwRewrite (n : Fin 2) (s : State) : Out := fmsAct n 9 (fun _ s => mwRewrite n s) s

/-! ### OPEN -/

/-- The plan header of a PLAN_ID among `count` headers in ascending order from address `a`, by binary search (R129, R387). -/
def planFind (a id : Nat) (s : State) : (fuel lo hi : Nat) → Option Nat
  | 0, _, _ => none
  | k + 1, lo, hi =>
    if hi ≤ lo then none
    else
      let mid := (lo + hi) / 2
      let v := s.readLE (a + 48 * mid) 4
      if v = id then some (a + 48 * mid)
      else if v < id then planFind a id s k (mid + 1) hi
      else planFind a id s k lo mid

/-- The plan of the active grade with a PLAN_ID: the address of its header. -/
def planOf (n : Fin 2) (id : Nat) (s : State) : Option Nat :=
  let b := 8 * s.get (FMS_PLAN_BASE.BASE n)
  planFind (b + 16) id s 22 0 (s.readLE (b + 8) 4)

/-- The skip map records of a head and track from address `a` onward (R127, R387): refused by a KIND 1 record, and the
PLAN_ID that a KIND 2 record gives. -/
def skipScan (head track : Nat) (s : State) : (fuel a : Nat) → Option Nat → Bool × Option Nat
  | 0, _, p => (false, p)
  | k + 1, a, p =>
    if s.readLE a 1 ≠ head ∨ s.readLE (a + 4) 4 ≠ track then (false, p)
    else if s.readLE (a + 1) 1 = 1 then (true, p)
    else if s.readLE (a + 1) 1 = 2 then skipScan head track s k (a + 16) (some (s.readLE (a + 8) 4))
    else skipScan head track s k (a + 16) p

/-- The plan of a head's track: its base plan, or the one its skip map records give; a refusal code otherwise. -/
def trackPlan (n : Fin 2) (head track base skip : Nat) (s : State) : Except Nat Nat :=
  let (retired, alt) := if skip = 0 then (false, none) else skipScan head track s 4194304 skip none
  if retired then .error 0x3A
  else
    match planOf n (alt.getD base) s with
    | some a => .ok a
    | none => .error 0x31

/-- Whether the fields of a TPD are valid (R386): none reserved, HEAD1 0xFF without PAIR, and the ranges of its indexes. -/
def tpdOk (t : List Byte) : Bool :=
  let mode := leAt t 0 1 % 4
  let pair := (leAt t 1 1).testBit 0
  bits (leAt t 0 1) 2 5 == 0 && mode != 3 && leAt t 1 1 / 32 == 0 && (pair || leAt t 3 1 == 0xFF) &&
  decide (leAt t 24 1 ≤ 7) && decide (leAt t 25 1 ≤ 31) && decide (leAt t 26 1 ≤ 31) &&
  (mode != 1 || decide (leAt t 27 1 ≤ 67)) && leAt t 59 1 == 0 && leAt t 62 2 == 0

/-- Whether a pair of heads on two tracks lies inside a PAIR_WINDOW record (R134). -/
def pairOk (rec' : List Byte) (grade h0 t0 h1 t1 : Nat) : Bool :=
  let fwd := leAt rec' 0 1 == h0 && leAt rec' 1 1 == h1
  let rev := leAt rec' 0 1 == h1 && leAt rec' 1 1 == h0
  let a : Int := if fwd then t0 else t1
  let b : Int := if fwd then t1 else t0
  (fwd || rev) && (leAt rec' 2 1).testBit grade && decide ((leAt rec' 4 4 : Int) ≤ a ∧ a ≤ leAt rec' 8 4) &&
  decide ((b - (a + toS 16 (leAt rec' 12 2))).natAbs ≤ leAt rec' 14 2)

/-- Whether the active image describes a head of actuator `n`. -/
def headOk (n : Fin 2) (h : Nat) (s : State) : Bool :=
  h / 14 == n.val && match s.image with
    | some i => i.headsMask.testBit h
    | none => false

/-- Steps 1 to 3 of OPEN (R387): the plans, or the refusal code. -/
def openCheck (n : Fin 2) (t : List Byte) (s : State) : Except Nat (Nat × Nat) := do
  let mode := leAt t 0 1 % 4
  let pair := (leAt t 1 1).testBit 0
  let h0 := leAt t 2 1
  let h1 := leAt t 3 1
  if !tpdOk t then throw 0x30
  let p0 ← trackPlan n h0 (leAt t 4 4) (leAt t 12 4) (leAt t 28 5) s
  let p1 ← if pair then trackPlan n h1 (leAt t 8 4) (leAt t 16 4) (leAt t 33 5) s else pure p0
  let slots := min (s.readLE (p0 + 18) 2) (s.readLE (p1 + 18) 2)
  if slots ≤ leAt t 20 2 ∨ slots ≤ leAt t 22 2 ∨ (mode = 1 ∧ leAt t 22 2 < leAt t 20 2) then throw 0x32
  if s.readLE (8 * s.get (FMS_PLAN_BASE.BASE n)) 1 ≠ s.get CLE_STATUS.GRADE then throw 0x3B
  if !s.bit (PSL_STATUS.LINK_UP n) then throw 0x39
  if !headOk n h0 s ∨ (pair ∧ !headOk n h1 s) then throw 0x33
  if pair ∧ !pairOk (s.readBytes (leAt t 53 5) 16) (s.get CLE_STATUS.GRADE) h0 (leAt t 4 4) h1 (leAt t 8 4) then throw 0x34
  if pair ∧ (s.get (PSL_STATUS.VERSION n) < 2 ∨ !(s.get (PSL_CAP.CAP0 n)).testBit 4) then throw 0x35
  let settle := 40 + bits (s.get (PSL_CAP.CAP1 n)) 0 4 + bits (s.get (PSL_CAP.CAP1 n)) 4 8
  if svdMean (fmsDc n 0) s < 65536 * settle then throw 0x36
  if s.bit (DC_STATUS.CAL_BUSY (fmsDc n 0)) ∨ (pair ∧ s.bit (DC_STATUS.CAL_BUSY (fmsDc n 1))) then throw 0x37
  if !s.bit SPM_STATUS.SPEED_OK then throw 0x38
  if mode = 1 ∧ (!s.bit (WP_CTRL.ENABLE n) ∨ s.bit (WP_CTRL.INHIBIT n)) then throw 0x3C
  pure (p0, p1)

/-- BPW of a plan as a fraction: BIT_RATE × 60,000 over RPM × 512 (R268). -/
def bpwNum (p : Nat) (s : State) : Nat := s.readLE (p + 8) 4 * 60000
def bpwDen (n : Fin 2) (s : State) : Nat := s.readLE (8 * s.get (FMS_PLAN_BASE.BASE n) + 2) 2 * 512

/-- DC_RATE.BIT_RATE written: at once, or once the read gate is off (R177). -/
def dcSetRate (c : Fin 4) (r : Nat) (s : State) : State :=
  if s.bit (DC_STATUS.RG_ON c) then s.modDc c fun d => { d with ratePending := some r } else s.set (DC_RATE.BIT_RATE c) r

/-- A DETECTOR record in memory is copied into a record of the detector parameter memory (R218). -/
def paramLoad (c : Fin 4) (j addr : Nat) (s : State) : State :=
  let l := s.readBytes addr 304
  forEach (List.range 61) (fun i s =>
    s.set { addr := 0x0F00100000 + 0x8000 * c.val + 0x4000 + 0x200 * (j % 32) + 8 * i, lo := 0, len := 40, rst := 0 }
      (leAt l (5 * i) 5)) s

/-- The registers of the channel and demodulator on output `o` for a track (R269, R387 step 4). -/
def openChannel (n : Fin 2) (o plan track psel param : Nat) (load : Bool) (mode : Nat) (s : State) : State :=
  let c := fmsDc n o
  let num := bpwNum plan s
  let den := max 1 (bpwDen n s)
  let s := dcSetRate c (s.readLE (plan + 8) 4) s
  let s := ((s.set (DC_SYNC.SYNC_THRESH c) (s.readLE (param + 284) 1)).set (DC_SYNC.SYNC_WIN c) (s.readLE (plan + 36) 2)).set
    (DC_SYNC.SYNC2_WIN c) (s.readLE (plan + 38) 2)
  let s := s.set (SVD_S2D.SAM_TO_DATA c) (64 * (s.readLE (plan + 12) 4 : Int) - roundDiv (6656 * num) (4096 * den)).toNat
  let s := (s.set (SVD_GEOM.CELL c) (roundDiv (16 * num) den).toNat).set (SVD_TARGET.TARGET c) (4096 * track)
  let s := (s.set (DC_CTRL.MODE c) (if mode = 2 then 2 else 0)).set (DET_PSEL.PSEL c) psel
  if load then paramLoad c psel param s else s

/-- A journal entry of a group that is in neither bank is loaded into one (R241). -/
def journalLoad (n : Fin 2) (entry : Nat) (s : State) : State :=
  match kvFind s.journal entry with
  | none => s
  | some e =>
    if (wpAccOf n e.first s).isSome then s
    else
      let k : Fin 2 := if s.wp[n].acc[0].isNone then 0 else 1
      let s := (s.set (WP_STATUS.JOURNAL_BUSY n) 1).set (WP_STATUS.ACC_OPEN n) (s.get (WP_STATUS.ACC_OPEN n) ||| (k.val + 1))
      let a : WAcc := { entry := entry, first := e.first, groupK := e.groupK, members := e.members, s0 := e.s0, s1 := e.s1 }
      s.modWp n fun w => { w with acc := w.acc.set k (some a) }

/-- The trim of a head at a grade from its write calibration record, 0 where the record is not valid for it (R252, R254). -/
def headTrim (n : Fin 2) (head g : Nat) (s : State) : Nat :=
  let r := s.readBytes (mramBase + s.get (FMS_WCAL.ADDR n) + 32 * head) 32
  if leAt r 28 4 = crc32c (r.take 28) ∧ leAt r 0 1 = head ∧ (leAt r 1 1).testBit g then leAt r (12 + g) 1 else 0

/-- Step 5 of OPEN in MODE 01b (R241, R252, R255). -/
def openWrite (n : Fin 2) (t : List Byte) (plan : Nat) (s : State) : State :=
  let s := s.modWp n fun w => { w with chan := 8 + leAt t 24 1 % 8 }
  let g := s.get CLE_STATUS.GRADE
  let head := leAt t 2 1
  let rate := s.readLE (plan + 8) 4
  let s := if rate ≤ 5200000 then s.set (WP_RATE.BIT_RATE n) rate else s
  let s := journalLoad n (leAt t 27 1) s
  let s := (s.set (WP_ASSIST.CODE n) (s.readLE (leAt t 48 5 + 8 + 2 * g) 2)).set (WP_ASSIST.TRIM n) (headTrim n head g s)
  let ref := leAt t 53 5
  let v3 := match s.image with | some i => i.fmtVer == 3 | none => false
  let geo := s.readBytes ref 12
  let verify := ref != 0 && v3 && (leAt geo 8 4).testBit head && s.get (PSL_STATUS.VERSION n) == 3 &&
    (s.get (PSL_CAP.CAP0 n)).testBit 5 && s.bit (WP_CTRL.VERIFY_EN n)
  let s := (s.set (WP_STATUS.VERIFYING n) (boolNat verify)).set (WP_VERIFY.ACTIVE n) (boolNat verify)
  if verify then
    (((s.set (WP_VERIFY.SYNC_REQUIRED n) (leAt geo 1 1 % 2)).set (WP_VERIFY.C_DELAY n) (leAt geo 2 2)).set
      (WP_VERIFY.SYND_THRESH n) (leAt geo 4 2)).set (DC_CTRL.MODE (fmsDc n 0)) 1
  else s

/-- The assist code applied: CODE + TRIM, clamped (R252). -/
def assistCode (n : Fin 2) (s : State) : Nat :=
  (clampI 0 65535 ((s.get (WP_ASSIST.CODE n) : Int) + toS 8 (s.get (WP_ASSIST.TRIM n)))).toNat

/-- Step 6 of OPEN (R252, R255, R387): HEAD_SEL of each output, then ASSIST and RDW, on the SEL comparator from the earliest
tick it can match. -/
def openFrames (n : Fin 2) (t : List Byte) (s : State) : State :=
  let write := leAt t 0 1 % 4 == 1
  let pair := (leAt t 1 1).testBit 0
  let l0 := leAt t 2 1 % 14
  let l1 := leAt t 3 1 % 14
  let fs := [pslFrame 5 l0 (7 + 8 * boolNat write)] ++ (if pair then [pslFrame 5 (16 + l1) 7] else []) ++
    (if write && s.get (WP_ASSIST.TYPE n) != 0 then [pslFrame 8 l0 (assistCode n s)] else []) ++
    (if write && s.bit (WP_STATUS.VERIFYING n) then [pslFrame 9 0 1] else [])
  (fs.zipIdx).foldl (fun s f => pslLoad n 3 (s.now + 3 + 42 * f.2) f.1 s) s

/-- SEG OPEN (R386, R387): refused with its code, or the program is open with its registers and frames set up. -/
def segOpen (n : Fin 2) (s : State) : State :=
  let a := tpdAddr n s
  let t := s.readBytes a 64
  if s.fms[n].prog.isSome ∨ !tpdReady n s then s.set (FMS_INT.SEQ_ERR n) 1
  else
    match openCheck n t s with
    | .error code => tpdWriteBack n a code 0 (s.set (FMS_INT.REFUSED n) 1)
    | .ok (p0, p1) =>
      let mode := leAt t 0 1 % 4
      let fl := leAt t 1 1
      let s := openChannel n 0 p0 (leAt t 4 4) (leAt t 25 1) (leAt t 38 5) (fl.testBit 3) mode s
      let s := if fl.testBit 0 then openChannel n 1 p1 (leAt t 8 4) (leAt t 26 1) (leAt t 43 5) (fl.testBit 3) mode s else s
      let s := if fl.testBit 2 ∧ mode ≠ 1 then gsrNext (fmsDc n 0) (leAt t 48 5) s else s
      let s := if mode = 1 then openWrite n t p0 s else s
      let s := openFrames n t s
      let s := s.modFms n fun f => { f with prog := some { tpdAddr := a, tpd := t, plan0 := p0, plan1 := p1 } }
      let s := (s.set (FMS_STATUS.ACTIVE n) 1).clearAll [FMS_PROG.PIECE n, FMS_PROG.WEDGE n]
      let s := s.set (FMS_PROG.SLOT n) (leAt t 20 2)
      if mode = 1 ∧ s.get SUP_STATUS.WARN_NOW ≠ 0 then fmsStopCause n s else s

def execMwSegOpen (n : Fin 2) (s : State) : Out :=
  fmsAct n 3 (fun w s => if mwArg w = 0 then segOpen n s else s) s

/-! ### STEP and ABORT -/

/-- A segment of a plan (R131, R132). -/
structure Segment where
  ty : Nat
  last : Bool
  wedge : Nat
  start : Nat
  length : Nat
  slot : Nat
  deriving DecidableEq, Repr

/-- The segments of a plan in the data field after wedge `w`, in order. -/
def fieldSegments (n : Fin 2) (plan w : Nat) (s : State) : List Segment :=
  let base := 8 * s.get (FMS_PLAN_BASE.BASE n)
  let ofs := s.readLE (plan + 24) 4
  ((List.range (s.readLE (plan + 22) 2)).map fun i =>
    let x := s.readLE (base + ofs + 8 * i) 8
    { ty := bits x 61 3, last := x.testBit 60, wedge := bits x 51 9, start := bits x 37 14, length := bits x 24 13,
      slot := bits x 0 11 : Segment }).filter fun g => g.wedge == w

/-- Whether a slot belongs to a program's range (R388). -/
def inRange (t : List Byte) (slot : Nat) : Bool :=
  let a := leAt t 20 2
  let b := leAt t 22 2
  if a ≤ b then decide (a ≤ slot ∧ slot ≤ b) else decide (a ≤ slot ∨ slot ≤ b)

/-- The pieces of a program among the segments of a field, from the first piece of FIRST on where it has not begun. -/
def fieldPieces (t : List Byte) (begun : Bool) (l : List Segment) : List Segment :=
  let first := leAt t 20 2
  let l := if begun then l else l.dropWhile fun g => !(g.ty == 0 && g.slot == first)
  l.filter fun g => decide (g.ty ≤ 1) && inRange t g.slot

/-- The gate frames of a run of pieces: on by the latest tick that gives the lead, off at the first tick at or after the
last bit; runs whose gates would meet are one (R389). Times are in 1/65,536 tk; `bit a` is the time of `a` 1/64 bits. -/
def gateRuns (base lead gateLat : Nat) (bit : Nat → Nat) (s2d : Nat) : List Segment → List (Nat × Nat)
  | [] => []
  | g :: r =>
    let x := base + bit (s2d + 512 * g.start)
    let on := (x - bit (64 * lead) - 26215) / 65536 - 40 - gateLat
    let off := (base + bit (s2d + 512 * (g.start + g.length)) + 65535) / 65536
    match gateRuns base lead gateLat bit s2d r with
    | (on', off') :: q => if on' ≤ off then (on, off') :: q else (on, off) :: (on', off') :: q
    | [] => [(on, off)]

/-- Gate-on and gate-off frames of a field on a comparator. -/
def loadGates (n : Fin 2) (comp : Nat) (on off : Nat) (l : List (Nat × Nat)) (s : State) : State :=
  forEach l (fun g s => pslLoad n comp g.2 off (pslLoad n comp g.1 on s)) s

/-- STEP at the SAM event of wedge w prepares the data field after wedge w + 1 (R389). -/
def segStep (n : Fin 2) (s : State) : State :=
  match s.fms[n].prog with
  | none => s
  | some p =>
    let v := fmsDc n 0
    let d := s.svd[v]
    let w := (d.index + 1) % 512
    let l0 := fieldSegments n p.plan0 w s
    let f0 := fieldPieces p.tpd p.begun l0
    let f1 := if (leAt p.tpd 1 1).testBit 0 then fieldPieces p.tpd p.begun (fieldSegments n p.plan1 w s) else []
    if p.finished ∨ p.stop ∨ (f0.isEmpty ∧ f1.isEmpty) then s
    else
      let mean := svdMean v s
      let base := d.last * 65536 + mean
      let num := max 1 (bpwNum p.plan0 s)
      let bit (a : Nat) : Nat := a * mean * bpwDen n s / (64 * num)
      let lat := bits (s.get (PSL_CAP.CAP1 n)) 0 4
      let write := leAt p.tpd 0 1 % 4 == 1
      let lead (pl : Nat) : Nat := s.readLE (pl + (if write then 34 else 32)) 2
      let head := leAt p.tpd 2 1 % 14
      let g0 := gateRuns base (lead p.plan0) lat bit (s.get (SVD_S2D.SAM_TO_DATA v)) f0
      let g1 := gateRuns base (lead p.plan1) lat bit (s.get (SVD_S2D.SAM_TO_DATA (fmsDc n 1))) f1
      let s := if write then loadGates n 0 (pslFrame 7 head 1) (pslFrame 7 head 0) g0 s
        else loadGates n 1 (pslFrame 6 0 1) (pslFrame 6 0 0) g0 s
      let s := loadGates n 2 (pslFrame 6 1 1) (pslFrame 6 1 0) g1 s
      let done := f0.any fun g => g.slot == leAt p.tpd 22 2 && g.last
      let s := (s.set (FMS_PROG.WEDGE n) w).set (FMS_PROG.SLOT n) (match f0 with | g :: _ => g.slot | [] => s.get (FMS_PROG.SLOT n))
      s.modFms n fun f => { f with prog := some { p with begun := true, finished := done } }

def execMwSegStep (n : Fin 2) (s : State) : Out :=
  fmsAct n 3 (fun w s => if mwArg w = 1 then segStep n s else s) s

def execMwSegAbort (n : Fin 2) (s : State) : Out :=
  fmsAct n 3 (fun w s => if mwArg w = 2 then progAbort n s else s) s

end Sys2Proof.Machine
end

