-- ==== Sys2Proof/Machine/Access.lean ====
section
/-! DEFINITION. Physical accesses of the masters to memory: what an access answers (R35 to R41, R371, R404, R414). Register space
stands in Bus. -/

namespace Sys2Proof.Machine

/-- Bytes read, each with the poison bit of its row. -/
abbrev Marked := List (Byte × Bool)

/-- Quarters of a control store read in order (R371, R373); a failing quarter is a bus error. -/
def storeReadBytes (n : Fin 2) : (k : Nat) → Nat → State → Option (List Byte) × State
  | 0, _, s => (some [], s)
  | k + 1, q, s =>
    if s.variant1408 ∧ n = 1 then
      let (r, s) := storeReadBytes n k (q + 1) s
      (r.map (leBytes 4 0 ++ ·), s)
    else
      let s := storeRead n (q / 4) (q % 4) s
      match s.resp with
      | .data v =>
        let (r, s) := storeReadBytes n k (q + 1) s
        (r.map (leBytes 4 v.toNat ++ ·), s)
      | _ => (none, s)

/-- Quarters of a control store written in order (R371, R372). -/
def storeWriteBytes (n : Fin 2) : (k : Nat) → Nat → List Byte → State → Bool × State
  | 0, _, _, s => (true, s)
  | k + 1, q, l, s =>
    if s.variant1408 ∧ n = 1 then (true, s)
    else
      let s := storeWrite n (q / 4) (q % 4) (BitVec.ofNat 32 (leAt l 0 4)) s
      match s.resp with
      | .ok => storeWriteBytes n k (q + 1) (l.drop 4) s
      | _ => (false, s)

/-- Row by row, the bytes of a protected memory with their poison bits, and whether a row was uncorrectable (R398, R414). -/
def markedRows (req : Nat) : (fuel : Nat) → Addr → Nat → State → Marked × Bool × State
  | 0, _, _, s => ([], false, s)
  | fuel + 1, a, n, s =>
    if n = 0 then ([], false, s)
    else
      let k := min n (8 - a % 8)
      let (v, p, u, s) := rowRead req a s
      let bs := (slice (leBytes 8 v.toNat) (a % 8) k).map fun b => (b, p)
      let (r, u', s) := markedRows req fuel (a + k) (n - k) s
      (bs ++ r, u || u', s)

/-- A physical read of `n` bytes by a master with the REQ code of MEM_UE_INFO. -/
def physRead (m : Master) (req : Nat) (a n : Nat) (s : State) : (Marked × Option AccFail) × State :=
  match accessFail m false a n s with
  | some f => (([], some f), s)
  | none =>
    match regionOf a s with
    | .mem _ =>
      let (l, u, s) := markedRows req (n + 1) a n s
      ((l, if u then some .ue else none), s)
    | .store k =>
      if a % 4 ≠ 0 ∨ n % 4 ≠ 0 then (([], some .bus), s)
      else
        let (r, s) := storeReadBytes k (n / 4) (a % 0x10000 / 4) s
        match r with
        | some l => ((l.map fun b => (b, false), none), s)
        | none => (([], some .bus), s)
    | _ => (((ringBytes a n s).map fun b => (b, false), none), s)

/-- The rows that hold a poisoned byte take P = 1 (R400). -/
def poisonRows (a : Nat) (l : Marked) (s : State) : State :=
  forEach (l.zipIdx.filterMap fun p => if p.1.2 then some (a + p.2) else none)
    (fun x s => s.setRow x { (s.row x) with poison := true }) s

/-- A physical write by a master, each byte with the poison of its source. -/
def physWrite (m : Master) (req : Nat) (a : Nat) (l : Marked) (s : State) : Option AccFail × State :=
  match accessFail m true a l.length s with
  | some f => (some f, s)
  | none =>
    match regionOf a s with
    | .mem _ => (none, poisonRows a l (memWrite req false a (l.map (·.1)) s))
    | .store k =>
      if a % 4 ≠ 0 ∨ l.length % 4 ≠ 0 then (some .bus, s)
      else
        let (ok, s) := storeWriteBytes k (l.length / 4) (a % 0x10000 / 4) (l.map (·.1)) s
        (if ok then none else some .bus, s)
    | _ => (some .region, s)

end Sys2Proof.Machine
end

