-- ==== Sys2Proof/Machine/Crypto.lean ====
section
/-! DEFINITION. The published algorithms that the cipher cluster runs: AES-256 with its modes (R619, R623, R624), SHA-384, the key
derivation of R627, the DRBG of R626 and the ECDSA P-384 verification of R623, R641 and R645. Their definitions come from the
standards that the spec names (FIPS 197, IEEE 1619, SP 800-38A/B/D/F, FIPS 180-4, SP 800-108, SP 800-90A, FIPS 186), PRESUMED. -/

namespace Sys2Proof.Machine

/-! ### AES-256 -/

/-- Multiplication by x in GF(2^8) with x^8 + x^4 + x^3 + x + 1. -/
def xtime (a : Nat) : Nat := if 128 ≤ a then (2 * a % 256) ^^^ 0x1B else 2 * a

/-- The low `k` steps of a product in GF(2^8). -/
def gf8Steps : (k a b : Nat) → Nat
  | 0, _, _ => 0
  | k + 1, a, b => (if b % 2 = 1 then a else 0) ^^^ gf8Steps k (xtime a) (b / 2)

def gf8Mul (a b : Nat) : Nat := gf8Steps 8 a b

/-- The product of a^2, a^4, ..., a^(2^k): the inverse for k = 7. -/
def gf8InvSteps : (k a : Nat) → Nat
  | 0, _ => 1
  | k + 1, a => gf8Mul (gf8Mul a a) (gf8InvSteps k (gf8Mul a a))

def gf8Inv (a : Nat) : Nat := gf8InvSteps 7 a

/-- An 8-bit rotation to the left. -/
def rotl8 (a k : Nat) : Nat := (a * 2 ^ k + a / 2 ^ (8 - k)) % 256

def aesSub (b : Nat) : Nat :=
  let i := gf8Inv b
  i ^^^ rotl8 i 1 ^^^ rotl8 i 2 ^^^ rotl8 i 3 ^^^ rotl8 i 4 ^^^ 0x63

def aesInvSub (b : Nat) : Nat := gf8Inv (rotl8 b 1 ^^^ rotl8 b 3 ^^^ rotl8 b 6 ^^^ 0x05)

def xorNats : List Nat → List Nat → List Nat
  | a :: as, b :: bs => (a ^^^ b) :: xorNats as bs
  | _, _ => []

/-- One word of the key schedule from the eight before it, newest first; `i` is its number. -/
def aesNextWord (i : Nat) (l : List (List Nat)) : List Nat :=
  let prev := l.headD []
  let t := if i % 8 = 0 then
      match (prev.drop 1 ++ prev.take 1).map aesSub with
      | a :: r => (a ^^^ gf8Steps 8 1 (2 ^ (i / 8 - 1))) :: r
      | [] => []
    else if i % 8 = 4 then prev.map aesSub else prev
  xorNats (l.getD 7 []) t

/-- The key schedule, newest word first, grown from word `i` by `k` words. -/
def aesGrow : (k i : Nat) → List (List Nat) → List (List Nat)
  | 0, _, l => l
  | k + 1, i, l => aesGrow k (i + 1) (aesNextWord i l :: l)

/-- A list cut into pieces of `n`, at most `k` of them. -/
def chunks {α : Type} (n : Nat) : (k : Nat) → List α → List (List α)
  | 0, _ => []
  | k + 1, l => if l.isEmpty then [] else l.take n :: chunks n k (l.drop n)

/-- The 15 round keys of a 32-byte key. -/
def aesRoundKeys (key : List Byte) : List (List Nat) :=
  let w := (chunks 4 8 (key.map (·.toNat))).reverse
  (chunks 4 15 (aesGrow 52 8 w).reverse).map List.flatten

def aesShiftRows (b : List Nat) : List Nat := (List.range 16).map fun i => b.getD ((i + 4 * (i % 4)) % 16) 0
def aesInvShiftRows (b : List Nat) : List Nat := (List.range 16).map fun i => b.getD ((i + 12 * (i % 4)) % 16) 0

/-- A column multiplied by the circulant matrix of four coefficients. -/
def aesColumn (m : List Nat) (c : List Nat) : List Nat :=
  (List.range 4).map fun r => (List.range 4).foldl (fun x j => x ^^^ gf8Mul (m.getD ((j + 4 - r) % 4) 0) (c.getD j 0)) 0

def aesMix (m b : List Nat) : List Nat := (chunks 4 4 b).flatMap (aesColumn m)

/-- The rounds of the cipher over the remaining round keys. -/
def aesRounds : List (List Nat) → List Nat → List Nat
  | [], b => b
  | [k], b => xorNats (aesShiftRows (b.map aesSub)) k
  | k :: ks, b => aesRounds ks (xorNats (aesMix [2, 3, 1, 1] (aesShiftRows (b.map aesSub))) k)

/-- The rounds of the inverse cipher over the round keys, last key first. -/
def aesInvRounds : List (List Nat) → List Nat → List Nat
  | [], b => b
  | [k], b => xorNats ((aesInvShiftRows b).map aesInvSub) k
  | k :: ks, b => aesInvRounds ks (aesMix [14, 11, 13, 9] (xorNats ((aesInvShiftRows b).map aesInvSub) k))

def ofNats (l : List Nat) : List Byte := l.map (BitVec.ofNat 8)

/-- One block encrypted under expanded keys. -/
def aesEncWith (ks : List (List Nat)) (b : List Byte) : List Byte :=
  ofNats (aesRounds (ks.drop 1) (xorNats (b.map (·.toNat)) (ks.headD [])))

/-- One block decrypted under expanded keys. -/
def aesDecWith (ks : List (List Nat)) (b : List Byte) : List Byte :=
  let r := ks.reverse
  ofNats (aesInvRounds (r.drop 1) (xorNats (b.map (·.toNat)) (r.headD [])))

def aesEnc (key b : List Byte) : List Byte := aesEncWith (aesRoundKeys key) b
def aesDec (key b : List Byte) : List Byte := aesDecWith (aesRoundKeys key) b

/-! ### Modes -/

/-- Blocks of 16 bytes; the last may be shorter. -/
def blocks16 (l : List Byte) : List (List Byte) := chunks 16 (l.length / 16 + 1) l

def zeros (n : Nat) : List Byte := List.replicate n 0

/-- The tweak of the next block of an XTS data unit: times α in GF(2^128). -/
def xtsNext (t : List Byte) : List Byte :=
  let n := leNat t
  leBytes 16 ((2 * n % 2 ^ 128) ^^^ (if n.testBit 127 then 0x87 else 0))

def xtsRun (f : List Byte → List Byte) : List Byte → List (List Byte) → List Byte
  | _, [] => []
  | t, b :: r => xorBytes (f (xorBytes b t)) t ++ xtsRun f (xtsNext t) r

/-- XTS-AES-256 of whole blocks under a 64-byte key, Key1 then Key2, with the tweak number (R85, R619). -/
def xts (decrypt : Bool) (key : List Byte) (tweak : Nat) (data : List Byte) : List Byte :=
  let k1 := aesRoundKeys (key.take 32)
  let t := aesEnc (key.drop 32) (leBytes 16 tweak)
  xtsRun (if decrypt then aesDecWith k1 else aesEncWith k1) t (blocks16 data)

def cbcEnc (ks : List (List Nat)) : List Byte → List (List Byte) → List Byte
  | _, [] => []
  | iv, b :: r =>
    let c := aesEncWith ks (xorBytes b iv)
    c ++ cbcEnc ks c r

def cbcDec (ks : List (List Nat)) : List Byte → List (List Byte) → List Byte
  | _, [] => []
  | iv, b :: r => xorBytes (aesDecWith ks b) iv ++ cbcDec ks b r

/-- The counter stream: each block XORed with the encrypted counter, which then grows by one in its low `w` bytes. -/
def ctrRun (ks : List (List Nat)) (w : Nat) : List Byte → List (List Byte) → List Byte
  | _, [] => []
  | c, b :: r =>
    let next := c.take (16 - w) ++ beBytes w (beNat (c.drop (16 - w)) + 1)
    (xorBytes b (aesEncWith ks c)).take b.length ++ ctrRun ks w next r

/-- AES-CTR with a 128-bit big-endian counter (R625). -/
def aesCtr (key iv data : List Byte) : List Byte := ctrRun (aesRoundKeys key) 16 iv (blocks16 data)

/-- The bits of a product in the field of GCM, bit 127 first; `v` is the running multiple. -/
def ghashMul : (k x v z : Nat) → Nat
  | 0, _, _, z => z
  | k + 1, x, v, z =>
    ghashMul k x (if v % 2 = 1 then (v / 2) ^^^ (0xE1 * 2 ^ 120) else v / 2) (if x.testBit k then z ^^^ v else z)

def ghash (h : Nat) (l : List (List Byte)) : Nat :=
  l.foldl (fun y b => ghashMul 128 (y ^^^ beNat (b ++ zeros (16 - b.length))) h 0) 0

/-- AES-GCM with a 96-bit IV: the output text and the full tag. `decrypt` hashes the input, otherwise the output. -/
def aesGcm (decrypt : Bool) (key iv aad text : List Byte) : List Byte × List Byte :=
  let ks := aesRoundKeys key
  let h := beNat (aesEncWith ks (zeros 16))
  let j0 := iv.take 12 ++ beBytes 4 1
  let out := ctrRun ks 4 (iv.take 12 ++ beBytes 4 2) (blocks16 text)
  let c := if decrypt then text else out
  let s := ghash h (blocks16 aad ++ blocks16 c ++ [beBytes 8 (8 * aad.length) ++ beBytes 8 (8 * c.length)])
  (out, xorBytes (beBytes 16 s) (aesEncWith ks j0))

/-- A subkey of CMAC. -/
def cmacDouble (l : List Byte) : List Byte :=
  let n := beNat l
  beBytes 16 ((2 * n % 2 ^ 128) ^^^ (if n.testBit 127 then 0x87 else 0))

/-- AES-CMAC. -/
def aesCmac (key msg : List Byte) : List Byte :=
  let ks := aesRoundKeys key
  let k1 := cmacDouble (aesEncWith ks (zeros 16))
  let bs := blocks16 msg
  let last := bs.getLastD []
  let m := if last.length = 16 then xorBytes last k1
    else xorBytes (last ++ [0x80] ++ zeros (15 - last.length)) (cmacDouble k1)
  aesEncWith ks (xorBytes m (bs.dropLast.foldl (fun c b => aesEncWith ks (xorBytes c b)) (zeros 16)))

/-- The KDF in counter mode with AES-256-CMAC: `n` bytes for a label and a context (R627). The widths of counter and length, 32
bits each, are the standard's usual ones. -/
def kdfCmac (key : List Byte) (label context : List Byte) (n : Nat) : List Byte :=
  ((List.range ((n + 15) / 16)).flatMap fun i =>
    aesCmac key (beBytes 4 (i + 1) ++ label ++ [0x00] ++ context ++ beBytes 4 (8 * n))).take n

/-- One wrapping step of SP 800-38F over the semiblocks: number `t`, the running A, the semiblocks behind it. -/
def kwSteps (ks : List (List Nat)) : (k t : Nat) → List Byte → List (List Byte) → List Byte × List (List Byte)
  | 0, _, a, r => (a, r)
  | k + 1, t, a, r =>
    let b := aesEncWith ks (a ++ r.headD [])
    kwSteps ks k (t + 1) (beBytes 8 (beNat (b.take 8) ^^^ t)) (r.drop 1 ++ [b.drop 8])

def kwInvSteps (ks : List (List Nat)) : (k : Nat) → List Byte → List (List Byte) → List Byte × List (List Byte)
  | 0, a, r => (a, r)
  | k + 1, a, r =>
    let b := aesDecWith ks (beBytes 8 (beNat a ^^^ (k + 1)) ++ r.getLastD [])
    kwInvSteps ks k (b.take 8) (b.drop 8 :: r.dropLast)

/-- AES-KWP wrap. -/
def kwpWrap (key data : List Byte) : List Byte :=
  let ks := aesRoundKeys key
  let pad := data ++ zeros ((8 - data.length % 8) % 8)
  let a := [0xA6, 0x59, 0x59, 0xA6] ++ beBytes 4 data.length
  if pad.length ≤ 8 then aesEncWith ks (a ++ pad)
  else
    let r := chunks 8 (pad.length / 8) pad
    let (a, r) := kwSteps ks (6 * r.length) 1 a r
    a ++ r.flatten

/-- AES-KWP unwrap, or none where the integrity check fails. -/
def kwpUnwrap (key data : List Byte) : Option (List Byte) :=
  let ks := aesRoundKeys key
  let (a, p) := if data.length = 16 then
      let b := aesDecWith ks data
      (b.take 8, b.drop 8)
    else
      let r := chunks 8 (data.length / 8) (data.drop 8)
      let (a, r) := kwInvSteps ks (6 * r.length) (data.take 8) r
      (a, r.flatten)
  let n := beNat (a.drop 4)
  if a.take 4 = [0xA6, 0x59, 0x59, 0xA6] ∧ n ≤ p.length ∧ p.length < n + 8 ∧ (p.drop n).all (· == 0) then some (p.take n) else none

/-! ### SHA-384 -/

def sha64 : Nat := 2 ^ 64
def rotr64 (x k : Nat) : Nat := (x / 2 ^ k + x * 2 ^ (64 - k)) % sha64

/-- The 80 round constants. -/
def shaK : List Nat :=
  [0x428A2F98D728AE22, 0x7137449123EF65CD, 0xB5C0FBCFEC4D3B2F, 0xE9B5DBA58189DBBC] ++
  [0x3956C25BF348B538, 0x59F111F1B605D019, 0x923F82A4AF194F9B, 0xAB1C5ED5DA6D8118] ++
  [0xD807AA98A3030242, 0x12835B0145706FBE, 0x243185BE4EE4B28C, 0x550C7DC3D5FFB4E2] ++
  [0x72BE5D74F27B896F, 0x80DEB1FE3B1696B1, 0x9BDC06A725C71235, 0xC19BF174CF692694] ++
  [0xE49B69C19EF14AD2, 0xEFBE4786384F25E3, 0x0FC19DC68B8CD5B5, 0x240CA1CC77AC9C65] ++
  [0x2DE92C6F592B0275, 0x4A7484AA6EA6E483, 0x5CB0A9DCBD41FBD4, 0x76F988DA831153B5] ++
  [0x983E5152EE66DFAB, 0xA831C66D2DB43210, 0xB00327C898FB213F, 0xBF597FC7BEEF0EE4] ++
  [0xC6E00BF33DA88FC2, 0xD5A79147930AA725, 0x06CA6351E003826F, 0x142929670A0E6E70] ++
  [0x27B70A8546D22FFC, 0x2E1B21385C26C926, 0x4D2C6DFC5AC42AED, 0x53380D139D95B3DF] ++
  [0x650A73548BAF63DE, 0x766A0ABB3C77B2A8, 0x81C2C92E47EDAEE6, 0x92722C851482353B] ++
  [0xA2BFE8A14CF10364, 0xA81A664BBC423001, 0xC24B8B70D0F89791, 0xC76C51A30654BE30] ++
  [0xD192E819D6EF5218, 0xD69906245565A910, 0xF40E35855771202A, 0x106AA07032BBD1B8] ++
  [0x19A4C116B8D2D0C8, 0x1E376C085141AB53, 0x2748774CDF8EEB99, 0x34B0BCB5E19B48A8] ++
  [0x391C0CB3C5C95A63, 0x4ED8AA4AE3418ACB, 0x5B9CCA4F7763E373, 0x682E6FF3D6B2B8A3] ++
  [0x748F82EE5DEFB2FC, 0x78A5636F43172F60, 0x84C87814A1F0AB72, 0x8CC702081A6439EC] ++
  [0x90BEFFFA23631E28, 0xA4506CEBDE82BDE9, 0xBEF9A3F7B2C67915, 0xC67178F2E372532B] ++
  [0xCA273ECEEA26619C, 0xD186B8C721C0C207, 0xEADA7DD6CDE0EB1E, 0xF57D4F7FEE6ED178] ++
  [0x06F067AA72176FBA, 0x0A637DC5A2C898A6, 0x113F9804BEF90DAE, 0x1B710B35131C471B] ++
  [0x28DB77F523047D84, 0x32CAAB7B40C72493, 0x3C9EBE0A15C9BEBC, 0x431D67C49C100D4C] ++
  [0x4CC5D4BECB3E42B6, 0x597F299CFC657E2A, 0x5FCB6FAB3AD6FAEC, 0x6C44198C4A475817]

/-- The initial hash value of SHA-384. -/
def shaInit : List Nat :=
  [0xCBBB9D5DC1059ED8, 0x629A292A367CD507, 0x9159015A3070DD17, 0x152FECD8F70E5939, 0x67332667FFC00B31, 0x8EB44A8768581511, 0xDB0C2E0D64F98FA7, 0x47B5481DBEFA4FA4]

/-- The message schedule, newest word first, grown by `k` words. -/
def shaGrow : (k : Nat) → List Nat → List Nat
  | 0, l => l
  | k + 1, l =>
    let x := l.getD 1 0
    let y := l.getD 14 0
    let s1 := rotr64 x 19 ^^^ rotr64 x 61 ^^^ x / 2 ^ 6
    let s0 := rotr64 y 1 ^^^ rotr64 y 8 ^^^ y / 2 ^ 7
    shaGrow k ((s1 + l.getD 6 0 + s0 + l.getD 15 0) % sha64 :: l)

def shaRound (h : List Nat) (kw : Nat × Nat) : List Nat :=
  match h with
  | [a, b, c, d, e, f, g, i] =>
    let t1 := i + (rotr64 e 14 ^^^ rotr64 e 18 ^^^ rotr64 e 41) + ((e &&& f) ^^^ ((sha64 - 1 - e) &&& g)) + kw.1 + kw.2
    let t2 := (rotr64 a 28 ^^^ rotr64 a 34 ^^^ rotr64 a 39) + ((a &&& b) ^^^ (a &&& c) ^^^ (b &&& c))
    [(t1 + t2) % sha64, a, b, c, (d + t1) % sha64, e, f, g]
  | _ => h

def shaBlock (h : List Nat) (block : List Byte) : List Nat :=
  let w := (shaGrow 64 ((chunks 8 16 block).map beNat).reverse).reverse
  (h.zip ((shaK.zip w).foldl shaRound h)).map fun p => (p.1 + p.2) % sha64

/-- SHA-384 of a message: 48 bytes. -/
def sha384 (msg : List Byte) : List Byte :=
  let pad := msg ++ [0x80] ++ zeros ((239 - msg.length % 128) % 128) ++ beBytes 16 (8 * msg.length)
  (((chunks 128 (pad.length / 128) pad).foldl shaBlock shaInit).take 6).flatMap (beBytes 8)

/-! ### ECDSA P-384 -/

def ecP : Nat := 2 ^ 384 - 2 ^ 128 - 2 ^ 96 + 2 ^ 32 - 1
def ecN : Nat := 0xFFFFFFFFFFFFFFFFFFFFFFFFFFFFFFFFFFFFFFFFFFFFFFFFC7634D81F4372DDF581A0DB248B0A77AECEC196ACCC52973
def ecB : Nat := 0xB3312FA7E23EE7E4988E056BE3F82D19181D9C6EFE8141120314088F5013875AC656398D8A2ED19D2A85C8EDD3EC2AEF
def ecG : Nat × Nat :=
  (0xAA87CA22BE8B05378EB1C71EF320AD746E1D3B628BA79B9859F741E082542A385502F25DBF55296C3A545E3872760AB7,
   0x3617DE4A96262C6F5D9E98BF9292DC29F8F41DBD289A147CE9DA3113B5F0B8C00A60B1CE1D7E819D7A431D7C90EA0E5F)

/-- `b` to the power given by the low `k` bits of `e`, modulo `m`. -/
def powMod (m : Nat) : (k b e : Nat) → Nat
  | 0, _, _ => 1
  | k + 1, b, e => (if e % 2 = 1 then b else 1) * powMod m k (b * b % m) (e / 2) % m

/-- The inverse modulo a prime. -/
def invMod (m a : Nat) : Nat := powMod m 384 (a % m) (m - 2)

def subMod (m a b : Nat) : Nat := (a + m - b % m) % m

/-- A point of the curve; none is the point at infinity. -/
abbrev EcPoint := Option (Nat × Nat)

def ecAdd (p q : EcPoint) : EcPoint :=
  match p, q with
  | none, q => q
  | p, none => p
  | some (x1, y1), some (x2, y2) =>
    if x1 = x2 ∧ (y1 + y2) % ecP = 0 then none
    else
      let l := if x1 = x2 then (3 * x1 * x1 + ecP - 3) * invMod ecP (2 * y1) % ecP
        else subMod ecP y2 y1 * invMod ecP (subMod ecP x2 x1) % ecP
      let x3 := subMod ecP (l * l) (x1 + x2)
      some (x3, subMod ecP (l * subMod ecP x1 x3) y1)

/-- The multiple of a point by the low `k` bits of `e`. -/
def ecMul : (k : Nat) → EcPoint → Nat → EcPoint
  | 0, _, _ => none
  | k + 1, p, e => ecAdd (if e % 2 = 1 then p else none) (ecMul k (ecAdd p p) (e / 2))

/-- Whether a public key, x then y, is on the curve. -/
def ecOnCurve (x y : Nat) : Bool :=
  decide (x < ecP ∧ y < ecP) && y * y % ecP == (x * x * x + (ecP - 3) * x + ecB) % ecP

/-- ECDSA P-384 verification of a digest: public key x then y, signature r then s, big-endian (R622). -/
def ecdsaVerify (pub sig digest : List Byte) : Bool :=
  let x := beNat (pub.take 48)
  let y := beNat (slice pub 48 48)
  let r := beNat (sig.take 48)
  let s := beNat (slice sig 48 48)
  if !ecOnCurve x y || r == 0 || decide (ecN ≤ r) || s == 0 || decide (ecN ≤ s) then false
  else
    let w := invMod ecN s
    let u1 := beNat digest * w % ecN
    let u2 := r * w % ecN
    match ecAdd (ecMul 384 (some ecG) u1) (ecMul 384 (some (x, y)) u2) with
    | none => false
    | some (px, _) => px % ecN == r

/-! ### CTR_DRBG with AES-256 and the derivation function -/

/-- `k` counter blocks encrypted from V on, and the last V. -/
def drbgBlocks (ks : List (List Nat)) : (k : Nat) → List Byte → List Byte × List Byte
  | 0, v => ([], v)
  | k + 1, v =>
    let v := beBytes 16 (beNat v + 1)
    let (out, w) := drbgBlocks ks k v
    (aesEncWith ks v ++ out, w)

/-- The update of key and V with 48 bytes. -/
def drbgUpdate (d : Drbg) (data : List Byte) : Drbg :=
  let t := xorBytes (drbgBlocks (aesRoundKeys d.key) 3 d.v).1 data
  { d with key := t.take 32, v := slice t 32 16 }

/-- The derivation function: 48 bytes from an input. -/
def drbgDf (input : List Byte) : List Byte :=
  let s := beBytes 4 input.length ++ beBytes 4 48 ++ input ++ [0x80]
  let s := s ++ zeros ((16 - s.length % 16) % 16)
  let k0 := aesRoundKeys (leBytes 32 0 |>.zipIdx |>.map fun p => BitVec.ofNat 8 p.2)
  let bcc (i : Nat) : List Byte :=
    (blocks16 (beBytes 4 i ++ zeros 12 ++ s)).foldl (fun c b => aesEncWith k0 (xorBytes c b)) (zeros 16)
  let t := bcc 0 ++ bcc 1 ++ bcc 2
  let ks := aesRoundKeys (t.take 32)
  let x1 := aesEncWith ks (slice t 32 16)
  let x2 := aesEncWith ks x1
  x1 ++ x2 ++ aesEncWith ks x2

/-- Instantiation from entropy. -/
def drbgInit (entropy : List Byte) : Drbg :=
  { drbgUpdate { key := zeros 32, v := zeros 16 } (drbgDf entropy) with count := 1 }

/-- A reseed. -/
def drbgReseed (d : Drbg) (entropy : List Byte) : Drbg := { drbgUpdate d (drbgDf entropy) with count := 1 }

/-- One generate request: `n` bytes, also from a generator that was never seeded. -/
def drbgGenerate (d : Drbg) (n : Nat) : List Byte × Drbg :=
  let (out, v) := drbgBlocks (aesRoundKeys d.key) ((n + 15) / 16) d.v
  ((out ++ zeros n).take n, { drbgUpdate { d with v := v } (zeros 48) with count := d.count + 1 })

end Sys2Proof.Machine
end

