-- ==== Sys2Proof/Machine/Dma.lean ====
section
/-! DEFINITION. The DMA engine: channels, descriptors and lists, translation, bursts, streams, faults and the host pause (R486 to
R511). -/

namespace Sys2Proof.Machine

def State.modDma (s : State) (f : DmaUnit → DmaUnit) : State := { s with dma := f s.dma }

def State.modCh (s : State) (k : Fin 32) (f : DmaChan → DmaChan) : State :=
  s.modDma fun d => { d with chan := d.chan.set k (f d.chan[k]) }

/-- The class of a channel: 0 host, 1 media, 2 cipher, 3 general (R486). -/
def dmaClass (k : Fin 32) : Nat := k.val / 8

/-- The registers that show the states of the channels (R487, R511). -/
def dmaShow (k : Fin 32) (s : State) : State :=
  let st := if s.bit DMA_CTRL.ENABLE then s.dma.chan[k].st else 0
  let s := s.set (DMA_CH_STATUS.STATE k) st
  let s := s.set DMA_ACTIVE.RUNNING (setBits (s.get DMA_ACTIVE.RUNNING) k 1 (boolNat (st == 2)))
  s.set DMA_FAULTSUM.FAULTED (setBits (s.get DMA_FAULTSUM.FAULTED) k 1 (boolNat (st == 5)))

/-- A channel enters a state. -/
def dmaSt (k : Fin 32) (st : Nat) (s : State) : State := dmaShow k (s.modCh k fun c => { c with st := st })

/-- A channel goes to RUNNING, or to PAUSED while a cause of R487 holds. -/
def dmaRun (k : Fin 32) (s : State) : State :=
  dmaSt k (if s.bit (DMA_CH_CTRL.PAUSE k) || (dmaClass k == 0 && s.bit DMA_HOST.BME_OFF) then 4 else 2) s

/-- The ring's size (R489, R511). -/
def dmaRing (k : Fin 32) (s : State) : Nat :=
  let l := s.get (DMA_CH_RING_PTR.SIZE_LOG2 k)
  2 ^ (if 4 ≤ l ∧ l ≤ 12 then l else 4)

/-- Whether HEAD differs from TAIL. -/
def dmaPosted (k : Fin 32) (s : State) : Bool :=
  s.get (DMA_CH_RING_PTR.HEAD k) % dmaRing k s != s.get (DMA_CH_RING_PTR.TAIL k) % dmaRing k s

/-- Between descriptors: STOPPED where ENABLE is 0, RUNNING where descriptors are posted, otherwise IDLE (R487, R489, R508). -/
def dmaNext (k : Fin 32) (s : State) : State :=
  if !s.bit (DMA_CH_CTRL.ENABLE k) then dmaSt k 0 s
  else if dmaPosted k s && !s.dma.chan[k].asleep && !(dmaClass k == 0 && s.bit DMA_HOST.BME_OFF) then dmaRun k s
  else dmaSt k 1 s

/-- The fault record is cleared (R503). -/
def dmaClear (k : Fin 32) (s : State) : State :=
  (s.clearAll [DMA_CH_FAULT.KIND k, DMA_CH_FAULT.SOURCE k, DMA_CH_FAULT.VALID k, DMA_CH_FAULT.HOP k, DMA_CH_FAULT.ELEM k,
    DMA_CH_FAULT_ADDR.ADDR k, DMA_CH_FAULT_ADDR_H.ADDR_H k, DMA_CH_FAULT_ADDR_H.TRIES k, DMA_CH_FAULT_DONE.BYTES_DONE k,
    DMA_CH_FAULT_ELEM.ELEM_BYTES k]).modCh k fun c => { c with site := none }

/-- A fault fills its record, and the channel enters FAULTED (R502). -/
def dmaFault (k : Fin 32) (e : DmaErr) (site : DmaSite) (elem hop done moved : Nat) (s : State) : State :=
  let s := ((((s.set (DMA_CH_FAULT.KIND k) e.kind).set (DMA_CH_FAULT.SOURCE k) e.source).set (DMA_CH_FAULT.VALID k) 1).set
    (DMA_CH_FAULT.HOP k) hop).set (DMA_CH_FAULT.ELEM k) elem
  let s := ((s.set (DMA_CH_FAULT_ADDR.ADDR k) e.addr).set (DMA_CH_FAULT_ADDR_H.ADDR_H k) (e.addr / 2 ^ 40)).set
    (DMA_CH_FAULT_ADDR_H.TRIES k) e.tries
  let s := (s.set (DMA_CH_FAULT_DONE.BYTES_DONE k) done).set (DMA_CH_FAULT_ELEM.ELEM_BYTES k) moved
  let s := (s.set (DMA_CH_INT.FAULT k) 1).bump (DMA_CH_CNT.FAULTS k)
  (dmaSt k 5 (s.modCh k fun c => { c with site := some site })).raise (96 + dmaClass k)

/-- A page-table entry read directly from memory (R449, R498). -/
def dmaTable (a : Addr) (s : State) : Option (BitVec 40) × State :=
  if !tableRegion a s then (none, s)
  else
    match physRead .dma 3 a 8 s with
    | ((l, none), s) => (some (BitVec.ofNat 40 (leNat (l.map (·.1)))), s)
    | ((_, some _), s) => (none, s)

/-- The translation of a local address (R497, R498). A failing table read is SOURCE 101b; any other failure names the access that
needed the walk. -/
def dmaXlat (k : Fin 32) (write : Bool) (src va : Nat) (s : State) : Except DmaErr Nat × State :=
  if !s.bit (DMA_CH_CFG.XLAT_EN k) then (.ok va, s)
  else
    let asid := s.get (DMA_CH_CFG.ASID k)
    let fits (x : Xlat) : Bool := x.covers asid va && pteR x.leaf && (!write || pteW x.leaf)
    match s.dma.xlat.find? fits with
    | some x => (.ok (leafAddr x.leaf x.big va), s)
    | none =>
      let s := s.bump DMA_XLAT_CNT.WALKS
      match walk dmaTable (4096 * s.get (DMA_CH_PTBASE.ADDR k)) (s.get (DMA_CH_PTBASE.L1LOG k)) va s with
      | (.leaf e big, s) =>
        if pteR e && (!write || pteW e) then
          (.ok (leafAddr e big va), s.modDma fun d =>
            { d with xlat := xlatAdd 256 d.xlat { asid := asid, vpn := va / 4096, big := big, leaf := e } })
        else (.error { kind := 0x10, source := src, addr := va }, s.bump DMA_XLAT_CNT.FAULTS)
      | (.fault r _, s) =>
        (.error { kind := 0x10, source := if r = 5 then 5 else src, addr := va }, s.bump DMA_XLAT_CNT.FAULTS)

/-- The failure of an access as R501 names it; a bus error has been retried as often as the channel allows. -/
def dmaErr (k : Fin 32) (src va pa n : Nat) (f : AccFail) (s : State) : DmaErr :=
  let store := decide (pa < mramBase + 0x40000 ∧ mramBase + 0x10000 < pa + n)
  match f with
  | .ue => { kind := 0x13, source := src, addr := va }
  | .bus => if store then { kind := 0x16, source := src, addr := va }
      else { kind := 0x11, source := src, addr := va, tries := s.get (DMA_CH_CFG.RETRY k) }
  | _ => { kind := 0x16, source := src, addr := va }

/-- A local read, page by page. -/
def dmaReadPages (k : Fin 32) (src : Nat) : List (Nat × Nat) → State → Except DmaErr Marked × State
  | [], s => (.ok [], s)
  | p :: rest, s =>
    match dmaXlat k false src p.1 s with
    | (.error e, s) => (.error e, s)
    | (.ok a, s) =>
      match physRead .dma 3 a p.2 s with
      | ((_, some f), s) => (.error (dmaErr k src p.1 a p.2 f s), s)
      | ((l, none), s) =>
        match dmaReadPages k src rest s with
        | (.ok m, s) => (.ok (l ++ m), s)
        | r => r

def dmaRead (k : Fin 32) (src va n : Nat) (s : State) : Except DmaErr Marked × State := dmaReadPages k src (pagesOf va n) s

/-- A local write, page by page: the failure that stops it with the bytes written before. -/
def dmaWritePages (k : Fin 32) (src : Nat) : List (Nat × Nat) → Marked → Nat → State → Option (DmaErr × Nat) × State
  | [], _, _, s => (none, s)
  | p :: rest, l, n, s =>
    match dmaXlat k true src p.1 s with
    | (.error e, s) => (some (e, n), s)
    | (.ok a, s) =>
      match physWrite .dma 3 a (l.take p.2) s with
      | (some f, s) => (some (dmaErr k src p.1 a p.2 f s, n), s)
      | (none, s) => dmaWritePages k src rest (l.drop p.2) (n + p.2) s

def dmaWrite (k : Fin 32) (src va : Nat) (l : Marked) (s : State) : Option (DmaErr × Nat) × State :=
  dmaWritePages k src (pagesOf va l.length) l 0 s

/-- The data elements of a list from its element at `list` on, with `left` elements to read after `hop` hops and `total` bytes so far
(R492, R493). -/
def dmaGather (k : Fin 32) : (fuel list left hop total : Nat) → State → (List DmaElem × DmaTail) × State
  | 0, list, left, hop, _, s => (([], .bad { kind := 0x14, source := 3, addr := list } list left hop), s)
  | fuel + 1, list, left, hop, total, s =>
    if left = 0 then (([], .fin), s)
    else
      match dmaRead k 3 list 16 s with
      | (.error e, s) => (([], .bad e list left hop), s)
      | (.ok m, s) =>
        let b := m.map (·.1)
        let a := leAt b 0 8
        let n := leAt b 8 3
        let bad (kind : Nat) : (List DmaElem × DmaTail) × State :=
          (([], .bad { kind := kind, source := 3, addr := list } list left hop), s)
        if leAt b 12 4 ≠ 0 ∨ 1 < leAt b 11 1 then bad 0x15
        else if leAt b 11 1 = 1 then
          if left ≠ 1 ∨ a % 16 ≠ 0 ∨ 2 ^ 40 ≤ a ∨ n = 0 ∨ 16 < n then bad 0x15
          else if hop = 64 then bad 0x14
          else dmaGather k fuel a n (hop + 1) total s
        else if n = 0 ∨ (dmaClass k ≠ 0 ∧ 2 ^ 40 ≤ a) ∨ 16777215 < total + n then bad 0x15
        else
          let ((l, t), s) := dmaGather k fuel (list + 16) (left - 1) hop (total + n) s
          (({ addr := a, len := n, hop := hop } :: l, t), s)

/-- The fields of a descriptor (R488). -/
def DmaDesc.ctl (d : DmaDesc) : Nat := leAt d.raw 0 1
def DmaDesc.dir (d : DmaDesc) : Bool := (leAt d.raw 0 1).testBit 5
def DmaDesc.xts (d : DmaDesc) : Bool := (leAt d.raw 0 1).testBit 4
def DmaDesc.decrypt (d : DmaDesc) : Bool := (leAt d.raw 0 1).testBit 3
def DmaDesc.stream (d : DmaDesc) : Bool := leAt d.raw 0 1 % 8 == 1
def DmaDesc.key (d : DmaDesc) : Nat := leAt d.raw 3 1
def DmaDesc.localAddr (d : DmaDesc) : Nat := leAt d.raw 4 5
def DmaDesc.total (d : DmaDesc) : Nat := (d.elems.map (·.len)).sum

/-- The checks of R490 on the 32 bytes of a descriptor. -/
def descBad (cls : Nat) (r : List Byte) : Bool :=
  let c := leAt r 0 1
  let n := leAt r 1 1
  let xts := c.testBit 4
  1 < c % 8 || 64 ≤ leAt r 25 1 || n == 0 || 16 < n || leAt r 9 5 % 16 != 0 || (xts && (cls == 0 || cls == 3)) ||
    (xts && leAt r 3 1 == 0xFF) || (c % 8 == 1 && cls != 1)

/-- Whether the slot of a key serves XTS in a direction: it holds a key, its range is not locked for it, and the cluster is ready
(R507, R620, R637). -/
def cipKey (slot : Nat) (decrypt : Bool) (s : State) : Option (List Byte) :=
  if !s.bit CIP_STATUS.READY || s.bit CIP_STATUS.SELFTEST then none
  else if (s.get (if decrypt then CIP_RLOCK.LOCKED else CIP_WLOCK.LOCKED)).testBit slot then none
  else s.cip.slots.toList.getD slot none

/-- The direction of a descriptor's XTS: stream out encrypts, stream in decrypts, DECRYPT decides elsewhere (R619). -/
def DmaDesc.xtsDecrypt (d : DmaDesc) : Bool := if d.stream then d.dir else d.decrypt

/-- A descriptor with XTS enters HELD where its key is not ready, or faults where the cluster is in its error state (R507). -/
def dmaCipher (k : Fin 32) (d : DmaDesc) (s : State) : State :=
  if !d.xts then s
  else if s.bit CIP_STATUS.ERROR then dmaFault k { kind := 0x17, source := 6, addr := d.localAddr } .element d.ord d.hops d.done d.cur s
  else if (cipKey d.key d.xtsDecrypt s).isSome then s
  else (dmaSt k 3 s).set (DMA_CH_INT.HELD k) 1

/-- A channel fetches the descriptor at HEAD with its lists and checks it (R489, R490, R507). -/
def dmaFetch (k : Fin 32) (s : State) : State :=
  let a := 32 * s.get (DMA_CH_RING_BASE.BASE k) + 32 * (s.get (DMA_CH_RING_PTR.HEAD k) % dmaRing k s)
  match dmaRead k 2 a 32 s with
  | (.error e, s) => dmaFault k e .fetch 0 0 0 0 s
  | (.ok m, s) =>
    let raw := m.map (·.1)
    if leAt raw 0 1 < 128 then
      dmaNext k (((s.set (DMA_CH_STATUS.NOT_OWNED k) 1).set (DMA_CH_INT.NOT_OWNED k) 1).modCh k fun c => { c with asleep := true })
    else if descBad (dmaClass k) raw then
      dmaFault k { kind := 0x15, source := 2, addr := a } .refetch 0 0 0 0 (s.modCh k fun c => { c with desc := some ⟨a, raw, [], .fin, 1, 0, 0, 0, none⟩ })
    else
      let ((l, t), s) := dmaGather k 1120 (leAt raw 9 5) (leAt raw 1 1) 0 0 s
      let d : DmaDesc := { addr := a, raw := raw, elems := l, tail := t, hops := match l with | x :: _ => x.hop | [] => 0 }
      let s := s.modCh k fun c => { c with desc := some d }
      let whole := d.stream || d.xts
      match whole, t with
      | true, .bad e _ _ hop => dmaFault k e .refetch (l.length + 1) hop 0 0 s
      | true, .fin =>
        if d.total ≠ 4096 then dmaFault k { kind := 0x15, source := 2, addr := a } .refetch 0 0 0 0 s
        else dmaCipher k d (s.set (DMA_CH_STATUS.ELEM k) 1)
      | false, _ => (s.set (DMA_CH_STATUS.ELEM k) 1).set (DMA_CH_STATUS.HOP k) d.hops

/-- Whether a channel acts now in RUNNING. -/
def dmaActs (k : Fin 32) (s : State) : Bool := s.power.core && s.bit DMA_CTRL.ENABLE && s.dma.chan[k].st == 2

def execDmaDescriptorFetch (k : Fin 32) (s : State) : Out :=
  .next (if !dmaActs k s || s.dma.chan[k].desc.isSome then s
    else if !dmaPosted k s then dmaNext k s else dmaFetch k s)

/-- A descriptor's data is moved: what the write-back will say (R491). -/
def dmaFinish (k : Fin 32) (status done : Nat) (s : State) : State :=
  s.modCh k fun c => { c with desc := c.desc.map fun d => { d with finish := some (status, done) } }

/-- A descriptor in progress replaced. -/
def dmaDesc (k : Fin 32) (d : DmaDesc) (s : State) : State :=
  ((s.modCh k fun c => { c with desc := some d }).set (DMA_CH_STATUS.ELEM k) d.ord).set (DMA_CH_STATUS.HOP k) d.hops

/-- `n` more bytes of the current element are moved. -/
def dmaAdvance (k : Fin 32) (n : Nat) (d : DmaDesc) (s : State) : State :=
  match d.elems with
  | [] => s
  | e :: rest =>
    if d.cur + n < e.len then dmaDesc k { d with cur := d.cur + n } s
    else dmaDesc k { d with elems := rest, ord := d.ord + 1, cur := 0, done := d.done + e.len,
                            hops := match rest with | x :: _ => x.hop | [] => d.hops } s

/-- A request or message toward the host brings the link back from an ASPM state (R524). -/
def linkWake (s : State) : State :=
  let st := s.get PCE_STATUS.LINK_STATE
  if 5 ≤ st ∧ st ≤ 8 then s.set PCE_STATUS.LINK_STATE 3 else s

/-- A posted write to host memory: one TLP, poisoned where a row of its data is (R491, R530). -/
def hostWrite (a : Nat) (l : Marked) (s : State) : State :=
  let s := linkWake s
  { s with hostOut := s.hostOut ++ [{ addr := a, data := l.map (·.1), poison := l.any (·.2) }] }

/-- The bytes of host channels count for the load of R358. -/
def hostMoved (n : Nat) (s : State) : State := s.modSpm fun p => { p with movedNow := p.movedNow + n }

/-- The element and the bytes moved in it at `off` bytes into a sequence of elements: ordinal, bytes of earlier elements, bytes in it,
its hop. -/
def elemAt : List DmaElem → (off ord done : Nat) → Nat × Nat × Nat × Nat
  | [], off, ord, done => (ord, done, off, 0)
  | [e], off, ord, done => (ord, done, off, e.hop)
  | e :: r, off, ord, done => if off < e.len then (ord, done, off, e.hop) else elemAt r (off - e.len) (ord + 1) (done + e.len)

/-- The bytes of a list of elements read in order, or the failure with the offset of the element's access. -/
def readElems (k : Fin 32) : List DmaElem → Nat → State → Except (DmaErr × Nat) Marked × State
  | [], _, s => (.ok [], s)
  | e :: r, off, s =>
    match dmaRead k 0 e.addr e.len s with
    | (.error x, s) => (.error (x, off), s)
    | (.ok m, s) =>
      match readElems k r (off + e.len) s with
      | (.ok n, s) => (.ok (m ++ n), s)
      | x => x

/-- Bytes written to a list of elements in order, or the failure with the offset reached. -/
def writeElems (k : Fin 32) : List DmaElem → Marked → Nat → State → Option (DmaErr × Nat) × State
  | [], _, _, s => (none, s)
  | e :: r, l, off, s =>
    match dmaWrite k 1 e.addr (l.take e.len) s with
    | (some (x, n), s) => (some (x, off + n), s)
    | (none, s) => writeElems k r (l.drop e.len) (off + e.len) s

/-- A fault at an offset into the elements of a descriptor that moves as a whole. -/
def dmaFaultAt (k : Fin 32) (d : DmaDesc) (e : DmaErr) (off : Nat) (s : State) : State :=
  let (ord, done, moved, hop) := elemAt d.elems off 1 0
  dmaFault k e .element ord hop done moved s

/-- The bytes after XTS with the marks of their rows passing through unchanged (R506, R619). -/
def xtsMarked (decrypt : Bool) (key : List Byte) (tweak : Nat) (l : Marked) : Marked :=
  (xts decrypt key tweak (l.map (·.1))).zip (l.map (·.2))

/-- A descriptor with XTS outside a stream moves its 4,096 bytes through the cipher (R619). -/
def dmaXts (k : Fin 32) (d : DmaDesc) (key : List Byte) (s : State) : State :=
  let tweak := leAt d.raw 14 5
  if d.dir then
    match dmaRead k 0 d.localAddr 4096 s with
    | (.error e, s) => dmaFaultAt k d e 0 s
    | (.ok m, s) =>
      match writeElems k d.elems (xtsMarked d.decrypt key tweak m) 0 s with
      | (some (e, n), s) => dmaFaultAt k d e n s
      | (none, s) => dmaFinish k 0 4096 s
  else
    match readElems k d.elems 0 s with
    | (.error (e, off), s) => dmaFaultAt k d e off s
    | (.ok m, s) =>
      match dmaWrite k 1 d.localAddr (xtsMarked d.decrypt key tweak m) s with
      | (some (e, n), s) => dmaFaultAt k d e n s
      | (none, s) => dmaFinish k 0 4096 s

/-- One burst of at most 512 bytes within a 512-byte block of the local address (R500). -/
def dmaBurst (k : Fin 32) (d : DmaDesc) (s : State) : State :=
  match d.elems with
  | [] =>
    match d.tail with
    | .fin => dmaFinish k 0 d.done s
    | .bad e _ _ hop => dmaFault k e (if e.kind = 0x14 ∨ e.kind = 0x15 then .refetch else .element) d.ord hop d.done 0 s
  | e :: _ =>
    let host := dmaClass k == 0
    let loc := d.localAddr + d.done + d.cur
    let ext := e.addr + d.cur
    let n := min (e.len - d.cur) (512 - loc % 512)
    let n := if host || !s.bit (DMA_CH_CFG.XLAT_EN k) then n else min n (4096 - ext % 4096)
    let fail (x : DmaErr) (s : State) : State := dmaFault k x .element d.ord d.hops d.done d.cur s
    if host && !d.dir then (linkWake s).modCh k fun c => { c with read := some { addr := ext, len := n, local_ := loc } }
    else
      match dmaRead k 0 (if d.dir then loc else ext) n s with
      | (.error x, s) => fail x s
      | (.ok m, s) =>
        if host then dmaAdvance k n d (hostMoved n (hostWrite ext m s))
        else
          match dmaWrite k 1 (if d.dir then ext else loc) m s with
          | (some (x, _), s) => fail x s
          | (none, s) => dmaAdvance k n d s

/-- Whether a channel has a burst ready for its mover. -/
def dmaReady (k : Fin 32) (s : State) : Bool :=
  dmaActs k s && s.dma.chan[k].read.isNone &&
    match s.dma.chan[k].desc with
    | some d => d.finish.isNone && !d.stream && (dmaClass k != 2 || d.xts)
    | none => false

/-- The channel that the mover of a class grants: the highest PRIO, then the first after the one last granted (R500). -/
def dmaGrant (cls : Fin 4) (s : State) : Option (Fin 32) :=
  let order := (List.range 8).map fun i => (s.dma.granted[cls] + 1 + i) % 8
  let chans : List (Fin 32) := order.filterMap fun i => if h : 8 * cls.val + i < 32 then some ⟨8 * cls.val + i, h⟩ else none
  let ready := chans.filter fun k => dmaReady k s
  let top := (ready.map fun (k : Fin 32) => s.get (DMA_CH_CFG.PRIO k)).foldl max 0
  ready.find? fun (k : Fin 32) => s.get (DMA_CH_CFG.PRIO k) == top

/-- The mover of a class moves one burst (R500, R507). -/
def execDmaBurst (cls : Fin 4) (s : State) : Out :=
  .next (match dmaGrant cls s with
    | none => s
    | some k =>
      let s := s.modDma fun d => { d with granted := d.granted.set cls (k.val % 8) }
      match s.dma.chan[k].desc with
      | none => s
      | some d =>
        if d.xts then
          match (if s.bit CIP_STATUS.ERROR then none else cipKey d.key d.xtsDecrypt s) with
          | some key => dmaXts k d key s
          | none => dmaCipher k d s
        else dmaBurst k d s)

/-- HEAD moves on behind a descriptor (R491). -/
def dmaPop (k : Fin 32) (s : State) : State :=
  dmaNext k ((s.set (DMA_CH_RING_PTR.HEAD k) ((s.get (DMA_CH_RING_PTR.HEAD k) + 1) % dmaRing k s)).modCh k fun c =>
    { c with desc := none, hostCut := false })

/-- The 32 bytes of a write-back (R491). -/
def descBack (d : DmaDesc) (status done : Nat) : List Byte :=
  splice (splice (splice d.raw 0 (leBytes 1 (d.ctl % 128))) 2 (leBytes 1 status)) 28 (leBytes 3 done ++ leBytes 1 d.hops)

/-- A descriptor is written back and HEAD advances (R491, R510). -/
def dmaComplete (k : Fin 32) (d : DmaDesc) (status done : Nat) (s : State) : State :=
  match dmaWrite k 2 d.addr ((descBack d status done).map fun b => (b, false)) s with
  | (some (e, _), s) => dmaFault k e .writeBack 0 d.hops done 0 s
  | (none, s) => dmaPop k ((s.bump (DMA_CH_CNT.DESC k)).when (d.ctl.testBit 6) (·.set (DMA_CH_INT.DONE k) 1))

def execDmaDescriptorComplete (k : Fin 32) (s : State) : Out :=
  .next (if !dmaActs k s then s
    else
      match s.dma.chan[k].desc with
      | some d => match d.finish with
        | some (status, done) => dmaComplete k d status done s
        | none => s
      | none => s)

/-- The translations of a list of pages, before the first byte moves (R499). -/
def dmaPages (k : Fin 32) (write : Bool) (src : Nat) : List Nat → State → Option DmaErr × State
  | [], s => (none, s)
  | p :: r, s =>
    match dmaXlat k write src (4096 * p) s with
    | (.error e, s) => (some e, s)
    | (.ok _, s) => dmaPages k write src r s

/-- The distinct pages of a list of ranges. -/
def pagesOfAll (l : List (Nat × Nat)) : List Nat := ((l.flatMap fun r => (pagesOf r.1 r.2).map fun p => p.1 / 4096)).eraseDups

/-- A stream descriptor's pages are translated, at most 24 of them (R499). -/
def dmaStreamPages (k : Fin 32) (write : Bool) (ranges : List (Nat × Nat)) (d : DmaDesc) (f : State → State) (s : State) : State :=
  let l := pagesOfAll ranges
  if 24 < l.length then dmaFault k { kind := 0x15, source := 2, addr := d.addr } .refetch 0 0 0 0 s
  else
    match dmaPages k write (boolNat write) l s with
    | (some e, s) => dmaFault k e .element 1 0 0 0 s
    | (none, s) => f s

/-- POISON_MAP of 4,096 bytes with the marks of their rows (R86). -/
def poisonMapOf (l : Marked) : Nat :=
  (List.range 64).foldl (fun m i => m + (if ((l.drop (64 * i)).take 64).any (·.2) then 2 ^ i else 0)) 0

/-- A fragment of user bytes is handed to WPn (R494). -/
def wpHand (n : Fin 2) (h : Handed) (s : State) : State := s.modWp n fun w => { w with inbox := w.inbox ++ [h] }

/-- A rewrite that FMSn has supplied goes to WPn: the buffer data that the slot record names, encrypted for its new slot (R258,
R394). -/
def streamRewrite (k : Fin 32) (n : Fin 2) (x : WpSlot) (frag : Nat) (s : State) : State :=
  match (if x.enc then cipKey x.key false s else some []) with
  | none => s
  | some key =>
    match dmaRead k 0 x.buf 4096 s with
    | (.error e, s) => dmaFault k e (.internal 3) 0 0 0 0 s
    | (.ok m, s) =>
      let u := if x.enc then xts false key frag (m.map (·.1)) else m.map (·.1)
      wpHand n { user := u, kind := x.kind, encrypted := x.enc, rewrite := true, nsid := x.nsid, keySlot := x.key, lba := x.lba,
                 zoneGen := x.zgen, poisonMap := poisonMapOf m, buf := x.buf } (s.modWp n fun w => { w with owed := w.owed.drop 1 })

/-- The stream-out descriptor of a channel feeds the slot whose staging turn comes (R494). -/
def streamOut (k : Fin 32) (n : Fin 2) (d : DmaDesc) (frag : Nat) (s : State) : State :=
  let tagf := leAt d.raw 25 1
  let h : Handed := { user := [], kind := tagf % 16, encrypted := tagf.testBit 4, rewrite := tagf.testBit 5, nsid := leAt d.raw 24 1,
                      keySlot := d.key, lba := leAt d.raw 19 5, zoneGen := leAt d.raw 26 2,
                      buf := match d.elems with | e :: _ => e.addr | [] => 0 }
  let d := { d with raw := splice d.raw 14 (leBytes 5 frag) }
  let s := s.modCh k fun c => { c with desc := some d }
  if descriptorBad h then dmaFinish k 0x18 0 (wpHand n h s)
  else
    dmaStreamPages k false (d.elems.map fun e => (e.addr, e.len)) d (fun s =>
      match readElems k d.elems 0 s with
      | (.error (e, off), s) => dmaFaultAt k d e off s
      | (.ok m, s) =>
        let plain := m.map (·.1)
        match (if d.xts then cipKey d.key false s else some []) with
        | none => s
        | some key =>
          dmaFinish k 0 4096 (wpHand n { h with user := if d.xts then xts false key frag plain else plain, poisonMap := poisonMapOf m } s)) s

/-- The channel index of media channel 8 + k. -/
def mediaChan (k : Fin 8) : Fin 32 := ⟨8 + k.val, by omega⟩

/-- A slot's staging turn on WPn comes with the FRAG_ADDR that the formatter hands (R494). -/
def execDmaStreamOut (k : Fin 8) (n : Fin 2) (frag : BitVec 40) (s : State) : Out :=
  let k := mediaChan k
  s.onHalf n.val fun s =>
    if !dmaActs k s || s.wp[n].chan != k.val || !s.wp[n].inbox.isEmpty then s
    else
      match s.wp[n].owed with
      | x :: _ => streamRewrite k n x frag.toNat s
      | [] =>
        if !s.wp[n].flagged.isEmpty then s
        else
          match s.dma.chan[k].desc with
          | none => s
          | some d =>
            if !d.stream || d.dir || d.finish.isSome then s
            else if d.xts && (s.bit CIP_STATUS.ERROR || (cipKey d.key false s).isNone) then dmaCipher k d s
            else streamOut k n d frag.toNat s

/-- A stream-in descriptor takes one delivery of the checker (R495). -/
def streamIn (k : Fin 32) (c : Fin 4) (d : DmaDesc) (x : Delivery) (s : State) : State :=
  let rec' := x.record.map fun b => (b, false)
  let user := x.user.length == 4096
  let ranges := (d.localAddr, 64) :: (if user then d.elems.map fun e => (e.addr, e.len) else [])
  dmaStreamPages k true ranges d (fun s =>
    match dmaWrite k 1 d.localAddr rec' s with
    | (some (e, n), s) => dmaFault k e .element 1 0 0 n s
    | (none, s) =>
      let tag := x.record.take 32
      let d := { d with raw := splice (splice d.raw 14 (slice x.record 32 5)) 19 (slice tag 4 5 ++ slice tag 2 1 ++
        leBytes 1 (leAt tag 0 1 % 16 + 16 * (leAt tag 1 1 / 2 % 4)) ++ slice tag 14 2) }
      let s := s.modCh k fun ch => { ch with desc := some d }
      let took := s.modDc c fun y => { y with deliveries := y.deliveries.drop 1 }
      if !user then dmaFinish k 0 0 took
      else
        match (if d.xts then cipKey d.key true s else some []) with
        | none => s
        | some key =>
          let plain := if d.xts then xts true key (leAt x.record 32 5) x.user else x.user
          let m := plain.zipIdx.map fun p => (p.1, x.poisonMap.testBit (p.2 / 64))
          match writeElems k d.elems m 0 s with
          | (some (e, off), s) => dmaFaultAt k d e off s
          | (none, s) => dmaFinish k 0 4096 (s.modDc c fun y => { y with deliveries := y.deliveries.drop 1 })) s

def execDmaStreamIn (k : Fin 8) (c : Fin 4) (s : State) : Out :=
  let k := mediaChan k
  s.onHalf (halfOf c).val fun s =>
    if !dmaActs k s then s
    else
      match s.dma.chan[k].desc, s.dc[c].deliveries with
      | some d, x :: _ =>
        if !d.stream || !d.dir || d.finish.isSome then s
        else if d.xts && (s.bit CIP_STATUS.ERROR || (cipKey d.key true s).isNone) then dmaCipher k d s
        else streamIn k c d x s
      | _, _ => s

/-- The oldest internal transfer of a unit that channel `k` is given: its address and length (R496). -/
def internalOf (k : Fin 32) (unit : Nat) (s : State) : Option (Nat × Nat) :=
  if unit = 0 then
    ((s.fms.toList.flatMap (·.copies)).find? fun x => !x.done && 8 + leAt x.tpd 24 1 % 8 == k.val).map fun x => (x.buf, 81920)
  else if unit = 1 then
    ((s.dc.toList.flatMap fun d => d.acc.toList.filterMap id).find? fun b => b.chan == k.val).map fun b => (b.gsr, 8320)
  else
    (([0, 1] : List (Fin 2)).find? fun n => s.wp[n].chan == k.val && s.wp[n].slots.any fun x => x.res.isSome).map fun n =>
      (32 * s.get (WP_SR_BASE.BASE n) + 32 * s.get (WP_SR_PTR.PROD n), 32)

/-- Every page of an internal transfer may be reached. -/
def internalReach (k : Fin 32) : List (Nat × Nat) → State → Option DmaErr × State
  | [], s => (none, s)
  | p :: r, s =>
    match dmaXlat k true 4 p.1 s with
    | (.error e, s) => (some { e with source := 4 }, s)
    | (.ok a, s) =>
      match accessFail .dma true a p.2 s with
      | some f => (some (dmaErr k 4 p.1 a p.2 f s), s)
      | none => internalReach k r s

/-- A unit's internal transfer takes its channel's turn: its pages are translated and reached, or its channel faults (R496, R499). The
data goes with the unit's own completion. -/
def execDmaInternalTransfer (k : Fin 8) (unit : Fin 3) (s : State) : Out :=
  let k := mediaChan k
  .next (if !s.power.core || !dmaServes k s then s
    else
      match internalOf k unit s with
      | none => s
      | some (a, n) =>
        let l := pagesOf a n
        if 24 < l.length then dmaFault k { kind := 0x15, source := 4, addr := a } (.internal unit) 0 0 0 0 s
        else
          match internalReach k l s with
          | (some e, s) => dmaFault k e (.internal unit) 0 0 0 0 s
          | (none, s) => s)

/-- A unit's oldest transfer on a channel is abandoned (R503). -/
def internalDrop (k : Fin 32) (unit : Nat) (s : State) : State :=
  let mine (x : RingCopy) : Bool := !x.done && 8 + leAt x.tpd 24 1 % 8 == k.val
  if unit = 0 then
    match ([0, 1] : List (Fin 2)).find? fun n => s.fms[n].copies.any mine with
    | some n => s.modFms n fun f => { f with copies := match f.copies.find? mine with | some x => f.copies.erase x | none => f.copies }
    | none => s
  else if unit = 1 then
    match ([0, 1, 2, 3] : List (Fin 4)).find? fun c => s.dc[c].acc.toList.any fun b => b.any fun a => a.chan == k.val with
    | some c =>
      let i : Fin 2 := if s.dc[c].acc[0].any fun a => a.chan == k.val then 0 else 1
      (s.set (DET_STATUS.GSR_OPEN c) (setBits (s.get (DET_STATUS.GSR_OPEN c)) i.val 1 0)).modDc c fun d => { d with acc := d.acc.set i none }
    | none => s
  else if unit = 2 then
    match ([0, 1] : List (Fin 2)).find? fun n => s.wp[n].chan == k.val && !s.wp[n].slots.isEmpty with
    | some n => s.modWp n fun w => { w with slots := w.slots.drop 1 }
    | none => s
  else
    match ([0, 1] : List (Fin 2)).find? fun n => s.wp[n].chan == k.val && !s.wp[n].owed.isEmpty with
    | some n => s.modWp n fun w => { w with owed := w.owed.drop 1 }
    | none => s

/-- An access of a channel gets no response (R501): of the current element (0 read, 1 write) or of the descriptor (2). -/
def execDmaAccessTimeout (k : Fin 32) (source : Fin 3) (s : State) : Out :=
  .next (if !dmaActs k s then s
    else
      match s.dma.chan[k].desc with
      | none =>
        let a := 32 * s.get (DMA_CH_RING_BASE.BASE k) + 32 * (s.get (DMA_CH_RING_PTR.HEAD k) % dmaRing k s)
        if dmaPosted k s ∧ source = 2 then dmaFault k { kind := 0x12, source := 2, addr := a } .fetch 0 0 0 0 s else s
      | some d =>
        match d.finish with
        | some (_, done) =>
          if source = 2 then dmaFault k { kind := 0x12, source := 2, addr := d.addr } .writeBack 0 d.hops done 0 s
          else dmaFault k { kind := 0x12, source := source, addr := d.localAddr } .element d.ord d.hops d.done d.cur
            (s.modCh k fun c => { c with desc := some { d with finish := none } })
        | none =>
          if source = 2 ∨ (dmaClass k = 0 ∧ d.dir = decide (source.val = 1)) then s
          else
            let loc := d.localAddr + d.done + d.cur
            let ext := match d.elems with | e :: _ => e.addr + d.cur | [] => 0
            dmaFault k { kind := 0x12, source := source, addr := if d.dir = decide (source.val = 0) then loc else ext } .element d.ord
              d.hops d.done d.cur s)

/-- A channel whose fault is done with goes on with its descriptor, or between descriptors. -/
def dmaGo (k : Fin 32) (s : State) : State := if s.dma.chan[k].desc.isSome then dmaRun k s else dmaNext k s

/-- RESUME (R503): the element starts again, or the descriptor is fetched again, or only its write-back is repeated. -/
def dmaResume (k : Fin 32) (s : State) : State :=
  if s.dma.chan[k].st ≠ 5 then s
  else
    let site := s.dma.chan[k].site
    let s := dmaClear k s
    match site, s.dma.chan[k].desc with
    | some .element, some d =>
      match d.elems, d.tail with
      | [], .bad _ list left hop =>
        let ((l, t), s) := dmaGather k 1120 list left hop d.done s
        dmaRun k (dmaDesc k { d with elems := l, tail := t, cur := 0, hops := match l with | x :: _ => x.hop | [] => d.hops } s)
      | _, _ => dmaRun k (dmaDesc k { d with cur := 0 } s)
    | some .writeBack, _ => dmaRun k s
    | some (.internal _), _ => dmaGo k s
    | _, _ => dmaNext k (s.modCh k fun c => { c with desc := none })

def execDmaResume (k : Fin 32) (s : State) : Out := s.onCore (dmaResume k)

/-- SKIP (R503): the descriptor is written back with STATUS = KIND, or HEAD advances without a write-back, or a unit's transfer is
abandoned. -/
def dmaSkip (k : Fin 32) (s : State) : State :=
  if s.dma.chan[k].st ≠ 5 then s
  else
    let site := s.dma.chan[k].site
    let kind := s.get (DMA_CH_FAULT.KIND k)
    let done := s.get (DMA_CH_FAULT_DONE.BYTES_DONE k)
    let s := dmaClear k s
    match site with
    | some .fetch => dmaPop k s
    | some .writeBack => dmaPop k s
    | some (.internal u) => dmaGo k (internalDrop k u s)
    | _ => dmaRun k (dmaFinish k kind done s)

def execDmaSkip (k : Fin 32) (s : State) : Out := s.onCore (dmaSkip k)

/-- RESET (R504). -/
def dmaReset (k : Fin 32) (s : State) : State :=
  let s := (dmaClear k s).clearAll [DMA_CH_RING_PTR.HEAD k, DMA_CH_RING_PTR.TAIL k]
  dmaSt k 0 (s.modCh k fun c => { c with desc := none, hostCut := false, asleep := false, read := none,
                                          stale := c.stale + boolNat c.read.isSome })

def execDmaChannelReset (k : Fin 32) (s : State) : Out := s.onCore (dmaReset k)

/-- PAUSE written (R487). -/
def dmaPause (k : Fin 32) (v : Bool) (s : State) : State :=
  let s := s.set (DMA_CH_CTRL.PAUSE k) (boolNat v)
  let st := s.dma.chan[k].st
  if v ∧ st = 2 then dmaSt k 4 s else if !v ∧ st = 4 then dmaGo k s else s

def execDmaPause (k : Fin 32) (v : Bool) (s : State) : Out := s.onCore (dmaPause k v)

/-- A channel's ENABLE written (R487): a descriptor in progress ends before the channel stops. -/
def dmaEnable (k : Fin 32) (v : Bool) (s : State) : State :=
  let s := s.set (DMA_CH_CTRL.ENABLE k) (boolNat v)
  let c := s.dma.chan[k]
  if v then if c.st = 0 then dmaNext k s else s
  else if c.st = 1 ∨ (c.st = 2 ∧ c.desc.isNone) then dmaSt k 0 s else s

def execDmaChannelEnable (k : Fin 32) (v : Bool) (s : State) : Out := s.onCore (dmaEnable k v)

/-- All 32 channels. -/
def allChans : List (Fin 32) := List.finRange 32

/-- DMA_CTRL.ENABLE written (R511). -/
def dmaEngine (v : Bool) (s : State) : State := forEach allChans dmaShow (s.set DMA_CTRL.ENABLE (boolNat v))

def execDmaEngineEnable (v : Bool) (s : State) : Out := s.onCore (dmaEngine v)

/-- The cipher serves a HELD channel, or faults it in its error state (R507). -/
def execDmaCipherReady (k : Fin 32) (s : State) : Out :=
  .next (if !s.power.core || s.dma.chan[k].st != 3 then s
    else
      match s.dma.chan[k].desc with
      | none => s
      | some d =>
        if s.bit CIP_STATUS.ERROR then
          dmaFault k { kind := 0x17, source := 6, addr := d.localAddr } .element d.ord d.hops d.done d.cur s
        else if d.xts then if (cipKey d.key d.xtsDecrypt s).isSome then dmaRun k s else s
        else if s.bit CIP_STATUS.READY && !s.bit CIP_STATUS.SELFTEST then dmaRun k s else s)

/-- DMA_XLAT_INV.GO with its fields (R498, R511). -/
def dmaXlatInv (scope asid vpn : Nat) (s : State) : State :=
  let s := ((s.set DMA_XLAT_INV.SCOPE scope).set DMA_XLAT_INV.ASID asid).set DMA_XLAT_INV.VPN vpn
  let page (x : Xlat) : Bool := if x.big then x.vpn / 512 == vpn / 512 else x.vpn == vpn
  let drop (x : Xlat) : Bool :=
    if scope = 0 then true
    else if scope = 1 then x.asid == asid && !pteG x.leaf
    else if scope = 2 then page x && (pteG x.leaf || x.asid == asid)
    else page x
  s.modDma fun d => { d with xlat := d.xlat.filter fun x => !drop x }

def execDmaXlatInv (scope : BitVec 2) (asid : BitVec 8) (vpn : BitVec 28) (s : State) : Out :=
  s.onCore (dmaXlatInv scope.toNat asid.toNat vpn.toNat)

def execDmaClrCnt (s : State) : Out :=
  s.onCore fun s => forEach allChans (fun k s => s.clearAll [DMA_CH_CNT.FAULTS k, DMA_CH_CNT.DESC k])
    (s.clearAll [DMA_XLAT_CNT.FAULTS, DMA_XLAT_CNT.WALKS])

/-- A write of TAIL (R489). -/
def dmaTail (k : Fin 32) (tail : Nat) (s : State) : State :=
  let size := dmaRing k s
  if dmaPosted k s ∧ tail % size = s.get (DMA_CH_RING_PTR.HEAD k) % size then s.set (DMA_CH_STATUS.OVF k) 1
  else
    let s := (s.set (DMA_CH_RING_PTR.TAIL k) tail).set (DMA_CH_STATUS.NOT_OWNED k) 0
    let s := s.modCh k fun c => { c with asleep := false }
    if s.dma.chan[k].st = 1 then dmaNext k s else s

def execDmaTailWrite (k : Fin 32) (tail : BitVec 12) (s : State) : Out := s.onCore (dmaTail k tail.toNat)

/-- The host-class channels. -/
def hostChans : List (Fin 32) := [0, 1, 2, 3, 4, 5, 6, 7]

/-- Bus Master Enable is off for the host channels (R508): those in progress pause, and reads in flight will be discarded. -/
def dmaHostPause (s : State) : State :=
  forEach hostChans (fun k s =>
    let s := s.modCh k fun c => { c with
      read := none, stale := c.stale + boolNat c.read.isSome
      hostCut := c.hostCut || (c.st != 5 && match c.desc with | some d => d.finish.isNone | none => false) }
    if s.dma.chan[k].st = 2 ∨ s.dma.chan[k].st = 3 then dmaSt k 4 s else s) (s.set DMA_HOST.BME_OFF 1)

/-- Bus Master Enable is on again (R508): each descriptor cut short ends with 0x02. -/
def dmaHostResume (s : State) : State :=
  forEach hostChans (fun k s =>
    let c := s.dma.chan[k]
    let s := match c.hostCut, c.desc with
      | true, some d => ((dmaFinish k 0x02 (d.done + d.cur) s).set (DMA_CH_INT.HOST_END k) 1).modCh k fun c => { c with hostCut := false }
      | _, _ => s
    if c.st = 4 then (if s.bit (DMA_CH_CTRL.PAUSE k) then s else dmaGo k s)
    else if c.st = 1 then dmaNext k s else s) (s.set DMA_HOST.BME_OFF 0)

/-- A function-level reset silences the host channels (R509): each descriptor in progress is written back with 0x03. -/
def dmaHostReset (s : State) : State :=
  let s := forEach hostChans (fun k s =>
    let c := s.dma.chan[k]
    let s := match c.desc with
      | some d => ((dmaWrite k 2 d.addr ((descBack d 0x03 (d.done + d.cur)).map fun b => (b, false)) s).2.bump (DMA_CH_CNT.DESC k)).set
          (DMA_CH_INT.HOST_END k) 1
      | none => s
    (dmaReset k s).modCh k fun c => { c with stale := 0 }) s
  (s.set DMA_HOST.FLR_BUSY 0).set DMA_HOST.FLR_DONE 1

end Sys2Proof.Machine
end

