-- ==== Sys2Proof/Machine/Cip.lean ====
section
/-! DEFINITION. The cipher cluster: the key store, randomness, self-tests, management operations and the debug unlock (R616 to
R648). -/

namespace Sys2Proof.Machine

def State.modCip (s : State) (f : CipUnit → CipUnit) : State := { s with cip := f s.cip }
def State.modKeys (s : State) (f : KeyStore → KeyStore) : State := { s with keys := f s.keys }

/-- `n` bytes of entropy: free values. -/
def freshBytes : (n : Nat) → State → List Byte × State
  | 0, s => ([], s)
  | n + 1, s =>
    let (v, s) := s.fresh
    let (l, s) := freshBytes n s
    (BitVec.ofNat 8 v :: l, s)

/-- The DRBG seeded from 768 samples (R626). -/
def cipSeed (first : Bool) (s : State) : State :=
  let (e, s) := freshBytes 96 s
  s.modCip fun c => { c with drbg := if first then drbgInit e else drbgReseed c.drbg e }

/-- `n` bytes of DRBG output, each request of at most 65,536 bytes; a reseed follows every 65,536 requests (R626). -/
def cipRandom : (fuel n : Nat) → State → List Byte × State
  | 0, _, s => ([], s)
  | fuel + 1, n, s =>
    if n = 0 then ([], s)
    else
      let s := if 65536 < s.cip.drbg.count then cipSeed false s else s
      let (l, d) := drbgGenerate s.cip.drbg (min n 65536)
      let (r, s) := cipRandom fuel (n - min n 65536) (s.modCip fun c => { c with drbg := d })
      (l ++ r, s)

def cipBytes (n : Nat) (s : State) : List Byte × State := cipRandom (n / 65536 + 1) n s

/-- A media key: 64 bytes, drawn again while the halves are equal (R635). -/
def drawMek : (fuel : Nat) → State → List Byte × State
  | 0, s => cipBytes 64 s
  | fuel + 1, s =>
    let (k, s) := cipBytes 64 s
    if k.take 32 = k.drop 32 then drawMek fuel s else (k, s)

/-- Range `r` of the key store. -/
def rangeOf (r : Nat) (s : State) : RangeRec := s.keys.ranges.toList.getD r {}

def State.modRange (s : State) (r : Fin 32) (f : RangeRec → RangeRec) : State :=
  s.modKeys fun k => { k with ranges := k.ranges.set r (f k.ranges[r]) }

def State.modAuth (s : State) (a : Fin 38) (f : Authority → Authority) : State :=
  s.modKeys fun k => { k with auths := k.auths.set a (f k.auths[a]) }

/-- A range is locked for a direction while its enable and its lock hold. -/
def RangeRec.locked (r : RangeRec) (write : Bool) : Bool :=
  if write then r.writeEnabled && r.writeLocked else r.readEnabled && r.readLocked

/-- A mask of the indexes for which a test holds. -/
def maskOf (n : Nat) (p : Nat → Bool) : Nat := (List.range n).foldl (fun m i => m + (if p i then 2 ^ i else 0)) 0

/-- CIP_SLOT, CIP_RLOCK and CIP_WLOCK show slots and locks (R620). -/
def cipShow (s : State) : State :=
  let s := s.set CIP_SLOT.LOADED (maskOf 32 fun r => (s.cip.slots.toList.getD r none).isSome)
  let s := s.set CIP_RLOCK.LOCKED (maskOf 32 fun r => (rangeOf r s).locked false)
  s.set CIP_WLOCK.LOCKED (maskOf 32 fun r => (rangeOf r s).locked true)

/-- A key enters a slot, or the slot is emptied. -/
def slotSet (r : Fin 32) (k : Option (List Byte)) (s : State) : State := s.modCip fun c => { c with slots := c.slots.set r k }

/-- A key enters a management slot. -/
def mkeySet (i : Fin 16) (k : List Byte) (s : State) : State := s.modCip fun c => { c with mkeys := c.mkeys.set i (some k) }

/-- Every slot and management slot is emptied (R640, R645, R648). -/
def cipEmpty (s : State) : State :=
  cipShow (s.modCip fun c => { c with slots := .replicate 32 none, mkeys := .replicate 16 none })

/-- A KEY record (R664). -/
def State.logKey (s : State) (range event : Nat) : State := s.log 0x060 (leBytes 1 range ++ leBytes 1 event ++ leBytes 2 0)

/-- The module enters its error state (R640). -/
def cipError (cause core : Nat) (s : State) : State :=
  if s.bit CIP_STATUS.ERROR then s
  else
    let s := (cipEmpty s).modKeys fun k => { k with retention := none }
    let s := (((s.set CIP_STATUS.ERROR 1).set CIP_STATUS.READY 0).set CIP_STATUS.SELFTEST 0).set CIP_ERR.CAUSE cause
    (((s.set CIP_ST.FAIL_CODE cause).set CIP_ST.FAIL_CORE core).set CIP_INT.ERROR 1).raise 102

/-- Every range gets its key and default copy, every authority is disabled (R628). -/
def cipFormat (s : State) : State :=
  let s := s.modKeys fun k => { k with formatted := true, auths := .replicate 38 {}, ranges := .replicate 32 {}, recipeKey := none }
  let s := forEach (List.finRange 32) (fun r s =>
    let (m, s) := drawMek 4 s
    s.modRange r fun x => { x with mek := m, default := true }) s
  s.logKey 0xFF 0

/-- CIP_CTRL.ENABLE starts the power-up self-tests once (R636). -/
def cipEnable (s : State) : State :=
  if s.bit CIP_CTRL.ENABLE || s.bit CIP_STATUS.ERROR || s.locked CIP_CTRL.ENABLE then s
  else ((s.setOnce CIP_CTRL.ENABLE 1).set CIP_STATUS.SELFTEST 1).set CIP_ST.DONE 0

def execCipEnable (s : State) : Out := s.onCore cipEnable

/-- The blobs of R631 in pantry SRAM: 72 bytes for each slot. -/
def retainAddr (r : Nat) (s : State) : Addr := 0x0020000000 + 4096 * s.get CIP_CTRL.RET_OFS + 72 * r

/-- At entry into Standby or Pantry-only every LOADED slot is wrapped under a new retention key (R631). -/
def cipRetain (s : State) : State :=
  if s.bit CIP_STATUS.ERROR || !s.bit CIP_STATUS.READY then s
  else
    let (k, s) := cipBytes 32 s
    let s := s.modKeys fun x => { x with retention := some k }
    forEach (List.finRange 32) (fun r s =>
      match s.cip.slots[r] with
      | some m => if retainAddr r s + 72 ≤ 0x0020080000 then s.writeBytes (retainAddr r s) (kwpWrap k m) else s
      | none => s) s

/-- At exit the blobs are unwrapped into their slots and erased with the key (R631). -/
def cipRestore (k : List Byte) (s : State) : State :=
  let s := forEach (List.finRange 32) (fun r s =>
    match kwpUnwrap k (s.readBytes (retainAddr r s) 72) with
    | some m =>
      (if m.length = 64 ∧ m.take 32 ≠ m.drop 32 then slotSet r (some m) s else s).writeBytes (retainAddr r s) (zeros 72)
    | none => s) s
  s.modKeys fun x => { x with retention := none }

/-- Locks at a core power-on that is no exit under R631 (R634). -/
def cipPowerLocks (s : State) : State :=
  forEach (List.finRange 32) (fun r s => s.modRange r fun x =>
    { x with readLocked := x.readLocked || (x.lockOnReset && x.readEnabled)
             writeLocked := x.writeLocked || (x.lockOnReset && x.writeEnabled) }) s

/-- Ranges with no lock enabled are loaded (R630); a key whose halves are equal is refused (R619). -/
def cipLoadDefault (s : State) : State :=
  forEach (List.finRange 32) (fun r s =>
    let x := s.keys.ranges[r]
    if x.default && !x.readEnabled && !x.writeEnabled && x.mek.length == 64 && x.mek.take 32 != x.mek.drop 32 then
      slotSet r (some x.mek) s else s) s

/-- The self-tests end: cause 0 passed, otherwise the failing test (R628, R630, R631, R636, R640). An on-demand run leaves the slots
(R639). -/
def execCipSelftestDone (cause : Fin 12) (core : Fin 8) (s : State) : Out :=
  s.onCore fun s =>
    if !s.bit CIP_STATUS.SELFTEST then s
    else
      let again := s.cip.retained
      let s := (s.set CIP_STATUS.SELFTEST 0).set CIP_ST.DONE 1
      if cause.val ≠ 0 then cipError cause core s
      else
        let s := (cipSeed true (s.set CIP_ST.PASSED 0x1FF)).set CIP_ST.FAIL_CODE 0
        let s := if again then s
          else
            let s := if s.keys.formatted then s else cipFormat s
            let s := match s.keys.retention with
              | some k => cipRestore k s
              | none => cipPowerLocks s
            cipShow (cipLoadDefault s)
        (((s.set CIP_STATUS.READY 1).set CIP_INT.READY 1)).modCip fun c => { c with retained := true }

/-- CIP_CTRL.ONDEMAND runs the power-up tests again (R639, R647). -/
def cipOnDemand (s : State) : State :=
  if s.bit CIP_STATUS.ERROR || !s.bit CIP_STATUS.READY then s
  else ((s.set CIP_STATUS.SELFTEST 1).set CIP_STATUS.READY 0).set CIP_ST.DONE 0

def execCipOndemand (s : State) : Out := s.onCore cipOnDemand

/-- The periodic test of the next core passes or fails (R639). -/
def execCipPeriodicTest (fail : Bool) (s : State) : Out :=
  s.onCore fun s =>
    if !s.bit CIP_STATUS.READY then s
    else
      let c := s.cip.pstNext
      let s := (s.set CIP_STATUS.PST_CORE c).modCip fun x => { x with pstNext := (c + 1) % 8 }
      if fail then cipError 0x0A c s else (s.bump CIP_CNT.PST).set CIP_INT.PST_DONE 1

/-- CIP_CTRL.ZEROIZE (R648). -/
def cipZeroize (s : State) : State := (cipEmpty s).logKey 0xFF 4

def execCipZeroize (s : State) : Out := s.onCore cipZeroize

def execCipClrCnt (s : State) : Out :=
  s.onCore fun s => s.clearAll [CIP_CNT.AUTH_FAIL, CIP_CNT.OP_FAIL, CIP_CNT.NONAPPR, CIP_CNT.PST]

/-- A continuous health test fails (R638). -/
def execEntropyHealthFail (adaptive : Bool) (s : State) : Out := s.onCore (cipError (if adaptive then 0x09 else 0x08) 0)

/-- A read of CIP_RNG (R626, R648). -/
def cipRng (s : State) : State :=
  if !s.bit CIP_STATUS.READY then { s with resp := .data 0 }
  else
    let (l, s) := cipBytes 4 s
    { s with resp := .data (BitVec.ofNat 40 (2 ^ 32 + leNat l)) }

def execCipRngRead (s : State) : Out := .next (if s.power.core then cipRng s else { s with resp := .busError })

/-! ## Management operations -/

/-- The DRK as 32 bytes. -/
def drk : List Byte := (Config.drk ++ zeros 32).take 32

/-- The text of a label. -/
def labelBytes (l : List Nat) : List Byte := ofNats l

/-- Keys derived from the DRK with the labels "VERIFY" and "MGMT" (R623, R627). -/
def verifyKey : List Byte := kdfCmac drk (labelBytes [0x56, 0x45, 0x52, 0x49, 0x46, 0x59]) [] 32
def mgmtKey : List Byte := kdfCmac drk (labelBytes [0x4D, 0x47, 0x4D, 0x54]) [] 32

/-- The operation codes of R623. -/
def cipOps : List Nat :=
  [0x01, 0x02, 0x03, 0x04, 0x05, 0x06, 0x07, 0x08, 0x09, 0x0A, 0x0B, 0x10, 0x11, 0x12, 0x20, 0x21, 0x22, 0x23, 0x24, 0x25, 0x26]

/-- A result of an operation: STATUS, output and what OUT takes (R622, R623). -/
structure CipResult where
  status : Nat := 0
  output : List Byte := []
  out : Option (List Byte) := none
  deriving DecidableEq, Repr

/-- Fields of the context block (R622). -/
def ctxPad (c : List Byte) : Bool := (leAt c 1 1).testBit 0
def ctxKidx (c : List Byte) : Nat := leAt c 2 1
def ctxIv (c : List Byte) : List Byte := slice c 16 16
def ctxOut (c : List Byte) : List Byte := slice c 64 48
def ctxTag (c : List Byte) : Nat := leAt c 4 1
def ctxAad (c : List Byte) : Nat := leAt c 8 4

/-- Whether a context block is invalid for an operation over `total` bytes (R622, R624). -/
def ctxBad (op total : Nat) (c : List Byte) : Bool :=
  let k := ctxKidx c
  8 ≤ leAt c 1 1 || leAt c 6 2 != 0 || leNat (slice c 112 16) != 0 || leNat (slice c 320 64) != 0 ||
    ((op == 6 || op == 7 || op == 8 || op == 9) && (ctxTag c < 8 || 16 < ctxTag c)) ||
    ((op == 6 || op == 7) && total < ctxAad c) ||
    ((op < 0x10 && (leAt c 1 1).testBit 1 || op == 0x25 || op == 0x26) && 15 < k) ||
    ((op == 0x20 || op == 0x21) && 37 < k) || ((op == 0x22 || op == 0x23) && 31 < k) || (op == 0x24 && (k == 0 || 31 < k))

/-- The AES key of an operation, or the code 0x45 of an empty management slot (R622, R624). -/
def ctxKey (c : List Byte) (s : State) : Option (List Byte) :=
  if (leAt c 1 1).testBit 1 then s.cip.mkeys.toList.getD (ctxKidx c) none else some (slice c 32 32)

/-- Padding of R624. -/
def padBytes (l : List Byte) : List Byte := l ++ [0x80] ++ zeros (15 - l.length % 16)

/-- Padding removed, or none where it is invalid. -/
def unpadBytes (l : List Byte) : Option (List Byte) :=
  let r := l.reverse.dropWhile fun b => b == 0
  match r with
  | b :: rest => if b = 0x80 ∧ l.length - rest.length ≤ 16 then some rest.reverse else none
  | [] => none

/-- ECB and CBC with padding (R623, R624); the chaining value after the last block goes to OUT for CBC. -/
def cipBlocks (cbc decrypt : Bool) (key : List Byte) (c m : List Byte) : CipResult :=
  let pad := ctxPad c
  if (!pad || decrypt) && m.length % 16 != 0 || (decrypt && pad && m.length == 0) then { status := 0x48 }
  else
    let t := if pad && !decrypt then padBytes m else m
    let ks := aesRoundKeys key
    let bs := (blocks16 t).filter fun b => b.length == 16
    let o := if cbc then if decrypt then cbcDec ks (ctxIv c) bs else cbcEnc ks (ctxIv c) bs
      else bs.flatMap fun b => if decrypt then aesDecWith ks b else aesEncWith ks b
    let last := if decrypt then t.drop (t.length - 16) else o.drop (o.length - 16)
    let fin := if cbc then some (if t.length = 0 then ctxIv c else last) else none
    if decrypt && pad then
      match unpadBytes o with
      | some p => { output := p, out := fin }
      | none => { status := 0x42, output := o, out := fin }
    else { output := o, out := fin }

/-- The final counter block of CTR (R623, R625). -/
def ctrFinal (c m : List Byte) : List Byte := beBytes 16 (beNat (ctxIv c) + (m.length + 15) / 16)

/-- The operations that use no key store (R623). -/
def cipPlain (op : Nat) (c m : List Byte) (s : State) : CipResult :=
  match op, ctxKey c s with
  | 0x10, _ => { out := some (sha384 m) }
  | 0x12, _ =>
    let pk := slice c 128 96
    { status := if ecOnCurve (beNat (pk.take 48)) (beNat (pk.drop 48)) && ecdsaVerify pk (slice c 224 96) (sha384 m) then 0 else 0x44 }
  | _, none => { status := 0x45 }
  | 0x01, some k => cipBlocks false false k c m
  | 0x02, some k => cipBlocks false true k c m
  | 0x03, some k => cipBlocks true false k c m
  | 0x04, some k => cipBlocks true true k c m
  | 0x05, some k => { output := aesCtr k (ctxIv c) m, out := some (ctrFinal c m) }
  | 0x06, some k =>
    let r := aesGcm false k ((ctxIv c).take 12) (m.take (ctxAad c)) (m.drop (ctxAad c))
    { output := r.1, out := some (r.2.take (ctxTag c)) }
  | 0x07, some k =>
    let r := aesGcm true k ((ctxIv c).take 12) (m.take (ctxAad c)) (m.drop (ctxAad c))
    { status := if r.2.take (ctxTag c) = (ctxOut c).take (ctxTag c) then 0 else 0x41, output := r.1 }
  | 0x08, some k => { out := some ((aesCmac k m).take (ctxTag c)) }
  | 0x09, some k => { status := if (aesCmac k m).take (ctxTag c) = (ctxOut c).take (ctxTag c) then 0 else 0x41 }
  | 0x0A, some k => if m.length = 0 then { status := 0x48 } else { output := kwpWrap k m }
  | 0x0B, some k =>
    if m.length % 8 ≠ 0 ∨ m.length < 16 then { status := 0x48 }
    else match kwpUnwrap k m with
      | some p => { output := p }
      | none => { status := 0x43 }
  | _, _ => { status := 0x40 }

/-- The result, STATUS and counts of an operation are written back, and its descriptor is done (R617, R621, R648). -/
def cipAnswer (k : Fin 32) (d : DmaDesc) (ctx : Nat) (c : List Byte) (marks : List Bool) (moved : Nat) (r : CipResult) (s : State) : State :=
  let auth := r.status = 0x46 ∨ r.status = 0x47
  let s := if auth then (s.bump CIP_CNT.AUTH_FAIL).set CIP_INT.AUTH_FAIL 1 else if r.status ≠ 0 then s.bump CIP_CNT.OP_FAIL else s
  let appr := s.get CIP_STATUS.APPROVED
  let s := s.when (appr == 0) (·.bump CIP_CNT.NONAPPR)
  let out := r.output.zip (marks ++ List.replicate (r.output.length - marks.length) false)
  match dmaWrite k 1 d.localAddr out s with
  | (some (e, n), s) => dmaFault k e .element 1 d.hops 0 n s
  | (none, s) =>
    let c := splice (splice (splice c 3 (leBytes 1 r.status)) 5 (leBytes 1 appr)) 12 (leBytes 4 r.output.length)
    let c := match r.out with | some o => splice c 64 o | none => c
    match dmaWrite k 1 ctx ((c.take 112).map fun b => (b, false)) s with
    | (some (e, _), s) => dmaFault k e .element 1 d.hops 0 0 s
    | (none, s) => dmaFinish k 0 moved s

/-- A management descriptor on channel 16 + k runs operation `op`, or ends with 0x40 where its context names none (R621, R624). It
waits while the services are not available (R637). -/
def cipServe (k : Fin 8) (op : Nat) (f : List Byte → List Byte → State → CipResult × State) (s : State) : State :=
  let ch : Fin 32 := ⟨16 + k.val, by omega⟩
  if !dmaActs ch s then s
  else
    match s.dma.chan[ch].desc with
    | none => s
    | some d =>
      if d.xts || d.finish.isSome then s
      else if s.bit CIP_STATUS.ERROR then dmaFault ch { kind := 0x17, source := 6, addr := d.localAddr } .element 1 d.hops 0 0 s
      else if !s.bit CIP_STATUS.READY || s.bit CIP_STATUS.SELFTEST then (dmaSt ch 3 s).set (DMA_CH_INT.HELD ch) 1
      else
        match d.tail with
        | .bad e _ _ hop => dmaFault ch e .refetch (d.elems.length + 1) hop 0 0 s
        | .fin =>
          let ctx := 64 * s.get (CIP_CH_CTX.ADDR k)
          match dmaRead ch 0 ctx 384 s with
          | (.error e, s) => dmaFault ch e .element 1 0 0 0 s
          | (.ok cm, s) =>
            let c := cm.map (·.1)
            let here := leAt c 0 1
            if here ≠ op ∧ here ∈ cipOps then s
            else if here ≠ op ∨ ctxBad op d.total c then cipAnswer ch d ctx c [] 0 { status := 0x40 } s
            else
              match (if op = 0x11 then (.ok (List.replicate d.total (0, false)), s) else readElems ch d.elems 0 s) with
              | (.error (e, off), s) => dmaFaultAt ch d e off s
              | (.ok m, s) =>
                let (r, s) := f c (m.map (·.1)) s
                let skip := if op = 6 ∨ op = 7 then ctxAad c else 0
                cipAnswer ch d ctx c ((m.drop skip).map (·.2)) d.total r s

/-- An operation that uses no key store. -/
def cipPlainOp (k : Fin 8) (op : Nat) (s : State) : Out := s.onCore (cipServe k op fun c m s => (cipPlain op c m s, s))

def execCipOpAesEcbEncrypt (k : Fin 8) (s : State) : Out := cipPlainOp k 0x01 s
def execCipOpAesEcbDecrypt (k : Fin 8) (s : State) : Out := cipPlainOp k 0x02 s
def execCipOpAesCbcEncrypt (k : Fin 8) (s : State) : Out := cipPlainOp k 0x03 s
def execCipOpAesCbcDecrypt (k : Fin 8) (s : State) : Out := cipPlainOp k 0x04 s
def execCipOpAesCtr (k : Fin 8) (s : State) : Out := cipPlainOp k 0x05 s
def execCipOpAesGcmEncrypt (k : Fin 8) (s : State) : Out := cipPlainOp k 0x06 s
def execCipOpAesGcmDecrypt (k : Fin 8) (s : State) : Out := cipPlainOp k 0x07 s
def execCipOpCmacGenerate (k : Fin 8) (s : State) : Out := cipPlainOp k 0x08 s
def execCipOpCmacVerify (k : Fin 8) (s : State) : Out := cipPlainOp k 0x09 s
def execCipOpKwpWrap (k : Fin 8) (s : State) : Out := cipPlainOp k 0x0A s
def execCipOpKwpUnwrap (k : Fin 8) (s : State) : Out := cipPlainOp k 0x0B s
def execCipOpSha384 (k : Fin 8) (s : State) : Out := cipPlainOp k 0x10 s
def execCipOpEcdsaVerify (k : Fin 8) (s : State) : Out := cipPlainOp k 0x12 s

/-- Random bytes (R623, R626). -/
def execCipOpRandomBytes (k : Fin 8) (s : State) : Out :=
  s.onCore (cipServe k 0x11 fun _ m s =>
    let (l, s) := cipBytes m.length s
    ({ output := l }, s))

/-- The verifier of a credential (R629). -/
def credVerifier (salt cred : List Byte) : List Byte := aesCmac verifyKey (sha384 (salt ++ cred))

/-- The slots of the ranges whose copies name an authority are loaded, where a direction is unlocked (R629). -/
def authLoad (a : Nat) (s : State) : State :=
  cipShow (forEach (List.finRange 32) (fun r s =>
    let x := s.keys.ranges[r]
    if a ∈ x.copies ∧ !(x.locked false && x.locked true) ∧ x.mek.length = 64 then slotSet r (some x.mek) s else s) s)

/-- A key-store operation whose write of the key store may fail with 0x4A (R624). -/
def keyOp (fail : Bool) (f : State → CipResult × State) (s : State) : CipResult × State := if fail then ({ status := 0x4A }, s) else f s

/-- AUTH (R629). -/
def cipAuth (c m : List Byte) (s : State) : CipResult × State :=
  if h : ctxKidx c < 38 then
    let a : Fin 38 := ⟨ctxKidx c, h⟩
    let x := s.keys.auths[a]
    if m.length = 0 ∨ 32 < m.length then ({ status := 0x48 }, s)
    else if a.val ∈ s.cip.lockedOut then ({ status := 0x47 }, s)
    else if x.enabled && credVerifier x.salt m == x.verifier then
      let s := (s.modAuth a fun x => { x with tries := 0 }).modCip fun u => { u with authed := (u.authed.erase a.val) ++ [a.val] }
      ({}, authLoad a.val s)
    else if !x.enabled then ({ status := 0x46 }, s)
    else
      let s := s.modAuth a fun x => { x with tries := x.tries + 1 }
      if x.limit ≠ 0 ∧ x.limit ≤ x.tries + 1 then
        ({ status := 0x47 }, s.modCip fun u => { u with lockedOut := u.lockedOut ++ [a.val] })
      else ({ status := 0x46 }, s)
  else ({ status := 0x40 }, s)

def execCipOpAuth (k : Fin 8) (fail : Bool) (s : State) : Out := s.onCore (cipServe k 0x20 fun c m => keyOp fail (cipAuth c m))

/-- SET_CRED (R629); while the debug level is 2 the factory provisions SID and PSID (R628). -/
def cipSetCred (c m : List Byte) (s : State) : CipResult × State :=
  if h : ctxKidx c < 38 then
    let a : Fin 38 := ⟨ctxKidx c, h⟩
    let may := a.val ∈ s.cip.authed ∨ 0 ∈ s.cip.authed ∨ 2 ∈ s.cip.authed ∨ (a.val ≤ 1 ∧ s.get CIP_STATUS.DBG_LEVEL = 2)
    if m.length = 0 ∨ 32 < m.length then ({ status := 0x48 }, s)
    else if !may then ({ status := 0x49 }, s)
    else
      let (salt, s) := cipBytes 16 s
      ({}, s.modAuth a fun x => { x with enabled := true, salt := salt, verifier := credVerifier salt m, tries := 0 })
  else ({ status := 0x40 }, s)

def execCipOpSetCred (k : Fin 8) (fail : Bool) (s : State) : Out := s.onCore (cipServe k 0x21 fun c m => keyOp fail (cipSetCred c m))

/-- The media key of a range is replaced (R635); `event` is that of the KEY record. -/
def replaceMek (r : Fin 32) (event : Nat) (s : State) : State :=
  let (m, s) := drawMek 4 s
  let s := s.modRange r fun x => { x with mek := m, gen := x.gen + 1 }
  let x := s.keys.ranges[r]
  let s := slotSet r (if x.locked false && x.locked true then none else some m) s
  (cipShow (s.set CIP_INT.KEYCHG 1)).logKey r.val event

def cipGenkey (c : List Byte) (s : State) : CipResult × State :=
  if h : ctxKidx c < 32 then ({}, replaceMek ⟨ctxKidx c, h⟩ 0 s) else ({ status := 0x40 }, s)

def execCipOpGenkey (k : Fin 8) (fail : Bool) (s : State) : Out := s.onCore (cipServe k 0x22 fun c _ => keyOp fail (cipGenkey c))

/-- LOCK: the lock record of a range takes effect; a range locked both ways loses its key from the slot, and one with no lock enabled
keeps a copy under the default KEK (R623, R630). -/
def cipLock (c m : List Byte) (s : State) : CipResult × State :=
  if h : ctxKidx c < 32 then
    let r : Fin 32 := ⟨ctxKidx c, h⟩
    if m.length ≠ 8 then ({ status := 0x48 }, s)
    else
      let (re, we, rl, wl, reset, auths) := Config.lockRecord m
      let s := s.modRange r fun x => { x with
        readEnabled := re, writeEnabled := we, readLocked := rl, writeLocked := wl, lockOnReset := reset, copies := auths.take 5
        default := !re && !we }
      let x := s.keys.ranges[r]
      let s := if x.locked false && x.locked true then slotSet r none s else s
      ({}, (cipShow (s.set CIP_INT.KEYCHG 1)).logKey r.val 1)
  else ({ status := 0x40 }, s)

def execCipOpLock (k : Fin 8) (fail : Bool) (s : State) : Out := s.onCore (cipServe k 0x23 fun c m => keyOp fail (cipLock c m))

/-- The entry of namespace n in the namespace table (R611, R612). -/
def nsEntry (n : Nat) (s : State) : List Byte := ((kvFind s.dict (dictKey 0x4020 n)).getD []) ++ zeros 32

/-- The namespace of a range (R633, R646). -/
def rangeNs (r : Nat) (s : State) : Nat := dictNat 0x6020 r 1 s

/-- LBAs of a zone of a namespace (R106). -/
def zoneLbas (n : Nat) (s : State) : Nat := if leAt (nsEntry n s) 1 1 = 1 then 16384 else 65536

/-- SET_RANGE: a range that overlaps another of its namespace, or that leaves the zone boundaries of a zoned namespace, is refused
(R633). -/
def cipSetRange (c m : List Byte) (s : State) : CipResult × State :=
  if h : ctxKidx c < 32 then
    let r : Fin 32 := ⟨ctxKidx c, h⟩
    if m.length ≠ 24 then ({ status := 0x48 }, s)
    else
      let (first, len) := Config.rangeSpan m
      let n := rangeNs r s
      let clash := (List.range 31).any fun i =>
        let j := i + 1
        let (f2, l2) := Config.rangeSpan (rangeOf j s).geometry
        j != r.val && rangeNs j s == n && (rangeOf j s).geometry != [] && len != 0 && l2 != 0 && f2 < first + len && first < f2 + l2
      let z := zoneLbas n s
      let off := leAt (nsEntry n s) 0 1 == 2 && (first % z != 0 || (first + len) % z != 0)
      if clash || off then ({ status := 0x40 }, s) else ({}, s.modRange r fun x => { x with geometry := m })
  else ({ status := 0x40 }, s)

def execCipOpSetRange (k : Fin 8) (fail : Bool) (s : State) : Out := s.onCore (cipServe k 0x24 fun c m => keyOp fail (cipSetRange c m))

/-- MKEY_GEN: a management key drawn into a slot, its blob to LOCAL (R623). -/
def cipMkeyGen (c : List Byte) (s : State) : CipResult × State :=
  if h : ctxKidx c < 16 then
    let (m, s) := cipBytes 32 s
    ({ output := kwpWrap mgmtKey m }, mkeySet ⟨ctxKidx c, h⟩ m s)
  else ({ status := 0x40 }, s)

def execCipOpMkeyGen (k : Fin 8) (s : State) : Out := s.onCore (cipServe k 0x25 fun c _ s => cipMkeyGen c s)

/-- MKEY_LOAD: a blob unwrapped into a slot (R623). -/
def cipMkeyLoad (c m : List Byte) (s : State) : CipResult × State :=
  if h : ctxKidx c < 16 then
    if m.length ≠ 40 then ({ status := 0x48 }, s)
    else
      match kwpUnwrap mgmtKey m with
      | some p => if p.length = 32 then ({}, mkeySet ⟨ctxKidx c, h⟩ p s) else ({ status := 0x43 }, s)
      | none => ({ status := 0x43 }, s)
  else ({ status := 0x40 }, s)

def execCipOpMkeyLoad (k : Fin 8) (s : State) : Out := s.onCore (cipServe k 0x26 cipMkeyLoad)

/-! ## Debug unlock -/

/-- Whether a master is the debug port, which alone writes CIP_UNLK (R648). -/
def isDebug (m : Master) : Bool := match m with | .debug => true | _ => false

/-- An attempt ends: its event, and after three failures a refusal of 60 s (R645). The spec gives no codes for the result: free. -/
def unlkEnd (level : Nat) (ok : Bool) (s : State) : State :=
  let (v, s) := s.fresh
  let s := (s.set CIP_UNLK.FAIL (boolNat !ok)).set CIP_INT.UNLK 1
  let s := s.log 0x061 (leBytes 1 level ++ leBytes 1 v ++ leBytes 2 0)
  if ok then s.set CIP_STATUS.UNLK_FAILS 0
  else
    let s := s.bump CIP_STATUS.UNLK_FAILS
    if s.get CIP_STATUS.UNLK_FAILS = 3 then
      let t := s.tick.toNat + 6000000000
      s.modCip fun c => { c with refuse := some t }
    else s

/-- GO with ADDR 0: level 0 takes effect at once, another level draws a nonce (R645). -/
def unlkRequest (level : Nat) (s : State) : State :=
  let s := (s.set CIP_UNLK.LEVEL level).set CIP_UNLK.ADDR 0
  if level = 0 then (s.set CIP_STATUS.DBG_LEVEL 0).set CIP_STATUS.APPROVED 1
  else if level = 3 || s.cip.refuse.isSome || !s.bit CIP_STATUS.READY then (s.set CIP_UNLK.FAIL 1).set CIP_INT.UNLK 1
  else
    let (n, s) := cipBytes 32 s
    let s := forEach (List.range 8) (fun i s => s.set (CIP_UNLK_NONCE.NONCE i) (leAt n (4 * i) 4)) s
    ((s.modCip fun c => { c with nonce := n }).set CIP_UNLK.NONCE_VALID 1).set CIP_INT.UNLK 1

def execCipUnlkNonceRequest (m : Master) (level : BitVec 2) (s : State) : Out :=
  s.onCore fun s => if isDebug m then unlkRequest level.toNat s else s

/-- Every range whose lock is enabled is locked (R645). -/
def cipLockAll (s : State) : State :=
  cipShow (forEach (List.finRange 32) (fun r s => s.modRange r fun x =>
    { x with readLocked := x.readLocked || x.readEnabled, writeLocked := x.writeLocked || x.writeEnabled }) s)

/-- GO with a response block: the signature is verified against the level's key, and the level granted after zeroizing (R645). -/
def unlkVerify (block level : Nat) (s : State) : State :=
  let s := (s.set CIP_UNLK.LEVEL level).set CIP_UNLK.ADDR block
  if level = 0 then (s.set CIP_STATUS.DBG_LEVEL 0).set CIP_STATUS.APPROVED 1
  else if s.cip.refuse.isSome || !s.bit CIP_STATUS.READY then (s.set CIP_UNLK.FAIL 1).set CIP_INT.UNLK 1
  else
    let l := s.readBytes (64 * block) 192
    let pk := l.take 96
    let serial := (((kvFind s.dict (dictKey 0x1018 4)).getD []) ++ zeros 16).take 16
    let ok := s.bit CIP_UNLK.NONCE_VALID && level != 3 && sha384 pk == Config.dbgKeyHash level &&
      ecOnCurve (beNat (pk.take 48)) (beNat (pk.drop 48)) &&
      ecdsaVerify pk (l.drop 96) (sha384 (s.cip.nonce ++ serial ++ leBytes 1 level))
    let s := s.set CIP_UNLK.NONCE_VALID 0
    let s := if ok then
        ((cipLockAll (cipEmpty s)).set CIP_STATUS.DBG_LEVEL level).set CIP_STATUS.APPROVED (boolNat (level != 2))
      else s
    unlkEnd level ok s

def execCipUnlkVerify (m : Master) (block : BitVec 34) (level : BitVec 2) (s : State) : Out :=
  s.onCore fun s => if isDebug m then unlkVerify block.toNat level.toNat s else s

/-- The refusal of R645 ends. -/
def execCipUnlkLockoutEnd (s : State) : Out :=
  s.onCore fun s =>
    match s.cip.refuse with
    | some t => if t ≤ s.tick.toNat then (s.set CIP_STATUS.UNLK_FAILS 0).modCip fun c => { c with refuse := none } else s
    | none => s

end Sys2Proof.Machine
end

