-- ==== Sys2Proof/Machine/Reset.lean ====
section
/-! DEFINITION. What a reset of a domain leaves: the registers and units of the core domain at reset, those of the retention
domain kept (R13, R33, R464, R473). -/

namespace Sys2Proof.Machine

/-- Whether a register address lies in the retention or the always-on domain: SYS, SUP, EVR, FNI, ODE, and the registers of INTC
that serve YP and sources 224 to 255 (R14, R473). -/
def keptAddr (a : Nat) : Bool :=
  (0x0F00000000 ≤ a && a < 0x0F00020000) || (0x0F00030000 ≤ a && a < 0x0F00040000) ||
  (0x0F00040700 ≤ a && a < 0x0F00040800) || a == 0x0F00040820 || a == 0x0F00040860 || a == 0x0F000408A0 || a == 0x0F000408C0 ||
  (0x0F00041100 ≤ a && a < 0x0F00041140) || (0x0F00041300 ≤ a && a < 0x0F00041340) ||
  (0x0F00600000 ≤ a && a < 0x0F00700000)

/-- Whether a register address lies in the always-on domain: SUP. -/
def alwaysAddr (a : Nat) : Bool := 0x0F00010000 ≤ a && a < 0x0F00020000

/-- Fault sources that exist while the core domain is off: those of SUP, SYS, FNI and EVR (R656). -/
def keptSource (k : Nat) : Bool := k ≤ 1 || (8 ≤ k && k ≤ 17) || k == 88 || k == 103 || k == 104

/-- The core domain is reset: its registers and units take their reset values. The DRAM keeps its content only in self-refresh,
through the hold latches (R34, R655, R684, R716); open zones come back Closed (R562). -/
def coreReset (s : State) : State :=
  let held := s.bit DRC_SR.STATE
  let s := if held then s.set SUP_STATUS.SR_HOLD 1 else if s.bit SUP_STATUS.SR_HOLD then s else zeroRange 0x1000000000 0x1200000000 s
  let s := s.set SYS_BEAT.LOCKED 0
  { s with
    regs := s.regs.filter fun r => keptAddr r.1
    locks := s.locks.filter fun k => keptAddr (k / 64)
    raised := s.raised.filter keptSource
    pulses := s.pulses.filter fun k => decide (224 ≤ k)
    psl := State.reset.psl, dc := State.reset.dc, wp := State.reset.wp, fms := State.reset.fms, svd := State.reset.svd,
    adl := State.reset.adl, cle := State.reset.cle, spm := State.reset.spm, memu := { s.memu with
      scrubs := State.reset.memu.scrubs, fill := none, bringup := none, srWait := false },
    flt := State.reset.flt, dma := State.reset.dma, cip := State.reset.cip, l2 := {}
    cores := (Vector.replicate 5 ({} : Core)).set 4 s.cores[4], image := none, boot := { s.boot with recovery := false }, rcp := {}, manifest := 0
    pce := {}, nvq := {}, nvme := { s.nvme with waiting := [], features := [], events := [], masked := [], image := [], changed := [], ps := 0, lastPs := 0, spaces := [], cached := [] }
    man := { s.man with generation := 0, committed := none }, resp := .none
    zones := s.zones.map fun z => if z.2.state = 2 ∨ z.2.state = 3 then (z.1, { z.2 with state := 4 }) else z }

/-- The core domain is powered off: reset, and main SRAM, sample ring and control stores lose their content (R401). -/
def coreOff (s : State) : State :=
  let s := zeroRange 0x0040000000 0x0040140000 (zeroRange 0x0010000000 0x0010800000 (coreReset s))
  { s with power := { s.power with core := false, analog := false, dramPhy := false, pciePhy := false } }

/-- The core domain is powered and released (R464, R683); SYS_STEPMON starts afresh (R49). -/
def coreOn (s : State) : State :=
  { s with power := { s.power with core := true, analog := true, dramPhy := true, pciePhy := true } }.set SUP_STATUS.CORE_ON 1
    |>.clearAll [SYS_STEPMON.STEP_RATE, SYS_STEPMON.VALID] |>.set SYS_STEPMON.MIN_RATE 0xFFFF

/-- The retention domain is powered off: pantry SRAM, the tick count and every register outside SUP are lost (R401, R681, R694). The
MRAM keeps its content. -/
def retentionOff (s : State) : State :=
  let s := zeroRange 0x0020000000 0x0020080000 s
  { s with
    power := { s.power with retention := false, io := false }
    regs := s.regs.filter fun r => alwaysAddr r.1
    locks := [], cores := s.cores.set 4 Core.yp, fni := {}, keys := { s.keys with retention := none }
    dict := kvErase (kvErase s.dict (dictKey 0x2000 0)) (dictKey 0x2020 0)
    raised := [], pulses := [], evrQueue := [], tick := 0 }.set SUP_STATUS.IO_ON 0

end Sys2Proof.Machine
end

