-- ==== Sys2Proof/Machine/Interrupts.lean ====
section
/-! DEFINITION. The interrupt controller: lines, pending bits, presentation, and the writes that move them (R470 to R485). -/

namespace Sys2Proof.Machine

/-- Whether a flag register and its enables share a set bit. -/
def shares (flags : Fld) (enables : Fld) (s : State) : Bool :=
  bits ((s.regWord flags.addr flags.rst).toNat &&& s.get enables) 0 40 != 0

/-- The level of the line of level source `k`, from the registers of its unit (R471). Source 74 is the debug port's. -/
def intcLine (k : Nat) (attention : Bool) (s : State) : Bool :=
  if k < 224 && !s.power.core then false
  else if k ≤ 3 then (k < 2 || !s.variant1408) && shares (DET_INT.HELD k) (DET_INTEN.EN k) s
  else if k ≤ 7 then (k < 6 || !s.variant1408) && shares (SVD_INT.LOCK_LOST (k - 4)) (SVD_INTEN.EN (k - 4)) s
  else if k ≤ 9 then (k < 9 || !s.variant1408) && shares (WP_INT.JOURNAL_DONE (k - 8)) (WP_INTEN.EN (k - 8)) s
  else if k ≤ 11 then (k < 11 || !s.variant1408) && shares { FMS_INTEN.EN (k - 10) with addr := (FMS_INTEN.EN (k - 10)).addr - 8 }
    (FMS_INTEN.EN (k - 10)) s
  else if k = 12 then shares { CLE_INTEN.EN with addr := CLE_INTEN.EN.addr - 8 } CLE_INTEN.EN s
  else if k = 13 then shares { SPM_INTEN.EN with addr := SPM_INTEN.EN.addr - 8 } SPM_INTEN.EN s
  else if k ≤ 15 then (k < 15 || !s.variant1408) &&
    (s.bit (PSL_FAULT.POWER (k - 14)) || s.bit (PSL_FAULT.LINK (k - 14)) || s.bit (PSL_FAULT.READ (k - 14)) || s.bit (PSL_FAULT.WRITE (k - 14)))
  else if k ≤ 17 then (k < 17 || !s.variant1408) &&
    s.get { ADL_FAULT.LINK (k - 16) with lo := 10, len := 2 } != 0
  else if k = 24 then shares MEM_INT.CE MEM_INTEN.EN s
  else if k = 25 then shares DRC_INT.CE DRC_INTEN.EN s
  else if k = 26 then shares { CPX_INTEN.EN with addr := CPX_INTEN.EN.addr - 8 } CPX_INTEN.EN s
  else if k = 27 ∨ k = 228 then
    bits ((s.regWord SUP_INT.WARN.addr 0).toNat &&& s.get SUP_INTEN.EN) 0 10 != 0
  else if 28 ≤ k ∧ k ≤ 31 then s.get (CPX_EGG.STAGE (k - 28)) != 0
  else if 32 ≤ k ∧ k ≤ 63 then shares (DMA_CH_INT.DONE (k - 32)) (DMA_CH_INTEN.EN (k - 32)) s
  else if 64 ≤ k ∧ k ≤ 71 then
    let w := (s.regWord NVQ_INT.CC_EN.addr 0).toNat &&& s.get NVQ_INTEN.EN
    w.testBit (k - 64) || (k == 64 && bits w 8 5 != 0)
  else if k = 72 then shares { PCE_INTEN.EN with addr := PCE_INTEN.EN.addr - 8 } PCE_INTEN.EN s
  else if k = 73 then shares { CIP_INTEN.EN with addr := CIP_INTEN.EN.addr - 8 } CIP_INTEN.EN s
  else if k = 74 then attention
  else if k = 224 then shares { FNI_INTEN.EN with addr := FNI_INTEN.EN.addr - 8 } FNI_INTEN.EN s
  else if k = 225 then shares { ODE_INTEN.EN with addr := ODE_INTEN.EN.addr - 8 } ODE_INTEN.EN s
  else if k = 226 then shares EVR_INT.RECORD EVR_INTEN.EN s
  else if k = 227 then bits ((s.regWord SUP_INT.WARN.addr 0).toNat &&& s.get SUP_INTEN.EN) 15 5 != 0
  else if k = 229 then s.get SYS_YP_EGG.STAGE != 0
  else if k = 230 then s.bit SYS_REFCLK.LOCK_LOST || s.bit SYS_REFCLK.XTAL_FAIL
  else false

/-- The target of source `k`: fixed at YP from 224 on (R472). -/
def intcTarget (k : Nat) (s : State) : Nat := if 224 ≤ k then 4 else s.get (INTC_SRC.TARGET k)

/-- The pending bit of source `k` for target `t`. -/
def intcPend (t k : Nat) (s : State) : Bool := (s.get (INTC_PEND.PEND t (k / 32))).testBit (k % 32)

def intcSetPend (t k : Nat) (v : Bool) (s : State) : State :=
  let f := INTC_PEND.PEND t (k / 32)
  s.set f (setBits (s.get f) (k % 32) 1 (boolNat v))

/-- Whether source `k` is eligible for target `t` (R474). -/
def intcEligible (t k : Nat) (s : State) : Bool :=
  intcPend t k s && !(s.get (INTC_MASK.MASK t (k / 32))).testBit (k % 32) &&
  decide (s.get (INTC_THRESH.THRESH t) < s.get (INTC_SRC.PRIO k))

/-- The source presented to a target: of the eligible ones that with the highest PRIO, the lowest number among equals (R474). -/
def intcBest (t : Nat) (s : State) : Option Nat :=
  (List.range 256).foldl (fun best k =>
    if !intcEligible t k s then best
    else match best with
      | none => some k
      | some j => if s.get (INTC_SRC.PRIO j) < s.get (INTC_SRC.PRIO k) then some k else best) none

/-- INTC_STATE[t] shows the present presentation (R475); one wakes its core from WFI (R439, R476). -/
def intcPresent (t : Nat) (s : State) : State :=
  match intcBest t s with
  | none => s.clearAll [INTC_STATE.PRESENT t, INTC_STATE.PRIO t, INTC_STATE.SRC t]
  | some k =>
    let s := ((s.set (INTC_STATE.PRESENT t) 1).set (INTC_STATE.PRIO t) (s.get (INTC_SRC.PRIO k))).set (INTC_STATE.SRC t) k
    s.set (if t = 4 then SYS_YP_CTRL.WFI else CPX_CORE_CTRL.WFI t) 0

/-- The presentation to every target. -/
def intcPresentAll (s : State) : State := forEach [0, 1, 2, 3, 4] intcPresent s

/-- The vector address of a source for a target (R475). -/
def intcVector (t k : Nat) (s : State) : Nat := 0x4000 * s.get (INTC_VBASE.BASE t) + 64 * k

/-- INTC answers while its part that serves the source is powered (R473). -/
def intcOn (k : Nat) (s : State) : Bool := if 224 ≤ k then s.power.retention else s.power.core

/-- The line of source `k` changes or pulses: its LINE field follows, a high line or a pulse sets the pending bit, and the
presentation follows (R470, R474, R475). An edge source takes its pulse from the list of pulses. -/
def execIntcLineEvent (k : Fin 256) (attention : Bool) (s : State) : Out :=
  .next <|
    let k := k.val
    if intcReserved k || !intcOn k s then s
    else if intcEdge k then
      if s.pulses.contains k then
        intcPresentAll (intcSetPend (intcTarget k s) k true { s with pulses := s.pulses.erase k })
      else s
    else
      let on := intcLine k attention s
      let s := s.set (INTC_SRC.LINE k) (boolNat on)
      if on then intcPresentAll (intcSetPend (intcTarget k s) k true s) else s

/-- INTC_SWI.GO sets the pending bit of a software source (R471, R484). -/
def execIntcSwiGo (src : BitVec 8) (s : State) : Out :=
  s.onRetention fun s =>
    let k := src.toNat
    if ((192 ≤ k ∧ k ≤ 223) ∨ 240 ≤ k) ∧ intcOn k s then intcPresentAll (intcSetPend (intcTarget k s) k true s) else s

/-- A write of INTC_SRC[k].TARGET: once after a reset, for targets 0 to 4, and not for sources from 224 on; a pending bit moves
along (R472, R484). -/
def intcTargetWrite (k t : Nat) (s : State) : State :=
  if intcReserved k ∨ 224 ≤ k ∨ 5 ≤ t ∨ s.bit (INTC_SRC.LOCKED k) then s
  else
    let old := s.get (INTC_SRC.TARGET k)
    let p := intcPend old k s
    let s := ((intcSetPend old k false s).set (INTC_SRC.TARGET k) t).set (INTC_SRC.LOCKED k) 1
    intcPresentAll (s.when p (intcSetPend t k true))

def execIntcTargetWrite (k : Fin 256) (t : BitVec 3) (s : State) : Out := s.onCore (intcTargetWrite k.val t.toNat)

/-- The bits of register `r` of target `t` that exist: those of sources with that target that are not reserved (R471, R474). -/
def intcMine (t r : Nat) (s : State) : Nat :=
  (List.range 32).foldl (fun w i => if !intcReserved (32 * r + i) && intcTarget (32 * r + i) s == t then w + 2 ^ i else w) 0

/-- A write of INTC_PEND[t][r]: 0 clears and 1 sets the bits of the target's own sources (R479). A level source whose line is high
sets its bit again (R470, R479). -/
def intcPendWrite (t r w : Nat) (s : State) : State :=
  let mine := intcMine t r s
  let high := (List.range 32).foldl (fun x i =>
    if !intcEdge (32 * r + i) && s.bit (INTC_SRC.LINE (32 * r + i)) then x + 2 ^ i else x) 0
  intcPresentAll (s.set (INTC_PEND.PEND t r) ((w ||| high) &&& mine))

def execIntcPendWrite (t : Fin 5) (r : Fin 8) (w : BitVec 32) (s : State) : Out :=
  .next (if (if t = 4 then s.power.retention else s.power.core) then intcPendWrite t.val r.val w.toNat s else s)

end Sys2Proof.Machine
end

