-- ==== Sys2Proof/Machine/Cpx.lean ====
section
/-! DEFINITION. The core complex: the L2 and its victim cache, store buffers and reservations, run control and the watchdogs (R441 to
R469). -/

namespace Sys2Proof.Machine

def State.modCore (s : State) (c : Fin 5) (f : Core → Core) : State := { s with cores := s.cores.set c (f s.cores[c]) }
def State.modL2 (s : State) (f : L2 → L2) : State := { s with l2 := f s.l2 }

/-- The master that a core is. -/
def coreMaster (c : Fin 5) : Master := if h : c.val < 4 then .y ⟨c.val, h⟩ else .yp

/-- A count of CPX rises; the first saturation sets CPX_INT.CNT_SAT (R468). -/
def cpxCount (f : Fld) (s : State) : State :=
  let t := s.bump f
  if s.get f ≠ t.get f ∧ t.get f = 2 ^ f.len - 1 then t.set CPX_INT.CNT_SAT 1 else t

/-- CPX_L2_STATUS counts the victim cache entries and the miss registers in use. -/
def l2Show (s : State) : State :=
  (s.set CPX_L2_STATUS.VC_USED s.l2.victims.length).set CPX_L2_STATUS.MISS_BUSY s.l2.misses.length

/-- Whether the L2 caches an address: boot ROM, main SRAM and DRAM (R448). -/
def l2Caches (a : Addr) (s : State) : Bool :=
  match regionOf a s with
  | .mem m => m == 0 || m == 3 || m == 4
  | _ => false

/-- The key of the way that holds a line. -/
def l2Way (line : Nat) (s : State) : Option Nat :=
  ((List.range 16).map (16 * (line % 1024) + ·)).find? fun k =>
    match kvFind s.l2.ways k with
    | some l => l.line == line
    | none => false

/-- An event of R463 is captured, or counted as a further one. -/
def l2Capture (kind req line syndrome : Nat) (s : State) : State :=
  if s.bit CPX_L2_ERR_INFO.VALID then s.set CPX_L2_ERR_INFO.MULTI 1
  else
    ((((s.set CPX_L2_ERR_ADDR.ADDR line).set CPX_L2_ERR_INFO.VALID 1).set CPX_L2_ERR_INFO.KIND kind).set
      CPX_L2_ERR_INFO.REQ req).set CPX_L2_ERR_INFO.SYNDROME syndrome

/-- A store or a write-back is dropped (R463). -/
def l2Dropped (kind req line : Nat) (s : State) : State := ((l2Capture kind req line 0 s).set CPX_INT.L2_WERR 1).raise 79

/-- The rows of a mask, as poison bits on the line's bytes. -/
def l2Marked (l : L2Line) : Marked := l.data.zipIdx.map fun p => (p.1, (l.poison ||| l.mark).testBit (p.2 / 8))

/-- A dirty line written back, its marked rows with P = 1; a bus error drops it (R400, R457, R463). -/
def l2WriteBack (l : L2Line) (s : State) : State :=
  if !l.dirty then s
  else if !memoryOn (64 * l.line) s then l2Dropped 2 6 l.line s
  else
    let a := 64 * l.line
    let s := forEach (List.range 8) (fun i s => memWrite 1 ((l.poison ||| l.mark).testBit i) (a + 8 * i) (slice l.data (8 * i) 8) s) s
    s

/-- A line leaves every L1 data cache (R454). -/
def l1dDrop (keep : Option (Fin 5)) (line : Nat) (s : State) : State :=
  { s with cores := Vector.ofFn fun c => if keep = some c then s.cores[c]
                                         else { s.cores[c] with l1d := s.cores[c].l1d.filter (· != line) } }

/-- A line enters the victim cache, or is written back where that is not used (R457, R459). -/
def l2Evict (l : L2Line) (s : State) : State :=
  let s := l1dDrop none l.line s
  if s.bit CPX_L2_CTRL.VC_EN && !s.bit CPX_L2_STATUS.BLOCKING_ACT && !s.bit CPX_L2_STATUS.DRAINING then
    match s.l2.victims ++ [l] with
    | v :: rest => if 8 ≤ rest.length then l2WriteBack v (s.modL2 fun x => { x with victims := rest })
        else s.modL2 fun x => { x with victims := v :: rest }
    | [] => s
  else l2WriteBack l s

/-- The replacement register steps once (R458). -/
def lfsrStep (v : Nat) : Nat :=
  v * 2 % 0x10000 + (boolNat (v.testBit 15) + boolNat (v.testBit 13) + boolNat (v.testBit 12) + boolNat (v.testBit 10)) % 2

/-- A line is allocated: the lowest invalid way of its set, or the way of CPX_L2_LFSR (R458). -/
def l2Place (l : L2Line) (s : State) : State :=
  let base := 16 * (l.line % 1024)
  let k := match (List.range 16).find? fun w => (kvFind s.l2.ways (base + w)).isNone with
    | some w => base + w
    | none => base + s.get CPX_L2_LFSR.LFSR % 16
  let old := kvFind s.l2.ways k
  let s := (s.modL2 fun x => { x with ways := kvInsert x.ways k l }).set CPX_L2_LFSR.LFSR (lfsrStep (s.get CPX_L2_LFSR.LFSR))
  match old with
  | some o => l2Evict o s
  | none => s

/-- A line read from memory, with its marks and its poison; none for a bus error (R455). -/
def l2Refill (req line : Nat) (s : State) : Option L2Line × State :=
  if !memoryOn (64 * line) s then (none, s)
  else
    let (l, s) := (List.range 8).foldl (fun (p : L2Line × State) i =>
      let (v, poison, bad, s) := rowRead req (64 * line + 8 * i) p.2
      ({ p.1 with data := p.1.data ++ leBytes 8 v.toNat
                  poison := p.1.poison + (if poison then 2 ^ i else 0)
                  mark := p.1.mark + (if bad then 2 ^ i else 0) }, s))
      (({ line := line, dirty := false, data := [] } : L2Line), s)
    (some l, s)

/-- The next line is prefetched after a demand miss that took a miss register (R456). -/
def l2Prefetch (line : Nat) (s : State) : State :=
  let n := line + 1
  if s.bit CPX_L2_CTRL.PREFETCH_EN && !s.bit CPX_L2_STATUS.BLOCKING_ACT && !s.bit CPX_L2_STATUS.DRAINING && n / 64 == line / 64 &&
      l2Caches (64 * n) s && (l2Way n s).isNone && !(s.l2.victims.any fun v => v.line == n) && !s.l2.misses.contains n &&
      decide (s.l2.misses.length ≤ 5) then
    cpxCount CPX_L2_CNT_B.PREFETCH (s.modL2 fun x => { x with misses := x.misses ++ [n] })
  else s

/-- The line of a WB access in the L2, after a recall, a merge into its prefetch, or a refill; none for a bus error (R454 to R457).
`req` is 0 for a fetch and 1 for data. -/
def l2Get (req line : Nat) (s : State) : Option L2Line × State :=
  match l2Way line s with
  | some k => (kvFind s.l2.ways k, s)
  | none =>
    match (if s.bit CPX_L2_CTRL.VC_EN then s.l2.victims.find? fun v => v.line == line else none) with
    | some v =>
      let s := s.modL2 fun x => { x with victims := x.victims.filter fun w => w.line != line }
      (some v, l2Show (l2Place v (cpxCount CPX_L2_CNT_B.RECALL s)))
    | none =>
      let merged := s.l2.misses.contains line
      let s := cpxCount (if merged then CPX_L2_CNT_A.MERGE else CPX_L2_CNT_A.MISS) s
      let s := s.modL2 fun x => { x with misses := x.misses.filter (· != line) }
      match l2Refill req line s with
      | (none, s) => (none, l2Show s)
      | (some l, s) =>
        let s := l2Place l s
        (some l, l2Show (if merged then s else l2Prefetch line s))

/-- A granule's reservations are cleared for every core but the one that stores (R443). -/
def clearReserved (keep : Option (Fin 5)) (granule : Nat) (s : State) : State :=
  { s with cores := Vector.ofFn fun c =>
      if keep = some c ∨ s.cores[c].reserved ≠ some granule then s.cores[c] else { s.cores[c] with reserved := none } }

/-- A WB store is performed in the L2 (R399, R441, R454); one whose refill meets a bus error is dropped (R463). -/
def l2Store (c : Fin 5) (a : Addr) (bs : List Byte) (s : State) : State :=
  let line := a / 64
  match l2Get 1 line s with
  | (none, s) => l2Dropped 1 c.val line s
  | (some l, s) =>
    let row := a % 64 / 8
    let bit (m : Nat) : Bool := m.testBit row
    let full := bs.length == 8
    let clear (m : Nat) : Nat := if bit m then m - 2 ^ row else m
    let poison := if full then clear l.poison else if bit l.mark then clear l.poison + 2 ^ row else l.poison
    let l := { l with data := splice l.data (a % 64) bs, dirty := true, poison := poison, mark := clear l.mark }
    let s := match l2Way line s with
      | some k => s.modL2 fun x => { x with ways := kvInsert x.ways k l }
      | none => s
    clearReserved (some c) (a / 64) (l1dDrop (some c) line s)

/-- A core's earlier stores are performed, in program order (R441, R442). -/
def coreDrain (c : Fin 5) (s : State) : State :=
  let l := s.cores[c].stores
  let s := forEach l (fun p s => l2Store c p.1 p.2 s) (s.modCore c fun x => { x with stores := [] })
  s

/-- The victim cache is written back and emptied (R459, R460). -/
def vcFlush (s : State) : State :=
  let l := s.l2.victims
  l2Show (forEach l l2WriteBack (s.modL2 fun x => { x with victims := [] }))

/-- Blocking mode is in effect once the misses in progress have ended (R459). -/
def l2Drained (s : State) : State :=
  if s.bit CPX_L2_STATUS.DRAINING && s.l2.misses.isEmpty then
    ((vcFlush s).set CPX_L2_STATUS.DRAINING 0).set CPX_L2_STATUS.BLOCKING_ACT 1
  else s

/-- A write of CPX_L2_CTRL.BLOCKING (R459). -/
def l2Blocking (v : Bool) (s : State) : State :=
  let s := s.set CPX_L2_CTRL.BLOCKING (boolNat v)
  if v then if s.bit CPX_L2_STATUS.BLOCKING_ACT then s else l2Drained (s.set CPX_L2_STATUS.DRAINING 1)
  else (s.set CPX_L2_STATUS.BLOCKING_ACT 0).set CPX_L2_STATUS.DRAINING 0

def execL2BlockingWrite (v : Bool) (s : State) : Out := s.onCore (l2Blocking v)

/-- The refill of a prefetch returns (R455 to R458); one with a bus error brings no line. -/
def execL2RefillDone (k : Fin 8) (s : State) : Out :=
  s.onCore fun s =>
    match s.l2.misses[k.val]? with
    | none => s
    | some line =>
      let s := s.modL2 fun x => { x with misses := x.misses.filter (· != line) }
      match l2Refill 1 line s with
      | (none, s) => l2Drained (l2Show s)
      | (some l, s) => l2Drained (l2Show (l2Place l s))

/-- Writing CPX_L2_CTRL.CLR_CNT (R468). -/
def cpxClrCnt (s : State) : State :=
  let s := forEach [0, 1, 2, 3] (fun (n : Nat) s => s.clearAll [CPX_L1ERR.TLB n, CPX_L1ERR.L1D n, CPX_L1ERR.L1I n]) s
  s.clearAll [CPX_L2_CNT_A.MERGE, CPX_L2_CNT_A.MISS, CPX_L2_CNT_B.CE, CPX_L2_CNT_B.RECALL, CPX_L2_CNT_B.PREFETCH]

def execCpxClrCnt (s : State) : Out := s.onCore cpxClrCnt

/-! ### Run control -/

/-- The state in which a core starts: the control registers at their reset values, nothing buffered or cached (R464, R466). -/
def Core.fresh (c : Fin 5) (x : Core) (pc : Nat) : Core :=
  { (if c.val = 4 then Core.yp else ({} : Core)) with regs := x.regs, pc := BitVec.ofNat 40 pc }

/-- The fields that show a core's state: HELD, WFI, and for a Y core USER and VFAULT. -/
def coreShow (c : Fin 5) (held wfi : Bool) (s : State) : State :=
  if c.val = 4 then (s.set SYS_YP_CTRL.HELD (boolNat held)).set SYS_YP_CTRL.WFI (boolNat wfi)
  else
    (((s.set (CPX_CORE_CTRL.HELD c.val) (boolNat held)).set (CPX_CORE_CTRL.WFI c.val) (boolNat wfi)).set
      (CPX_CORE_CTRL.USER c.val) (boolNat (!s.cores[c].status.toNat.testBit 1))).set (CPX_CORE_CTRL.VFAULT c.val)
        (boolNat s.cores[c].halted)

def coreHeldBit (c : Fin 5) (s : State) : Bool :=
  if c.val = 4 then s.bit SYS_YP_CTRL.HELD else s.bit (CPX_CORE_CTRL.HELD c.val)
def coreWaits (c : Fin 5) (s : State) : Bool :=
  if c.val = 4 then s.bit SYS_YP_CTRL.WFI else s.bit (CPX_CORE_CTRL.WFI c.val)

/-- The start address of a core (R464, R469). -/
def coreStartAddr (c : Fin 5) (s : State) : Nat :=
  8 * (if c.val = 4 then s.get SYS_YP_CTRL.START else s.get (CPX_START.ADDR c.val))

/-- A core is reset and held; its stores not yet performed are discarded (R464). -/
def coreStop (c : Fin 5) (s : State) : State := coreShow c true false (s.modCore c fun x => x.fresh c 0)

/-- A core starts at its start address (R464, R466). -/
def coreBegin (c : Fin 5) (s : State) : State :=
  coreShow c false false (s.modCore c fun x => x.fresh c (coreStartAddr c s))

/-- Writing RUN of a core: a held core starts. -/
def coreRun (c : Fin 5) (s : State) : State := if coreHeldBit c s then coreBegin c s else s

def coreOfY (n : Fin 4) : Fin 5 := ⟨n.val, by omega⟩

def execCoreRun (n : Fin 4) (s : State) : Out := s.onCore (coreRun (coreOfY n))
def execCoreReset (n : Fin 4) (s : State) : Out := s.onCore (coreStop (coreOfY n))
def execYpRun (start : BitVec 27) (s : State) : Out :=
  s.onRetention fun s => coreRun 4 (s.set SYS_YP_CTRL.START start.toNat)
def execYpReset (s : State) : Out := s.onRetention (coreStop 4)

/-! ### The watchdogs (R465) -/

def eggStage (c : Fin 5) : Fld := if c.val = 4 then SYS_YP_EGG.STAGE else CPX_EGG.STAGE c.val
def eggOn (c : Fin 5) (s : State) : Bool := if c.val = 4 then s.bit SYS_YP_EGG.ENABLE else s.bit (CPX_EGG.ENABLE c.val)

/-- Whether the block of a watchdog is powered. -/
def eggPowered (c : Fin 5) (s : State) : Bool := if c.val = 4 then s.power.retention else s.power.core

/-- A watchdog enters stage 2. -/
def eggExpire (c : Fin 5) (s : State) : State :=
  let s := s.set (eggStage c) 2
  if c.val = 4 then
    (coreBegin 4 (coreStop 4 (s.raise 88))).log 0x0B0 (leBytes 1 2 ++ leBytes 3 0)
  else
    let s := (s.raise (84 + c.val)).set CPX_INT.EGG2 (s.get CPX_INT.EGG2 ||| 2 ^ c.val)
    if s.bit (CPX_EGG.RESET_CORE c.val) then coreBegin c (coreStop c s) else s

/-- A write of KICK. -/
def eggKick (c : Fin 5) (v : Nat) (s : State) : State :=
  if !eggOn c s then s else if v = 0xA5 then s.set (eggStage c) 0 else eggExpire c s

def execEggKick (c : Fin 5) (v : BitVec 8) (s : State) : Out := .next (if eggPowered c s then eggKick c v.toNat s else s)

/-- PERIOD ms have passed at a stage. -/
def execEggTimerExpiry (c : Fin 5) (s : State) : Out :=
  .next (if !eggPowered c s || !eggOn c s then s
    else if s.get (eggStage c) = 0 then s.set (eggStage c) 1
    else if s.get (eggStage c) = 1 then eggExpire c s
    else s)

end Sys2Proof.Machine
end

