-- ==== Sys2Proof/Machine/ImageCheck.lean ====
section
/-! DEFINITION. The checks of a schedule image, in the order of the status codes of R149 (R118 to R145, R150). -/

namespace Sys2Proof.Machine

/-- A failed check: status code, section index (0xFFFF for none), record index (R148, R149). -/
abbrev RcpFail := Nat × Nat × Nat

/-! ### Sections (R120, R121) -/

def ImageSec.ty (e : ImageSec) : Nat := leAt e.entry 0 2
def ImageSec.inst (e : ImageSec) : Nat := leAt e.entry 2 2
def ImageSec.sflags (e : ImageSec) : Nat := leAt e.entry 4 2
def ImageSec.ver (e : ImageSec) : Nat := leAt e.entry 6 2
def ImageSec.offset (e : ImageSec) : Nat := leAt e.entry 8 4
def ImageSec.length (e : ImageSec) : Nat := leAt e.entry 12 4
def ImageSec.crc (e : ImageSec) : Nat := leAt e.entry 16 4
def ImageSec.count (e : ImageSec) : Nat := leAt e.entry 20 4

/-- The header, the directory and the bodies of a byte string (R118 to R120). -/
def parseImage (l : List Byte) : ImageInfo :=
  let n := leAt l 12 2
  let entries := chunks 24 n (slice l (leAt l 96 4) (24 * n))
  { raw := l, hdr := l.take 128, secs := entries.map fun e => { entry := e, body := slice l (leAt e 8 4) (leAt e 12 4) } }

/-- The sections of a type with their indices. -/
def ImageInfo.of (i : ImageInfo) (ty : Nat) : List (Nat × ImageSec) :=
  i.secs.zipIdx.filterMap fun p => if p.1.ty = ty then some (p.2, p.1) else none

/-- The body of the section of a type and an instance, empty for none. -/
def ImageInfo.body (i : ImageInfo) (ty inst : Nat) : List Byte :=
  match i.secs.find? fun e => e.ty == ty && e.inst == inst with
  | some e => e.body
  | none => []

/-- CONTENT_HASH (R123). -/
def contentHash (i : ImageInfo) : List Byte :=
  sha384 (i.secs.flatMap fun e => splice (splice e.entry 4 (leBytes 2 0)) 8 (leBytes 4 0) ++ e.body)

/-- The types kept once for each grade (R121). -/
def perGrade : List Nat := [0x0003, 0x0006, 0x0007, 0x0008]

/-- The required types of a format version (R121, R122). -/
def requiredTypes (fmtVer : Nat) : List Nat :=
  [0x0001, 0x0002, 0x0003, 0x0004] ++ (if fmtVer = 3 then [0x0005] else []) ++ [0x0006, 0x0007, 0x0008, 0x0009, 0x000A, 0x000B, 0x000C]

/-- A fixed record of a body. -/
def recAt (b : List Byte) (start width k : Nat) : List Byte := slice b (start + width * k) width

/-- The first record of `n` that fails. -/
def firstBad (n : Nat) (bad : Nat → Bool) : Option Nat := (List.range n).find? bad

/-- The failure of a section at a record. -/
def failAt (code sec : Nat) (r : Option Nat) : Option RcpFail := r.map fun k => (code, sec, k)

/-- A failure of a whole section. -/
def failIf (code sec : Nat) (c : Bool) : Option RcpFail := if c then some (code, sec, 0) else none

/-- Whether all bytes of a slice are 0. -/
def zeroAt (b : List Byte) (o n : Nat) : Bool := (slice b o n).all (· == 0)

/-! ### Codes 0x10 to 0x16 -/

def checkHeader (l : List Byte) : Option RcpFail :=
  failIf 0x10 0xFFFF (l.length < 128 || slice l 0 4 != ofNats [0x46, 0x51, 0x52, 0x49] || leAt l 6 2 != 128
    || leAt l 124 4 != crc32c (l.take 124) || leAt l 8 4 != l.length)

def checkVersion (i : ImageInfo) : Option RcpFail := failIf 0x11 0xFFFF (i.fmtVer != 3 && i.fmtVer != 2)

def checkCrcs (l : List Byte) (i : ImageInfo) : Option RcpFail :=
  let n := leAt l 12 2
  (failIf 0x12 0xFFFF (l.length < leAt l 96 4 + 24 * n)).orElse fun _ =>
    (i.secs.zipIdx.find? fun p => !p.1.sflags.testBit 0 && (l.length < p.1.offset + p.1.length || crc32c p.1.body != p.1.crc)).map
      fun p => (0x12, p.2, 0)

def checkHash (i : ImageInfo) : Option RcpFail := failIf 0x13 0xFFFF (contentHash i != slice i.hdr 48 48)

/-- R124: with a key provisioned the image must be signed under it. -/
def checkSignature (l : List Byte) (i : ImageInfo) (s : State) : Option RcpFail :=
  match s.keys.recipeKey with
  | none => none
  | some k =>
    let o := leAt l 100 4
    let digest := sha384 (slice l 48 48 ++ slice l 16 4 ++ slice l 4 2 ++ slice l 24 8)
    failIf 0x14 0xFFFF (!(leAt i.hdr 14 2).testBit 0 || l.length < o + 96 || !ecdsaVerify k (slice l o 96) digest)

/-- R150: the variant, the heads, and the drive model of the identity binding record, when there is one. -/
def checkDrive (i : ImageInfo) (s : State) : Option RcpFail :=
  let model := match recRead recBinding s with
    | some r => leAt r 4 4 != leAt i.hdr 16 4
    | none => false
  failIf 0x15 0xFFFF ((leAt i.hdr 14 2).testBit 1 != s.variant1408 || decide ((if s.variant1408 then 2 ^ 14 else 2 ^ 28) ≤ i.headsMask)
    || model)

/-- R121, R122: every required section once, no unknown type, SEC_VER 1. -/
def checkSections (i : ImageInfo) : Option RcpFail :=
  let req := requiredTypes i.fmtVer
  let bad := i.secs.zipIdx.find? fun p =>
    let e := p.1
    decide (e.ty < 0x8000) && (!req.contains e.ty || e.sflags.testBit 0) ||
      e.ver != 1 ||
      (decide (e.ty < 0x8000) && (decide ((if perGrade.contains e.ty then 3 else 0) < e.inst) ||
        (i.secs.take p.2).any fun f => f.ty == e.ty && f.inst == e.inst))
  (bad.map fun p => (0x16, p.2, 0)).orElse fun _ =>
    failIf 0x16 0xFFFF (req.any fun t => (if perGrade.contains t then [0, 1, 2, 3] else [0]).any fun g =>
      !(i.secs.any fun e => e.ty == t && e.inst == g))

/-! ### Code 0x17: fields and limits -/

/-- The layout of R118 and the header fields of R119. -/
def checkLayout (l : List Byte) (i : ImageInfo) : Option RcpFail :=
  let n := leAt l 12 2
  let sig := leAt l 100 4
  let signed := (leAt l 14 2).testBit 0
  let parts := [(0, 128), (leAt l 96 4, 24 * n)] ++ (if signed then [(sig, 96)] else []) ++
    (i.secs.map fun e => (e.offset, e.length))
  let clash := parts.zipIdx.any fun p => (parts.take p.2).any fun q =>
    decide (0 < p.1.2 ∧ 0 < q.2 ∧ p.1.1 < q.1 + q.2 ∧ q.1 < p.1.1 + p.1.2)
  failIf 0x17 0xFFFF (n == 0 || decide (64 < n) || decide (3 < leAt l 14 2) || leAt l 104 1 != 0x0F || !zeroAt l 105 19
    || (!signed && sig != 0) || decide (l.length < sig) || leAt l 96 4 % 8 != 0 || clash
    || i.secs.any fun e => e.offset % 8 != 0 || decide (1 < e.sflags))

def zoneRec (b : List Byte) (k : Nat) : List Byte := recAt b 16 56 k
def bandRec (z : List Byte) (k : Nat) : List Byte := recAt z 24 8 k

/-- The bands of a zone record. -/
def zoneBands (z : List Byte) : List (List Byte) := (List.range (min 4 (leAt z 2 1))).map (bandRec z)

/-- ZONE_MAP (R125, R126, R145); a zone names a verify geometry that exists (R135) and a detector set for each head (R143). -/
def checkZoneFields (i : ImageInfo) (sec : Nat) (e : ImageSec) : Option RcpFail :=
  let b := e.body
  let nz := leAt b 0 4
  let nc := leAt b 4 4
  (failIf 0x17 sec (decide (524288 < nz) || decide (4096 < nc) || leAt b 8 2 != 56 || !zeroAt b 10 6
      || e.count != nz + nc || b.length != 16 + 56 * (nz + nc))).orElse fun _ =>
    failAt 0x17 sec (firstBad (nz + nc) fun k =>
      let z := zoneRec b k
      let kind := leAt z 0 1
      let bands := leAt z 2 1
      kind != (if k < nz then 0 else 1) || decide (1 < leAt z 1 1) || bands == 0 || decide ((if kind = 0 then 4 else 1) < bands)
        || (kind == 1 && leAt z 6 2 != 0) || !zeroAt z 10 2 || !zeroAt z 20 4 || !zeroAt z (24 + 8 * bands) (32 - 8 * bands)
        || (zoneBands z).any (fun d => leAt d 1 1 != 0 || decide (2 ^ 24 ≤ leAt d 4 4))
        || (i.fmtVer == 3 && leAt z 5 1 != 0xFF &&
            !((chunks 12 256 (i.body 5 0)).any fun v => leAt v 0 1 == leAt z 5 1))
        || (zoneBands z).any fun d => !((chunks 304 65536 (i.body 0xB 0)).any fun v =>
            leAt v 0 1 == leAt z 3 1 && leAt v 1 1 == leAt d 0 1))

/-- The order of SKIP_MAP records (R127). -/
def skipKey (r : List Byte) : Nat :=
  (((leAt r 0 1 * 2 ^ 32 + leAt r 4 4) * 256 + leAt r 1 1) * 2 ^ 16 + leAt r 8 2) * 2 ^ 16 + leAt r 10 2

/-- The records of SKIP_MAP. -/
def skipRecs (i : ImageInfo) : List (List Byte) := let b := i.body 2 0; chunks 16 (b.length / 16) b

/-- SKIP_MAP (R127, R128, R145). -/
def checkSkipFields (sec : Nat) (e : ImageSec) : Option RcpFail :=
  let b := e.body
  let n := b.length / 16
  let all := chunks 16 n b
  (failIf 0x17 sec (b.length % 16 != 0 || e.count != n || decide (4194304 < n))).orElse fun _ =>
    failAt 0x17 sec (firstBad n fun k =>
      let r := recAt b 0 16 k
      let kind := leAt r 1 1
      decide (27 < leAt r 0 1) || decide (2 < kind) || !zeroAt r 2 2 || !zeroAt r 14 2
        || (decide (0 < k) && decide (skipKey r ≤ skipKey (recAt b 0 16 (k - 1))))
        || (kind == 0 && (leAt r 12 2 == 0 || decide (511 < leAt r 8 2))) || (kind == 1 && !zeroAt r 8 8)
        || (kind == 2 && !zeroAt r 12 4)
        || (kind == 0 && (all.filter fun q => leAt q 1 1 == 2 && leAt q 0 1 == leAt r 0 1 && leAt q 4 4 == leAt r 4 4).length != 1))

/-- The speed of a grade in rpm (R129). -/
def gradeRpm (g : Nat) : Nat := 3600 + 1200 * g

def planHdr (b : List Byte) (k : Nat) : List Byte := recAt b 16 48 k

/-- TRACK_PLAN headers (R129, R130, R145). -/
def checkPlanFields (sec : Nat) (e : ImageSec) : Option RcpFail :=
  let b := e.body
  let g := e.inst
  let n := leAt b 8 4
  (failIf 0x17 sec (leAt b 0 1 != g || leAt b 1 1 != 0 || leAt b 2 2 != gradeRpm g || leAt b 4 4 != wedgePeriod g || !zeroAt b 12 4
      || decide (1048576 < n) || e.count != n || decide (b.length < 16 + 48 * n))).orElse fun _ =>
    failAt 0x17 sec (firstBad n fun k =>
      let h := planHdr b k
      let per := (leAt h 21 1).testBit 0
      (decide (0 < k) && decide (leAt h 0 4 ≤ leAt (planHdr b (k - 1)) 0 4)) || decide (1 < leAt h 21 1)
        || (g == 3 && (leAt h 8 4 % 6 != 0 || decide (5199996 < leAt h 8 4)))
        || (if per then leAt h 16 2 != 0 else leAt h 16 2 == 0 || decide (16383 < leAt h 16 2))
        || decide (2048 < leAt h 18 2) || leAt h 20 1 == 0 || decide (62 < leAt h 20 1) || leAt h 22 2 == 0 || decide (8192 < leAt h 22 2)
        || decide (b.length < leAt h 24 4 + 8 * leAt h 22 2)
        || (if per then decide (b.length < leAt h 28 4 + 1024) else leAt h 28 4 != 0)
        || decide (4095 < leAt h 32 2) || decide (4095 < leAt h 34 2) || decide (leAt h 36 2 < 8) || decide (512 < leAt h 36 2)
        || decide (leAt h 38 2 < 8) || decide (512 < leAt h 38 2) || !zeroAt h 40 8)

/-- The TRACK_PITCH of the zone that holds a track of a head (R125). -/
def pitchOf (i : ImageInfo) (head track : Nat) : Nat :=
  let b := i.body 1 0
  match (List.range (leAt b 0 4 + leAt b 4 4)).find? fun k => (zoneBands (zoneRec b k)).any fun d =>
      leAt d 0 1 == head && decide (leAt d 4 4 ≤ track ∧ track < leAt d 4 4 + leAt d 2 2) with
  | some k => leAt (zoneRec b k) 8 2
  | none => 0

/-- PAIR_WINDOW (R134, R145). -/
def checkPairFields (i : ImageInfo) (sec : Nat) (e : ImageSec) : Option RcpFail :=
  let b := e.body
  let n := b.length / 16
  (failIf 0x17 sec (b.length % 16 != 0 || e.count != n || decide (65536 < n))).orElse fun _ =>
    failAt 0x17 sec (firstBad n fun k =>
      let r := recAt b 0 16 k
      leAt r 3 1 != 0 || decide (15 < leAt r 2 1) || decide (leAt r 1 1 ≤ leAt r 0 1) || decide (27 < leAt r 1 1)
        || leAt r 0 1 / 14 != leAt r 1 1 / 14 || decide (300000 < leAt r 14 2 * pitchOf i (leAt r 0 1) (leAt r 4 4)))

/-- VERIFY_GEOM (R135, R145). -/
def checkVerifyFields (sec : Nat) (e : ImageSec) : Option RcpFail :=
  let b := e.body
  let n := b.length / 12
  (failIf 0x17 sec (b.length % 12 != 0 || e.count != n || decide (255 < n))).orElse fun _ =>
    failAt 0x17 sec (firstBad n fun k =>
      let r := recAt b 0 12 k
      leAt r 0 1 == 0xFF || decide (1 < leAt r 1 1) || leAt r 2 2 == 0 || decide (16383 < leAt r 2 2) || leAt r 4 2 == 0
        || decide (2112 < leAt r 4 2) || !zeroAt r 6 2 || decide (2 ^ 28 ≤ leAt r 8 4))

/-- The header of coefficient set `k`, in the order of the body: its offset (R139). -/
def coeffOffsets : (fuel : Nat) → List Byte → Nat → List Nat
  | 0, _, _ => []
  | fuel + 1, b, o => if b.length ≤ o then [] else o :: coeffOffsets fuel b (o + 8 + 8 * leAt b (o + 2) 2)

/-- The offset of a set of a grade, none where it is absent. -/
def coeffSet (i : ImageInfo) (g set : Nat) : Option Nat :=
  let b := i.body 7 g
  (coeffOffsets 17 b 0).find? fun o => leAt b o 1 == set

/-- CLE_COEFF (R139, R145). -/
def checkCoeffFields (sec : Nat) (e : ImageSec) : Option RcpFail :=
  let b := e.body
  let l := coeffOffsets 17 b 0
  (failIf 0x17 sec (decide (16 < l.length) || e.count != l.length)).orElse fun _ =>
    failAt 0x17 sec (firstBad l.length fun k =>
      let o := l.getD k 0
      let n := leAt b (o + 2) 2
      decide (15 < leAt b o 1) || leAt b (o + 1) 1 != 0 || !zeroAt b (o + 4) 4 || n == 0 || decide (256 < n)
        || decide (b.length < o + 8 + 8 * n) || (l.take k).any (fun p => leAt b p 1 == leAt b o 1)
        || (List.range n).any fun j => leAt b (o + 8 + 8 * j + 4) 1 % 8 != 0 || !zeroAt b (o + 13 + 8 * j) 3)

/-- The word of operation `j` of a program, and its header (R136). -/
def progHdr (b : List Byte) (k : Nat) : List Byte := recAt b 16 12 k
def progOp (b : List Byte) (h : List Byte) (j : Nat) : Nat := leAt b (leAt h 8 4 + 8 * j) 5

/-- CLE_PROGRAM (R136, R137, R145, R305). -/
def checkProgFields (i : ImageInfo) (sec : Nat) (e : ImageSec) : Option RcpFail :=
  let b := e.body
  let n := leAt b 8 1
  (failIf 0x17 sec (n == 0 || decide (32 < n) || !zeroAt b 9 7 || e.count != n || decide (b.length < 16 + 12 * n))).orElse fun _ =>
    failAt 0x17 sec (firstBad n fun k =>
      let h := progHdr b k
      let role := leAt h 1 1
      let act := leAt h 2 1
      let ops := leAt h 4 2
      let set := coeffSet i e.inst (leAt h 3 1)
      let cb := i.body 7 e.inst
      let value (j : Nat) : Int := coeffValue (leAt cb (set.getD 0 + 8 + 8 * j) 5)
      decide (31 < leAt h 0 1) || decide (6 < role) || (role == 0) != (act == 0xFF) || (role != 0 && decide (1 < act))
        || ops == 0 || decide (384 < ops) || decide (b.length < leAt h 8 4 + 8 * ops) || set.isNone
        || (List.range k).any (fun j => leAt (progHdr b j) 2 1 == act && leAt (progHdr b j) 0 1 == leAt h 0 1)
        || (List.range ops).any fun j => opBadWith value (leAt cb (set.getD 0 + 2) 2) (progOp b h j)
            || !zeroAt b (leAt h 8 4 + 8 * j + 5) 3)

/-- The largest track span of an actuator's surfaces: over its bands, the tracks from the first to the last (R140). -/
def trackSpan (i : ImageInfo) (act : Nat) : Nat :=
  let b := i.body 1 0
  let bands := ((List.range (leAt b 0 4 + leAt b 4 4)).flatMap fun k => zoneBands (zoneRec b k)).filter fun d => leAt d 0 1 / 14 == act
  let heads := (List.range 14).map (14 * act + ·)
  maxOf (heads.map fun h =>
    let d := bands.filter fun d => leAt d 0 1 == h
    maxOf (d.map fun x => leAt x 4 4 + leAt x 2 2 - 1) - (d.map fun x => leAt x 4 4).foldl min (2 ^ 24))

/-- The offsets of the profiles of a SEEK_PROFILE body. -/
def profileOffsets : (fuel : Nat) → List Byte → Nat → List Nat
  | 0, _, _ => []
  | fuel + 1, b, o => if b.length ≤ o then [] else o :: profileOffsets fuel b (o + 20 + 16 * leAt b (o + 16) 2)

/-- SEEK_PROFILE (R140, R145). -/
def checkSeekFields (i : ImageInfo) (sec : Nat) (e : ImageSec) : Option RcpFail :=
  let b := e.body
  let l := profileOffsets (b.length / 20 + 1) b 0
  let pos (o j : Nat) : Int := toS 40 (leAt b (o + 20 + 16 * j) 5)
  let covered (act : Nat) : Bool :=
    let p := l.filter fun o => leAt b (o + 2) 1 == act
    let span := trackSpan i act
    let disjoint := p.zipIdx.all fun x => (p.take x.2).all fun o =>
      decide (leAt b (x.1 + 8) 4 < leAt b (o + 4) 4 ∨ leAt b (o + 8) 4 < leAt b (x.1 + 4) 4)
    let len := (p.map fun o => min span (leAt b (o + 8) 4) + 1 - max 1 (leAt b (o + 4) 4)).sum
    disjoint && len == span
  ((failIf 0x17 sec (e.count != l.length || decide (6144 < (l.map fun o => leAt b (o + 16) 2).sum))).orElse fun _ =>
    failAt 0x17 sec (firstBad l.length fun k =>
      let o := l.getD k 0
      let n := leAt b (o + 16) 2
      decide (1 < leAt b (o + 2) 1) || leAt b (o + 3) 1 != 0 || !zeroAt b (o + 18) 2 || decide (n < 2) || decide (2048 < n)
        || decide (b.length < o + 20 + 16 * n) || decide (leAt b (o + 12) 4 < leAt b (o + 4) 4)
        || decide (leAt b (o + 8) 4 < leAt b (o + 12) 4)
        || (List.range n).any (fun j => (decide (0 < j) && decide (pos o j < pos o (j - 1))) || !zeroAt b (o + 32 + 16 * j) 4)
        || pos o (n - 1) != 2 ^ 37)).orElse fun _ => failIf 0x17 sec (!covered 0 || !covered 1)

/-- SPINDLE (R141). -/
def checkSpindle (i : ImageInfo) (sec : Nat) (e : ImageSec) : Option RcpFail :=
  let b := e.body
  let u (o : Nat) : Nat := leAt b o 2
  let curve := (leAt i.hdr 14 2).testBit 1
  failIf 0x17 sec (b.length != 64 || e.count != 1 || !([4, 8, 16].contains (leAt b 0 1)) || decide (1 < leAt b 1 1)
    || decide (u 2 < 200) || decide (2000 < u 2) || decide (leAt b 4 4 < 1000) || decide (100000 < leAt b 4 4)
    || decide (toS 16 (u 18) < -(u 16 : Int)) || decide (0 < toS 16 (u 18)) || decide (u 20 < 10000) || decide (12000 < u 20)
    || decide (u 32 < 6546) || decide (u 34 < 6546) || !zeroAt b 50 14
    || (curve && (decide (u 48 < 100) || decide (60000 < u 48) || [0, 1, 2].any (fun g => decide (u (36 + 2 * g) ≤ u (42 + 2 * g)))
        || [0, 1].any fun g => decide (u (38 + 2 * g) ≤ u (36 + 2 * g)) || decide (u (44 + 2 * g) ≤ u (42 + 2 * g)))))

/-- COMMUTATION (R142). -/
def checkCommutation (sec : Nat) (e : ImageSec) : Option RcpFail :=
  (failIf 0x17 sec (e.body.length != 2048 || e.count != 1024)).orElse fun _ =>
    failAt 0x17 sec (firstBad 1024 fun k => leAt e.body (2 * k) 2 == 0x8000)

/-- DETECTOR (R143, R145). -/
def checkDetector (sec : Nat) (e : ImageSec) : Option RcpFail :=
  let b := e.body
  let n := b.length / 304
  (failIf 0x17 sec (b.length % 304 != 0 || e.count != n ||
      decide (256 < ((chunks 304 n b).map fun r => leAt r 0 1).eraseDups.length))).orElse fun _ =>
    failAt 0x17 sec (firstBad n fun k =>
      let r := recAt b 0 304 k
      let x (o : Nat) : Nat := leAt r o 1
      decide (27 < x 1) || x 2 == 0 || decide (4 < x 2) || x 3 == 0 || decide (8 < x 3) || decide (x 4 < x 2) || decide (30 < x 4)
        || x 5 != 0 || decide (31 < x 8) || decide (31 < x 9) || decide (31 < x 10) || !zeroAt r 14 2
        || [276, 277, 278, 279, 280].any (fun o => decide (15 < x o)) || x 283 != 0 || decide (4 < x 284) || !zeroAt r 285 19)

/-- ASSIST (R122, R144, R145). -/
def checkAssist (i : ImageInfo) (sec : Nat) (e : ImageSec) : Option RcpFail :=
  let b := e.body
  let n := b.length / 16
  (failIf 0x17 sec (b.length % 16 != 0 || e.count != n ||
      decide (256 < ((chunks 16 n b).map fun r => leAt r 0 1).eraseDups.length))).orElse fun _ =>
    failAt 0x17 sec (firstBad n fun k =>
      let r := recAt b 0 16 k
      decide (27 < leAt r 1 1) || decide (2 < leAt r 2 1) || leAt r 3 1 != 0 || decide (0 < toS 8 (leAt r 4 1))
        || decide (toS 8 (leAt r 5 1) < 0) || !zeroAt r 6 2 || (i.fmtVer == 2 && !zeroAt r 4 2))

/-- Every section's fields, in directory order. -/
def checkFields (i : ImageInfo) : Option RcpFail :=
  i.secs.zipIdx.findSome? fun p =>
    let e := p.1
    let k := p.2
    if e.ty = 1 then checkZoneFields i k e else if e.ty = 2 then checkSkipFields k e else if e.ty = 3 then checkPlanFields k e
    else if e.ty = 4 then checkPairFields i k e else if e.ty = 5 then checkVerifyFields k e else if e.ty = 6 then checkProgFields i k e
    else if e.ty = 7 then checkCoeffFields k e else if e.ty = 8 then checkSeekFields i k e else if e.ty = 9 then checkSpindle i k e
    else if e.ty = 0xA then checkCommutation k e else if e.ty = 0xB then checkDetector k e else if e.ty = 0xC then checkAssist i k e
    else none

/-! ### Codes 0x18 and 0x19: track plans (R131 to R133) -/

def segTy (x : Nat) : Nat := bits x 61 3
def segLast (x : Nat) : Bool := x.testBit 60
def segWedge (x : Nat) : Nat := bits x 51 9
def segStart (x : Nat) : Nat := bits x 37 14
def segLen (x : Nat) : Nat := bits x 24 13
def segFrag (x : Nat) : Nat := bits x 11 13
def segSlot (x : Nat) : Nat := bits x 0 11

/-- The segments of a plan, by wedge. -/
def planSegs (b h : List Byte) : List Nat :=
  let l := (chunks 8 (leAt h 22 2) (b.drop (leAt h 24 4))).map leNat
  (List.range 512).flatMap fun w => l.filter fun x => segWedge x == w

/-- The data field of a wedge in bytes. -/
def planField (b h : List Byte) (w : Nat) : Nat :=
  if (leAt h 21 1).testBit 0 then leAt b (leAt h 28 4 + 2 * w) 2 else leAt h 16 2

/-- The groups of a plan. -/
def planGroups (h : List Byte) : Nat := (leAt h 18 2 + 63 - leAt h 20 1 - 2) / 64 + (if leAt h 18 2 = 0 then 0 else 1)

/-- The data-member slots of a plan. -/
def planMembers (h : List Byte) : Nat := leAt h 18 2 - 2 * planGroups h

/-- The segments of a wedge cover its data field exactly, in rising order. -/
def coversField (l : List Nat) (len : Nat) : Bool :=
  l.foldl (fun (p : Option Nat) x => match p with
    | some q => if segStart x = q ∧ 0 < segLen x then some (q + segLen x) else none
    | none => none) (some 0) == some len

/-- The pieces of the slots in order: `next` is the slot to come, `open_` the slot in progress with its fragment bytes, `phase` 1
where a SPLICE must follow, 2 after it, `wedge` the wedge of the last piece and `skip` whether a SKIP has just come. The answer is
the number of slots. -/
def piecesOk : List Nat → (next : Nat) → (open_ : Nat × Nat) → (phase wedge : Nat) → (skip : Bool) → Option Nat
  | [], next, _, phase, _, _ => if phase = 0 then some next else none
  | x :: r, next, o, phase, wedge, skip =>
    let after (slot acc : Nat) : Option Nat :=
      if segLast x then if acc = 4408 then piecesOk r (slot + 1) (0, 0) 0 (segWedge x) false else none
      else if acc < 4408 then piecesOk r slot (slot, acc) 1 (segWedge x) false else none
    if phase = 1 then
      if segTy x = 2 ∧ segLen x = 8 ∧ segWedge x = wedge then piecesOk r next o 2 wedge false else none
    else if phase = 2 then
      if segTy x = 3 then piecesOk r next o 2 wedge true
      else if segTy x = 1 ∧ segSlot x = o.1 ∧ segFrag x = o.2 ∧ 12 < segLen x ∧
          (skip ∨ (segStart x = 0 ∧ segWedge x = wedge + 1)) ∧ !(decide (1 ≤ segFrag x ∧ segFrag x ≤ 13) || segFrag x == 2063) then
        after o.1 (o.2 + segLen x - 12)
      else none
    else if segTy x = 0 then
      if segSlot x = next ∧ segFrag x = 0 then after next (segLen x) else none
    else if segTy x = 1 then none
    else piecesOk r next o 0 (segWedge x) (segTy x == 3)

/-- Whether a plan at a grade breaks R133, but for the share of user bits. -/
def planBad (i : ImageInfo) (g : Nat) (b h : List Byte) : Bool :=
  let l := planSegs b h
  let slots := leAt h 18 2
  let b3 := i.body 3 3
  let same := match (List.range (leAt b3 8 4)).find? fun k => leAt (planHdr b3 k) 0 4 == leAt h 0 4 with
    | none => false
    | some k =>
      let h3 := planHdr b3 k
      planSegs b3 h3 == l && leAt h3 12 4 == leAt h 12 4 && (List.range 512).all (fun w => planField b3 h3 w == planField b h w)
        && leAt h 8 4 * 7200 == leAt h3 8 4 * gradeRpm g && leAt h3 18 3 == leAt h 18 3
  !same || l.any (fun x => decide (4 < segTy x) || (decide (2 ≤ segTy x) && (segSlot x != 0 || segFrag x != 0)))
    || (List.range 512).any (fun w => !coversField (l.filter fun x => segWedge x == w) (planField b h w))
    || piecesOk l 0 (0, 0) 0 0 false != some slots
    || (slots != 0 && (decide (slots < leAt h 20 1 + 2) || (slots - leAt h 20 1 - 2) % 64 != 0))
    || (List.range 512).any fun w => decide (leAt h 8 4 * 60000 < (leAt h 12 4 + 8 * planField b h w) * gradeRpm g * 512)

/-- The plan of an id at a grade. -/
def planById (i : ImageInfo) (g id : Nat) : Option (List Byte) :=
  let b := i.body 3 g
  ((List.range (leAt b 8 4)).map (planHdr b)).find? fun h => leAt h 0 4 == id

/-- The plan override of a track (R127, R128). -/
def overrideOf (i : ImageInfo) (head track : Nat) : Option Nat :=
  ((skipRecs i).find? fun r => leAt r 0 1 == head && leAt r 1 1 == 2 && leAt r 4 4 == track).map fun r => leAt r 8 4

/-- The derived plan of a track has SKIP segments equal to the track's extents (R128). -/
def skipsBad (i : ImageInfo) (r : List Byte) : Bool :=
  let b := i.body 3 3
  match planById i 3 (leAt r 8 4) with
  | none => true
  | some h =>
    let ext := ((skipRecs i).filter fun q => leAt q 1 1 == 0 && leAt q 0 1 == leAt r 0 1 && leAt q 4 4 == leAt r 4 4).map
      fun q => (leAt q 8 2, leAt q 10 2, leAt q 12 2)
    leAt h 4 4 == 0xFFFFFFFF ||
      ((planSegs b h).filter fun x => segTy x == 3).map (fun x => (segWedge x, segStart x, segLen x)) != ext

/-- Every zone record, with its index. -/
def zoneRecs (i : ImageInfo) : List (Nat × List Byte) :=
  let b := i.body 1 0
  (List.range (leAt b 0 4 + leAt b 4 4)).map fun k => (k, zoneRec b k)

def checkPlans (i : ImageInfo) : Option RcpFail :=
  ((i.of 3).findSome? fun p =>
    failAt 0x18 p.1 (firstBad (leAt p.2.body 8 4) fun k => planBad i p.2.inst p.2.body (planHdr p.2.body k))).orElse fun _ =>
  ((i.of 2).findSome? fun p =>
    failAt 0x18 p.1 (firstBad (p.2.body.length / 16) fun k =>
      let r := recAt p.2.body 0 16 k
      leAt r 1 1 == 2 && skipsBad i r)).orElse fun _ =>
  (i.of 1).findSome? fun p =>
    ((zoneRecs i).find? fun z => match planById i 3 (leAt z.2 12 4) with
      | none => true
      | some h => leAt h 18 2 == 0).map fun z => (0x18, p.1, z.1)

/-- At least 0.89 user bits per channel bit (R8, R133). -/
def checkDensity (i : ImageInfo) : Option RcpFail :=
  (i.of 3).findSome? fun p =>
    failAt 0x19 p.1 (firstBad (leAt p.2.body 8 4) fun k =>
      let h := planHdr p.2.body k
      let sum := ((List.range 512).map (planField p.2.body h)).sum
      leAt h 18 2 != 0 && decide (100 * 32768 * planMembers h < 89 * 8 * sum))

/-! ### Codes 0x1A and 0x1B: the zone map (R117, R126) -/

/-- The tracks of a band: head, lowest track, one past the highest, and the guard track. Track numbers rise toward the inner
diameter (PRESUMED). -/
def bandSpan (z d : List Byte) : Nat × Nat × Nat × Nat :=
  let f := leAt d 4 4
  let t := leAt d 2 2
  (leAt d 0 1, f, f + t, if (leAt z 1 1).testBit 0 then f - 1 else f + t)

/-- Whether a band meets the system area: a copy slot of a valid locator, or the event mirror and zone state areas, whose place the
spec does not give (R112, R117). -/
def meetsSystem (head lo hi : Nat) (s : State) : Bool :=
  [0, 1, 2].any (fun k => match recRead (recLocator k) s with
    | some r => leAt r 1 1 == 1 && leAt r 0 1 == head && decide (lo < leAt r 4 4 + leAt r 8 4 ∧ leAt r 4 4 < hi)
    | none => false) ||
  Config.systemTracks.any fun p => p.1 == head && decide (lo ≤ p.2 ∧ p.2 < hi)

/-- Every band of the zone map with the index of its record. -/
def allBands (i : ImageInfo) : List (Nat × (Nat × Nat × Nat × Nat)) :=
  (zoneRecs i).flatMap fun z => (zoneBands z.2).map fun d => (z.1, bandSpan z.2 d)

def checkZones (i : ImageInfo) (s : State) : Option RcpFail :=
  let all := allBands i
  let retired := (skipRecs i).filter fun r => leAt r 1 1 == 1
  let bad (p : Nat × (Nat × Nat × Nat × Nat)) : Bool :=
    let (head, lo, hi, _) := p.2
    !i.headsMask.testBit head ||
      (all.any fun q => q.1 == p.1 && q.2.1 / 14 != head / 14) ||
      (all.zipIdx.any fun q => q.1.2.1 == head &&
        ((q.1 != p && decide (q.1.2.2.1 < hi ∧ lo < q.1.2.2.2.1)) || (q.1 != p && decide (lo ≤ q.1.2.2.2.2 ∧ q.1.2.2.2.2 < hi)))) ||
      decide (1 < (all.filter (· == p)).length) ||
      (retired.any fun r => leAt r 0 1 == head && decide (lo ≤ leAt r 4 4 ∧ leAt r 4 4 < hi)) || meetsSystem head lo hi s
  let sec := ((i.of 1).head?.map (·.1)).getD 0xFFFF
  (all.find? bad).map fun p => (0x1A, sec, p.1)

/-- U of a zone record: the data-member slots of every track of its bands under their plans (R107, R126). -/
def zoneSlots (i : ImageInfo) (z : List Byte) : Nat :=
  ((zoneBands z).map fun d =>
    ((List.range (leAt d 2 2)).map fun t =>
      let id := (overrideOf i (leAt d 0 1) (leAt d 4 4 + t)).getD (leAt z 12 4)
      match planById i 3 id with
      | some h => planMembers h
      | none => 0).sum).sum

def checkCapacity (i : ImageInfo) : Option RcpFail :=
  let sec := ((i.of 1).head?.map (·.1)).getD 0xFFFF
  ((zoneRecs i).find? fun z => leAt z.2 16 4 + leAt z.2 6 2 != zoneSlots i z.2 ||
      (leAt z.2 0 1 == 0 && decide (268435456 < leAt z.2 16 4 * 4096))).map (fun z => (0x1B, sec, z.1)) |>.orElse fun _ =>
    failIf 0x1B sec (decide (68719476736 <
      (((zoneRecs i).filter fun z => leAt z.2 0 1 == 1).map fun z => leAt z.2 16 4 * 4096).sum))

/-! ### Codes 0x1C and 0x1D: control programs (R137, R138) -/

/-- The steps of a program recomputed. -/
def progSteps (b h : List Byte) : Nat := 10 + ((List.range (leAt h 4 2)).map fun j => opCost (bits (progOp b h j) 36 4)).sum

/-- M0 + M1 + MS of a grade. -/
def frameBudget (b : List Byte) (small : Bool) : Nat :=
  let l := (List.range (leAt b 8 1)).map (progHdr b)
  let top (a : Nat) : Nat := maxOf ((l.filter fun h => leAt h 2 1 == a).map fun h => leAt h 6 2)
  top 0 + (if small then 0 else top 1) + top 0xFF

/-- The programs that every grade must hold (R137): missing ones are a missing section. -/
def checkPrograms (i : ImageInfo) : Option RcpFail :=
  let small := (leAt i.hdr 14 2).testBit 1
  (i.of 6).findSome? fun p =>
    let l := (List.range (leAt p.2.body 8 1)).map (progHdr p.2.body)
    let hold (a : Nat) : Bool := l.any fun h => leAt h 0 1 == 0 && leAt h 1 1 == 1 && leAt h 2 1 == a
    failIf 0x16 p.1 (!hold 0 || (!small && !hold 1) || !(l.any fun h => leAt h 1 1 == 0))

def checkBudget (i : ImageInfo) : Option RcpFail :=
  let small := (leAt i.hdr 14 2).testBit 1
  (i.of 6).findSome? fun p =>
    let b := p.2.body
    (failAt 0x1C p.1 (firstBad (leAt b 8 1) fun k => progSteps b (progHdr b k) != leAt (progHdr b k) 6 2)).orElse fun _ =>
      failIf 0x1C p.1 (decide (5600 < frameBudget b small))

/-- The release check of R138, in ps; the sample time is that of the fastest zone at the grade, rounded up. -/
def releaseOk (i : ImageInfo) (g : Nat) (b : List Byte) : Bool :=
  let rate := maxOf ((zoneRecs i).map fun z => match planById i g (leAt z.2 12 4) with | some h => leAt h 8 4 | none => 0)
  let sample := if rate = 0 then 0 else (1000000000 + rate - 1) / rate
  let t := (leAt b 4 2 + leAt b 6 2) * 10000 + 2 * sample + 4 * 165 + 44 * 165 +
    frameBudget b ((leAt i.hdr 14 2).testBit 1) * 165 + 20000
  [0, 2].all fun o => decide (t ≤ leAt b o 2 * 10000 ∧ leAt b o 2 ≤ 1607)

def checkRelease (i : ImageInfo) : Option RcpFail :=
  (i.of 6).findSome? fun p => failIf 0x1D p.1 (!releaseOk i p.2.inst p.2.body)

/-- The checks in the order of their codes (R149, R150). -/
def imageChecks (l : List Byte) (i : ImageInfo) (s : State) : List (Unit → Option RcpFail) :=
  [fun _ => checkHeader l, fun _ => checkVersion i, fun _ => checkCrcs l i, fun _ => checkHash i, fun _ => checkSignature l i s,
    fun _ => checkDrive i s, fun _ => checkSections i, fun _ => checkPrograms i, fun _ => checkLayout l i, fun _ => checkFields i,
    fun _ => checkPlans i, fun _ => checkDensity i, fun _ => checkZones i s, fun _ => checkCapacity i, fun _ => checkBudget i,
    fun _ => checkRelease i, fun _ => failIf 0x20 0xFFFF (decide (201326592 < l.length))]

/-- The first failing check of an image, or none (R150). -/
def imageCheck (l : List Byte) (s : State) : Option RcpFail := (imageChecks l (parseImage l) s).findSome? fun f => f ()

end Sys2Proof.Machine
end

