-- ==== Sys2Proof/Machine/Recipes.lean ====
section
/-! DEFINITION. The install service and the media manifest: requests, commit, selection, repair, controller swap (R112 to R116, R146 to
R153, R699, R709, R710, R714). -/

namespace Sys2Proof.Machine

def State.modRcp (s : State) (f : RcpUnit → RcpUnit) : State := { s with rcp := f s.rcp }
def State.modMan (s : State) (f : ManUnit → ManUnit) : State := { s with man := f s.man }

/-- Manifest-conflict: codes 5, 6 and 7 of 0x4000.00 (R709). -/
def inConflict (s : State) : Bool := s.manifest == 5 || s.manifest == 6 || s.manifest == 7

/-- The answer of a service: status code, section index, record index. -/
abbrev RcpAnswer := Nat × Nat × Nat

/-- A request ends or goes on with a status, which is logged (R148, R153). -/
def rcpStatus (a : RcpAnswer) (serial origin : Nat) (s : State) : State :=
  (s.modRcp fun r => { r with status := a.1, section_ := a.2.1, record := a.2.2 }).logRecipe a.1 a.2.1 a.2.2 serial origin

/-! ### Compatibility (R151) -/

/-- What a zone record's data rests on: the record, the segment lists of its tracks' plans, its skip map records. -/
def zoneBasis (i : ImageInfo) (k : Nat) : List Byte × List (List Nat) × List (List Byte) :=
  let z := zoneRec (i.body 1 0) k
  let tracks := (zoneBands z).flatMap fun d => (List.range (leAt d 2 2)).map fun t => (leAt d 0 1, leAt d 4 4 + t)
  let segs := tracks.map fun p => match planById i 3 ((overrideOf i p.1 p.2).getD (leAt z 12 4)) with
    | some h => planSegs (i.body 3 3) h
    | none => []
  (z, segs, (skipRecs i).filter fun r => tracks.contains (leAt r 0 1, leAt r 4 4))

/-- The zones of an image that are not Empty, and its conventional runs, which count as written. -/
def writtenZones (i : ImageInfo) (s : State) : List Nat :=
  let b := i.body 1 0
  (List.range (leAt b 0 4 + leAt b 4 4)).filter fun k => decide (leAt b 0 4 ≤ k) || (s.zone k).state != 1

/-- Whether a new image is compatible with the committed one (R151). -/
def compatible (i : ImageInfo) (s : State) : Bool :=
  match s.man.committed with
  | none => true
  | some old => (writtenZones old s).all fun k => zoneBasis old k == zoneBasis i k

/-! ### Requests (R148, R150 to R152) -/

/-- A write of 0x4010.00 with OFFSET stages bytes of an image, as a DOMAIN write of R604; false when it is refused. -/
def rcpStage (ofs : Nat) (data : List Byte) (s : State) : Bool × State :=
  if s.rcp.commit.isSome || decide (192 * 2 ^ 20 < ofs + data.length) || decide (s.rcp.staged.length < ofs) then (false, s)
  else (true, s.modRcp fun r => { r with staged := if ofs = 0 then data else splice r.staged ofs data })

def execRcpImageStage (ofs : BitVec 32) (data : List Byte) (origin : BitVec 8) (s : State) : Out :=
  s.onCore fun s =>
    let (ok, t) := rcpStage ofs.toNat data s
    if ok then t
    else s.logRecipe (if s.rcp.commit.isSome then 0x1F else 0x20) 0xFFFF 0 0 origin.toNat

/-- An install request on an image: check only, or check, compatibility and the start of the commit. -/
def rcpRequest (l : List Byte) (install force factory activate : Bool) (origin : Nat) (s : State) : RcpAnswer × State :=
  let serial := leAt l 24 8
  if s.rcp.commit.isSome then ((0x1F, 0xFFFF, 0), s.logRecipe 0x1F 0xFFFF 0 serial origin)
  else
    let i := parseImage l
    let a : RcpAnswer :=
      if (inConflict s || force) && !factory then (0x22, 0xFFFF, 0)
      else match imageCheck l s with
        | some f => f
        | none =>
          if !install then (0x01, 0xFFFF, 0)
          else if !force && !compatible i s then (0x1E, 0xFFFF, 0)
          else (0x02, 0xFFFF, 0)
    let s := rcpStatus a serial origin s
    (a, if a.1 = 0x02 then s.modRcp fun r => { r with commit := some (i, force, origin, activate) } else s)

/-- Whether an origin code has factory rights (R605). -/
def isFactory (origin : Nat) : Bool := origin == 0x61

def execRcpReqCheckOnly (origin : BitVec 8) (s : State) : Out :=
  s.onCore fun s => (rcpRequest s.rcp.staged false false (isFactory origin.toNat) false origin.toNat s).2
def execRcpReqCheckCommit (origin : BitVec 8) (s : State) : Out :=
  s.onCore fun s => (rcpRequest s.rcp.staged true false (isFactory origin.toNat) true origin.toNat s).2
def execRcpReqForce (origin : BitVec 8) (s : State) : Out :=
  s.onCore fun s => (rcpRequest s.rcp.staged true true (isFactory origin.toNat) true origin.toNat s).2

/-- A service of the boot ROM, called by a Y core with its arguments in g1 to g3 and its answer in them (R148, R704). -/
def service (c : Fin 4) (f : Nat → Nat → Nat → State → RcpAnswer × State) (s : State) : Out :=
  s.onCore fun s =>
    let c := coreOfY c
    if coreHeldBit c s || s.cores[c].halted then s
    else
      let g := s.cores[c].regs
      let (a, s) := f g[1].toNat g[2].toNat g[3].toNat s
      s.modCore c fun x => { x with
        regs := ((x.regs.set 1 (BitVec.ofNat 40 a.1)).set 2 (BitVec.ofNat 40 a.2.1)).set 3 (BitVec.ofNat 40 a.2.2) }

def originOfY (c : Fin 4) : Nat := 0x50 + c.val

def execRcpCheck (c : Fin 4) (s : State) : Out :=
  service c (fun a n _ s => rcpRequest (s.readBytes a n) false false (s.get CIP_STATUS.DBG_LEVEL == 2) false (originOfY c) s) s
def execRcpInstall (c : Fin 4) (s : State) : Out :=
  service c (fun a n f s =>
    rcpRequest (s.readBytes a n) true (f.testBit 0) (s.get CIP_STATUS.DBG_LEVEL == 2) false (originOfY c) s) s

/-- Activation of the committed image is requested for the next bank switch, as a grade change to the current grade (R147). -/
def rcpActivate (s : State) : State :=
  (s.modRcp fun r => { r with activate := true, status := 0x03 }).modSpm fun d => { d with activate := true }

def execRcpActivate (c : Fin 4) (s : State) : Out :=
  service c (fun _ _ _ s =>
    match s.man.committed with
    | none => let (v, s) := s.fresh; ((v, 0xFFFF, 0), s)
    | some i => ((0x03, 0xFFFF, 0), (rcpActivate s).logRecipe 0x03 0xFFFF 0 i.serial (originOfY c))) s

/-! ### The manifest (R114 to R116) -/

/-- The image as the manifest holds it: ZONE_MAP and SKIP_MAP marked EXTERNAL, their OFFSET 0 (R151). -/
def externalized (i : ImageInfo) : List Byte :=
  let dir := leAt i.raw 96 4
  i.secs.zipIdx.foldl (fun l p =>
    if p.1.ty = 1 ∨ p.1.ty = 2 then
      splice (splice l (dir + 24 * p.2 + 4) (leBytes 2 (p.1.sflags ||| 1))) (dir + 24 * p.2 + 8) (leBytes 4 0)
    else l) i.raw

/-- A manifest copy of an image with a GENERATION. -/
def manifestCopy (i : ImageInfo) (gen : Nat) : List Byte :=
  let image := externalized i
  let skip := i.body 2 0
  let zmap := i.body 1 0
  let body := image ++ skip ++ zmap
  let loc (o n : Nat) : List Byte := leBytes 4 o ++ leBytes 4 n
  let h := ofNats [0x46, 0x51, 0x4D, 0x46] ++ leBytes 2 1 ++ leBytes 2 0 ++ leBytes 8 gen ++ leBytes 4 body.length ++
    leBytes 4 (crc32c body) ++ sha384 body ++ loc 0 image.length ++ loc image.length skip.length ++
    loc (image.length + skip.length) zmap.length ++ zeros 28
  h ++ leBytes 4 (crc32c h) ++ body

def copyGen (l : List Byte) : Nat := leAt l 8 8
def copyHash (l : List Byte) : List Byte := slice l 24 48

/-- Whether a copy read with every fragment good is valid (R115). -/
def copyValid (l : List Byte) : Bool :=
  let body := l.drop 128
  let n := leAt l 16 4
  let locs := [72, 80, 88].map fun o => (leAt l o 4, leAt l (o + 4) 4)
  decide (128 ≤ l.length) && slice l 0 4 == ofNats [0x46, 0x51, 0x4D, 0x46] && leAt l 4 2 == 1 && leAt l 124 4 == crc32c (l.take 124) &&
    body.length == n && leAt l 20 4 == crc32c body && locs.all (fun p => decide (p.1 + p.2 ≤ n)) &&
    locs.zipIdx.all fun p => (locs.take p.2).all fun q => decide (p.1.1 + p.1.2 ≤ q.1 ∨ q.1 + q.2 ≤ p.1.1)

/-- The image of a manifest copy, its EXTERNAL sections from their places in the body. -/
def copyImage (l : List Byte) : ImageInfo :=
  let body := l.drop 128
  let at' (o : Nat) : List Byte := slice body (leAt l o 4) (leAt l (o + 4) 4)
  let i := parseImage (at' 72)
  { i with generation := copyGen l
           secs := i.secs.map fun e =>
             if e.sflags.testBit 0 then { e with body := if e.ty = 1 then at' 88 else at' 80 } else e }

/-- The hash record written (R116, R710). -/
def hashWrite (l : List Byte) (s : State) : State := recWrite recHash (leBytes 8 (copyGen l) ++ copyHash l) s

/-- Every zone that is not Empty goes Offline (R151). -/
def zonesOffline (s : State) : State :=
  { s with zones := s.zones.map fun z => if z.2.state = 1 then z else (z.1, { z.2 with state := 0xF }) }

/-- The running commit writes and verifies the copies in slot order (R116): `done` of them are complete, and the next one is left
torn where the commit was interrupted in it. After the third the hash record is written. -/
def manifestCommit (done : Nat) (torn : Bool) (s : State) : State :=
  match s.rcp.commit with
  | none => s
  | some (i, force, origin, activate) =>
    let top := maxOf ((s.man.copies.toList.filter copyValid).map copyGen)
    let gen := (if inConflict s then top else s.man.generation) + 1
    let l := manifestCopy i gen
    let put (k : Fin 3) (v : List Byte) (s : State) : State := s.modMan fun m => { m with copies := m.copies.set k v }
    let s := forEach (List.finRange 3) (fun k s =>
      if k.val < done then put k l s else if k.val = done ∧ torn then put k [] s else s) s
    let s := s.modRcp fun r => { r with commit := none }
    if done < 3 then rcpStatus (0x21, 0xFFFF, 0) i.serial origin s
    else
      let s := hashWrite l s
      let s := if force && !compatible i s then zonesOffline s else s
      let s := if inConflict s then { s with manifest := 1 } else s
      let s := s.modMan fun m => { m with generation := gen, committed := some { copyImage l with generation := gen } }
      let s := rcpStatus (0x03, 0xFFFF, 0) i.serial origin s
      if activate then rcpActivate s else s

def execManifestCommit (done : Fin 4) (torn : Bool) (s : State) : Out := s.onCore (manifestCommit done torn)

/-! ### Selection and repair (R709, R710) -/

/-- A MANIFEST record: state, copy, GENERATION (R664). -/
def State.logManifest (s : State) (state copy gen : Nat) : State :=
  s.log 0x041 (leBytes 1 state ++ leBytes 1 copy ++ leBytes 2 0 ++ leBytes 8 gen)

/-- The slot with the highest GENERATION of a list of copies, the first of equals. -/
def highest : List (Fin 3 × List Byte) → Option (Fin 3 × List Byte)
  | [] => none
  | p :: r => match highest r with
    | none => some p
    | some q => if copyGen p.2 < copyGen q.2 then some q else some p

/-- The choice of R709 over the valid copies with their slots: the code of 0x4000.00 and the slot selected. -/
def chooseCopy (v : List (Fin 3 × List Byte)) (hash : Option (List Byte)) : Nat × Option (Fin 3) :=
  match v.find? fun p => v.any fun q => q.1 != p.1 && q.2 == p.2 with
  | some p => (if v.length = 3 ∧ v.all (fun q => q.2 == p.2) then 1 else 2, some p.1)
  | none =>
    match (hash.bind fun h => highest (v.filter fun p => copyHash p.2 == h)) with
    | some p => (3, some p.1)
    | none =>
      match highest v with
      | none => (6, none)
      | some p => if v.any fun q => q.1 != p.1 && copyGen q.2 == copyGen p.2 then (5, none) else (4, some p.1)

/-- A body is selected: it becomes the committed image, whose activation is requested; slots that are invalid or differ are rewritten
and verified, and the hash record follows (R147, R710). -/
def manifestSelect (code : Nat) (k : Fin 3) (s : State) : State :=
  let l := s.man.copies[k]
  let s := { s with manifest := code }.modMan fun m => { m with generation := copyGen l, committed := some (copyImage l) }
  let s := s.logManifest code k.val (copyGen l)
  let s := if code = 1 then s
    else
      let s := forEach (List.finRange 3) (fun j s =>
        if s.man.copies[j] == l then s
        else (s.modMan fun m => { m with copies := m.copies.set j l }).logManifest code j.val (copyGen l)) s
      hashWrite l s
  rcpActivate s

/-- Manifest-conflict: the outcome is reported, source 2 rises, and the boot image stays in use (R709). The record names no copy. -/
def manifestConflict (code : Nat) (s : State) : State :=
  let (copy, s) := s.fresh
  let (gen, s) := s.fresh
  (({ s with manifest := code }.modMan fun m => { m with committed := none }).logManifest code copy gen).raise 2

/-- The identity binding record of the media: by majority of its valid copies, or that of the selected copy (R714). -/
def mediaId (k : Option (Fin 3)) (s : State) : Option (List Byte) :=
  let ids := s.man.ids.toList.filter fun l => l.length == 64 && recValid recBinding l
  match ids.find? fun l => decide (1 < (ids.filter (· == l)).length) with
  | some l => some l
  | none => match k with
    | some k => if recValid recBinding s.man.ids[k] then some s.man.ids[k] else none
    | none => none

/-- Whether the binding holds: DRIVE_MODEL, DRIVE_SERIAL and BIND_GEN agree (R714). -/
def bindingHolds (k : Option (Fin 3)) (s : State) : Bool :=
  match recRead recBinding s, mediaId k s with
  | some a, some b => slice a 4 24 == slice b 4 24 && slice a 48 4 == slice b 48 4
  | _, _ => false

/-- The choice over the copies read, with or without the hash record (R709, R714). -/
def manifestChoose (useHash : Bool) (s : State) : State :=
  let v := (List.finRange 3).filterMap fun k => if copyValid s.man.copies[k] then some (k, s.man.copies[k]) else none
  let hash := if useHash then (recRead recHash s).map fun r => slice r 8 48 else none
  let (code, k) := chooseCopy v hash
  if !bindingHolds k s then manifestConflict 7 s
  else match k with
    | some k => manifestSelect code k s
    | none => manifestConflict code s

/-- The three copy slots are read, with the identity binding records; a copy with a fragment that did not pass is none (R115, R709). -/
def execManifestSelection (c0 c1 c2 i0 i1 i2 : Option (List Byte)) (s : State) : Out :=
  s.onCore fun s =>
    let s := s.modMan fun m => { m with
      copies := ((m.copies.set 0 (c0.getD [])).set 1 (c1.getD [])).set 2 (c2.getD [])
      ids := ((m.ids.set 0 (i0.getD [])).set 1 (i1.getD [])).set 2 (i2.getD []) }
    manifestChoose true s

/-- MAN_SELECT: in manifest-conflict, under factory rights, a slot that holds a valid copy is selected with code 8 (R710). -/
def manSelect (k : Nat) (s : State) : RcpAnswer × State :=
  if s.get CIP_STATUS.DBG_LEVEL ≠ 2 ∨ !inConflict s then ((0x22, 0xFFFF, 0), s)
  else if h : k < 3 then
    if copyValid s.man.copies[k] then ((0x00, 0xFFFF, 0), manifestSelect 8 ⟨k, h⟩ s)
    else let (v, s) := s.fresh; ((v, 0xFFFF, 0), s)
  else let (v, s) := s.fresh; ((v, 0xFFFF, 0), s)

def execManSelect (c : Fin 4) (s : State) : Out := service c (fun k _ _ s => manSelect k s) s

/-! ### Controller swap (R714) -/

/-- A calibration record is made stale: its CRC no longer holds. -/
def staleRecord (a : Addr) (s : State) : State :=
  s.writeBytes (a + 28) ((leBytes 4 (crc32c (s.readBytes a 28))).map (fun b => ~~~b))

/-- Every zone of the committed zone map is reset (R109). -/
def resetZones (s : State) : State :=
  let n := match s.man.committed with | some i => leAt (i.body 1 0) 0 4 | none => 0
  let keys := (List.range n) ++ (s.zones.map (·.1)).filter fun k => decide (n ≤ k)
  forEach keys (fun k s => { s with zones := kvInsert s.zones k { state := 1, wp := 0, gen := ((s.zone k).gen + 1) % 65536 } }) s

/-- REBIND under factory rights: the binding record, the media-class dictionary entries read from the system area, the calibration
records, the parity journal, the media keys, the zones, and the manifest selection again without the hash record. -/
def rebind (media : List (Nat × List Byte)) (s : State) : RcpAnswer × State :=
  if s.get CIP_STATUS.DBG_LEVEL ≠ 2 then ((0x22, 0xFFFF, 0), s)
  else
    match mediaId none s with
    | none => let (v, s) := s.fresh; ((v, 0xFFFF, 0), s)
    | some id =>
      let body := splice id 48 (leBytes 4 (leAt id 48 4 + 1))
      let s := recWrite recBinding (body.take 52) s
      let rec' := (recRead recBinding s).getD body
      let s := s.modMan fun m => { m with ids := .replicate 3 rec' }
      let s := forEach media (fun p s => { s with dict := kvInsert s.dict p.1 p.2 }) s
      let heads := List.range 28
      let s := forEach heads (fun h s => staleRecord (mramBase + 0x040000 + 32 * h) s) s
      let s := forEach heads (fun h s => staleRecord (mramBase + s.get (FMS_WCAL.ADDR (h / 14)) + 32 * h) s) s
      let s := staleRecord (mramBase + s.get SPM_CAL.REC_ADDR) s
      let s := { s with journal := [] }
      let s := forEach (List.finRange 32) (fun r s => replaceMek r 2 s) s
      ((0x00, 0xFFFF, 0), manifestChoose false (resetZones s))

def execRebind (c : Fin 4) (media : List (Nat × List Byte)) (s : State) : Out := service c (fun _ _ _ s => rebind media s) s

end Sys2Proof.Machine
end

