-- ==== Sys2Proof/Machine/Boot.lean ====
section
/-! DEFINITION. The flash, firmware images and the boot ROM (R641, R642, R701, R704 to R708, R715). -/

namespace Sys2Proof.Machine

def State.modBoot (s : State) (f : BootUnit → BootUnit) : State := { s with boot := f s.boot }

/-- The state behind an effect, or the state before it where it gave none. -/
def thenDo (f : State → Out) (s : State) : State := match f s with | .next t => t | _ => s

/-! ### The flash -/

/-- The bytes of the flash that the window of PCE_XROM can name: BASE × 64 KiB with 12 bits of BASE. -/
def flashSize : Nat := 2 ^ 28

/-- One byte of the flash; an erased byte reads 0xFF. -/
def flashByte (a : Nat) (s : State) : Byte := (kvFind s.boot.flash a).getD 0xFF

def flashRead (a n : Nat) (s : State) : List Byte := (List.range n).map fun i => flashByte (a + i) s

/-- Bytes erased and programmed. -/
def flashWrite (a : Nat) : List Byte → State → State
  | [], s => s
  | b :: l, s => flashWrite (a + 1) l (s.modBoot fun x => { x with
      flash := if b = 0xFF then kvErase x.flash a else kvInsert x.flash a b })

/-- The directory copy that a reader takes, as R699 rules it, with the offset of the copy that a writer overwrites (R701). -/
def flashDir (s : State) : Option (List Byte) × Nat :=
  let ok (l : List Byte) : Bool := slice l 0 4 == ofNats [0x46, 0x51, 0x46, 0x44] && leAt l 60 4 == crc32c (l.take 60)
  let a := flashRead 0 64 s
  let b := flashRead 0x10000 64 s
  if ok a then if ok b ∧ leAt a 22 4 < leAt b 22 4 then (some b, 0) else (some a, 0x10000)
  else if ok b then (some b, 0) else (none, 0)

/-- The flash offset of firmware slot 1 or 2. -/
def slotOfs (dir : List Byte) (slot : Nat) : Nat := 65536 * leAt dir (if slot = 1 then 8 else 10) 2

/-- The directory written with SELECT naming a slot (R701, R708). -/
def flashSelect (slot : Nat) (s : State) : State :=
  match flashDir s with
  | (none, _) => s
  | (some d, k) =>
    let d := splice (splice d 4 (leBytes 1 slot)) 22 (leBytes 4 (leAt d 22 4 + 1))
    flashWrite k (splice d 60 (leBytes 4 (crc32c (d.take 60)))) s

/-- A flash service: done, or an answer that the spec does not state where an address lies outside flash or memory. -/
def flashService (ok : Bool) (f : State → State) (s : State) : RcpAnswer × State :=
  if ok then ((0x00, 0xFFFF, 0), f s) else let (v, s) := s.fresh; ((v, 0xFFFF, 0), s)

/-- FLASH_READ: g1 flash offset, g2 length, g3 destination (R704). -/
def execFlashRead (c : Fin 4) (s : State) : Out :=
  service c (fun ofs n a s =>
    flashService (decide (ofs + n ≤ flashSize) && (n == 0 || (accessFail (.y c) true a n s).isNone))
      (·.writeBytes a (flashRead ofs n s)) s) s

/-- FLASH_WRITE: g1 flash offset, g2 length, g3 source (R704). -/
def execFlashWrite (c : Fin 4) (s : State) : Out :=
  service c (fun ofs n a s =>
    flashService (decide (ofs + n ≤ flashSize) && (n == 0 || (accessFail (.y c) false a n s).isNone))
      (flashWrite ofs (s.readBytes a n)) s) s

/-- The boot record as a reader takes it; an absent one reads zero. -/
def bootRecord (s : State) : List Byte := ((recRead recBoot s).getD (zeros 64)).take 52

/-- BOOT_OK sets TRIES of the boot record to 0 (R704). -/
def execBootOk (c : Fin 4) (s : State) : Out :=
  service c (fun _ _ _ s => ((0x00, 0xFFFF, 0), recWrite recBoot (splice (bootRecord s) 0 [0]) s)) s

/-! ### Firmware images -/

/-- The length of an image by its header. -/
def imageLen (h : List Byte) : Nat := 256 + leAt h 16 4

/-- Whether the header says what R641 fixes: MAGIC, HDR_VER and the bound of BODY_LEN. -/
def headerOk (magic : List Nat) (h : List Byte) : Bool :=
  slice h 0 4 == ofNats magic && leAt h 4 2 == 1 && decide (leAt h 16 4 ≤ 16 * 2 ^ 20) && decide (leAt h 6 1 < 4)

def fwMagic : List Nat := [0x46, 0x51, 0x46, 0x57]

/-- Whether an image is valid (R641). -/
def imageValid (magic : List Nat) (l : List Byte) (s : State) : Bool :=
  let key := slice l 64 96
  headerOk magic l && decide (imageLen l ≤ l.length) && sha384 key == Config.fwKeyHash (leAt l 6 1) &&
    !Config.fwKeyRevoked (leAt l 6 1) && decide (s.keys.svnMin ≤ leAt l 8 8) &&
    ecdsaVerify key (slice l 160 96) (sha384 (l.take 160 ++ slice l 256 (leAt l 16 4)))

/-- A FIRMWARE record (R664). -/
def State.logFirmware (s : State) (slot reason svn : Nat) : State :=
  s.log 0x050 (leBytes 1 slot ++ leBytes 1 reason ++ leBytes 2 0 ++ leBytes 8 svn)

/-! ### The boot ROM -/

/-- Step 4 (R705): main SRAM is filled, and pantry SRAM where COLD is 1. -/
def bootFill (s : State) : State :=
  let s := (zeroRange 0x0010000000 0x0010800000 s).set MEM_INT.INIT_DONE 1
  if s.bit SYS_PSCRUB.COLD then (zeroRange 0x0020000000 0x0020080000 s).set SYS_PSCRUB.COLD 0 else s

/-- Step 5 (R705, R517): the identity of the endpoint, the link and the cipher. -/
def bootHost (s : State) : State :=
  let id := (recRead recBinding s).getD (zeros 64)
  let dsn := leAt (((kvFind s.dict (dictKey 0x1018 4)).getD []) ++ zeros 16) 0 8
  let s := (s.setOnce PCE_ID.SSID (leAt id 46 2)).setOnce PCE_ID.SSVID (leAt id 44 2)
  let s := (s.setOnce PCE_DSN_L.DSN_LO (dsn % 2 ^ 40)).setOnce PCE_DSN_H.DSN_HI (dsn / 2 ^ 40)
  cipEnable ((s.set PCE_CTRL.LTSSM_EN 1).setOnce PCE_CTRL.CFG_READY 1)

/-- Steps 6 and 7 (R684, R685, R705): the retained bring-up, or the full one with the DRAM fill; the failed lanes are those of the
bring-up. -/
def bootDram (lanes : BitVec 4) (s : State) : State :=
  let cfg (z r t : Nat) (s : State) : State := ((s.set DRC_CFG.SIZE z).set DRC_CFG.RANKS r).set DRC_CFG.RATE t
  let s := s.set DRC_CTRL.ENABLE 1
  if s.bit SUP_STATUS.SR_HOLD && s.bit SYS_DRC_SAVE.VALID then
    thenDo (execDrcBringupEnd lanes)
      (drcBringup (cfg (s.get SYS_DRC_SAVE.SIZE) (s.get SYS_DRC_SAVE.RANKS) (s.get SYS_DRC_SAVE.RATE) s))
  else
    let s := if s.bit SUP_STATUS.SR_HOLD then srRelease s else s
    let s := cfg (s.get SYS_STRAP.DRAM_SIZE) (s.get SYS_STRAP.DRAM_RANKS) (s.get SYS_STRAP.DRAM_RATE) s
    let s := thenDo execDrcPllLocked (drcPhyEn true s)
    thenDo execDrcInitDone (drcInitGo (thenDo (execDrcBringupEnd lanes) (drcBringup s)))

/-- An image is loaded from a slot to its LOAD address and checked; its bytes where it is valid (R641, R705). -/
def bootLoad (dir : List Byte) (slot : Nat) (s : State) : Option (List Byte) × State :=
  let ofs := slotOfs dir slot
  let h := flashRead ofs 256 s
  if !headerOk fwMagic h then (none, s)
  else
    let l := flashRead ofs (imageLen h) s
    let load := leAt h 20 5
    if (accessFail (.y 0) true load l.length s).isSome then (none, s)
    else
      let s := s.writeBytes load l
      (if imageValid fwMagic l s && s.bit CIP_STATUS.READY then some l else none, s)

/-- Step 10 (R705, R707): the boot record, the FIRMWARE record, and the jump to ENTRY; TRIES does not rise where the image stayed in
DRAM (R715). -/
def bootJump (slot reason : Nat) (raise : Bool) (l : List Byte) (s : State) : State :=
  let r := bootRecord s
  let tries := if leAt r 1 1 = slot then leAt r 0 1 else 0
  let tries := if raise then satAdd tries 1 255 else tries
  let body := leBytes 1 tries ++ leBytes 1 slot ++ leBytes 1 reason ++ [0] ++ sha384 l
  let s := (recWrite recBoot body s).logFirmware slot reason (leAt l 8 8)
  let s := s.modBoot fun b => { b with started := some (leAt l 20 5, l.length), slot := slot, svn := leAt l 8 8, recovery := false }
  coreShow 0 false false (s.modCore 0 fun x => x.fresh 0 (leAt l 25 5))

/-- The choice of R707: the slot verified first with its reason, then the other with reason 1; with neither valid Y0 stays in the
recovery loop (R708). -/
def bootChoose (s : State) : State :=
  let fail (s : State) : State := (s.logFirmware (leAt (bootRecord s) 1 1) 3 0).modBoot fun b => { b with recovery := true }
  match flashDir s with
  | (none, _) => fail s
  | (some dir, _) =>
    let sel := if leAt dir 4 1 = 2 then 2 else 1
    let r := bootRecord s
    let turned := decide (3 ≤ leAt r 0 1 ∧ leAt r 1 1 = sel)
    let first := if turned then 3 - sel else sel
    match bootLoad dir first s with
    | (some l, s) => bootJump first (if turned then 2 else 0) true l s
    | (none, s) =>
      match bootLoad dir (3 - first) s with
      | (some l, s) => bootJump (3 - first) 1 true l s
      | (none, s) => fail s

/-- The image that Standby left in DRAM, where it matches DIGEST (R715). -/
def bootKept (retained : Bool) (s : State) : Option (List Byte) :=
  match retained, s.boot.started with
  | true, some (a, n) =>
    let l := s.readBytes a n
    if (accessFail (.y 0) false a n s).isNone && sha384 l == slice (bootRecord s) 4 48 then some l else none
  | _, _ => none

/-- Steps 4 to 10 of the start-up (R705): Y0 leaves the reset vector through the boot ROM. The operands are the lanes that fail in the
DRAM bring-up, and the failing self-test of the cipher with its core. -/
def execBootRomStart (lanes : BitVec 4) (cause : Fin 12) (core : Fin 8) (s : State) : Out :=
  s.onCore fun s =>
    if coreHeldBit 0 s || s.cores[0].pc != 0 || s.cores[0].halted then s
    else
      let retained := s.bit SUP_STATUS.SR_HOLD && s.bit SYS_DRC_SAVE.VALID
      let s := bootDram lanes (bootHost (bootFill s))
      let s := thenDo (execCipSelftestDone cause core) s
      let r := bootRecord s
      match bootKept (retained && s.bit DRC_STATUS.BRINGUP_DONE) s with
      | some l => bootJump (leAt r 1 1) (leAt r 2 1) false l s
      | none => bootChoose s

end Sys2Proof.Machine
end

