-- ==== Sys2Proof/Machine/Events.lean ====
section
/-! DEFINITION. The event recorder: the ring, repeats, posts, the mirror and the operating seconds (R663 to R670, R674). -/

namespace Sys2Proof.Machine

/-- The ring of the event records in the MRAM (R666). -/
def ringBase : Addr := 0x0030200000
def ringSize : Nat := 0x100000

/-- The payload bytes that R667 compares: those that R664 does not mark as varying are kept, the others read 0. -/
def evrFixed (ty : Nat) (l : List Byte) : List Byte :=
  let blank (o n : Nat) : List Byte := l.take o ++ List.replicate n 0 ++ l.drop (o + n)
  if ty = 0x010 ∨ ty = 0x011 then blank 4 8
  else if ty = 0x020 then blank 2 2
  else if ty = 0x021 then blank 0 4
  else if ty = 0x090 then blank 4 4
  else l

/-- Whether a record repeats another (R667). -/
def EvRec.repeats (r q : EvRec) : Bool :=
  r.ty == q.ty && r.origin == q.origin && r.payload.length == q.payload.length && evrFixed r.ty r.payload == evrFixed q.ty q.payload

/-- The size of a record in the ring (R663). -/
def EvRec.size (r : EvRec) : Nat := 8 * ((24 + r.payload.length + 7) / 8)

/-- The milliseconds within the second (R663). -/
def msecNow (s : State) : Nat := s.now / 100000 % 1000

/-- The bytes of a record before its CRC, with its SEQ and REPEAT (R663). -/
def evrBody (r : EvRec) (seq : Nat) (s : State) : List Byte :=
  let h := leBytes 2 (r.ty % 4096 + 4096 * r.ver) ++ leBytes 2 r.payload.length ++ leBytes 1 r.origin ++ leBytes 1 r.flags ++
    leBytes 2 seq ++ leBytes 5 s.opSeconds ++ leBytes 3 s.powerCycles ++ leBytes 2 0 ++ leBytes 2 (msecNow s) ++ r.payload
  h ++ List.replicate (r.size - 4 - h.length) 0

/-- A record with its CRC, whose bytes count RPEND as 0 (R663). -/
def evrSeal (l : List Byte) : List Byte := l ++ leBytes 4 (crc32c l)

/-- The next SEQ; the count of records written (R663, R674). -/
def evrCount (s : State) : State :=
  ((s.wrapUp EVR_SEQ.SEQ).bump EVR_SEQ.RECORDS).set EVR_INT.RECORD 1

/-- A repeat raises REPEAT of the last record and rewrites its CRC row (R667). -/
def evrRepeat (ofs : Nat) (q : EvRec) (s : State) : State :=
  let a := ringBase + ofs
  let l := s.readBytes a (q.size - 4)
  let l := splice l 16 (leBytes 2 (satAdd (leAt l 16 2) 1 0xFFFF))
  let s := s.writeBytes a (evrSeal l)
  (s.wrapUp EVR_SEQ.SEQ).set EVR_INT.RECORD 1

/-- Unmirrored bytes: those from DONE_OFS to NEXT_OFS (R670). -/
def evrUnmirrored (s : State) : Nat :=
  (s.get EVR_STATUS.NEXT_OFS + ringSize - s.get EVR_MIRROR.DONE_OFS) % ringSize

/-- The write offset passes DONE_OFS: the overwritten bytes are lost from the mirror (R670). -/
def evrMirrorLoss (before written : Nat) (s : State) : State :=
  if before + written ≤ ringSize then s
  else
    let lost := evrUnmirrored s
    let now := s.now
    let s := (((s.bump EVR_CNT.MIRROR_LOST lost).set EVR_INT.MIRROR_LOST 1).set EVR_MIRROR.DONE_OFS (s.get EVR_STATUS.NEXT_OFS))
    ({ s with evr := { s.evr with doneAt := now } }).log 0x003 (leBytes 4 lost ++ leBytes 1 1 ++ leBytes 3 0)

/-- A new record is written at the write offset; one that would pass the end of the ring starts at offset 0 behind zero rows
(R666). -/
def evrWrite (r : EvRec) (s : State) : State :=
  let at0 := s.get EVR_STATUS.NEXT_OFS
  let before := evrUnmirrored s
  let wrap := decide (ringSize < at0 + r.size)
  let s := s.when wrap (·.writeBytes (ringBase + at0) (List.replicate (ringSize - at0) 0))
  let ofs := if wrap then 0 else at0
  let s := evrCount s
  let s := s.writeBytes (ringBase + ofs) (evrSeal (evrBody r (s.get EVR_SEQ.SEQ) s))
  let s := { s with evr := { s.evr with last := some (ofs, r) } }
  let s := s.set EVR_STATUS.NEXT_OFS ((ofs + r.size) % ringSize)
  evrMirrorLoss before (r.size + (if wrap then ringSize - at0 else 0)) s

/-- QUEUED counts the records that wait, the entry kept apart for LOST not among them (R667, R674). -/
def evrQueued (s : State) : State :=
  s.set EVR_STATUS.QUEUED (min 32 (s.evrQueue.filter fun q => !q.isLost).length)

/-- EVR writes the record at the head of its queue (R666, R667). -/
def execEvrRecordWrite (s : State) : Out :=
  s.onRetention fun s =>
    match s.evrQueue with
    | [] => s
    | r :: rest =>
      let s := evrQueued { s with evrQueue := rest }
      match s.evr.last with
      | some (ofs, q) => if r.repeats q then evrRepeat ofs q s else evrWrite r s
      | none => evrWrite r s

/-- Whether a master may post through EVR_POSTB[c] (R669). -/
def evrPoster (m : Master) (c : Nat) (s : State) : Bool :=
  match m with
  | .y n => c == n.val
  | .yp => c == 4
  | .dma => false
  | .debug => c == 5 && s.get CIP_STATUS.DBG_LEVEL != 0

/-- Whether the whole payload lies in main SRAM, pantry SRAM or the MRAM outside the key store, in a domain that is on (R669, R404). -/
def evrReach (a n : Nat) (s : State) : Bool :=
  match memoryOf a, memoryOf (a + n - 1) with
  | some x, some y => x == y && x != 3 && x != 4 && memoryOn a s &&
      !(decide (a < mramBase + 0x40000 ∧ mramBase + 0x10000 < a + n))
  | _, _ => false

/-- EVR_POSTB[c].GO with TYPE, VER and LENGTH in the same word posts a record (R669). -/
def evrPost (m : Master) (c : Nat) (w : Nat) (s : State) : State :=
  if !evrPoster m c s || s.bit (EVR_POSTB.BUSY c) then s
  else
    let ty := bits w 0 12
    let len := bits w 12 11
    let ver := bits w 26 4
    let s := (((s.set (EVR_POSTB.TYPE c) ty).set (EVR_POSTB.LENGTH c) len).set (EVR_POSTB.VER c) ver).set (EVR_POSTB.ERR c) 0
    let a := s.get (EVR_POSTA.ADDR c)
    if 0x800 ≤ ty ∧ 4 ≤ len ∧ len ≤ 1024 ∧ evrReach a len s then
      s.evrPush { ty := ty, ver := ver, origin := originOf m s, payload := s.readBytes a len }
    else (s.set (EVR_POSTB.ERR c) 1).set EVR_INT.POST_ERR 1

def execEvrPost (m : Master) (c : Fin 6) (w : BitVec 40) (s : State) : Out := s.onRetention (evrPost m c.val w.toNat)

/-- MIRROR_DUE by level or by age (R670). -/
def execEvrMirrorDue (s : State) : Out :=
  s.onRetention fun s =>
    let level := 4096 * max 1 (s.get EVR_MIRROR_LVL.LEVEL)
    let age := s.get EVR_MIRROR.AGE
    s.when (decide (level ≤ evrUnmirrored s) || (age != 0 && decide (s.evr.doneAt + age * 100000000 ≤ s.now)))
      (·.set EVR_INT.MIRROR_DUE 1)

/-- Writing EVR_CTRL.CLR_CNT clears EVR_CNT (R674). -/
def execEvrClrCnt (s : State) : Out :=
  s.onRetention fun s => s.clearAll [EVR_CNT.DROPPED, EVR_CNT.MIRROR_LOST, EVR_CNT.REPAIRED]

/-- A second of tick count passes (R669). -/
def execOpSecondsTick (s : State) : Out := s.onRetention fun s => { s with opSeconds := (s.opSeconds + 1) % 2 ^ 40 }

/-- At retention power-on EVR repairs a repeat that a supply loss cut short, and POWER_CYCLE rises (R668, R669). SEQ and the write
offset run on. -/
def evrPowerOn (s : State) : State :=
  let s := { s with powerCycles := (s.powerCycles + 1) % 2 ^ 32 }
  match s.evr.last with
  | none => s
  | some (ofs, q) =>
    let a := ringBase + ofs
    let l := s.readBytes a (q.size - 4)
    if (leAt l 18 2).testBit 15 then
      let l := splice l 18 (leBytes 2 (leAt l 18 2 % 0x8000))
      (s.writeBytes a (evrSeal l)).bump EVR_CNT.REPAIRED
    else s

end Sys2Proof.Machine
end

