-- ==== Sys2Proof/Machine/Faults.lean ====
section
/-! DEFINITION. The fault collector: classification, severity actions, root and consequence, the fault state, ALIVE and health
(R649 to R662, R671 to R675). -/

namespace Sys2Proof.Machine

def State.modFlt (s : State) (f : FltUnit → FltUnit) : State := { s with flt := f s.flt }

/-- Whether source `k` can set off source `j` (R657). -/
def fltDep (k j : Nat) (s : State) : Bool := (s.get (FLT_DEP.DEP k (j / 40))).testBit (j % 40)

/-- Bit `k` of FLT_ACTIVE. -/
def fltActive (k : Nat) (s : State) : Bool := (s.get (FLT_ACTIVE.ACTIVE (k / 40))).testBit (k % 40)

/-- The root of a classification of `j`: the lowest-numbered open source that can set it off (R657, R658). -/
def fltRoot (j : Nat) (s : State) : Option Nat :=
  (List.range 192).find? fun k => k != j && s.bit (FLT_SRC.OPEN k) && fltDep k j s

/-- Health (R661). -/
def fltHealth (s : State) : Nat :=
  if !s.power.core then 0
  else if s.bit FLT_STATUS.SAFE then 3
  else if s.bit FLT_STATUS.FAULT then 2
  else if (List.range 192).any (fun k => fltActive k s && decide (2 ≤ s.get (FLT_SRC.SEV k))) then 1 else 0

/-- FLT_STATUS.OPEN and HEALTH follow the sources (R661, R672). -/
def fltSum (s : State) : State :=
  (s.set FLT_STATUS.OPEN (min 255 ((List.range 192).filter fun k => s.bit (FLT_SRC.OPEN k)).length)).set FLT_STATUS.HEALTH (fltHealth s)

/-- The safe state's actions (R652): write data idle and WG off, both ADLn_PARK_N low, CLE actuator releases stopped, open track
programs stopped. -/
def safeState (s : State) : State :=
  let s := pslWgOff 1 (wpStop 1 0x23 (pslWgOff 0 (wpStop 0 0x23 s)))
  let s := adlPark 1 1 2 (adlPark 0 1 2 s)
  fmsStopCause 1 (fmsStopCause 0 (s.set CLE_STATUS.SAFE 1))

/-- The actions of a primary classification at severity `v` (R652, R653, R655). -/
def fltActions (k v flags : Nat) (s : State) : State :=
  let now := s.now
  let s := s.when (decide (1 ≤ v)) fun s =>
    let f := FLT_ACTIVE.ACTIVE (k / 40)
    (s.set f (s.get f ||| 2 ^ (k % 40))).logFault k v flags
  let s := s.when (decide (2 ≤ v)) fun s =>
    let l := s.get (FLT_SRC.LINE k)
    (s.wrapUp (FLT_LINECNT.COUNT l)).pulse (80 + l)
  let s := s.when (decide (3 ≤ v)) fun s =>
    let s := if s.bit FLT_STATUS.FAULT then s
      else (((s.set FLT_STATUS.FAULT 1).set FLT_STATUS.HIGHEST 0).modFlt fun f => { f with since := now }).log 0x012
        (leBytes 1 k ++ leBytes 1 v ++ leBytes 2 0) 0 flags
    let s := if s.bit FLT_FIRST.VALID then s
      else (((s.set FLT_FIRST.VALID 1).set FLT_FIRST.SEV v).set FLT_FIRST.SOURCE k).set FLT_FIRST_TICK.TICK now
    ((s.set FLT_STATUS.HIGHEST (max v (s.get FLT_STATUS.HIGHEST))).set FLT_STATUS.QUIET_LEFT (s.get FLT_CFG.QUIET)).modFlt fun f =>
      { f with quiet := now }
  let s := s.when (decide (4 ≤ v)) fun s => safeState (s.set FLT_STATUS.SAFE 1)
  s.when (decide (5 ≤ v)) fun s =>
    (s.modFlt fun f => { f with reset5 := some (k, now) }).log 0x014 (leBytes 1 k ++ leBytes 3 0) 0 flags

/-- A secondary classification of `j` under root `r` (R658): counted, with one FAULT_SECONDARY record while the root stays open; a
later one is handed to EVR only where it repeats the last record written. -/
def fltSecondary (j r flags : Nat) (s : State) : State :=
  let s := (s.bump (FLT_SRC.SEC_COUNT j)).bump FLT_CNT.SECONDARY
  let w := (kvFind s.flt.roots r).getD {}
  let first := !(w.recorded.contains j)
  let s := s.modFlt fun f => { f with roots := kvInsert f.roots r { total := w.total + 1, recorded := if first then j :: w.recorded else w.recorded } }
  let rec_ : EvRec := { ty := 0x011, flags := flags, payload := leBytes 1 j ++ leBytes 1 r ++ leBytes 2 0 ++ leBytes 8 s.now }
  let last := match s.evr.last with | some (_, q) => rec_.repeats q | none => false
  s.when (first || (s.evrQueue.isEmpty && last)) (·.evrPush rec_)

/-- A source is classified (R652, R657, R658). -/
def fltClassify (k flags : Nat) (s : State) : State :=
  let now := s.now
  let v := s.get (FLT_SRC.SEV k)
  let root := fltRoot k s
  let s := (s.set (FLT_SRC.OPEN k) 1).modFlt fun f => { f with last := kvInsert f.last k now }
  fltSum <| match root with
    | some r => fltSecondary k r flags s
    | none =>
      let s := (s.bump (FLT_SRC.COUNT k)).bump FLT_CNT.PRIMARY
      let s := (((s.set FLT_LAST.VALID 1).set FLT_LAST.SEV v).set FLT_LAST.SOURCE k).set FLT_LAST_TICK.TICK now
      fltActions k v flags s

/-- Source `k` occurs: an event is classified; a level's condition rises and is classified unless the source is open (R649, R652,
R671). A reserved source does nothing. -/
def fltOccur (k flags : Nat) (s : State) : State :=
  match fltResetSeverity k with
  | none => s
  | some _ =>
    if k ∈ fltLevelSources then
      let s := s.set (FLT_SRC.COND k) 1
      if s.bit (FLT_SRC.OPEN k) then fltSum s else fltClassify k flags s
    else fltClassify k flags s

/-- A source that a unit has raised is taken from the list of raised sources and classified (R652). -/
def execFaultClassify (k : Fin 192) (s : State) : Out :=
  s.onCore fun s =>
    if s.raised.contains k.val then fltOccur k.val 0 { s with raised := s.raised.erase k.val } else s

/-- Whether the condition of a level source is present, as far as the units of the block show it (R650). The conditions of sources
1 and 65 end with the temperature and with the pin SPN_FLT_N. -/
def fltCondition (k : Nat) (s : State) : Bool :=
  if k = 0 then s.bit SYS_REFCLK.FALLBACK
  else if k = 1 then decide ((toS 40 (dictNat 0x5004 1 1600 s)) < s.dieTemp)
  else if k = 2 then s.manifest == 5 || s.manifest == 6 || s.manifest == 7
  else if k = 3 then s.bit SYS_BEAT.NONE && (compActive 0 s || compActive 1 s)
  else if 8 ≤ k ∧ k ≤ 16 ∧ k % 2 = 0 then (s.get SUP_STATUS.WARN_NOW).testBit ((k - 8) / 2)
  else if k = 27 then !s.bit (PSL_STATUS.LINK_UP 0)
  else if k = 31 then !s.bit (PSL_STATUS.LINK_UP 1)
  else if k = 32 then !s.bit (ADL_STATUS.LINK_UP 0)
  else if k = 34 then !s.bit (ADL_STATUS.LINK_UP 1)
  else if k = 77 then drcBroken s
  else if k = 102 then s.bit CIP_STATUS.ERROR
  else false

/-- The condition of a level source falls (R657). -/
def execFaultConditionFall (k : Fin 192) (s : State) : Out :=
  s.onCore fun s =>
    if s.bit (FLT_SRC.COND k.val) && !fltCondition k.val s then
      let now := s.now
      fltSum ((s.set (FLT_SRC.COND k.val) 0).modFlt fun f => { f with last := kvInsert f.last k.val now })
    else s

/-- WINDOW tk after its last classification or the fall of its condition, a source whose FLT_ACTIVE bit is clear stops being open,
and ROOT_CLOSE is logged with the secondaries it covered (R657, R658). -/
def execFaultWindowExpiry (k : Fin 192) (s : State) : Out :=
  s.onCore fun s =>
    let k := k.val
    let due := (kvFind s.flt.last k).getD 0 + max 1 (s.get FLT_CFG.WINDOW)
    if s.bit (FLT_SRC.OPEN k) && !fltActive k s && !s.bit (FLT_SRC.COND k) && decide (due ≤ s.now) then
      let total := match kvFind s.flt.roots k with | some r => r.total | none => 0
      let s := (s.set (FLT_SRC.OPEN k) 0).modFlt fun f => { f with roots := kvErase f.roots k }
      let s := s.when (total != 0) (·.log 0x015 (leBytes 1 k ++ leBytes 3 0 ++ leBytes 4 total))
      fltSum s
    else s

/-- Whether a level source of severity 3 or more has its condition present (R653). -/
def fltHeld (s : State) : Bool :=
  fltLevelSources.any fun k => s.bit (FLT_SRC.COND k) && decide (3 ≤ s.get (FLT_SRC.SEV k))

/-- The fault state ends (R653, R654): the recovery counter rises, FAULT_LEAVE is logged, FLT_FIRST is cleared. -/
def fltLeave (how : Nat) (s : State) : State :=
  let n := satAdd (recoveryCount s) 1 0xFFFF
  let s := recoverySet n s
  let s := s.log 0x013 (leBytes 2 n ++ leBytes 1 how ++ leBytes 1 (s.get FLT_STATUS.HIGHEST) ++ leBytes 4 ((s.now - s.flt.since) / 100000))
  let s := s.when (s.bit FLT_STATUS.SAFE) fun s => adlUncause 1 1 (adlUncause 0 1 s)
  fltSum (s.clearAll [FLT_STATUS.FAULT, FLT_STATUS.SAFE, CLE_STATUS.SAFE, FLT_STATUS.HIGHEST, FLT_STATUS.QUIET_LEFT, FLT_FIRST.VALID,
    FLT_FIRST.SEV, FLT_FIRST.SOURCE, FLT_FIRST_TICK.TICK])

/-- FLT_QUIET ms after the last primary at severity 3 or more, the fault state ends (R653). -/
def execFaultQuietExpiry (s : State) : Out :=
  s.onCore fun s =>
    s.when (s.bit FLT_STATUS.FAULT && !fltHeld s && decide (s.flt.quiet + s.get FLT_CFG.QUIET * 100000 ≤ s.now)) (fltLeave 0)

/-- FLT_CTRL.LEAVE ends the fault state while no such condition is present (R653). -/
def execFltLeave (s : State) : Out := s.onCore fun s => s.when (s.bit FLT_STATUS.FAULT && !fltHeld s) (fltLeave 1)

/-- FLT_CTRL.CLR_CNT clears FLT_CNT, every COUNT and every SEC_COUNT (R672). -/
def execFltClrCnt (s : State) : Out :=
  s.onCore fun s => forEach (List.range 192) (fun k s => s.clearAll [FLT_SRC.COUNT k, FLT_SRC.SEC_COUNT k])
    (s.clearAll [FLT_CNT.SECONDARY, FLT_CNT.PRIMARY])

/-- FLT_INJECT.GO with SOURCE in the same word, by a master (R672, R673): a REG_CONFIG record, then an occurrence with INJECTED. -/
def fltInject (m : Master) (w : Nat) (s : State) : State :=
  let k := bits w 0 8
  let s := s.set FLT_INJECT.SOURCE k
  match fltResetSeverity k with
  | none => s
  | some _ =>
    let s := s.logConfig 0x02 0xC8 w (originOf m s)
    fltClassify k 1 s

def execFltInject (m : Master) (w : BitVec 40) (s : State) : Out := s.onCore (fltInject m w.toNat)

/-- At a reset of FLT all severities are loaded from ODE, and level sources whose condition is present are classified once (R651). -/
def execFltSeverityLoad (s : State) : Out :=
  s.onCore fun s =>
    let s := forEach (List.range 192) (fun k s => if (fltResetSeverity k).isSome then s.set (FLT_SRC.SEV k) (dictSeverity k s) else s) s
    let s := (s.set FLT_CFG.QUIET (dictNat 0x5011 0 1000 s)).set FLT_STATUS.LOADED 1
    let present := [0, 1, 2, 3, 8, 10, 12, 14, 16, 77, 102].filter fun k => fltCondition k s && !s.bit (FLT_SRC.COND k)
    forEach present (fun k s => fltOccur k 0 { s with raised := s.raised.erase k }) s

/-- While the core domain is off, an occurrence of a SUP, SYS, FNI or EVR source is logged directly (R656). -/
def execCoreOffFaultLog (k : Fin 192) (s : State) : Out :=
  s.onRetention fun s =>
    if !s.power.core && s.raised.contains k.val && keptSource k.val then
      { s with raised := s.raised.erase k.val }.logFault k.val (dictSeverity k.val s) 0
    else s

/-- The reset of a severity-5 classification (R655): the core domain is reset, the gates coast, SYS_ALIVE.EN clears, and POWER_ON is
logged with cause 2. -/
def execSeverity5Reset (s : State) : Out :=
  s.onCore fun s =>
    match s.flt.reset5 with
    | none => s
    | some (k, _) => ((coreReset s).set SYS_ALIVE.EN 0).logOn 2 k

/-- Whether ALIVE may toggle (R660). -/
def aliveMay (s : State) : Bool :=
  s.bit SYS_ALIVE.EN && !s.bit SYS_ALIVE.FORCE_STOP && !(s.power.core && s.bit FLT_STATUS.FAULT) &&
  (s.power.core || (2 ≤ s.get SUP_STATUS.STATE && s.get SUP_STATUS.STATE ≤ 3))

/-- A tick count that is a multiple of 50,000 (R660). -/
def execAliveToggle (s : State) : Out :=
  s.onRetention fun s =>
    if s.now % 50000 ≠ 0 then s
    else if !aliveMay s then s.clearAll [SYS_ALIVE.LEVEL, SYS_ALIVE.TOGGLING]
    else if !s.bit SYS_ALIVE.TOGGLING then (s.set SYS_ALIVE.TOGGLING 1).set SYS_ALIVE.LEVEL 1
    else s.set SYS_ALIVE.LEVEL (1 - s.get SYS_ALIVE.LEVEL)

end Sys2Proof.Machine
end

