-- ==== Sys2Proof/Machine/System.lean ====
section
/-! DEFINITION. SYS: the tick registers, the reference PLL, the step monitor and the general-purpose pins (R49, R53 to R55, R730,
R731). -/

namespace Sys2Proof.Machine

/-- A read of SYS_TICK_L answers the low bits of the tick count and latches the high ones (R53). -/
def execSysTickLRead (s : State) : Out :=
  .next (if s.power.retention then
      { s.set SYS_TICK_H.TICK_HI (bits s.now 40 24) with resp := .data (BitVec.ofNat 40 s.now) }
    else { s with resp := .busError })

/-- Writing SYS_STEPMON.CLEAR_MIN (R49). -/
def execStepmonClearMin (s : State) : Out := s.onRetention (·.set SYS_STEPMON.MIN_RATE 0xFFFF)

/-- The reference PLL loses lock, or the crystal stops (R54). -/
def execRefPllLockLoss (xtal : Bool) (s : State) : Out :=
  s.onRetention fun s =>
    let s := s.when xtal (·.set SYS_REFCLK.XTAL_FAIL 1)
    if s.bit SYS_REFCLK.FALLBACK then s
    else
      ((((s.set SYS_REFCLK.PLL_LOCK 0).set SYS_REFCLK.LOCK_LOST 1).bump SYS_REFCLK.LOSS_COUNT).set SYS_REFCLK.FALLBACK 1).raise 0

/-- The reference PLL relocks (R55). -/
def execRefPllRelock (s : State) : Out :=
  s.onRetention fun s => (s.set SYS_REFCLK.PLL_LOCK 1).set SYS_REFCLK.FALLBACK 0

/-- Writing SYS_GPIO_SET sets the output bits written as 1 (R731). -/
def execGpioSet (mask : BitVec 16) (s : State) : Out :=
  s.onRetention fun s => s.set SYS_GPIO_OUT.OUT (s.get SYS_GPIO_OUT.OUT ||| mask.toNat)

/-- Writing SYS_GPIO_CLR clears the output bits written as 1 (R731). -/
def execGpioClr (mask : BitVec 16) (s : State) : Out :=
  s.onRetention fun s => s.set SYS_GPIO_OUT.OUT (s.get SYS_GPIO_OUT.OUT &&& (0xFFFF - mask.toNat))

end Sys2Proof.Machine
end

