-- ==== Sys2Proof/Machine/Supply.lean ====
section
/-! DEFINITION. SUP: requests, entries and exits of the power states, WAKE, the supervised rails, the straps (R676 to R698, R705,
R730, R738). -/

namespace Sys2Proof.Machine

def State.modSup (s : State) (f : SupUnit → SupUnit) : State := { s with sup := f s.sup }

/-- A bit of a field of SUP set. -/
def supSetBit (f : Fld) (r : Nat) (s : State) : State := s.set f (s.get f ||| 2 ^ r)

/-- A bit of a field of SUP cleared. -/
def supClrBit (f : Fld) (r : Nat) (s : State) : State := if (s.get f).testBit r then s.set f (s.get f - 2 ^ r) else s

/-- Whether the comparators of rail `r` are watched (R691): VCORE only behind its enable in Active, Idle and an exit, VIO18 behind its
own, V12 and V5 while the retention domain is on; VAUX's warning with them, its reset level in every state. -/
def supWatched (r : Nat) (reset : Bool) (s : State) : Bool :=
  if r = 4 then reset || s.power.retention
  else if r = 2 then s.sup.pwrCore && (s.get SUP_STATUS.STATE ≤ 1 || s.sup.exit.isSome)
  else if r = 3 then s.power.retention && s.bit SUP_STATUS.IO_ON
  else s.power.retention

/-- The conditions of rails that have become masked are withdrawn without a record, and their measurement reads 0 (R691). -/
def supMask (s : State) : State :=
  forEach [0, 1, 2, 3, 4] (fun r s =>
    let s := if supWatched r false s then s else (supClrBit SUP_STATUS.WARN_NOW r s).set (SUP_RAIL.MV r) 0
    if supWatched r true s then s else supClrBit SUP_STATUS.RESET_NOW r s) s

/-- A measurement of a rail (R691). -/
def supMeasure (r mv : Nat) (s : State) : State :=
  (s.set (SUP_RAIL.MV r) mv).set (SUP_RAIL.MIN_MV r) (min (s.get (SUP_RAIL.MIN_MV r)) mv)

/-- The core domain is held in reset; PWR_EN_CORE stays (R693). The core of a VCORE at its reset threshold loses its memories. -/
def coreHeld (lost : Bool) (s : State) : State :=
  let s := if lost then coreOff s else coreReset s
  { s with power := { s.power with core := false } }.set SUP_STATUS.CORE_ON 0

/-- The retention domain powers on with the pads behind PWR_EN_IO: the tick count at 0, YP held, COLD at 1, POWER_ON cause 0 (R668,
R705). VIO18 starts from its present level (R691). -/
def retentionOn (s : State) : State :=
  let s := { s with power := { s.power with retention := true, io := true }, tick := 0 }
  let s := (s.set SUP_STATUS.IO_ON 1).modSup fun u => { u with unarmedWarn := [3], unarmedReset := [3] }
  (evrPowerOn s).logOn 0

/-- A transition to Active or Idle begins (R678, R683, R688); an exit from Deep Off powers the retention domain on first. -/
def supExit (target cause : Nat) (s : State) : State :=
  let src := if s.power.retention then s.get SUP_STATUS.STATE else 4
  let s := if s.power.retention then s else retentionOn s
  let s := (s.set SUP_REQ.PEND 0).set SUP_REQ.BUSY 1
  let s := if cause < 3 then s.set SUP_REQ.SOURCE (cause + 1) else s
  s.modSup fun u => { u with exit := some (src, target, cause), raised := false, ready := false, exitReset := 0 }

/-- The target of a WAKE edge (R688, R698). -/
def supWakeTarget (s : State) : Nat := if s.get SUP_WAKE.TARGET = 0 then 0 else 1

/-- A transition has ended: a WAKE edge that came during an entry begins its exit, and a latched request that needs no GO runs by
itself (R688, R697). -/
def supAfter (s : State) : State :=
  let st := s.get SUP_STATUS.STATE
  let s1 := s.modSup fun u => { u with wakeLater := false }
  if s.sup.wakeLater && (st == 4 || (2 ≤ st && s.bit SUP_WAKE.EN)) then supExit (supWakeTarget s) 1 s1
  else if s.bit SUP_REQ.PEND && s.get SUP_REQ.TARGET ≤ 1 && (st == 2 || st == 3) then
    supExit (s.get SUP_REQ.TARGET) (s.get SUP_REQ.SOURCE - 1) s1
  else s1

/-- STATE takes the target; SUP_INT.DONE is set (R681, R683). -/
def supArrive (target cause : Nat) (s : State) : State :=
  ((((s.set SUP_STATUS.STATE target).set SUP_STATUS.LAST_CAUSE cause).set SUP_INT.DONE 1).set SUP_REQ.BUSY 0)

/-- The refusal of a GO, 0 when it passes (R679, R680). -/
def supRefusal (t : Nat) (s : State) : Nat :=
  let st := s.get SUP_STATUS.STATE
  let low := decide (2 ≤ t ∧ t ≤ 4)
  if 4 < t || st == t || (st == 3 && t == 2) || st == 4 then 0x1
  else if s.bit SUP_REQ.BUSY then 0x7
  else if low && !(s.get SPM_STATUS.MODE == 0 || s.get SPM_STATUS.MODE == 8 || !s.bit SPM_CTRL.ENABLE) then 0x2
  else if low && [0, 1].any (fun (n : Nat) => s.bit (ADL_STATUS.LINK_UP n) && s.get (ADL_STATUS.COMP_STATE n) != 0) then 0x3
  else if t == 2 && !s.bit DRC_SR.STATE then 0x4
  else if low && s.dma.chan.toList.any (fun c => c.st == 2 || c.st == 3) then 0x5
  else if low && s.get SUP_STATUS.WARN_NOW != 0 then 0x6
  else 0

/-- Entry into a low state (R681): the slots are wrapped, POWER_STATE is logged, the core domain and, below Standby, the DRAM
supplies are switched off; an entry into Deep Off then waits for EVR and ODE. -/
def supEnter (t cause : Nat) (s : State) : State :=
  let s := if t ≠ 4 ∧ s.power.core then cipRetain s else s
  let s := (s.logPower (s.get SUP_STATUS.STATE) t cause).set SUP_REQ.PEND 0
  let s := if s.sup.pwrCore then ((coreOff s).set SUP_STATUS.CORE_ON 0).modSup fun u => { u with pwrCore := false } else s
  let s := if 3 ≤ t then dramLose (srRelease (s.set SUP_STATUS.DRAM_ON 0)) else s
  if t = 4 then supMask ((s.set SUP_REQ.BUSY 1).modSup fun u => { u with deepOff := some cause })
  else supAfter (supMask (supArrive t cause s))

/-- GO (R680): a refusal sets REFUSE and SUP_INT.REFUSED and is logged; Active and Idle switch at once. -/
def supGo (s : State) : State :=
  let t := s.get SUP_REQ.TARGET
  let code := supRefusal t s
  if code ≠ 0 then
    ((s.set SUP_REQ.REFUSE code).set SUP_INT.REFUSED 1).logPower (s.get SUP_STATUS.STATE) t (0x8000 + code)
  else
    let s := if s.bit SUP_REQ.PEND then s else s.set SUP_REQ.SOURCE 3
    let cause := s.get SUP_REQ.SOURCE - 1
    if 2 ≤ t then supEnter t cause s
    else if s.get SUP_STATUS.STATE ≤ 1 then supArrive t cause ((s.logPower (s.get SUP_STATUS.STATE) t cause).set SUP_REQ.PEND 0)
    else supExit t cause s

/-- A write of SUP_REQ with GO set (R678, R680). A TARGET other than that of the latched request is firmware's own request. -/
def supReqWrite (target : Nat) (s : State) : State :=
  let own := !(s.bit SUP_REQ.PEND && s.get SUP_REQ.TARGET == target)
  let s := s.set SUP_REQ.TARGET target
  if own && supRefusal target s == 0 then supGo ((s.set SUP_REQ.PEND 0)) else supGo s

def execSupReqGo (target : BitVec 3) (s : State) : Out := s.onRetention (supReqWrite target.toNat)

/-- A write of 0x2000.00 (R678): it is latched, also during a transition (R697); in Standby and Pantry-only an exit begins at once. -/
def supRequest (t : Nat) (s : State) : State :=
  if s.get SUP_STATUS.STATE = t ∧ !s.bit SUP_REQ.BUSY then s
  else
    let s := (((s.set SUP_REQ.TARGET t).set SUP_REQ.PEND 1).set SUP_REQ.SOURCE 1).set SUP_INT.REQ 1
    if !s.bit SUP_REQ.BUSY && (s.get SUP_STATUS.STATE == 2 || s.get SUP_STATUS.STATE == 3) && t ≤ 1 then supExit t 0 s else s

def execPowerStateRequest (t : Fin 5) (s : State) : Out := s.onRetention (supRequest t.val)

/-- Steps 5 and 6 of an entry into Deep Off: once EVR and ODE have drained, the retention domain and PWR_EN_IO switch off (R681). -/
def execDeepOffRetentionOff (odePersisting : Bool) (s : State) : Out :=
  s.onRetention fun s =>
    match s.sup.deepOff with
    | none => s
    | some cause =>
      if !s.evrQueue.isEmpty || s.bit EVR_STATUS.BUSY || odePersisting then s
      else
        let s := (retentionOff s).modSup fun u => { u with deepOff := none, hold := false, unarmedWarn := [], unarmedReset := [] }
        supAfter (supMask (((s.set SUP_STATUS.STATE 4).set SUP_STATUS.LAST_CAUSE cause).set SUP_REQ.BUSY 0))

/-- Steps 1 and 2 of an exit: the DRAM supplies settle and PWR_EN_CORE rises; VCORE starts from its present level (R683, R691). -/
def execLowStateExit (s : State) : Out :=
  s.onAlways fun s =>
    if s.sup.exit.isNone || s.sup.raised then s
    else
      (s.set SUP_STATUS.DRAM_ON 1).modSup fun u => { u with
        raised := true, pwrCore := true, unarmedWarn := 2 :: u.unarmedWarn, unarmedReset := 2 :: u.unarmedReset }

/-- Steps 3 and 4 of an exit, where nothing holds the core domain: it leaves reset and STATE takes the target (R683, R697, R730). -/
def supComplete (on : Nat) (s : State) : State :=
  match s.sup.exit with
  | none => s
  | some (src, target, cause) =>
    if !s.sup.ready || s.sup.exitReset == 1 || s.sup.testEn || s.get SUP_STATUS.RESET_NOW != 0 ||
        (src == 4 && !s.bit SYS_STRAP.VALID) then s
    else
      let s := ((coreOn s).logOn on).logPower src target cause
      let s := s.modSup fun u => { u with exit := none, raised := false, ready := false, exitReset := 0, hold := false }
      supAfter (supArrive target cause s)

/-- VCORE and VIO18 have held above their warning clear levels (R683): both are armed. -/
def execExitRailsReady (s : State) : Out :=
  s.onAlways fun s =>
    if s.sup.exit.isNone || !s.sup.raised then s
    else
      let s := s.modSup fun u => { u with ready := true
                                          unarmedWarn := u.unarmedWarn.filter fun r => r != 2 && r != 3
                                          unarmedReset := u.unarmedReset.filter fun r => r != 2 && r != 3 }
      supComplete (if s.sup.exitReset = 0 then 1 else 4) s

/-- Step 2 of an exit has not completed 10 ms after PWR_EN_CORE rose (R683): the enables of the source state return, and the rails
that failed are logged with their last measurement. -/
def execExitSupplyTimeout (vcore vio18 : Bool) (s : State) : Out :=
  s.onAlways fun s =>
    match s.sup.exit with
    | none => s
    | some (src, _, _) =>
      if !s.sup.raised || s.sup.ready then s
      else
        let s := (s.set SUP_STATUS.DRAM_ON (boolNat (src == 2))).modSup fun u => { u with
          pwrCore := false, exit := none, raised := false, exitReset := 0
          unarmedWarn := u.unarmedWarn.filter (· != 2), unarmedReset := u.unarmedReset.filter (· != 2) }
        let s := (s.set SUP_STATUS.STATE src).set SUP_REQ.BUSY 0
        let s := s.when vcore fun s => s.logSupply 2 0 (s.get (SUP_RAIL.MV 2))
        let s := s.when vio18 fun s => s.logSupply 3 0 (s.get (SUP_RAIL.MV 3))
        supAfter (supMask ((s.set SUP_REQ.REFUSE 0x6).set SUP_INT.REFUSED 1))

/-- GPIO0 to GPIO4 are sampled once after a retention power-on; a start that waits for VALID goes on (R730). -/
def execGpioStrapSample (pins : BitVec 5) (s : State) : Out :=
  s.onRetention fun s =>
    if s.bit SYS_STRAP.VALID || !s.power.io then s
    else
      let p := pins.toNat
      let s := ((s.set SYS_STRAP.DRAM_SIZE (bits p 0 2)).set SYS_STRAP.DRAM_RANKS (bits p 2 1)).set SYS_STRAP.DRAM_RATE (bits p 3 2)
      supComplete (if s.sup.exitReset = 0 then 1 else 4) (s.set SYS_STRAP.VALID 1)

/-- An accepted WAKE edge (R687, R688, R697). -/
def execWakeEdge (s : State) : Out :=
  s.onAlways fun s =>
    if s.bit SUP_WAKE.LEVEL then s
    else
      let s := ((s.set SUP_INT.WAKE 1).bump SUP_CNT.WAKES).set SUP_WAKE.LEVEL 1
      let s := (s.set SUP_WAKE.HELD 1).set SUP_WAKE.HOURS 0
      let st := s.get SUP_STATUS.STATE
      if s.sup.exit.isSome || s.sup.vauxLow then s
      else if s.sup.deepOff.isSome then s.modSup fun u => { u with wakeLater := true }
      else if st == 4 || ((st == 2 || st == 3) && s.bit SUP_WAKE.EN) then supExit (supWakeTarget s) 1 s
      else s

/-- A whole hour of a held WAKE (R689). -/
def execWakeHeldHour (s : State) : Out :=
  s.onRetention fun s =>
    if !s.bit SUP_WAKE.HELD then s
    else
      let s := (s.bump SUP_WAKE.HOURS).set SUP_INT.WAKE_HELD 1
      s.log 0x021 (leBytes 4 (s.get SUP_WAKE.HOURS))

/-- The filtered fall of WAKE (R687, R689). -/
def execWakeFilteredFall (s : State) : Out := s.onAlways fun s => (s.set SUP_WAKE.HELD 0).set SUP_WAKE.LEVEL 0

/-- A rail below its warning threshold (R692); in Standby and Pantry-only V12 and V5 only report (R691). -/
def execRailWarning (r : Fin 5) (mv : BitVec 16) (s : State) : Out :=
  s.onAlways fun s =>
    if !supWatched r false s || r.val ∈ s.sup.unarmedWarn || (s.get SUP_STATUS.WARN_NOW).testBit r then s
    else
      let s := supMeasure r mv.toNat (supSetBit SUP_INT.WARN r (supSetBit SUP_STATUS.WARN_NOW r s))
      let s := ((s.bump SUP_CNT.WARNS).logSupply r 0 mv.toNat).raise (8 + 2 * r.val)
      if s.power.core then
        forEach (List.finRange 2) (fun n s => if (writeProg n s).isSome then wpFinish n (fmsStopCause n s) else s) s
      else s

/-- A rail above its warning clear level (R692); a level not yet armed is armed (R691). -/
def execRailWarningClear (r : Fin 5) (mv : BitVec 16) (s : State) : Out :=
  s.onAlways fun s =>
    if !supWatched r false s then s
    else if r.val ∈ s.sup.unarmedWarn then
      supMeasure r mv.toNat (s.modSup fun u => { u with unarmedWarn := u.unarmedWarn.filter (· != r.val) })
    else if !(s.get SUP_STATUS.WARN_NOW).testBit r then s
    else (supMeasure r mv.toNat (supSetBit SUP_INT.CLEAR r (supClrBit SUP_STATUS.WARN_NOW r s))).logSupply r 1 mv.toNat

/-- The report of a reset threshold: RESET_NOW, the flag, the count, the record and the rail's fault source (R693). -/
def supResetReport (r mv : Nat) (s : State) : State :=
  let s := supMeasure r mv (supSetBit SUP_INT.RST r (supSetBit SUP_STATUS.RESET_NOW r s))
  ((s.bump SUP_CNT.RESETS).logSupply r 2 mv).raise (9 + 2 * r)

/-- V12, V5, VCORE or VIO18 at its reset threshold (R693): in Active, Idle and an exit the core domain goes into reset and is held
there, its outputs with it. In the low states the core is dark already (R691). -/
def execRailResetThreshold (r : Fin 4) (mv : BitVec 16) (s : State) : Out :=
  s.onAlways fun s =>
    if !supWatched r true s || r.val ∈ s.sup.unarmedReset || (s.get SUP_STATUS.RESET_NOW).testBit r then s
    else
      let s := supResetReport r mv.toNat s
      if s.sup.exit.isSome then s.modSup fun u => { u with exitReset := 1 }
      else if s.get SUP_STATUS.STATE ≤ 1 then (coreHeld (r.val == 2) s).modSup fun u => { u with hold := true }
      else s

/-- VAUX at its reset threshold (R694): as R693, and the retention domain and PWR_EN_IO go with all that Deep Off loses. The start
that follows is into Idle. -/
def execVauxReset (mv : BitVec 16) (s : State) : Out :=
  s.onAlways fun s =>
    if s.sup.vauxLow then s
    else
      let s := supResetReport 4 mv.toNat s
      let s := if s.power.core then coreHeld true s else s
      let s := dramLose (srRelease (retentionOff s))
      let s := ((s.set SUP_STATUS.STATE 4).set SUP_STATUS.LAST_CAUSE 3).clearAll [SUP_REQ.BUSY, SUP_REQ.PEND]
      supMask (s.modSup fun u => { u with
        hold := false, exit := none, raised := false, ready := false, exitReset := 0, deepOff := none, wakeLater := false
        unarmedWarn := [], unarmedReset := [], vauxLow := true, coldCause := 3 })

/-- A rail above its reset clear level (R690). For VAUX the start of R694 and R738 begins, into Idle. -/
def execRailResetClear (r : Fin 5) (mv : BitVec 16) (s : State) : Out :=
  s.onAlways fun s =>
    if r.val = 4 then
      if !s.sup.vauxLow then s
      else
        let s := supMeasure 4 mv.toNat ((supClrBit SUP_STATUS.RESET_NOW 4 s).modSup fun u => { u with vauxLow := false })
        supExit 1 s.sup.coldCause s
    else if r.val ∈ s.sup.unarmedReset then s.modSup fun u => { u with unarmedReset := u.unarmedReset.filter (· != r.val) }
    else supMeasure r mv.toNat (supClrBit SUP_STATUS.RESET_NOW r s)

/-- The core domain leaves the reset of R693 or R730; STATE reads Idle. -/
def supRelease (on : Nat) (s : State) : State :=
  let s := s.modSup fun u => { u with hold := false }
  if s.get SUP_STATUS.STATE ≤ 1 ∧ s.sup.pwrCore ∧ !s.power.core then
    (((coreOn s).logOn on).set SUP_STATUS.STATE 1).set SUP_STATUS.LAST_CAUSE 3
  else s

/-- 1 ms after the last rail has cleared its reset threshold (R693, R697). -/
def execRailResetRelease (s : State) : Out :=
  s.onAlways fun s =>
    if s.get SUP_STATUS.RESET_NOW ≠ 0 ∨ s.sup.testEn then s
    else if s.sup.exit.isSome then
      if s.sup.exitReset = 1 then supComplete 4 (s.modSup fun u => { u with exitReset := 2 }) else s
    else if s.sup.hold then supRelease 4 s
    else s

/-- TEST_EN rises (R730): the actions of R693. -/
def execTestEnRise (s : State) : Out :=
  s.onAlways fun s =>
    if s.sup.testEn then s
    else
      let s := s.modSup fun u => { u with testEn := true }
      if s.power.core then (coreHeld false s).modSup fun u => { u with hold := true } else s

/-- 1 ms after TEST_EN has fallen (R730). -/
def execTestEnFall (s : State) : Out :=
  s.onAlways fun s =>
    if !s.sup.testEn then s
    else
      let s := s.modSup fun u => { u with testEn := false }
      if s.sup.exit.isSome then supComplete 5 s
      else if s.sup.hold ∧ s.get SUP_STATUS.RESET_NOW = 0 then supRelease 5 s
      else s

/-- Every domain that VAUX feeds loses power (R738). -/
def supDark (s : State) : State :=
  let s := dramLose (retentionOff (coreOff s))
  { s with
    power := { alwaysOn := false, retention := false, core := false, analog := false, dramPhy := false, pciePhy := false, io := false }
    regs := [], locks := [], sup := { pwrCore := false, vauxLow := true, testEn := s.sup.testEn } }

/-- VAUX falls below its power-on level (R738): the always-on domain is held in reset, every VAUX output low. -/
def execVauxPowerOnLevelFall (s : State) : Out := .next (supDark s)

/-- VAUX rises through its power-on level (R705, R738): the registers of SUP take their reset values, the straps are to be latched,
and the retention domain waits until VAUX has cleared its reset level. -/
def execVauxPowerOn (s : State) : Out :=
  .next (if s.power.alwaysOn then s
    else
      let s := supDark s
      { s with power := { s.power with alwaysOn := true } })

/-- 1 ms after VAUX has passed its power-on level the straps are latched (R730). -/
def execStrapLatch (slot : BitVec 7) (spingate : Bool) (s : State) : Out :=
  s.onAlways fun s =>
    if s.sup.strapped then s
    else s.modSup fun u => { u with slot := slot.toNat, spingate := spingate, strapped := true }

/-- Writing SUP_CTRL.CLR_CNT (R698). -/
def execSupClrCnt (s : State) : Out := s.onRetention (·.clearAll [SUP_CNT.WAKES, SUP_CNT.RESETS, SUP_CNT.WARNS])

/-- Writing SUP_RAIL.CLR_MIN (R698). -/
def execSupRailClrMin (r : Fin 5) (s : State) : Out := s.onRetention (·.set (SUP_RAIL.MIN_MV r) 0xFFFF)

end Sys2Proof.Machine
end

