-- ==== Sys2Proof/Machine/Dictionary.lean ====
section
/-! DEFINITION. The object dictionary: its entries, the checks of a request, the effect of a write, and the request blocks of ODE
(R603 to R613, R646, R148). -/

namespace Sys2Proof.Machine

/-! ### The map (R611, R646, R148) -/

/-- An entry: its type, its rights as in the descriptor of R609, its persistence, QFRAC, MAXLEN, and the range of its values. -/
structure DictEntry where
  ty : Nat
  rights : Nat
  persist : Nat := 0
  qfrac : Nat := 0
  maxlen : Nat := 0
  lo : Int := 0
  hi : Int := 0
  live : Bool := false
  deriving DecidableEq, Repr

/-- Rights of host, network, firmware and factory: 1 read, 2 write, 3 both. -/
def rights (h n f x : Nat) : Nat := h + 4 * n + 16 * f + 64 * x

/-- The size of a numeric type, 0 for STR, OCTETS and DOMAIN (R604). -/
def typeSize (ty : Nat) : Nat :=
  if ty = 1 ∨ ty = 2 then 1 else if ty = 3 then 2 else if ty = 4 then 4 else if 5 ≤ ty ∧ ty ≤ 7 then 5 else 0

/-- A numeric entry with the whole range of its type. -/
def numEntry (ty r : Nat) (persist : Nat := 0) (live : Bool := false) : DictEntry :=
  let w := 8 * typeSize ty
  { ty := ty, rights := r, persist := persist, live := live,
    lo := if ty = 6 ∨ ty = 7 then -(2 ^ (w - 1) : Nat) else 0,
    hi := if ty = 1 then 1 else if ty = 6 ∨ ty = 7 then (2 ^ (w - 1) : Nat) - 1 else (2 ^ w : Nat) - 1 }

/-- A numeric entry with a range. -/
def rangeEntry (ty r persist : Nat) (lo hi : Int) (live : Bool := false) : DictEntry :=
  { ty := ty, rights := r, persist := persist, lo := lo, hi := hi, live := live }

/-- An entry of bytes. -/
def bytesEntry (ty r persist maxlen : Nat) (live : Bool := false) : DictEntry :=
  { ty := ty, rights := r, persist := persist, maxlen := maxlen, live := live }

/-- Rights that many entries share: read for all; read for all and write for the factory; read for the host, both for the rest. -/
def rAll : Nat := rights 1 1 1 1
def rFactory : Nat := rights 1 1 1 3
def rShelf : Nat := rights 1 3 3 3

/-- The entries of identity and versions, 0x1000 to 0x1FFF. -/
def dictIdentity (index sub : Nat) : Option DictEntry :=
  if index = 0x1008 ∧ sub = 0 then some (bytesEntry 8 rAll 0 32)
  else if index = 0x1009 ∧ sub = 0 then some (bytesEntry 8 rAll 0 4)
  else if index = 0x100A ∧ 1 ≤ sub ∧ sub ≤ 4 then some (bytesEntry 8 rAll 0 32 true)
  else if index = 0x1018 then
    if sub = 1 ∨ sub = 2 then some (numEntry 3 rAll)
    else if sub = 3 then some (numEntry 2 rAll)
    else if sub = 4 then some (bytesEntry 9 rFactory 1 16)
    else if sub = 5 then some (numEntry 4 rFactory 2)
    else none
  else if index = 0x1020 ∧ 1 ≤ sub ∧ sub ≤ 9 then
    some (numEntry (if sub = 5 ∨ sub = 9 then 3 else if sub = 8 then 4 else 2) rAll)
  else none

/-- The entries of power and grade, 0x2000 to 0x2FFF. -/
def dictPower (index sub : Nat) : Option DictEntry :=
  if index = 0x2000 then
    if sub = 0 then some (rangeEntry 2 (rights 0 3 3 3) 0 0 4) else if sub = 1 then some (numEntry 2 rAll) else none
  else if index = 0x2001 ∧ sub = 0 then some (numEntry 4 rShelf 1)
  else if index = 0x2002 ∧ sub ≤ 4 then some (numEntry 3 rFactory 1)
  else if index = 0x2010 ∧ sub = 0 then some (rangeEntry 2 (rights 3 3 3 3) 0 0 3 true)
  else if index = 0x2011 ∧ sub = 0 then some (numEntry 2 rAll 0 true)
  else if index = 0x2020 then
    if sub = 0 then some (numEntry 1 (rights 1 3 1 3)) else if sub ≤ 2 then some (numEntry 1 rAll) else none
  else none

/-- The entries of the network, 0x3000 to 0x3FFF. -/
def dictNetwork (index sub : Nat) : Option DictEntry :=
  if index = 0x3000 ∧ sub = 0 then some (numEntry 2 rAll)
  else if index = 0x3001 ∧ sub = 1 then some (rangeEntry 2 rShelf 1 0 1)
  else if index = 0x3001 ∧ sub = 2 then some (rangeEntry 2 rShelf 1 0 3)
  else if index = 0x3002 ∧ sub = 0 then some (numEntry 3 rShelf 1)
  else if index = 0x3003 ∧ sub = 0 then some (rangeEntry 2 rShelf 1 1 5)
  else if index = 0x3010 then
    if sub = 1 then some (rangeEntry 2 rShelf 1 0 250)
    else if sub = 2 then some (rangeEntry 2 rShelf 1 1 4)
    else if sub = 3 then some (rangeEntry 3 rShelf 1 100 60000)
    else if 0x11 ≤ sub ∧ sub ≤ 0x16 then some (numEntry 4 (rights 1 3 1 3) 1)
    else none
  else if index = 0x3011 then
    if sub = 1 ∨ sub = 2 then some (numEntry 2 rAll) else if sub = 3 then some (numEntry 3 rAll 1) else none
  else none

/-- The entries of the manifest, the install services and the namespaces, 0x4000 to 0x4FFF. -/
def dictMedia (index sub : Nat) : Option DictEntry :=
  if index = 0x4000 ∧ sub = 0 then some (numEntry 2 rAll)
  else if index = 0x4001 ∧ sub = 0 then some (numEntry 5 rAll)
  else if index = 0x4010 ∧ sub = 0 then some (bytesEntry 10 (rights 2 0 2 2) 0 (192 * 2 ^ 20))
  else if index = 0x4011 ∧ sub = 0 then some (numEntry 2 (rights 2 0 2 2))
  else if index = 0x4012 ∧ 1 ≤ sub ∧ sub ≤ 3 then some (numEntry (sub + 1) rAll)
  else if index = 0x4013 ∧ (sub = 1 ∨ sub = 3) then some (bytesEntry 9 rAll 0 8)
  else if index = 0x4013 ∧ sub = 2 then some (numEntry 5 rAll)
  else if index = 0x4020 ∧ 1 ≤ sub ∧ sub ≤ 8 then some (bytesEntry 9 (rights 1 1 3 3) 2 32)
  else none

/-- The entries of faults and events, 0x5000 to 0x5FFF. -/
def dictFaults (index sub : Nat) : Option DictEntry :=
  if index = 0x5000 ∧ sub = 0 then some (numEntry 2 rAll)
  else if index = 0x5001 ∧ sub = 0 then some (numEntry 5 rAll 1)
  else if index = 0x5002 ∧ sub = 0 then some (numEntry 4 rAll 1)
  else if index = 0x5003 ∧ sub = 0 then some (numEntry 3 rFactory 1)
  else if index = 0x5004 ∧ sub = 0 then some { rangeEntry 7 rAll 0 (-880) 2400 true with qfrac := 4 }
  else if index = 0x5004 ∧ sub = 1 then some { rangeEntry 7 rShelf 1 (-640) 2000 with qfrac := 4 }
  else if index = 0x5010 ∧ sub ≤ 0xBF then some (rangeEntry 2 (rights 1 1 3 3) 1 0 5)
  else if index = 0x5011 ∧ sub = 0 then some (rangeEntry 4 (rights 1 1 3 3) 1 1 60000)
  else if index = 0x5020 ∧ sub = 0 then some (bytesEntry 10 rAll 0 ringSize true)
  else if index = 0x5021 ∧ sub = 0 then some (numEntry 4 rAll)
  else none

/-- The entries of CIP, 0x6000 to 0x6FFF (R646). -/
def dictCipher (index sub : Nat) : Option DictEntry :=
  if index = 0x6000 ∧ sub = 0 then some (numEntry 2 rAll)
  else if index = 0x6001 ∧ sub = 0 then some (numEntry 1 rAll)
  else if index = 0x6002 ∧ sub = 0 then some (numEntry 2 rAll)
  else if index = 0x6003 ∧ sub = 0 then some (rangeEntry 3 (rights 0 0 3 3) 1 1 1440)
  else if index = 0x6010 ∧ sub = 0 then some (bytesEntry 9 (rights 1 1 1 2) 1 96)
  else if index = 0x6011 ∧ sub = 0 then some (numEntry 2 (rights 0 0 1 1))
  else if index = 0x6012 ∧ sub = 0 then some (rangeEntry 2 (rights 1 1 3 3) 0 0 64)
  else if index = 0x6020 ∧ 1 ≤ sub ∧ sub ≤ 0x1F then some (rangeEntry 2 (rights 1 0 3 3) 2 1 8)
  else if index = 0x6030 ∧ sub = 0 then some (numEntry 1 (rights 0 0 0 2))
  else none

/-- Entries of fused units of the FQX-1408 (R4, R755). -/
def dictFused (index sub : Nat) : Bool :=
  (index == 0x1020 && (sub == 2 || sub == 4)) || (index == 0x5010 && fusedSources.contains sub)

/-- The entry at an address, if there is one (R603). -/
def dictEntry (index sub : Nat) (s : State) : Option DictEntry :=
  if s.variant1408 && dictFused index sub then none
  else if index / 0x1000 = 1 then dictIdentity index sub
  else if index / 0x1000 = 2 then dictPower index sub
  else if index / 0x1000 = 3 then dictNetwork index sub
  else if index / 0x1000 = 4 then dictMedia index sub
  else if index / 0x1000 = 5 then dictFaults index sub
  else if index / 0x1000 = 6 then dictCipher index sub
  else none

/-! ### Values -/

/-- The default of a namespace entry: 28 zero bytes and their CRC (R612). -/
def nsDefault : List Byte := zeros 28 ++ leBytes 4 (crc32c (zeros 28))

/-- The default of an entry that ODE stores. -/
def dictDefault (index sub : Nat) : List Byte :=
  if index = 0x1018 ∧ sub = 4 then zeros 16
  else if index = 0x4020 then nsDefault
  else if index = 0x5004 ∧ sub = 1 then leBytes 5 1600
  else if index = 0x5010 then leBytes 1 ((fltResetSeverity sub).getD 0)
  else if index = 0x5011 then leBytes 4 1000
  else if index = 0x3002 then leBytes 2 1000
  else if index = 0x3010 ∧ sub = 3 then leBytes 2 1000
  else if index = 0x3010 ∧ sub = 1 then leBytes 1 50
  else if index = 0x3010 ∧ sub = 2 then leBytes 1 2
  else if index = 0x3001 then leBytes 1 1
  else if index = 0x3003 then leBytes 1 3
  else if index = 0x6003 then leBytes 2 60
  else if index = 0x6020 then leBytes 1 1
  else []

/-- The stored value of an entry: its default, or 0, where none has been written. -/
def dictStored (index sub size : Nat) (s : State) : List Byte :=
  (kvFind s.dict (dictKey index sub)).getD (dictDefault index sub ++ zeros (size - (dictDefault index sub).length))

/-- The characters of a name, as bytes. -/
def nameBytes (x : String) : List Byte := x.toList.map fun c => BitVec.ofNat 8 c.toNat

/-- The SERIAL of an image as 8 bytes, zero for none. -/
def serialBytes (i : Option ImageInfo) : List Byte := match i with | some i => leBytes 8 i.serial | none => zeros 8

/-- The value an entry reads as, but for the event ring. -/
def dictValue (index sub size : Nat) (s : State) : List Byte :=
  let num (n : Nat) : List Byte := leBytes size n
  if index = 0x1008 then nameBytes (if s.variant1408 then "Fraquerax FQX-1408" else "Fraquerax FQX-2816")
  else if index = 0x1009 then nameBytes "B1"
  else if index = 0x100A then (Config.versionString sub).take 32
  else if index = 0x1018 ∧ sub = 1 then num 0x1FD7
  else if index = 0x1018 ∧ sub = 2 then num (if s.variant1408 then 0x1408 else 0x2816)
  else if index = 0x1018 ∧ sub = 3 then num 0xB1
  else if index = 0x1020 then
    if sub = 1 then num (s.get (PSL_STATUS.VERSION 0))
    else if sub = 2 then num (s.get (PSL_STATUS.VERSION 1))
    else if sub = 3 then num (s.get (ADL_STATUS.VERSION 0))
    else if sub = 4 then num (s.get (ADL_STATUS.VERSION 1))
    else if sub = 5 then num 0x0003
    else if sub = 6 then num (s.get FNI_STATUS.VERSION)
    else if sub = 7 then num ((s.image.map ImageInfo.fmtVer).getD 0)
    else if sub = 8 then num 0x00020000
    else num 0x0202
  else if index = 0x2000 ∧ sub = 1 then num (s.get SUP_STATUS.STATE)
  else if index = 0x2010 then num (if s.variant1408 then s.get SPM_GRADE.CURVE else s.get SPM_GRADE.REQ)
  else if index = 0x2011 then num (s.get SPM_STATUS.GRADE_ACT)
  else if index = 0x2020 ∧ sub = 1 then num (s.get SPM_STATUS.PERMIT_WAIT)
  else if index = 0x2020 ∧ sub = 2 then num (boolNat s.sup.spingate)
  else if index = 0x3000 then num s.sup.slot
  else if index = 0x3011 ∧ sub = 1 then num (s.get FNI_STATUS.TEC)
  else if index = 0x3011 ∧ sub = 2 then num (s.get FNI_STATUS.REC)
  else if index = 0x4000 then num s.manifest
  else if index = 0x4001 then num s.man.generation
  else if index = 0x4012 ∧ sub = 1 then num s.rcp.status
  else if index = 0x4012 ∧ sub = 2 then num s.rcp.section_
  else if index = 0x4012 ∧ sub = 3 then num s.rcp.record
  else if index = 0x4013 ∧ sub = 1 then serialBytes s.image
  else if index = 0x4013 ∧ sub = 2 then num ((s.image.map (·.generation)).getD 0)
  else if index = 0x4013 ∧ sub = 3 then serialBytes s.man.committed
  else if index = 0x5000 then num (fltHealth s)
  else if index = 0x5001 then num s.opSeconds
  else if index = 0x5002 then num s.powerCycles
  else if index = 0x5003 then num (recoveryCount s)
  else if index = 0x5004 ∧ sub = 0 then num (ofS 40 s.dieTemp)
  else if index = 0x5021 then num (s.get EVR_STATUS.NEXT_OFS)
  else if index = 0x6000 then num (if s.bit CIP_STATUS.ERROR then 2 else if s.bit CIP_STATUS.READY then 1 else 0)
  else if index = 0x6001 then num (s.get CIP_STATUS.APPROVED)
  else if index = 0x6002 then num (s.get CIP_ERR.CAUSE)
  else if index = 0x6010 then s.keys.recipeKey.getD (zeros 96)
  else if index = 0x6011 then num (s.get CIP_STATUS.DBG_LEVEL)
  else if index = 0x6012 then num s.keys.svnMin
  else dictStored index sub size s

/-- The length of a value, and `len` of its bytes from `ofs`, filled with zero beyond its end (R606). -/
def dictBytes (index sub ofs len : Nat) (e : DictEntry) (s : State) : Nat × List Byte :=
  if index = 0x5020 then (ringSize, s.readBytes (ringBase + ofs) len)
  else
    let v := dictValue index sub (if typeSize e.ty = 0 then if e.ty = 9 then e.maxlen else 0 else typeSize e.ty) s
    let part := slice v ofs len
    (v.length, part ++ zeros (len - part.length))

/-- The descriptor of an entry (R609). -/
def dictDescriptor (e : DictEntry) : List Byte :=
  leBytes 1 e.ty ++ leBytes 1 e.rights ++ leBytes 1 e.persist ++ leBytes 1 e.qfrac ++
    leBytes 4 (if typeSize e.ty = 0 then e.maxlen else typeSize e.ty) ++ leBytes 8 (ofS 64 e.lo) ++ leBytes 8 (ofS 64 e.hi)

/-! ### Checks (R605, R606) -/

/-- The class of an origin: 0 host, 1 network, 2 firmware, 3 factory; the debug port has none at level 0 (R605). -/
def originClass (o : Origin) (s : State) : Option Nat :=
  match o with
  | .host _ => some 0
  | .network _ => some 1
  | .firmware _ => some 2
  | .debug => if s.get CIP_STATUS.DBG_LEVEL = 1 then some 2 else if s.get CIP_STATUS.DBG_LEVEL = 2 then some 3 else none

/-- The origin code in the log (R605). -/
def originCode (o : Origin) (s : State) : Nat :=
  match o with
  | .host q => 0x01 + q.val
  | .network n => 0x80 + n.val
  | .firmware c => 0x50 + c.val
  | .debug => if s.get CIP_STATUS.DBG_LEVEL = 2 then 0x61 else 0x60

/-- Step 2: the right to read or write, with the single write of 0x1018.04 and the refusal of R5. -/
def dictRight (cls : Nat) (write : Bool) (index sub : Nat) (e : DictEntry) (s : State) : Bool :=
  e.rights.testBit (2 * cls + boolNat write) &&
  !(write && ((index == 0x1018 && sub == 4 && (kvFind s.dict (dictKey index sub)).isSome) || (index == 0x2010 && s.variant1408)))

/-- Step 3: OFFSET and LENGTH fit the type, and a write leaves no gap (R569, R591, R604, R606). -/
def dictFits (write : Bool) (index sub ofs len : Nat) (e : DictEntry) (s : State) : Bool :=
  decide (1 ≤ len ∧ len ≤ 0x100000) &&
  (if typeSize e.ty = 0 then
    decide (ofs + len ≤ e.maxlen) &&
    !(write && (e.ty == 8 || e.ty == 10) &&
      decide ((if index = 0x4010 then s.rcp.staged.length else (dictStored index sub 0 s).length) < ofs))
  else decide (ofs = 0) && len == typeSize e.ty)

/-- The value an entry would hold after a write (R604). -/
def dictNew (index sub ofs : Nat) (data : List Byte) (e : DictEntry) (s : State) : List Byte :=
  if typeSize e.ty ≠ 0 then data
  else if e.ty = 9 then splice (dictValue index sub e.maxlen s) ofs data
  else if ofs = 0 then data
  else splice (dictStored index sub 0 s) ofs data

/-- A number as its type reads it. -/
def dictInt (ty : Nat) (data : List Byte) : Int := if ty = 6 ∨ ty = 7 then toS 40 (leNat data) else (leNat data : Int)

/-- ZONE_COUNT and CONV_COUNT of the zone map in force. -/
def zoneCounts (s : State) : Nat × Nat :=
  match s.image with | some i => (leAt (i.body 1 0) 0 4, leAt (i.body 1 0) 4 4) | none => (0, 0)

/-- Whether every zone from `first` on, `n` of them, is Empty. -/
def zonesEmpty (first n : Nat) (s : State) : Bool :=
  s.zones.all fun z => !(decide (first ≤ z.1 ∧ z.1 < first + n)) || z.2.state == 1

/-- Whether a namespace entry may take a value (R612). -/
def nsAllowed (sub : Nat) (new : List Byte) (factory : Bool) (s : State) : Bool :=
  let old := dictStored 0x4020 sub 32 s
  let kind := leAt new 0 1
  let first := leAt new 4 4
  let count := leAt new 8 4
  let others := ((List.range' 1 8).filter (· != sub)).map fun j => dictStored 0x4020 j 32 s
  leAt new 28 4 == crc32c (new.take 28) &&
  (new == old ||
    (!(leAt old 0 1 == 1 && !factory) && !(leAt old 0 1 == 2 && !zonesEmpty (leAt old 4 4) (leAt old 8 4) s))) &&
  (kind == 0 ||
    (decide (kind ≤ 2 ∧ leAt new 1 1 ≤ 1 ∧ 1 ≤ count) &&
      decide (first + count ≤ if kind = 2 then (zoneCounts s).1 else (zoneCounts s).2) &&
      !(kind == 1 && others.any fun o => leAt o 0 1 == 1) &&
      !(others.any fun o => leAt o 0 1 == kind && decide (leAt o 4 4 < first + count ∧ first < leAt o 4 4 + leAt o 8 4))))

/-- Whether the zones of range `r` in its namespace are all Empty (R646). -/
def rangeEmpty (r : Nat) (s : State) : Bool :=
  let n := rangeNs r s
  let e := dictStored 0x4020 n 32 s
  let g := (rangeOf r s).geometry
  let (lba, len) := Config.rangeSpan g
  let z := zoneLbas n s
  leAt e 0 1 != 2 || g == [] || len == 0 ||
    zonesEmpty (leAt e 4 4 + lba / z) (min (leAt e 8 4) ((lba + len - 1) / z + 1) - lba / z) s

/-- Step 4: the value lies in its range, and the map allows it. -/
def dictInRange (cls index sub : Nat) (new : List Byte) (e : DictEntry) (s : State) : Bool :=
  (typeSize e.ty == 0 || decide (e.lo ≤ dictInt e.ty new ∧ dictInt e.ty new ≤ e.hi)) &&
  (if index = 0x2001 then leNat new == 0 || decide (1000 ≤ leNat new ∧ leNat new ≤ 30000)
  else if index = 0x3002 then leNat new == 0 || decide (100 ≤ leNat new ∧ leNat new ≤ 60000)
  else if index = 0x3010 ∧ 0x11 ≤ sub ∧ cls = 1 then leNat new == 0
  else if index = 0x4020 then nsAllowed sub new (cls == 3) s
  else if index = 0x6010 then ecOnCurve (beNat (new.take 48)) (beNat (new.drop 48))
  else if index = 0x6020 then leNat new == rangeNs sub s || rangeEmpty sub s
  else true)

/-- Step 5: the unit of a live entry is powered. The install services and the key store need the core domain too. -/
def dictPowered (write : Bool) (index : Nat) (e : DictEntry) (s : State) : Bool :=
  s.power.core || index == 0x5004 || index == 0x5020 ||
  !(e.live || (write && [0x4010, 0x4011, 0x6010, 0x6012, 0x6030].contains index))

/-- Step 6: EVR can log, no other transfer to the entry is open, and no install blocks it. -/
def dictBusy (index sub : Nat) (s : State) : Bool :=
  decide (32 - (s.evrQueue.filter fun q => !q.isLost).length < 5) || s.fni.xfers.any (fun x => x.index == index && x.sub == sub) ||
  ((index == 0x4010 || index == 0x4011) && s.rcp.commit.isSome)

/-- The STATUS of a read or a describe of a class (R606, R609). -/
def dictReadStatus (cls : Nat) (describe : Bool) (index sub ofs len : Nat) (s : State) : Nat × DictEntry :=
  match dictEntry index sub s with
  | none => (0xC0, numEntry 2 0)
  | some e =>
    (if !dictRight cls false index sub e s then 0xC1
    else if describe then 0
    else if !dictFits false index sub ofs len e s then 0xC2
    else if !dictPowered false index e s then 0xC5
    else 0, e)

/-- The STATUS of a write of a class; `mine` marks the write that ends its own open transfer. -/
def dictWriteStatus (cls : Nat) (mine : Bool) (index sub ofs : Nat) (data : List Byte) (s : State) : Nat × DictEntry :=
  match dictEntry index sub s with
  | none => (0xC0, numEntry 2 0)
  | some e =>
    let t := if mine then { s with fni := { s.fni with xfers := [] } } else s
    (if !dictRight cls true index sub e s then 0xC1
    else if !dictFits true index sub ofs data.length e s then 0xC2
    else if index ≠ 0x4010 ∧ !dictInRange cls index sub (dictNew index sub ofs data e s) e s then 0xC3
    else if !dictPowered true index e s then 0xC5
    else if dictBusy index sub t then 0xC4
    else 0, e)

/-! ### Effects (R607) -/

/-- A request is refused: counted, and a write logged unless EVR has no room. -/
def dictRefuse (s : State) : State := (s.bump ODE_CNT.REFUSED).set ODE_INT.REFUSED 1

/-- Whether the map or another rule names an action for the entry. -/
def dictActs (index sub : Nat) : Bool :=
  (sub == 0 && [0x2000, 0x2010, 0x2020, 0x4011, 0x5003, 0x5011, 0x6003, 0x6010, 0x6012, 0x6030].contains index) || index == 0x5010

/-- The permit is written (R594): with SPINGATE inactive the value is only stored. -/
def permitWrite (v : Nat) (s : State) : State :=
  if s.sup.spingate && v == 1 then
    let s := s.set FNI_INT.PERMIT 1
    s.when s.power.core spmPermit
  else s

/-- The severity of source `k` in FLT (R651). -/
def severityWrite (k v : Nat) (s : State) : State :=
  s.when (s.power.core && (fltResetSeverity k).isSome) fun s => fltSum (s.set (FLT_SRC.SEV k) v)

/-- The value takes effect and the action of its entry follows. -/
def dictEffect (o : Origin) (index sub ofs : Nat) (data : List Byte) (e : DictEntry) (s : State) : State :=
  let new := dictNew index sub ofs data e s
  let v := leNat new
  let code := originCode o s
  if index = 0x4010 then (rcpStage ofs data s).2
  else if index = 0x4011 then
    if v = 1 then (rcpRequest s.rcp.staged false false (isFactory code) false code s).2
    else if v = 2 then (rcpRequest s.rcp.staged true false (isFactory code) true code s).2
    else if v = 3 then (rcpRequest s.rcp.staged true true (isFactory code) true code s).2
    else s
  else if index = 0x2010 then spmGradeReq v s
  else if index = 0x5003 then recoverySet v s
  else if index = 0x6010 then { s with keys := { s.keys with recipeKey := some new } }
  else if index = 0x6012 then { s with keys := { s.keys with svnMin := max s.keys.svnMin s.boot.svn } }
  else if index = 0x6030 then if v = 1 then cipZeroize s else s
  else
    let s := dictPut index sub new s
    if index = 0x2000 then supRequest v s
    else if index = 0x2020 then permitWrite v s
    else if index = 0x5010 then severityWrite sub v s
    else if index = 0x5011 then s.when s.power.core (·.set FLT_CFG.QUIET v)
    else if index = 0x6003 then s.when s.power.core (·.set CIP_PST.PERIOD v)
    else s

/-- A write of a class that the checks have passed or not; `mram` is whether its write to the on-chip MRAM completes (R613). -/
def dictWriteAs (o : Origin) (cls : Nat) (mine : Bool) (index sub ofs : Nat) (data : List Byte) (task : Nat) (mram : Bool)
    (s : State) : Nat × State :=
  let (st, e) := dictWriteStatus cls mine index sub ofs data s
  let code := originCode o s
  let task := match o with | .firmware _ => task | _ => 0
  let full := decide (32 - (s.evrQueue.filter fun q => !q.isLost).length < 5)
  if st = 0xC4 ∧ full then (st, dictRefuse s)
  else
    let s := s.logDict index sub st ofs data.length task data code
    if st ≠ 0 then
      (st, (dictRefuse s).when (st == 0xC4 && s.rcp.commit.isSome && (index == 0x4010 || index == 0x4011))
        (·.logRecipe 0x1F 0xFFFF 0 0 code))
    else if !mram && e.persist != 0 then (0xC4, (dictRefuse s).set ODE_INT.PERSIST_ERR 1)
    else
      let s := dictEffect o index sub ofs data e s
      let s := s.when (dictActs index sub) (·.set ODE_INT.ACTION 1)
      (0, (s.bump ODE_CNT.WRITES).when (cls == 1) (·.set FNI_INT.NET_WRITE 1))

/-- A write from an origin; one without a class reaches nothing. -/
def dictWrite (o : Origin) (mine : Bool) (index sub ofs : Nat) (data : List Byte) (task : Nat) (mram : Bool) (s : State) : Nat × State :=
  match originClass o s with
  | none => (0xC1, s)
  | some cls => dictWriteAs o cls mine index sub ofs data task mram s

/-- A read from an origin: STATUS, TYPE, the full length of the value, and the bytes asked for. -/
def dictRead (o : Origin) (index sub ofs len : Nat) (s : State) : (Nat × Nat × Nat × List Byte) × State :=
  match originClass o s with
  | none => ((0xC1, 0, 0, []), s)
  | some cls =>
    let (st, e) := dictReadStatus cls false index sub ofs len s
    if st ≠ 0 then ((st, 0, 0, []), dictRefuse s)
    else
      let (total, data) := dictBytes index sub ofs len e s
      ((0, e.ty, total, data), s)

/-- A describe from an origin. -/
def dictDescribe (o : Origin) (index sub : Nat) (s : State) : (Nat × Nat × Nat × List Byte) × State :=
  match originClass o s with
  | none => ((0xC1, 0, 0, []), s)
  | some cls =>
    let (st, e) := dictReadStatus cls true index sub 0 0 s
    if st ≠ 0 then ((st, 0, 0, []), dictRefuse s) else ((0, e.ty, 24, dictDescriptor e), s)

/-! ### Request blocks (R610) -/

/-- The origin of a master that may write ODE_REQ[c], or none. -/
def odeOrigin (m : Master) (c : Fin 3) (s : State) : Option Origin :=
  match m with
  | .y n => if c = 0 then some (.firmware ⟨n.val, by omega⟩) else none
  | .yp => if c = 1 then some (.firmware 4) else none
  | .debug => if c = 2 ∧ s.get CIP_STATUS.DBG_LEVEL ≠ 0 then some .debug else none
  | .dma => none

/-- The block cannot be read, or its last write fails. -/
def odeBlockErr (c : Fin 3) (s : State) : State := s.set (ODE_REQ.BLK_ERR c) 1

/-- A request ends: STATUS, TYPE and TOTAL are written to the block, and DONE is set. -/
def odeEnd (c : Fin 3) (addr st ty total : Nat) (s : State) : State :=
  let put (ofs : Nat) (l : List Byte) (r : Bool × State) : Bool × State :=
    if r.1 then r else let (f, s) := physWrite .dma 3 (addr + ofs) (l.map fun b => (b, false)) r.2; (f.isSome, s)
  let (bad, s) := put 24 (leBytes 4 total) (put 21 (leBytes 1 ty) (put 7 (leBytes 1 st) (false, s)))
  let s := s.when bad (odeBlockErr c)
  s.set ODE_INT.DONE (s.get ODE_INT.DONE ||| 2 ^ c.val)

/-- Whether a block is malformed: OP, or a reserved field that is not zero (R606). -/
def odeMalformed (b : List Byte) : Bool :=
  !(decide (1 ≤ leAt b 0 1 ∧ leAt b 0 1 ≤ 3)) || leAt b 1 1 != 0 || leAt b 22 2 != 0 || leNat (slice b 28 36) != 0

/-- A request whose block is `b`. -/
def odeServe (o : Origin) (c : Fin 3) (addr : Nat) (mram : Bool) (b : List Byte) (s : State) : State :=
  let index := leAt b 4 2
  let sub := leAt b 6 1
  let ofs := leAt b 8 4
  let len := leAt b 12 4
  let buf := leAt b 16 5
  let task := leAt b 2 2
  let give (r : (Nat × Nat × Nat × List Byte) × State) : State :=
    let ((st, ty, total, data), s) := r
    if st ≠ 0 then odeEnd c addr st 0 0 s
    else
      let (f, s) := physWrite .dma 3 buf (data.map fun x => (x, false)) s
      if f.isSome then odeEnd c addr 0xC5 0 0 (dictRefuse s) else odeEnd c addr 0 ty total s
  if odeMalformed b then
    let s := s.when (leAt b 0 1 == 2) (·.logDict index sub 0xC3 ofs len task [] (originCode o s))
    odeEnd c addr 0xC3 0 0 (dictRefuse s)
  else if leAt b 0 1 = 1 then give (dictRead o index sub ofs len s)
  else if leAt b 0 1 = 3 then give (dictDescribe o index sub s)
  else
    let cls := (originClass o s).getD 2
    let early : Nat := match dictEntry index sub s with
      | none => 0xC0
      | some e => if !dictRight cls true index sub e s then 0xC1 else if !dictFits true index sub ofs len e s then 0xC2 else 0
    if early ≠ 0 then odeEnd c addr early 0 0 (dictRefuse (s.logDict index sub early ofs len task [] (originCode o s)))
    else
      let ((l, f), s) := physRead .dma 3 buf len s
      if f.isSome then odeEnd c addr 0xC5 0 0 (dictRefuse (s.logDict index sub 0xC5 ofs len task [] (originCode o s)))
      else
        let (st, s) := dictWrite o false index sub ofs (l.map (·.1)) task mram s
        let ty := ((dictEntry index sub s).map (·.ty)).getD 0
        odeEnd c addr st (if st = 0 then ty else 0) (if st = 0 then len else 0) s

/-- GO in ODE_REQ[c] with the address of a block (R610, R615). The operand `op` limits the command to blocks with that OP. -/
def odeGo (m : Master) (c : Fin 3) (addr : Nat) (op : Option Nat) (mram : Bool) (s : State) : State :=
  match odeOrigin m c s with
  | none => s
  | some o =>
    let ((l, f), t) := physRead .dma 3 (64 * addr) 64 ((s.set (ODE_REQ.ADDR c) addr).set (ODE_REQ.BLK_ERR c) 0)
    let b := l.map (·.1)
    if f.isSome then
      let t := (odeBlockErr c t).set ODE_INT.REFUSED 1
      t.set ODE_INT.DONE (t.get ODE_INT.DONE ||| 2 ^ c.val)
    else match op with
      | none => odeServe o c (64 * addr) mram b t
      | some k => if odeMalformed b || leAt b 0 1 == k then odeServe o c (64 * addr) mram b t else s

/-- ODE_READ: a request block with OP 1 (R610). -/
def execOdeRead (m : Master) (c : Fin 3) (addr : BitVec 34) (s : State) : Out := s.onRetention (odeGo m c addr.toNat (some 1) true)

/-- ODE_WRITE: a request block with OP 2; `mram` is whether the write to the on-chip MRAM completes (R610, R613). -/
def execOdeWrite (m : Master) (c : Fin 3) (addr : BitVec 34) (mram : Bool) (s : State) : Out :=
  s.onRetention (odeGo m c addr.toNat (some 2) mram)

/-- ODE_DESCRIBE: a request block with OP 3 (R609). -/
def execOdeDescribe (m : Master) (c : Fin 3) (addr : BitVec 34) (s : State) : Out := s.onRetention (odeGo m c addr.toNat (some 3) true)

/-! ### Writes of single entries -/

/-- A write of one entry from an origin, whatever path brings it. -/
def writeEntry (o : Origin) (index sub ofs : Nat) (data : List Byte) (task : BitVec 16) (s : State) : Out :=
  s.onRetention fun s => (dictWrite o false index sub ofs data task.toNat true s).2

/-- A write of 0x2010.00 (R357, R5). -/
def execGradeRequestDict (o : Origin) (task : BitVec 16) (v : BitVec 8) (s : State) : Out :=
  writeEntry o 0x2010 0 0 (leBytes 1 v.toNat) task s

/-- A write of 0x2020.00 (R594). -/
def execSpinPermitWrite (o : Origin) (task : BitVec 16) (v : BitVec 8) (s : State) : Out :=
  writeEntry o 0x2020 0 0 (leBytes 1 v.toNat) task s

/-- A write of 0x4020.0n (R612). -/
def execNamespaceTableWrite (o : Origin) (task : BitVec 16) (n : Fin 8) (v : BitVec 256) (s : State) : Out :=
  writeEntry o 0x4020 (n.val + 1) 0 (leBytes 32 v.toNat) task s

/-- A write of 0x5010.k (R651). -/
def execSeverityWrite (o : Origin) (task : BitVec 16) (k : Fin 192) (v : BitVec 8) (s : State) : Out :=
  writeEntry o 0x5010 k.val 0 (leBytes 1 v.toNat) task s

/-- A write of 0x6012.00 (R642). -/
def execSvnMinRaise (o : Origin) (task : BitVec 16) (v : BitVec 8) (s : State) : Out :=
  writeEntry o 0x6012 0 0 (leBytes 1 v.toNat) task s

/-- A write of 0x6010.00 (R644). -/
def execRecipeKeyProvision (o : Origin) (task : BitVec 16) (key : BitVec 768) (s : State) : Out :=
  writeEntry o 0x6010 0 0 (leBytes 96 key.toNat) task s

/-- A write of 0x6030.00 (R646). -/
def execZeroizeDict (o : Origin) (task : BitVec 16) (v : BitVec 8) (s : State) : Out :=
  writeEntry o 0x6030 0 0 (leBytes 1 v.toNat) task s

end Sys2Proof.Machine
end

