-- ==== Sys2Proof/Machine/Fni.lean ====
section
/-! DEFINITION. The field network: joining, NDL frames, dictionary transfers, heartbeats, permits and flood control (R579 to R602,
R614). -/

namespace Sys2Proof.Machine

def State.modFni (s : State) (f : FniUnit → FniUnit) : State := { s with fni := f s.fni }

/-! ### Frames (R586, R587) -/

/-- The identifier of an NDL frame. -/
def ndlId (prio func src dst token : Nat) : Nat := prio * 2 ^ 26 + func * 2 ^ 21 + src * 2 ^ 14 + dst * 2 ^ 7 + token % 128

def ndlFunc (id : Nat) : Nat := bits id 21 5

/-- The next data length of CAN FD. -/
def canLen (n : Nat) : Nat :=
  if n ≤ 8 then n else if n ≤ 12 then 12 else if n ≤ 16 then 16 else if n ≤ 20 then 20 else if n ≤ 24 then 24
  else if n ≤ 32 then 32 else if n ≤ 48 then 48 else 64

/-- The node ID (R583). -/
def fniNode (s : State) : Nat := s.sup.slot

/-- Whether FNI runs and is error active or error passive. -/
def fniOn (s : State) : Bool :=
  s.bit FNI_CTRL.ENABLE && (s.get FNI_STATUS.STATE == 1 || s.get FNI_STATUS.STATE == 2)

/-- Whether FNI keeps silent by its mode: listen-only, or no common version (R583, R584, R589). -/
def fniSilent (s : State) : Bool := s.bit FNI_CTRL.LISTEN_ONLY || s.fni.listen || s.bit FNI_STATUS.NO_COMMON

/-- Whether a shelf event is kept from being sent (R600). -/
def fniBlocked (s : State) : Bool := !fniOn s || fniSilent s || s.bit SYS_REFCLK.FALLBACK

/-- A frame is queued for the bus, padded with zero bytes; without a common version only answers to HELLO are (R589). -/
def fniQueue (prio func dst token : Nat) (payload : List Byte) (answer : Bool) (s : State) : State :=
  if fniOn s && !s.bit FNI_CTRL.LISTEN_ONLY && !s.fni.listen && (answer || !s.bit FNI_STATUS.NO_COMMON) then
    s.modFni fun f => { f with queue := f.queue ++
      [(ndlId prio func (fniNode s) dst token, payload ++ zeros (canLen payload.length - payload.length))] }
  else s

/-! ### Joining (R583 to R585) -/

/-- One random value in 0 to `top`: the LFSR gives it and then steps (R458, R585). -/
def fniDraw (top : Nat) (s : State) : State :=
  let v := s.fni.lfsr.toNat
  s.modFni fun f => { f with delay := v % (top + 1), lfsr := BitVec.ofNat 16 (lfsrStep v) }

/-- The largest holdoff in ms. -/
def fniHoldoff (s : State) : Nat := dictNat 0x3010 1 50 s

/-- The first bytes of the HEARTBEAT payload: power state, grade, flags (R587). -/
def beatNow (s : State) : List Nat :=
  [s.get SUP_STATUS.STATE, s.get SPM_STATUS.GRADE_ACT,
    s.get SPM_STATUS.PERMIT_WAIT + 2 * s.get FLT_STATUS.FAULT + 4 * boolNat (inConflict s)]

/-- A bus join begins; without a valid node ID FNI runs listen-only. -/
def fniJoin (s : State) : State :=
  let node := fniNode s
  if node = 0 ∨ node = 127 then
    ((s.set FNI_STATUS.BAD_NODE 1).set FNI_STATUS.STATE 1).modFni (fun f => { f with listen := true }) |>.raise 103
  else
    let seed := (s.now % 65536) ^^^ (node * 0x9E37 % 65536)
    let s := ((((s.set FNI_STATUS.NOM_CODE (dictNat 0x3001 1 1 s)).set FNI_STATUS.DATA_CODE (dictNat 0x3001 2 1 s)).set
      FNI_STATUS.STATE 1).set FNI_STATUS.TEC 0).set FNI_STATUS.REC 0
    let beat := beatNow s
    fniDraw (fniHoldoff s) (s.modFni fun f => { f with
      lfsr := BitVec.ofNat 16 (if seed = 0 then 1 else seed), hellos := f.hellos ++ [none], beat := beat })

/-- FNI_CTRL.ENABLE written to 1. -/
def fniEnable (s : State) : State := fniJoin (s.set FNI_CTRL.ENABLE 1)

/-- FNI_CTRL.ENABLE written to 0: FNI stops and is not joined. -/
def fniDisable (s : State) : State :=
  ((s.set FNI_CTRL.ENABLE 0).set FNI_STATUS.STATE 0).modFni fun f => { f with queue := [], hellos := [], xfers := [] }

def execFniEnableJoin (s : State) : Out := s.onRetention fniEnable

/-- FNI_CTRL.RESTART: bus-off, or the listen-only of a duplicate ID, ends, and a join begins (R581, R584). -/
def fniRestart (s : State) : State :=
  if s.bit FNI_CTRL.ENABLE then fniJoin ((s.set FNI_STATUS.DUP_NODE 0).modFni fun f => { f with listen := false }) else s

def execFniRestart (s : State) : Out := s.onRetention fniRestart

/-- FNI_CTRL.CLR_CNT. -/
def fniClrCnt (s : State) : State :=
  s.clearAll [FNI_ERR.BUSOFF, FNI_ERR.WITHDRAWN, FNI_ERR.RX_DROP, FNI_ERR.PROTO, FNI_ERR.XFER_ABORT]

def execFniClrCnt (s : State) : Out := s.onRetention fniClrCnt

/-- The payload of the node's HELLO. -/
def helloBytes (reply : Bool) (s : State) : List Byte :=
  leBytes 2 3 ++ [0] ++ leBytes 1 (boolNat reply) ++ (dictStored 0x1018 4 16 s).take 8

/-- The random delay of a join or an answer ends: the HELLO goes out. A join completes with it. -/
def execNdlHelloDelayExpiry (s : State) : Out :=
  s.onRetention fun s =>
    match s.fni.hellos with
    | [] => s
    | none :: r => (fniQueue 3 0x01 0 0 (helloBytes false s) false (s.modFni fun f => { f with hellos := r })).set FNI_INT.JOINED 1
    | some token :: r => fniQueue 3 0x01 127 token (helloBytes true s) true (s.modFni fun f => { f with hellos := r })

/-- Every 10 s until the shelf controller's HELLO arrives, the node repeats its HELLO (R589). -/
def execNdlHelloRepeat (s : State) : Out :=
  s.onRetention fun s => if fniOn s && !s.bit FNI_STATUS.SC_SEEN then fniQueue 3 0x01 0 0 (helloBytes false s) false s else s

/-! ### Flood control (R597 to R600) -/

/-- Reports per episode. -/
def fniLimit (s : State) : Nat := dictNat 0x3010 2 2 s

def State.modEpisode (s : State) (cls : Nat) (f : Episode → Episode) : State :=
  s.modFni fun u => { u with episodes := u.episodes.map fun e => if e.cls = cls then f e else e }

def episodeOf (cls : Nat) (s : State) : Option Episode := s.fni.episodes.find? fun e => e.cls == cls

/-- The node does not send, or withdraws: the sympathy count of the class rises once in the episode (R600). -/
def fniSympathy (cls : Nat) (s : State) : State :=
  match episodeOf cls s with
  | none => s
  | some e =>
    if e.counted || e.sent then s
    else
      let s := (s.modEpisode cls fun e => { e with counted := true, payload := none }).set FNI_INT.EV_WITHDRAWN 1
      let s := if e.payload.isSome then s.set FNI_EVQ.BUSY 0 else s
      if 1 ≤ cls ∧ cls ≤ 6 then
        dictPut 0x3010 (0x10 + cls) (leBytes 4 (satAdd (dictNat 0x3010 (0x10 + cls) 0 s) 1 0xFFFFFFFF)) s
      else s

/-- Whether a queued frame is an EVENT with SHELF of a class. -/
def isShelf (cls : Nat) (f : Nat × List Byte) : Bool := ndlFunc f.1 == 3 && (leAt f.2 1 1).testBit 0 && leAt f.2 0 1 == cls

/-- A queued shelf EVENT whose HEARD has reached the limit, or that R600 keeps from the bus, is withdrawn (R599). -/
def fniWithdraw (s : State) : State :=
  forEach s.fni.episodes (fun e s =>
    if s.fni.queue.any (isShelf e.cls) && (decide (fniLimit s ≤ e.heard) || fniBlocked s) then
      let s := (s.modFni fun f => { f with queue := f.queue.filter fun q => !isShelf e.cls q }).bump FNI_ERR.WITHDRAWN
      fniSympathy e.cls (s.set FNI_EVQ.BUSY 0)
    else s) s

/-- The holdoff is over: the frame that firmware supplied is queued with the present HEARD, or the node counts (R599). -/
def fniRelease (cls : Nat) (s : State) : State :=
  match episodeOf cls s with
  | none => s
  | some e =>
    if e.holdoff || e.sent || e.counted then s
    else if fniLimit s ≤ e.heard || fniBlocked s then fniSympathy cls s
    else match e.payload with
      | none => s
      | some p =>
        fniQueue 1 0x03 0 0 (leBytes 1 cls ++ [1] ++ leBytes 1 (min 255 e.heard) ++ [0] ++ p) false
          (s.modEpisode cls fun e => { e with payload := none })

/-- The first local onset of a class begins an episode and draws a holdoff; a further onset counts only in EVR. -/
def fniOnset (cls : Nat) (s : State) : State :=
  if (episodeOf cls s).isSome then s
  else
    let since := s.now - 100000 * fniHoldoff s
    let heard := (s.fni.heard.filter fun h => h.2 == cls && decide (since ≤ h.1)).length
    fniDraw (fniHoldoff s) (s.modFni fun f => { f with episodes := f.episodes ++ [{ cls := cls, heard := heard }] })

def execShelfEventOnset (cls : Fin 6) (s : State) : Out := s.onRetention (fniOnset (cls.val + 1))

/-- The holdoff of a class ends. -/
def execShelfHoldoffExpiry (cls : Fin 6) (s : State) : Out :=
  s.onRetention fun s => fniRelease (cls.val + 1) (s.modEpisode (cls.val + 1) fun e => { e with holdoff := false })

/-- The class has stayed inactive for 0x3010.03 ms: the episode ends, and a node that has counted has its SYMPATHY record logged. -/
def execShelfEpisodeEnd (cls : Fin 6) (s : State) : Out :=
  s.onRetention fun s =>
    let c := cls.val + 1
    if (episodeOf c s).isNone then s
    else
      let s := fniSympathy c (s.modFni fun f => { f with queue := f.queue.filter fun q => !isShelf c q })
      let s := if s.fni.episodes.any fun e => e.cls == c && e.counted then
          s.log 0x090 (leBytes 1 c ++ leBytes 3 0 ++ leBytes 4 (dictNat 0x3010 (0x10 + c) 0 s)) else s
      s.modFni fun f => { f with episodes := f.episodes.filter fun e => e.cls != c }

/-- A write of FNI_EVQ with GO set (R599, R614): the block in pantry SRAM gives the frame. A shelf EVENT belongs to the episode of its
class, which the write begins where none is open. -/
def fniEvq (w : Nat) (s : State) : State :=
  if s.bit FNI_EVQ.BUSY then s
  else
    let cls := bits w 23 8
    let p := s.readBytes (0x0020000000 + 64 * bits w 10 13) (12 + min 48 (bits w 31 6))
    let s := ((((s.set FNI_EVQ.OFS (bits w 10 13)).set FNI_EVQ.CLASS cls).set FNI_EVQ.LEN (bits w 31 6)).set FNI_EVQ.SHELF
      (bits w 37 1)).set FNI_EVQ.BUSY 1
    if w.testBit 37 then
      let s := fniOnset cls s
      match episodeOf cls s with
      | none => s
      | some e =>
        if e.sent || e.counted then (s.set FNI_EVQ.BUSY 0).set FNI_INT.EV_WITHDRAWN (boolNat e.counted)
        else fniWithdraw (fniRelease cls (s.modEpisode cls fun e => { e with payload := some p }))
    else if !fniOn s || fniSilent s then (s.set FNI_EVQ.BUSY 0).set FNI_INT.EV_WITHDRAWN 1
    else fniQueue 5 0x03 0 0 (leBytes 1 cls ++ zeros 3 ++ p) false s

def execFniEvqGo (w : BitVec 40) (s : State) : Out := s.onRetention (fniEvq w.toNat)

/-! ### The bus (R581) -/

/-- The error state follows the counters; bus-off is left only by recovery. -/
def fniErrState (s : State) : State :=
  if fniOn s then s.set FNI_STATUS.STATE (if 128 ≤ s.get FNI_STATUS.TEC ∨ 128 ≤ s.get FNI_STATUS.REC then 2 else 1) else s

/-- Bus-off is entered. -/
def fniBusOff (s : State) : State :=
  if !fniOn s then s
  else
    let now := s.now
    let s := (((s.set FNI_STATUS.STATE 3).set FNI_STATUS.TEC 255).bump FNI_ERR.BUSOFF).set FNI_INT.BUSOFF 1
    let s := dictPut 0x3011 3 (leBytes 2 (satAdd (dictNat 0x3011 3 0 s) 1 0xFFFF)) s
    fniWithdraw ((s.modFni fun f => { f with busOffs := (now :: f.busOffs).take 8 }).raise 103)

def execCanBusOff (s : State) : Out := s.onRetention fniBusOff

/-- 128 sequences of 11 recessive bits: FNI leaves bus-off with AUTO_BUSOFF, unless eight bus-offs lie within 60 s. -/
def execCanBusOffRecovery (s : State) : Out :=
  s.onRetention fun s =>
    let recent := (s.fni.busOffs.filter fun t => decide (s.now < t + 6000000000)).length
    if s.bit FNI_CTRL.ENABLE && s.get FNI_STATUS.STATE == 3 && s.bit FNI_CTRL.AUTO_BUSOFF && decide (recent < 8) then
      ((s.set FNI_STATUS.STATE 1).set FNI_STATUS.TEC 0).set FNI_STATUS.REC 0
    else s

/-- An error on the bus, as transmitter or receiver; `alt` marks an error that leaves a transmitter's counter or adds 8 to a
receiver's. -/
def execCanErrorDetected (tx alt : Bool) (s : State) : Out :=
  s.onRetention fun s =>
    if !fniOn s then s
    else
      let s := s.bump FNI_ERR.PROTO
      if tx then
        if alt then s
        else if 256 ≤ s.get FNI_STATUS.TEC + 8 then fniBusOff s
        else fniErrState (s.set FNI_STATUS.TEC (s.get FNI_STATUS.TEC + 8))
      else fniErrState (s.bump FNI_STATUS.REC (if alt then 8 else 1))

/-- The queued frame that wins arbitration: the lowest identifier, the oldest of equals. -/
def fniFirst : List (Nat × List Byte) → Option (Nat × List Byte)
  | [] => none
  | q :: r => match fniFirst r with | some p => some (if p.1 < q.1 then p else q) | none => some q

/-- A queued frame wins arbitration and finishes on the bus; before it, shelf EVENTs are compared with the limit (R599). -/
def execCanFrameSent (s : State) : Out :=
  s.onRetention fun s =>
    let s := fniWithdraw s
    if !fniOn s || s.bit FNI_CTRL.LISTEN_ONLY || s.fni.listen || s.bit SYS_REFCLK.FALLBACK then s
    else match fniFirst s.fni.queue with
      | none => s
      | some q =>
        let s := s.modFni fun f => { f with queue := f.queue.erase q, sent := f.sent ++ [q] }
        let s := fniErrState (s.set FNI_STATUS.TEC (s.get FNI_STATUS.TEC - 1))
        if ndlFunc q.1 = 3 then
          let s := (s.set FNI_EVQ.BUSY 0).set FNI_INT.EV_SENT 1
          if (leAt q.2 1 1).testBit 0 then s.modEpisode (leAt q.2 0 1) fun e => { e with sent := true } else s
        else s

/-! ### Reception -/

/-- A frame of function `func` arrives: the counters, the receive FIFO, a duplicate ID, the destination and the length are checked
before its effect `f` (R56, R581, R584, R586, R587, R613). -/
def fniRx (func least : Nat) (src dst : BitVec 7) (payload : List Byte) (full : Bool) (f : State → State) (s : State) : Out :=
  s.onRetention fun s =>
    if !fniOn s then s
    else
      let rc := s.get FNI_STATUS.REC
      let s := fniErrState (s.set FNI_STATUS.REC (if 127 < rc then 127 else rc - 1))
      if full then (s.bump FNI_ERR.RX_DROP).set FNI_INT.RX_DROP 1
      else if src.toNat = fniNode s ∧ !s.bit FNI_STATUS.BAD_NODE then
        (((s.set FNI_STATUS.DUP_NODE 1).set FNI_INT.DUP_NODE 1).modFni fun u => { u with listen := true }).raise 103
      else if src.toNat = 0 ∨ (dst.toNat ≠ 0 ∧ dst.toNat ≠ fniNode s) then s
      else if dst.toNat = 0 ∧ !([0x01, 0x02, 0x03, 0x0A].contains func) then s
      else if payload.length < least ∨ 64 < payload.length then s
      else f s

/-- A HELLO: the shelf controller's sets the version in use, and one without REPLY is answered (R589). -/
def execNdlRxHello (src dst token : BitVec 7) (payload : List Byte) (full : Bool) (s : State) : Out :=
  fniRx 0x01 12 src dst payload full (fun s =>
    if src.toNat ≠ 127 then s
    else
      let old := s.get FNI_STATUS.VERSION
      let both := leAt payload 0 2 % 4
      let new := if 2 ≤ both then 2 else both
      let s := ((s.set FNI_STATUS.SC_SEEN 1).set FNI_INT.SC_HELLO 1).set FNI_STATUS.NO_COMMON (boolNat (new == 0))
      let s := if new = old then s else ((s.set FNI_STATUS.VERSION new).set FNI_INT.VERSION 1).logLink 6 old new
      if (leAt payload 3 1).testBit 0 then s
      else fniDraw (fniHoldoff s) (s.modFni fun f => { f with hellos := f.hellos ++ [some token.toNat] })) s

/-- A PERMIT of the shelf controller with the node's bit, while SPINGATE is active: a write of 1 to 0x2020.00 (R594). -/
def execNdlRxPermit (src dst _token : BitVec 7) (payload : List Byte) (full : Bool) (s : State) : Out :=
  fniRx 0x02 16 src dst payload full (fun s =>
    if src.toNat = 127 ∧ s.sup.spingate ∧ (leAt payload 0 16).testBit (fniNode s) then
      (dictWrite (.network 127) false 0x2020 0 0 [1] 0 true s).2
    else s) s

/-- An EVENT with SHELF raises HEARD of its class (R598). -/
def execNdlRxEvent (src dst _token : BitVec 7) (payload : List Byte) (full : Bool) (s : State) : Out :=
  fniRx 0x03 16 src dst payload full (fun s =>
    if !(leAt payload 1 1).testBit 0 then s
    else
      let cls := leAt payload 0 1
      let now := s.now
      let s := s.modFni fun f => { f with heard := (now, cls) :: f.heard.filter fun h => decide (now ≤ h.1 + 25000000) }
      fniWithdraw (s.modEpisode cls fun e => { e with heard := e.heard + 1 })) s

/-- A HEARTBEAT of another node: FNI takes nothing from it (R593). -/
def execNdlRxHeartbeat (src dst _token : BitVec 7) (payload : List Byte) (full : Bool) (s : State) : Out :=
  fniRx 0x0A 9 src dst payload full (fun s => s) s

/-! ### Dictionary transfers (R590 to R592) -/

/-- The version at which requests are served. -/
def ndlVersion (s : State) : Nat := if s.bit FNI_STATUS.SC_SEEN then s.get FNI_STATUS.VERSION else 1

/-- The node of a source ID. -/
def nodeOf (src : BitVec 7) : Origin := .network ⟨src.toNat, src.isLt⟩

def isXfer (src token : BitVec 7) (x : NdlXfer) : Bool := x.src == src.toNat && x.token == token.toNat

/-- The open transfer of a source and token. -/
def xferOf (src token : BitVec 7) (s : State) : Option NdlXfer := s.fni.xfers.find? (isXfer src token)

def xferClose (src token : BitVec 7) (s : State) : State :=
  s.modFni fun f => { f with xfers := f.xfers.filter fun x => !isXfer src token x }

def xferPut (src token : BitVec 7) (x : NdlXfer) (s : State) : State :=
  s.modFni fun f => { f with xfers := f.xfers.map fun y => if isXfer src token y then x else y }

/-- A transfer ends with 0xC7 and changes nothing. -/
def xferAbort (src token : BitVec 7) (s : State) : State :=
  if (xferOf src token s).isSome then (xferClose src token s).bump FNI_ERR.XFER_ABORT else s

/-- A DREAD_RSP. -/
def readRsp (src token : BitVec 7) (st ty total : Nat) (data : List Byte) (s : State) : State :=
  fniQueue 4 0x05 src.toNat token.toNat (leBytes 1 st ++ leBytes 1 ty ++ zeros 2 ++ leBytes 4 total ++ data.take 56) false s

/-- A DWRITE_RSP. -/
def writeRsp (src token : BitVec 7) (st n : Nat) (s : State) : State :=
  fniQueue 4 0x07 src.toNat token.toNat (leBytes 1 st ++ zeros 3 ++ leBytes 4 n) false s

/-- A SEG_ACK for the next segment expected. -/
def segAck (src token : BitVec 7) (next st : Nat) (s : State) : State :=
  fniQueue 5 0x09 src.toNat token.toNat (leBytes 2 next ++ leBytes 1 st) false s

/-- The segments of a transfer of `len` bytes whose first frame carries `first`. -/
def segCount (len first : Nat) : Nat := (len - first + 61) / 62

/-- Segments from `n` on are sent: one in MODE 1, up to 32 in MODE 2. -/
def segSend (x : NdlXfer) (n : Nat) (s : State) : State :=
  forEach ((List.range' n (if x.mode = 2 then 32 else 1)).filter (· ≤ segCount x.length 56)) (fun k s =>
    fniQueue 5 0x08 x.src x.token (leBytes 2 k ++ slice x.data (56 + 62 * (k - 1)) 62) false s) s

/-- DREAD_REQ: a read or a describe (R590, R591). -/
def dreadReq (src token : BitVec 7) (payload : List Byte) (s : State) : State :=
  let s := xferAbort src token s
  let index := leAt payload 0 2
  let sub := leAt payload 2 1
  let mode := leAt payload 3 1
  let ofs := leAt payload 4 4
  let len := leAt payload 8 4
  if 3 < mode ∨ (2 ≤ mode ∧ ndlVersion s < 2) then readRsp src token 0xC6 0 0 [] s
  else if mode = 3 then
    let ((st, ty, total, data), s) := dictDescribe (nodeOf src) index sub s
    readRsp src token st ty total data s
  else if mode = 0 ∧ 56 < len then readRsp src token 0xC2 0 0 [] (dictRefuse s)
  else if 56 < len ∧ 4 ≤ s.fni.xfers.length then readRsp src token 0xC4 0 0 [] (dictRefuse s)
  else
    let ((st, ty, total, data), s) := dictRead (nodeOf src) index sub ofs len s
    let s := readRsp src token st ty total data s
    if st ≠ 0 ∨ len ≤ 56 then s
    else
      let x : NdlXfer := {
        src := src.toNat, token := token.toNat, write := false, index := index, sub := sub, mode := mode, offset := ofs,
        length := len, data := data }
      segSend x 1 (s.modFni fun f => { f with xfers := f.xfers ++ [x] })

def execNdlRxDreadReq (src dst token : BitVec 7) (payload : List Byte) (full : Bool) (s : State) : Out :=
  fniRx 0x04 12 src dst payload full (dreadReq src token payload) s

/-- A write whose bytes have all arrived: it takes effect where its CRC-32C matches, and is answered. -/
def xferFinish (src token : BitVec 7) (x : NdlXfer) (s : State) : State :=
  if crc32c x.data ≠ x.crc then writeRsp src token 0xC7 0 ((xferClose src token s).bump FNI_ERR.XFER_ABORT)
  else
    let (st, s) := dictWrite (nodeOf src) false x.index x.sub x.offset x.data 0 true (xferClose src token s)
    writeRsp src token st (if st = 0 then x.length else 0) s

/-- DWRITE_REQ: a write begins, or is done in one frame (R590, R591). -/
def dwriteReq (src token : BitVec 7) (payload : List Byte) (s : State) : State :=
  let index := leAt payload 0 2
  let sub := leAt payload 2 1
  let mode := leAt payload 3 1
  let ofs := leAt payload 4 4
  let len := leAt payload 8 4
  let first := min 48 len
  if payload.length < 16 + first then s
  else
    let s := xferAbort src token s
    let x : NdlXfer := {
      src := src.toNat, token := token.toNat, write := true, index := index, sub := sub, mode := mode, offset := ofs,
      length := len, data := slice payload 16 first, crc := leAt payload 12 4 }
    let refuse (st : Nat) : State :=
      writeRsp src token st 0 (dictRefuse (s.logDict index sub st ofs len 0 (x.data.take 16) (0x80 + src.toNat)))
    if 3 < mode ∨ (2 ≤ mode ∧ ndlVersion s < 2) then writeRsp src token 0xC6 0 s
    else if mode = 3 then refuse 0xC3
    else if mode = 0 ∧ 48 < len then refuse 0xC2
    else if len ≤ 48 then xferFinish src token x s
    else match dictEntry index sub s with
      | none => refuse 0xC0
      | some e =>
        if !dictRight 1 true index sub e s then refuse 0xC1
        else if !dictFits true index sub ofs len e s then refuse 0xC2
        else if 4 ≤ s.fni.xfers.length ∨ s.fni.xfers.any (fun y => y.index == index && y.sub == sub) then refuse 0xC4
        else s.modFni fun f => { f with xfers := f.xfers ++ [x] }

def execNdlRxDwriteReq (src dst token : BitVec 7) (payload : List Byte) (full : Bool) (s : State) : Out :=
  fniRx 0x06 16 src dst payload full (dwriteReq src token payload) s

/-- A DREAD_RSP: the FQX requests no reads, so it answers none of the node's. -/
def execNdlRxDreadRsp (src dst _token : BitVec 7) (payload : List Byte) (full : Bool) (s : State) : Out :=
  fniRx 0x05 8 src dst payload full (fun s => s) s

/-- A DWRITE_RSP: the FQX requests no writes, so it answers none of the node's. -/
def execNdlRxDwriteRsp (src dst _token : BitVec 7) (payload : List Byte) (full : Bool) (s : State) : Out :=
  fniRx 0x07 8 src dst payload full (fun s => s) s

/-- A SEG of a write: the expected one is taken; a gap makes the node repeat the number it expects (R590). -/
def segRx (src token : BitVec 7) (payload : List Byte) (s : State) : State :=
  match xferOf src token s with
  | none => s
  | some x =>
    let need := min 62 (x.length - x.data.length)
    if !x.write || decide (payload.length < 2 + need) then s
    else if leAt payload 0 2 ≠ x.next % 65536 then segAck src token x.next 0 (xferPut src token { x with run := 0 } s)
    else
      let y := { x with data := x.data ++ slice payload 2 need, next := x.next + 1, run := x.run + 1 }
      let all := decide (y.length ≤ y.data.length)
      let ack := all || x.mode == 1 || y.run == 32
      let s := xferPut src token { y with run := if ack then 0 else y.run } s
      let s := if ack then segAck src token y.next 0 s else s
      if all then xferFinish src token y s else s

def execNdlRxSeg (src dst token : BitVec 7) (payload : List Byte) (full : Bool) (s : State) : Out :=
  fniRx 0x08 2 src dst payload full (segRx src token payload) s

/-- A SEG_ACK of a read: the sender goes on from the segment expected; beyond the last the transfer is done. -/
def segAckRx (src token : BitVec 7) (payload : List Byte) (s : State) : State :=
  match xferOf src token s with
  | none => s
  | some x =>
    let n := leAt payload 0 2
    if x.write then s
    else if leAt payload 2 1 = 0xC7 then xferAbort src token s
    else if leAt payload 2 1 ≠ 0 ∨ segCount x.length 56 < n then xferClose src token s
    else if n = 0 then s
    else segSend x n (xferPut src token { x with next := n } s)

def execNdlRxSegAck (src dst token : BitVec 7) (payload : List Byte) (full : Bool) (s : State) : Out :=
  fniRx 0x09 3 src dst payload full (segAckRx src token payload) s

/-- An ABORT ends the open transfer with nothing changed. -/
def execNdlRxAbort (src dst token : BitVec 7) (payload : List Byte) (full : Bool) (s : State) : Out :=
  fniRx 0x0B 1 src dst payload full (xferAbort src token) s

/-- The other side has sent nothing for 1,000 ms: the transfer is aborted with 0xC7 (R591). -/
def execNdlTransferTimeout (src token : BitVec 7) (s : State) : Out :=
  s.onRetention fun s =>
    if (xferOf src token s).isSome then fniQueue 4 0x0B src.toNat token.toNat (leBytes 1 0xC7) false (xferAbort src token s) else s

/-! ### Heartbeats (R593, R596) -/

/-- A HEARTBEAT to every node. -/
def fniBeat (s : State) : State :=
  let now := s.now
  let head := beatNow s
  fniQueue 6 0x0A 0 0 (head.map (BitVec.ofNat 8) ++ leBytes 1 (fltHealth s) ++ leBytes 5 s.opSeconds) false
    (s.modFni fun f => { f with beat := head, beatAt := some now })

/-- Whether the node sends heartbeats: it has joined and the period is not 0. -/
def fniBeats (s : State) : Bool := fniOn s && !s.fni.hellos.contains none && dictNat 0x3002 0 1000 s != 0

/-- The heartbeat period ends. -/
def execNdlHeartbeatTimer (s : State) : Out := s.onRetention fun s => s.when (fniBeats s) fniBeat

/-- A change of what the heartbeat tells is sent, never within 100 ms of the last. -/
def execNdlHeartbeatChange (s : State) : Out :=
  s.onRetention fun s =>
    s.when (fniBeats s && s.fni.beat != beatNow s &&
      (match s.fni.beatAt with | some t => decide (t + 10000000 ≤ s.now) | none => true)) fniBeat

end Sys2Proof.Machine
end

