-- ==== Sys2Proof/Machine/Pcie.lean ====
section
/-! DEFINITION. The PCIe endpoint: the link, configuration space, error reports, MSI-X, Bus Master Enable, power states and resets
(R512 to R539). -/

namespace Sys2Proof.Machine

def State.modPce (s : State) (f : PcieUnit → PcieUnit) : State := { s with pce := f s.pce }
def State.modNvq (s : State) (f : NvqUnit → NvqUnit) : State := { s with nvq := f s.nvq }
def State.modNvme (s : State) (f : NvmeUnit → NvmeUnit) : State := { s with nvme := f s.nvme }

/-! ### Configuration space (R516) -/

/-- A configuration dword: its index, its reset word, the bits that can be written and the bits that writing 1 clears; whether it keeps
its value through every reset of the function, and whether through a function-level reset (R537). -/
structure CfgReg where
  idx : Nat
  rst : Nat
  rw : Nat
  w1c : Nat
  sticky : Bool
  keep : Bool
  deriving DecidableEq, Repr

/-- The header and the capabilities at 0x040 to 0x0A0. What R516 does not name follows the PCI Express specification (PRESUMED). -/
def cfgHeader : List CfgReg := [
  ⟨0, 0x28161FD7, 0, 0, false, false⟩, ⟨1, 0x00100000, 0x146, 0xF9000000, false, false⟩,
  ⟨2, 0x010802B1, 0, 0, false, false⟩, ⟨3, 0, 0xFF, 0, false, false⟩,
  ⟨4, 4, 0xFFFF0000, 0, false, false⟩, ⟨5, 0, 0xFFFFFFFF, 0, false, false⟩,
  ⟨6, 4, 0xFFFFC000, 0, false, false⟩, ⟨7, 0, 0xFFFFFFFF, 0, false, false⟩,
  ⟨12, 0, 0xFFF80001, 0, false, false⟩, ⟨13, 0x40, 0, 0, false, false⟩, ⟨15, 0, 0xFF, 0, false, false⟩,
  ⟨16, 0x00035001, 0, 0, false, false⟩, ⟨17, 8, 3, 0, false, false⟩,
  ⟨20, 0x00407011, 0xC0000000, 0, false, false⟩, ⟨21, 2, 0, 0, false, false⟩, ⟨22, 0x2002, 0, 0, false, false⟩,
  ⟨28, 0x00020010, 0, 0, false, false⟩, ⟨29, 0x10008D22, 0, 0, false, false⟩,
  ⟨30, 0x2000, 0x71EF, 0xF0000, false, false⟩, ⟨31, 0x00423C25, 0, 0, false, false⟩,
  ⟨32, 0x10000000, 0x2CB, 0, false, true⟩, ⟨37, 0x3081F, 0, 0, false, false⟩, ⟨38, 0, 0x141F, 0, false, false⟩,
  ⟨39, 0x3E, 0, 0, false, false⟩, ⟨40, 5, 0xFFBF, 0x200000, false, true⟩]

/-- The extended capabilities from 0x100. -/
def cfgExtended : List CfgReg := [
  ⟨64, 0x14820001, 0, 0, false, false⟩, ⟨65, 0, 0, 0x5FF010, true, true⟩, ⟨66, 0x400000, 0x5FF010, 0, true, true⟩,
  ⟨67, 0x462010, 0x5FF010, 0, true, true⟩, ⟨68, 0, 0, 0xB1C1, true, true⟩, ⟨69, 0xA000, 0xB1C1, 0, true, true⟩,
  ⟨70, 0xA0, 0x140, 0, true, true⟩, ⟨71, 0, 0, 0, true, true⟩, ⟨72, 0, 0, 0, true, true⟩, ⟨73, 0, 0, 0, true, true⟩,
  ⟨74, 0, 0, 0, true, true⟩, ⟨82, 0x15810003, 0, 0, false, false⟩, ⟨86, 0x16810019, 0, 0, false, true⟩,
  ⟨88, 0, 0, 3, false, true⟩, ⟨90, 0x17810025, 0, 0, false, false⟩, ⟨91, 0x80000001, 0, 0, false, false⟩,
  ⟨94, 0x1A010026, 0, 0, false, true⟩, ⟨98, 0, 0, 3, false, true⟩, ⟨99, 0, 0, 3, false, true⟩, ⟨100, 0, 0, 3, false, true⟩,
  ⟨104, 0x1C81002A, 0, 0, false, true⟩, ⟨106, 0, 3, 0, false, true⟩,
  ⟨114, 0x1D810027, 0, 0, false, true⟩, ⟨116, 0, 0xFF7F, 0, false, true⟩, ⟨117, 0, 0xFF7F, 0, false, true⟩,
  ⟨118, 0x1E81001E, 0, 0, false, false⟩, ⟨119, 0x00210A1F, 0, 0, false, false⟩, ⟨120, 0, 0xE3FF000F, 0, false, true⟩,
  ⟨121, 0x28, 0xFB, 0, false, true⟩, ⟨122, 0x00010018, 0, 0, false, false⟩, ⟨123, 0, 0x1FFF1FFF, 0, false, false⟩]

def cfgReg (i : Nat) : CfgReg :=
  ((cfgHeader ++ cfgExtended).find? fun r => r.idx == i).getD ⟨i, 0, 0, 0, false, false⟩

/-- The stored word of configuration dword `i`. -/
def cfgWord (i : Nat) (s : State) : Nat :=
  match kvFind s.pce.cfg i with
  | some w => w.toNat
  | none => (cfgReg i).rst

def cfgPut (i v : Nat) (s : State) : State := s.modPce fun p => { p with
  cfg := if v = (cfgReg i).rst then kvErase p.cfg i else kvInsert p.cfg i (BitVec.ofNat 32 v) }

/-- Some bits of a configuration dword set. -/
def cfgSet (i mask : Nat) (s : State) : State := cfgPut i (cfgWord i s ||| mask) s

/-- Configuration dword `i` as it reads: identity, link status and outstanding reads come from elsewhere (R516, R517, R536). -/
def cfgRead (i : Nat) (s : State) : Nat :=
  let w := cfgWord i s
  if i = 0 then if s.variant1408 then 0x14081FD7 else w
  else if i = 11 then s.get PCE_ID.SSVID + 65536 * s.get PCE_ID.SSID
  else if i = 30 then w ||| (if s.dma.chan.toList.any fun c => c.read.isSome then 0x200000 else 0)
  else if i = 32 then w ||| (s.get PCE_STATUS.SPEED * 2 ^ 16) ||| (s.get PCE_STATUS.WIDTH * 2 ^ 20)
  else if i = 83 then s.get PCE_DSN_L.DSN_LO % 2 ^ 32
  else if i = 84 then s.get PCE_DSN_L.DSN_LO / 2 ^ 32 + 256 * s.get PCE_DSN_H.DSN_HI
  else w

/-- Bus Master Enable, Memory Space Enable, the power state, and the enables of MSI-X. -/
def pceBme (s : State) : Bool := (cfgWord 1 s).testBit 2
def pceMse (s : State) : Bool := (cfgWord 1 s).testBit 1
def pceD3 (s : State) : Bool := cfgWord 17 s % 4 == 3
def pceFlr (s : State) : Bool := s.bit PCE_FLR.BUSY

/-- Whether units may issue requests toward the host (R523, R532, R534). -/
def pceMaster (s : State) : Bool := pceBme s && !pceD3 s && !pceFlr s

/-! ### Errors (R527) -/

/-- A message toward the root complex. -/
def pceMessage (code payload : Nat) (s : State) : State := (linkWake s).modPce fun p => { p with sent := p.sent ++ [(code, payload)] }

/-- A correctable error: its status bit, the Device Status, and ERR_COR where it is neither masked nor disabled. -/
def aerCor (b : Nat) (s : State) : State :=
  let s := cfgSet 30 0x10000 (cfgSet 68 (2 ^ b) (s.set PCE_INT.AER_COR 1))
  if !(cfgWord 69 s).testBit b && (cfgWord 30 s).testBit 0 then pceMessage 0x30 0 s else s

/-- The header of a TLP is logged with the first error pointer; where an earlier one has not been read the log overflows. -/
def aerHeader (b hdr : Nat) (s : State) : State :=
  let cap := cfgWord 70 s
  if (cfgWord 65 s).testBit (cap % 32) && cap % 32 != b then aerCor 15 s
  else
    let s := cfgPut 70 (cap - cap % 32 + b) s
    cfgPut 71 (bits hdr 96 32) (cfgPut 72 (bits hdr 64 32) (cfgPut 73 (bits hdr 32 32) (cfgPut 74 (bits hdr 0 32) s)))

/-- An uncorrectable error, which R527 reports as advisory in some cases. -/
def aerUncor (b hdr : Nat) (advisory : Bool) (s : State) : State :=
  let masked := (cfgWord 66 s).testBit b
  let s := if masked then s else aerHeader b hdr s
  let s := cfgSet 65 (2 ^ b) s
  let fatal := (cfgWord 67 s).testBit b
  if advisory && !fatal then aerCor 13 s
  else
    let s := cfgSet 30 (if fatal then 0x40000 else 0x20000) (s.set PCE_INT.AER_UNCOR 1)
    let enabled := (cfgWord 30 s).testBit (if fatal then 2 else 1) || (cfgWord 1 s).testBit 8
    if !masked && enabled then pceMessage (if fatal then 0x33 else 0x31) 0 s else s

/-- A request that is answered or logged as Unsupported Request: advisory for a posted request. -/
def pceUr (posted : Bool) (hdr : Nat) (s : State) : State :=
  let s := cfgSet 30 0x80000 (s.bump PCE_ERR.UR)
  (aerUncor 20 hdr posted s).modPce fun p => { p with reply := if posted then .none else .ur }

/-- A poisoned TLP is reported (R529). -/
def pcePoison (hdr : Nat) (advisory : Bool) (s : State) : State :=
  aerUncor 12 hdr advisory ((s.bump PCE_ERR.POISON_RX).set PCE_INT.POISON_RX 1)

/-- An error that PCE detects (R527): counted, reported, and with its effect in the FQX. -/
def pceError (k : AerKind) (hdr : Nat) (s : State) : State :=
  let retrain (s : State) : State := s.when (s.bit PCE_STATUS.LINK_UP) (·.set PCE_STATUS.LINK_STATE 4)
  match k with
  | .receiver => aerCor 0 (s.bump PCE_ERR.RX_ERR)
  | .badTlp => aerCor 6 (s.bump PCE_ERR.RX_ERR)
  | .badDllp => aerCor 7 (s.bump PCE_ERR.RX_ERR)
  | .replayRollover => aerCor 8 (s.bump PCE_ERR.REPLAY)
  | .replayTimer => aerCor 12 (s.bump PCE_ERR.REPLAY)
  | .dataLink => retrain (aerUncor 4 hdr false s)
  | .flowControl => retrain (aerUncor 13 hdr false s)
  | .overflow => retrain (aerUncor 17 hdr false s)
  | .malformed => aerUncor 18 hdr false s
  | .ecrc => aerUncor 19 hdr false s
  | .unexpected => aerUncor 16 hdr true s
  | .internal => (aerUncor 22 hdr false s).raise 101

def execPcieAerError (k : AerKind) (hdr : BitVec 128) (s : State) : Out := s.onCore (pceError k hdr.toNat)

def execPceClrCnt (s : State) : Out :=
  s.onCore (·.clearAll [PCE_ERR.CPL_TIMEOUT, PCE_ERR.POISON_RX, PCE_ERR.UR, PCE_ERR.REPLAY, PCE_ERR.RX_ERR])

/-! ### MSI-X (R521, R522) -/

/-- A dword of the MSI-X table; after a reset every entry is masked. -/
def msixWord (i : Nat) (s : State) : Nat :=
  match kvFind s.pce.msix i with
  | some w => w.toNat
  | none => if i % 4 = 3 then 1 else 0

/-- A table dword written: the address is dword-aligned, and of the vector control only the mask can be written. -/
def msixPut (i v : Nat) (s : State) : State :=
  let v := if i % 4 = 3 then v % 2 else if i % 4 = 0 then v / 4 * 4 else v
  s.modPce fun p => { p with msix := kvInsert p.msix i (BitVec.ofNat 32 v) }

/-- Whether the message of a vector can be sent. -/
def msixOpen (v : Nat) (s : State) : Bool :=
  let ctl := cfgWord 20 s
  msixWord (4 * v + 3) s % 2 == 0 && !ctl.testBit 30 && ctl.testBit 31 && pceMaster s

def msixSend (v : Nat) (s : State) : State :=
  hostWrite (msixWord (4 * v) s + 2 ^ 32 * msixWord (4 * v + 1) s) ((leBytes 4 (msixWord (4 * v + 2) s)).map fun b => (b, false)) s

/-- A vector is raised: its message is sent, or its PBA bit is set. -/
def msixRaise (v : Nat) (s : State) : State :=
  if msixOpen v s then msixSend v s
  else s.modPce fun p => { p with pba := if v ∈ p.pba then p.pba else p.pba ++ [v] }

def execMsixRaise (v : Fin 65) (s : State) : Out := s.onCore (msixRaise v.val)

/-- Every pending message whose conditions have cleared is sent. -/
def msixFlush (s : State) : State :=
  forEach s.pce.pba (fun v s =>
    if msixOpen v s then msixSend v (s.modPce fun p => { p with pba := p.pba.filter (· != v) }) else s) s

def execMsixPendingSend (s : State) : Out := s.onCore msixFlush

/-! ### Bus Master Enable and the power states (R523, R532, R533) -/

/-- Requests toward the host stop: host channels pause and NVQ fetches nothing. -/
def pceQuiet (s : State) : State := (dmaHostPause s).set NVQ_STATUS.FETCH_STOP 1

/-- Requests toward the host go on: descriptors cut short end, and held messages are sent. -/
def pceResume (s : State) : State := msixFlush ((dmaHostResume s).set NVQ_STATUS.FETCH_STOP 0)

/-- Bus Master Enable takes a value. -/
def pceSetBme (on : Bool) (s : State) : State :=
  if pceBme s == on then s
  else
    let w := cfgWord 1 s
    let s := cfgPut 1 (if on then w + 4 else w - 4) s
    let s := (s.set PCE_STATUS.BME (boolNat on)).set PCE_INT.BME 1
    if pceFlr s || pceD3 s then s else if on then pceResume s else pceQuiet s

/-- The power state changes to D3hot or back to D0; No_Soft_Reset is 1. -/
def pceSetD3 (d3 : Bool) (s : State) : State :=
  if pceD3 s == d3 then s
  else
    let w := cfgWord 17 s
    let s := cfgPut 17 (w - w % 4 + (if d3 then 3 else 0)) s
    let s := (s.set PCE_STATUS.DSTATE (if d3 then 3 else 0)).set PCE_INT.DSTATE 1
    if pceFlr s || !pceBme s then s else if d3 then pceQuiet s else pceResume s

/-! ### Resets (R534 to R538) -/

/-- What firmware does when the controller is disabled or reset (R576): every command and unposted entry is discarded, every queue is
disabled, and the track programs end. -/
def nvmeStop (s : State) : State :=
  let s := (s.modNvq fun n => { n with cmds := [], unannounced := [], turns := List.range' 1 64, burst := .replicate 4 (0, 0),
                                       round := .replicate 3 0 }).modNvme fun n => { n with waiting := [], events := [], masked := [] }
  let s := forEach (List.range 65) (fun q s => (s.set (NVQ_SQ.EN q) 0).set (NVQ_CQ.EN q) 0) s
  let s := forEach (List.range 8) (fun r s => s.set (NVQ_CR_PTR.CONS r) (s.get (NVQ_CR_PTR.PROD r))) s
  let s := ((s.set NVQ_POST_PTR.CONS (s.get NVQ_POST_PTR.PROD)).set NVQ_STATUS.CQ_WAIT 0).set NVQ_INT.RING 0
  let s := (s.set NVQ_CSTS.RDY 0).set NVQ_CSTS.CFS 0
  wpFinish 1 (wpFinish 0 s)

/-- A reset of the function begins; firmware resets the controller state behind PCE_INT.FLR (R534, R535, R537). -/
def pceResetStart (hot : Bool) (s : State) : State :=
  let s := if hot then (s.set PCE_INT.HOT_RESET 1).modPce fun p => { p with hot := true } else s
  if pceFlr s then s
  else
    let s := ((s.set PCE_FLR.BUSY 1).set PCE_STATUS.FLR_BUSY 1).set PCE_INT.FLR 1
    let s := ((dmaHostReset s).set DMA_HOST.BME_OFF 1).set NVQ_STATUS.FETCH_STOP 1
    let s := nvmeStop s
    (s.modNvq fun n => { n with cc := 0, aqa := 0, asq := 0, acq := 0 }).set NVQ_CC.CC 0 |>.set NVQ_CSTS.SHST 0

/-- Configuration space returns to its reset values with the exceptions of R537, and requests are accepted again. -/
def pceResetEnd (s : State) : State :=
  let hot := s.pce.hot
  let s := s.modPce fun p => { p with
    cfg := p.cfg.filter fun r => (cfgReg r.1).sticky || ((cfgReg r.1).keep && !hot), msix := [], pba := [], hot := false, ltr := none }
  s.clearAll [PCE_FLR.BUSY, PCE_STATUS.FLR_BUSY, PCE_STATUS.BME, PCE_STATUS.MSE, PCE_STATUS.DSTATE]

/-- Writing PCE_FLR.COMPLETE. -/
def pceComplete (s : State) : State := s.when (pceFlr s && s.bit DMA_HOST.FLR_DONE) pceResetEnd

def execPceFlrComplete (s : State) : Out := s.onCore pceComplete

/-- NVQ returns to its power-on state. -/
def nvqPowerOn (s : State) : State :=
  { s with regs := s.regs.filter fun r => decide (r.1 < 0x0F00580000 ∨ 0x0F00600000 ≤ r.1), nvq := {} }

/-- 10 ms without COMPLETE: PCE completes the reset on its own. -/
def execPcieFlrForced (s : State) : Out :=
  s.onCore fun s => s.when (pceFlr s) fun s => ((pceResetEnd (nvqPowerOn s)).set PCE_FLR.FORCED 1).raise 100

def execPcieFlrInitiate (s : State) : Out := s.onCore (pceResetStart false)

/-- The data link goes down. -/
def linkOff (s : State) : State :=
  let s := s.when (s.bit PCE_STATUS.LINK_UP) (·.set PCE_INT.LINK_DOWN 1)
  s.clearAll [PCE_STATUS.LINK_UP, PCE_STATUS.LINK_STATE, PCE_STATUS.WIDTH, PCE_STATUS.SPEED]

def execPcieLinkDown (s : State) : Out :=
  s.onCore fun s => s.when (s.bit PCE_STATUS.LINK_UP) fun s => pceResetStart true (linkOff s)

/-- A hot reset over the link, or PCIE_PERST_N low, which also holds the LTSSM in Detect. -/
def execPcieHotReset (perst : Bool) (s : State) : Out :=
  s.onCore fun s =>
    if perst then pceResetStart true ((linkOff s).set PCE_STATUS.PERST 1)
    else s.when (s.bit PCE_STATUS.LINK_UP) fun s => pceResetStart true (linkOff s)

/-! ### The link (R512, R514, R524 to R526) -/

/-- PCE_CTRL.LTSSM_EN takes a value; clearing it with the link up acts as a link-down (R538). -/
def pceLtssm (on : Bool) (s : State) : State :=
  let up := s.bit PCE_STATUS.LINK_UP
  let s := s.set PCE_CTRL.LTSSM_EN (boolNat on)
  if !on && up then pceResetStart true (linkOff s) else s

/-- The level of PCIE_PERST_N, with what the link partner offers in width (1, 2) and speed (1 to 5): with it high and LTSSM_EN set
the link trains to the best both sides offer. -/
def execPcieLinkTraining (perst : Bool) (width : Fin 2) (speed : Fin 5) (s : State) : Out :=
  s.onCore fun s =>
    if perst then s.set PCE_STATUS.PERST 1
    else
      let s := s.set PCE_STATUS.PERST 0
      if !s.bit PCE_CTRL.LTSSM_EN || !s.power.pciePhy then s
      else
        let w := min (width.val + 1) (if s.get PCE_CTRL.MAX_WIDTH = 1 then 1 else 2)
        let m := s.get PCE_CTRL.MAX_SPEED
        let v := min (speed.val + 1) (if m = 0 ∨ 5 < m then 5 else m)
        let up := s.bit PCE_STATUS.LINK_UP
        let same := s.get PCE_STATUS.WIDTH = w ∧ s.get PCE_STATUS.SPEED = v
        let s := ((s.set PCE_STATUS.WIDTH w).set PCE_STATUS.SPEED v).set PCE_STATUS.LINK_STATE 3
        let s := if up then s else (s.set PCE_STATUS.LINK_UP 1).set PCE_INT.LINK_UP 1
        if same then s else s.set PCE_INT.SPEED_WIDTH 1

/-- Link Control enables L0s: an idle transmitter enters it. -/
def execAspmL0sEntry (s : State) : Out :=
  s.onCore fun s => s.when (s.get PCE_STATUS.LINK_STATE == 3 && (cfgWord 32 s).testBit 0) (·.set PCE_STATUS.LINK_STATE 5)

/-- The latency of the last LTR message is at least LTR_L1.2_THRESHOLD, both in ns. -/
def ltrPasses (s : State) : Bool :=
  let c := cfgWord 120 s
  match s.pce.ltr with
  | some us => decide (bits c 16 10 * 32 ^ bits c 29 3 ≤ us * 1000)
  | none => false

/-- Link Control enables L1: an idle link with no completion outstanding enters it, and from it L1.2 or L1.1 where enabled. -/
def execAspmL1Entry (s : State) : Out :=
  s.onCore fun s =>
    let st := s.get PCE_STATUS.LINK_STATE
    if (st != 3 && st != 5) || !(cfgWord 32 s).testBit 1 || s.dma.chan.toList.any (fun c => c.read.isSome || decide (0 < c.stale)) then s
    else
      let c := cfgWord 120 s
      s.set PCE_STATUS.LINK_STATE (if c.testBit 2 && ltrPasses s then 8 else if c.testBit 3 then 7 else 6)

def execAspmExit (s : State) : Out := s.onCore linkWake

/-- The latency that PCE reports, in µs: 15 while a command is outstanding or a submission queue holds one unfetched, 3,000 otherwise;
a message goes out when the value changes and LTR is enabled. -/
def execLtrSend (s : State) : Out :=
  s.onCore fun s =>
    let busy := !s.nvq.cmds.isEmpty ||
      (List.range 65).any fun q => s.bit (NVQ_SQ.EN q) && s.get (NVQ_SQ_PTR.TAIL q) != s.get (NVQ_SQ_PTR.HEAD q)
    let us := if busy then 15 else 3000
    if !(cfgWord 38 s).testBit 10 || !s.bit PCE_STATUS.LINK_UP || s.pce.ltr == some us then s
    else (pceMessage 0x10 us s).modPce fun p => { p with ltr := some us }

/-! ### Requests of the host -/

/-- The bytes enabled of a dword as a mask. -/
def byteMask (be : Nat) : Nat := (List.range 4).foldl (fun m i => if be.testBit i then m + 0xFF * 256 ^ i else m) 0

/-- A configuration write: the writable bits take their values, and the rest of its effect follows. -/
def cfgWrite (i be data : Nat) (s : State) : State :=
  let r := cfgReg i
  let m := byteMask be
  let old := cfgWord i s
  let merged := (old ^^^ (old &&& (r.rw &&& m))) ||| (data &&& (r.rw &&& m))
  let new := merged ^^^ (merged &&& (r.w1c &&& m &&& data))
  if i = 1 then
    let bme := new.testBit 2
    let s := (cfgPut 1 (if pceBme s then new ||| 4 else new ^^^ (new &&& 4)) s).set PCE_STATUS.MSE (boolNat (new.testBit 1))
    pceSetBme bme s
  else if i = 17 then if new % 4 = 0 ∨ new % 4 = 3 then pceSetD3 (new % 4 == 3) s else s
  else
    let s := cfgPut i new s
    if i = 30 ∧ (data &&& m).testBit 15 then pceResetStart false s else s

/-- A configuration request with its byte enables and data (R514, R529). -/
def execPcieConfigRequest (write : Bool) (i : BitVec 10) (be : BitVec 4) (data : BitVec 32) (ep : Bool) (s : State) : Out :=
  s.onCore fun s =>
    if !s.bit PCE_STATUS.LINK_UP then s
    else
      let s := linkWake s
      let answer (r : HostReply) (s : State) : State := s.modPce fun p => { p with reply := r }
      if !s.bit PCE_CTRL.CFG_READY then answer .crs s
      else if !write then answer (.data (leBytes 4 (cfgRead i.toNat s))) s
      else if ep then (pcePoison data.toNat false (s.bump PCE_ERR.UR)).modPce fun p => { p with reply := .ur }
      else answer .done (cfgWrite i.toNat be.toNat data.toNat s)

def execPcieBmeClear (s : State) : Out := s.onCore (pceSetBme false)
def execPcieBmeSet (s : State) : Out := s.onCore (pceSetBme true)
def execPcieD3hotEntry (s : State) : Out := s.onCore (pceSetD3 true)
def execPcieD0Return (s : State) : Out := s.onCore (pceSetD3 false)

/-- A read of `n` bytes of the expansion ROM window; `err` is an error of the flash (R519, R520). -/
def execPcieXromRead (ofs : BitVec 19) (n : BitVec 13) (err : Bool) (s : State) : Out :=
  s.onCore fun s =>
    if !s.bit PCE_STATUS.LINK_UP then s
    else
      let s := linkWake s
      let o := ofs.toNat
      if !pceMse s || pceD3 s || pceFlr s || !(cfgWord 12 s).testBit 0 || decide (2 ^ 19 < o + n.toNat) then pceUr false o s
      else if !s.bit PCE_XROM.VALID then s.modPce fun p => { p with reply := .data (zeros n.toNat) }
      else if err then (aerUncor 15 o false (s.set PCE_INT.XROM_ERR 1)).modPce fun p => { p with reply := .ca }
      else s.modPce fun p => { p with reply := .data (flashRead (s.get PCE_XROM.BASE * 65536 + o) n.toNat s) }

/-! ### Completions for host-class reads (R501, R528, R529) -/

/-- A completion with its status (0 successful, 1 Unsupported Request, 2 Completer Abort), data and EP bit; `old` marks one for a read
that its channel no longer awaits. -/
def execPcieCompletionRx (k : Fin 8) (status : Fin 3) (data : List Byte) (ep old : Bool) (s : State) : Out :=
  s.onCore fun s =>
    let c : Fin 32 := ⟨k.val, by omega⟩
    match (if old then none else s.dma.chan[c].read), s.dma.chan[c].desc with
    | some r, some d =>
      let s := s.modCh c fun x => { x with read := none }
      let fault (e : DmaErr) (s : State) : State := dmaFault c e .element d.ord d.hops d.done d.cur s
      if status ≠ 0 then
        if r.tries < s.get (DMA_CH_CFG.RETRY c) then s.modCh c fun x => { x with read := some { r with tries := r.tries + 1 } }
        else fault { kind := 0x11, source := 0, addr := r.addr, tries := r.tries } s
      else
        let s := if ep then pcePoison r.addr true s else s
        match dmaWrite c 1 r.local_ (((data ++ zeros r.len).take r.len).map fun b => (b, ep)) s with
        | (some (e, _), s) => fault e s
        | (none, s) => dmaAdvance c r.len d (hostMoved r.len s)
    | _, _ =>
      if 0 < s.dma.chan[c].stale then s.modCh c fun x => { x with stale := x.stale - 1 }
      else pceError .unexpected k.val s

/-- The Completion Timeout of the read of a channel, or of one that was cut off by Bus Master Enable. -/
def execPcieCompletionTimeout (k : Fin 8) (s : State) : Out :=
  s.onCore fun s =>
    let c : Fin 32 := ⟨k.val, by omega⟩
    let report (s : State) : State := aerUncor 14 k.val false (s.bump PCE_ERR.CPL_TIMEOUT)
    match s.dma.chan[c].read, s.dma.chan[c].desc with
    | some r, some d =>
      dmaFault c { kind := 0x12, source := 0, addr := r.addr, tries := r.tries } .element d.ord d.hops d.done d.cur
        (report (s.modCh c fun x => { x with read := none }))
    | _, _ => if 0 < s.dma.chan[c].stale then report (s.modCh c fun x => { x with stale := x.stale - 1 }) else s

end Sys2Proof.Machine
end

