-- ==== Sys2Proof/Machine/Nvq.lean ====
section
/-! DEFINITION. The NVMe queue engine: the host's registers and doorbells, arbitration, command rings, posts and coalescing (R518,
R519, R543 to R550, R578). -/

namespace Sys2Proof.Machine

/-! ### Rings (R546, R547, R578) -/

/-- Entries of a ring whose SIZE_LOG2 acts as 4 outside 4 to `top`. -/
def ringEntries (log top : Nat) : Nat := 2 ^ (if 4 ≤ log ∧ log ≤ top then log else 4)

def crEntries (r : Nat) (s : State) : Nat := ringEntries (s.get (NVQ_CR_PTR.SIZE_LOG2 r)) 11
def postEntries (s : State) : Nat := ringEntries (s.get NVQ_POST_PTR.SIZE_LOG2) 12

/-- NVQ_INT.RING bit r follows its ring. -/
def crShow (r : Nat) (s : State) : State :=
  let n := crEntries r s
  s.set NVQ_INT.RING (setBits (s.get NVQ_INT.RING) r 1
    (boolNat (s.get (NVQ_CR_PTR.PROD r) % n != s.get (NVQ_CR_PTR.CONS r) % n)))

def crFull (r : Nat) (s : State) : Bool :=
  (s.get (NVQ_CR_PTR.PROD r) + 1) % crEntries r s == s.get (NVQ_CR_PTR.CONS r) % crEntries r s

/-- A unit's write toward a ring; one that no region takes is lost. -/
def unitWrite (a : Nat) (l : List Byte) (s : State) : State := if (accessFail .dma true a l.length s).isNone then s.writeBytes a l else s

/-! ### Arbitration and fetch (R545, R546) -/

def sqReady (q : Nat) (s : State) : Bool := s.bit (NVQ_SQ.EN q) && s.get (NVQ_SQ_PTR.TAIL q) != s.get (NVQ_SQ_PTR.HEAD q)

def sqTakes (q : Nat) (s : State) : Bool := sqReady q s && !crFull (s.get (NVQ_SQ.RING q)) s

/-- The commands of one turn. -/
def arbBurst (s : State) : Nat := 2 ^ min 6 (s.get NVQ_ARB.AB)

/-- The commands that class 1, 2 or 3 has in a round. -/
def arbWeight (c : Nat) (s : State) : Nat :=
  (if c = 1 then s.get NVQ_ARB.HPW else if c = 2 then s.get NVQ_ARB.MPW else s.get NVQ_ARB.LPW) + 1

/-- The queue that a class serves next: the one whose turn runs, or the first in turn. -/
def classPick (c : Fin 4) (s : State) : Option Nat :=
  let (q, n) := s.nvq.burst[c]
  if q != 0 && decide (n < arbBurst s) && s.get (NVQ_SQ.QPRIO q) == c.val && sqTakes q s then some q
  else s.nvq.turns.find? fun q => s.get (NVQ_SQ.QPRIO q) == c.val && sqTakes q s

/-- The next queue: the admin SQ, the urgent class, then the weighted classes, whose round starts afresh when none with a command has
any left. -/
def sqPick (s : State) : Option Nat × State :=
  if sqTakes 0 s then (some 0, s)
  else match classPick 0 s with
    | some q => (some q, s)
    | none =>
      let try' (s : State) : Option Nat := ([1, 2, 3] : List (Fin 4)).findSome? fun c =>
        if s.nvq.round.toList.getD (c.val - 1) 0 < arbWeight c.val s then classPick c s else none
      match try' s with
      | some q => (some q, s)
      | none =>
        let s := s.modNvq fun n => { n with round := .replicate 3 0 }
        (try' s, s)

/-- The turns behind a command of queue `q`: a queue that has had its turn goes last, with the empty ones of its class before it; a
queue skipped for its full ring keeps its place. -/
def sqTurn (q : Nat) (s : State) : State :=
  if q = 0 then s
  else
    let c : Fin 4 := Fin.ofNat 4 (s.get (NVQ_SQ.QPRIO q))
    let n := (if s.nvq.burst[c].1 = q then s.nvq.burst[c].2 else 0) + 1
    let s := s.modNvq fun x => { x with round :=
      if h : c.val - 1 < 3 then (if c.val = 0 then x.round else x.round.set (c.val - 1) (x.round[c.val - 1] + 1)) else x.round }
    if n < arbBurst s ∧ sqReady q s then s.modNvq fun x => { x with burst := x.burst.set c (q, n) }
    else
      let pre := s.nvq.turns.takeWhile (· != q)
      let post := (s.nvq.turns.dropWhile (· != q)).drop 1
      let passed (x : Nat) : Bool := s.get (NVQ_SQ.QPRIO x) == c.val && !sqReady x s
      s.modNvq fun x => { x with burst := x.burst.set c (0, 0),
                                 turns := pre.filter (fun y => !passed y) ++ post ++ pre.filter passed ++ [q] }

/-- A command of queue `q` enters its command ring. -/
def sqFetch (q : Nat) (raw : List Byte) (s : State) : State :=
  let r := s.get (NVQ_SQ.RING q)
  let head := (s.get (NVQ_SQ_PTR.HEAD q) + 1) % (s.get (NVQ_SQ.SIZE q) + 1)
  let p := s.get (NVQ_CR_PTR.PROD r) % crEntries r s
  let s := s.set (NVQ_SQ_PTR.HEAD q) head
  let s := unitWrite (128 * s.get (NVQ_CR_BASE.BASE r) + 128 * p)
    (raw ++ leBytes 2 q ++ leBytes 2 head ++ leBytes 8 s.now ++ zeros 52) s
  let s := (s.set (NVQ_CR_PTR.PROD r) ((p + 1) % crEntries r s)).bump NVQ_CNT.FETCHED
  crShow r (sqTurn q (s.modNvq fun n => { n with cmds := n.cmds ++ [{ sq := q, cid := leAt raw 2 2, raw := raw }] }))

/-- NVQ fetches while a ring has room and requests may go to the host; the list is what host memory returns, in the order of the
fetches. -/
def nvqFetch : List (BitVec 512) → State → State
  | [], s => s
  | e :: rest, s =>
    if !s.bit NVQ_CTRL.ENABLE || !pceMaster s then s
    else match sqPick s with
      | (some q, s) => nvqFetch rest (sqFetch q (leBytes 64 e.toNat) s)
      | (none, s) => s

/-! ### Posts (R547 to R549) -/

/-- A vector is raised for the entries that it has not announced. -/
def vectorRaise (v : Nat) (s : State) : State :=
  msixRaise v (s.modNvq fun n => { n with unannounced := kvErase n.unannounced v })

/-- One more unannounced entry on a vector with interrupts enabled. -/
def vectorCount (q : Nat) (immediate : Bool) (s : State) : State :=
  let v := s.get (NVQ_CQ.IV q)
  if !s.bit (NVQ_CQ.IEN q) then s
  else
    let (n, t) := (kvFind s.nvq.unannounced v).getD (0, s.now)
    if v == 0 || s.bit (NVQ_CQ.CD q) || immediate || s.get NVQ_COAL.TIME == 0 || decide (s.get NVQ_COAL.THR + 1 ≤ n + 1) then vectorRaise v s
    else s.modNvq fun x => { x with unannounced := kvInsert x.unannounced v (n + 1, t) }

/-- A completion entry is written to the host's CQ; the SQ is that of the oldest command with the CID whose queue posts to this CQ. -/
def cqWrite (q : Nat) (e : List Byte) (s : State) : State :=
  let cid := leAt e 12 2
  let mine (c : NvmeCmd) : Bool := c.cid == cid && s.get (NVQ_SQ.CQID c.sq) == q
  let (sq, s) := match s.nvq.cmds.find? mine with
    | some c => (c.sq, s)
    | none => s.fresh
  let size := s.get (NVQ_CQ.SIZE q) + 1
  let tail := s.get (NVQ_CQ_PTR.TAIL q)
  let ph := s.get (NVQ_CQ.PHASE q)
  let entry := e.take 8 ++ leBytes 2 (s.get (NVQ_SQ_PTR.HEAD (sq % 65))) ++ leBytes 2 sq ++ leBytes 2 cid ++
    leBytes 2 (leAt e 14 2 / 2 * 2 + ph)
  let s := hostWrite (4096 * s.get (NVQ_CQ_ADDR.PAGE q) + 16 * tail) (entry.map fun b => (b, false)) s
  let s := (s.set (NVQ_CQ_PTR.TAIL q) ((tail + 1) % size)).bump NVQ_CNT.POSTED
  let s := if tail + 1 < size then s else s.set (NVQ_CQ.PHASE q) (1 - ph)
  let s := s.modNvq fun n => { n with cmds := match n.cmds.find? mine with | some c => n.cmds.erase c | none => n.cmds }
  vectorCount q ((leAt e 18 1).testBit 0) s

def cqFull (q : Nat) (s : State) : Bool :=
  (s.get (NVQ_CQ_PTR.TAIL q) + 1) % (s.get (NVQ_CQ.SIZE q) + 1) == s.get (NVQ_CQ_PTR.HEAD q)

/-- NVQ takes post entries in ring order until one waits. -/
def nvqPost : (fuel : Nat) → State → State
  | 0, s => s
  | fuel + 1, s =>
    let n := postEntries s
    let c := s.get NVQ_POST_PTR.CONS % n
    if c = s.get NVQ_POST_PTR.PROD % n then s.set NVQ_STATUS.CQ_WAIT 0
    else if !s.bit NVQ_CTRL.ENABLE || !pceMaster s then s
    else
      let e := s.readBytes (32 * s.get NVQ_POST_BASE.BASE + 32 * c) 32
      let q := leAt e 16 2
      let next (s : State) : State := s.set NVQ_POST_PTR.CONS ((c + 1) % n)
      if 64 < q ∨ !s.bit (NVQ_CQ.EN q) then nvqPost fuel (next (s.set NVQ_INT.POST_ERR 1))
      else if cqFull q s then
        let s := if s.bit NVQ_STATUS.CQ_WAIT then s else s.set NVQ_INT.CQ_WAIT 1
        (s.set NVQ_STATUS.CQ_WAIT 1).set NVQ_STATUS.WAIT_CQ q
      else nvqPost fuel (next (cqWrite q e s))

/-- NVQ_POST_PTR.PROD advances. -/
def nvqProd (prod : Nat) (s : State) : State := nvqPost 4096 (s.set NVQ_POST_PTR.PROD prod)

def execNvqPost (prod : BitVec 12) (s : State) : Out := s.onCore (nvqProd prod.toNat)

/-- TIME × 100 µs have passed since the first unannounced entry of a vector. -/
def execNvqCoalTimeout (v : Fin 65) (s : State) : Out :=
  s.onCore fun s => s.when (kvFind s.nvq.unannounced v.val).isSome (vectorRaise v.val)

def execNvqClrCnt (s : State) : Out := s.onCore (·.clearAll [NVQ_CNT.POSTED, NVQ_CNT.FETCHED])

/-! ### What firmware posts (R547, R577) -/

/-- Post entries that firmware holds enter the ring while it has room. -/
def postDrain : (fuel : Nat) → State → State
  | 0, s => s
  | fuel + 1, s =>
    match s.nvme.waiting with
    | [] => s
    | e :: rest =>
      let n := postEntries s
      let p := s.get NVQ_POST_PTR.PROD % n
      if (p + 1) % n = s.get NVQ_POST_PTR.CONS % n then s
      else
        let s := s.modNvme fun x => { x with waiting := rest }
        postDrain fuel (nvqProd ((p + 1) % n) (unitWrite (32 * s.get NVQ_POST_BASE.BASE + 32 * p) e s))

/-- A status of R574 as the status field of a completion: SCT, code, CRD and DNR. -/
structure NvmeStatus where
  sct : Nat := 0
  code : Nat := 0
  crd : Nat := 0
  dnr : Bool := false
  deriving DecidableEq, Repr

/-- A status with DNR 1. -/
def nvmeErr (sct code : Nat) : NvmeStatus := { sct := sct, code := code, dnr := true }

def NvmeStatus.word (x : NvmeStatus) : Nat := 2 * (x.code + 256 * x.sct + 2048 * x.crd + 16384 * boolNat x.dnr)

/-- Firmware completes a command. -/
def nvmeComplete (c : NvmeCmd) (st : NvmeStatus) (dw0 dw1 : Nat) (s : State) : State :=
  let e := leBytes 4 dw0 ++ leBytes 4 dw1 ++ zeros 4 ++ leBytes 2 c.cid ++ leBytes 2 st.word ++
    leBytes 2 (s.get (NVQ_SQ.CQID c.sq)) ++ zeros 14
  let s := s.modNvq fun n => { n with cmds := n.cmds.map fun x => if x = c then { x with done := true } else x }
  postDrain 4096 (s.modNvme fun n => { n with waiting := n.waiting ++ [e] })

/-- An asynchronous event, as DW0 of the completion that reports it: type, information and log page. It completes the oldest
Asynchronous Event Request, or waits for one; a type reported stays masked until its log page is read. -/
def nvmeEvent (ty info page : Nat) (s : State) : State :=
  if ty ∈ s.nvme.masked then s
  else
    let dw0 := ty + 256 * info + 65536 * page
    match s.nvq.cmds.find? fun c => c.sq == 0 && leAt c.raw 0 1 == 0x0C && !c.done with
    | some c => nvmeComplete c {} dw0 0 (s.modNvme fun n => { n with masked := ty :: n.masked })
    | none => s.modNvme fun n => { n with events := n.events ++ [dw0] }

/-! ### Doorbells (R545, R548, R550) -/

/-- An invalid doorbell write is ignored and latched, and firmware reports it (R550). -/
def doorbellError (q : Nat) (unused : Bool) (s : State) : State :=
  nvmeEvent 0 (if unused then 0 else 1) 1 ((s.set NVQ_STATUS.DB_ERR_Q q).set NVQ_INT.DB_ERR 1)

/-- A write of the tail doorbell of SQ `q`. -/
def sqDoorbell (q v : Nat) (entries : List (BitVec 512)) (s : State) : State :=
  if !s.bit NVQ_CTRL.ENABLE then s
  else if !s.bit (NVQ_SQ.EN q) then doorbellError q true s
  else if s.get (NVQ_SQ.SIZE q) + 1 ≤ v then doorbellError q false s
  else nvqFetch entries (s.set (NVQ_SQ_PTR.TAIL q) v)

/-- A write of the head doorbell of CQ `q`. -/
def cqDoorbell (q v : Nat) (s : State) : State :=
  let size := s.get (NVQ_CQ.SIZE q) + 1
  let head := s.get (NVQ_CQ_PTR.HEAD q)
  if !s.bit NVQ_CTRL.ENABLE then s
  else if !s.bit (NVQ_CQ.EN q) then doorbellError q true s
  else if size ≤ v ∨ (s.get (NVQ_CQ_PTR.TAIL q) + size - head) % size < (v + size - head) % size then doorbellError q false s
  else postDrain 4096 (nvqPost 4096 (s.set (NVQ_CQ_PTR.HEAD q) v))

def execSqTailDoorbell (q : Fin 65) (v : BitVec 16) (entries : List (BitVec 512)) (s : State) : Out :=
  s.onCore (sqDoorbell q.val v.toNat entries)

def execCqHeadDoorbell (q : Fin 65) (v : BitVec 16) (s : State) : Out := s.onCore (cqDoorbell q.val v.toNat)

/-! ### The host's registers (R518, R519, R543) -/

/-- CAP: MQES 1,023, CQR, weighted round robin, TO 20, and CSS bits 0 and 6. -/
def nvmeCap : Nat := 1023 + 2 ^ 16 + 2 ^ 17 + 20 * 2 ^ 24 + 2 ^ 37 + 2 ^ 43

/-- A dword of the controller registers. -/
def nvmeReg (o : Nat) (s : State) : Nat :=
  if o = 0 then nvmeCap % 2 ^ 32
  else if o = 4 then nvmeCap / 2 ^ 32
  else if o = 8 then 0x00020000
  else if o = 0x14 then s.nvq.cc.toNat
  else if o = 0x1C then s.get NVQ_CSTS.RDY + 2 * s.get NVQ_CSTS.CFS + 4 * s.get NVQ_CSTS.SHST
  else if o = 0x24 then s.nvq.aqa.toNat
  else if o = 0x28 then s.nvq.asq.toNat % 2 ^ 32
  else if o = 0x2C then s.nvq.asq.toNat / 2 ^ 32
  else if o = 0x30 then s.nvq.acq.toNat % 2 ^ 32
  else if o = 0x34 then s.nvq.acq.toNat / 2 ^ 32
  else 0

/-- The host writes CC: NVQ_CC shows it, and changes of EN and SHN are latched. -/
def nvmeCc (v : Nat) (s : State) : State :=
  let new := v &&& 0x00FFFFF1
  let old := s.nvq.cc.toNat
  let s := (s.modNvq fun n => { n with cc := BitVec.ofNat 32 new }).set NVQ_CC.CC new
  let s := if new % 2 = old % 2 then s else s.set NVQ_INT.CC_EN 1
  if bits new 14 2 = bits old 14 2 then s else s.set NVQ_INT.SHN 1

/-- A dword written to BAR0. -/
def bar0Write (o v : Nat) (entries : List (BitVec 512)) (s : State) : State :=
  let half (w : BitVec 64) (hi : Bool) : BitVec 64 :=
    BitVec.ofNat 64 (if hi then w.toNat % 2 ^ 32 + v * 2 ^ 32 else w.toNat / 2 ^ 32 * 2 ^ 32 + v / 4096 * 4096)
  if o = 0x14 then nvmeCc v s
  else if o = 0x24 then s.modNvq fun n => { n with aqa := BitVec.ofNat 32 (v &&& 0x0FFF0FFF) }
  else if o = 0x28 ∨ o = 0x2C then s.modNvq fun n => { n with asq := half n.asq (o == 0x2C) }
  else if o = 0x30 ∨ o = 0x34 then s.modNvq fun n => { n with acq := half n.acq (o == 0x34) }
  else if 0x1000 ≤ o ∧ o < 0x1000 + 8 * 65 then
    if o % 8 = 0 then sqDoorbell ((o - 0x1000) / 8) (v % 65536) entries s else cqDoorbell ((o - 0x1000) / 8) (v % 65536) s
  else s

/-- A dword of BAR2: the MSI-X table, then the PBA. -/
def bar2Read (o : Nat) (s : State) : Nat :=
  if o < 16 * 65 then msixWord (o / 4) s
  else if 0x2000 ≤ o ∧ o < 0x2010 then
    bits ((s.pce.pba.filter (· < 128)).foldl (fun m v => m ||| 2 ^ v) 0) (8 * (o - 0x2000)) 32
  else 0

/-- A memory request of the host to BAR0 or BAR2 at an offset, with its length, data and EP bit; the list is what host memory returns
if the write is a doorbell (R518, R519, R529). -/
def execPcieMemoryRequest (bar2 write : Bool) (ofs : BitVec 16) (n : BitVec 13) (data : BitVec 64) (ep : Bool)
    (entries : List (BitVec 512)) (s : State) : Out :=
  s.onCore fun s =>
    if !s.bit PCE_STATUS.LINK_UP then s
    else
      let s := linkWake s
      let o := ofs.toNat
      let len := n.toNat
      let d := data.toNat
      if !pceMse s || pceD3 s || pceFlr s || !((len == 4 && o % 4 == 0) || (len == 8 && o % 8 == 0)) || (bar2 && decide (0x4000 ≤ o)) then
        pceUr write o s
      else if write then
        let s := s.modPce fun p => { p with reply := .none }
        if ep then pcePoison o false s
        else
          let one (o v : Nat) (s : State) : State :=
            if bar2 then if o < 16 * 65 then msixPut (o / 4) v s else s else bar0Write o v entries s
          let s := one o (d % 2 ^ 32) s
          if len = 8 then one (o + 4) (d / 2 ^ 32) s else s
      else
        let rd (o : Nat) : List Byte := leBytes 4 (if bar2 then bar2Read o s else nvmeReg o s)
        s.modPce fun p => { p with reply := .data (if len = 8 then rd o ++ rd (o + 4) else rd o) }

end Sys2Proof.Machine
end

