-- ==== Sys2Proof/Machine/Nvme.lean ====
section
/-! DEFINITION. NVMe admin commands, the controller's enable and shutdown, features and log pages, as firmware and the boot ROM carry
them out (R540 to R577, R632, R708). -/

namespace Sys2Proof.Machine

/-! ### Commands -/

def NvmeCmd.op (c : NvmeCmd) : Nat := leAt c.raw 0 1
/-- Dword `k` of a command. -/
def NvmeCmd.dw (c : NvmeCmd) (k : Nat) : Nat := leAt c.raw (4 * k) 4
def NvmeCmd.nsid (c : NvmeCmd) : Nat := c.dw 1
def NvmeCmd.prp1 (c : NvmeCmd) : Nat := leAt c.raw 24 8
def NvmeCmd.prp2 (c : NvmeCmd) : Nat := leAt c.raw 32 8

/-- The opcodes of R541 and R542. -/
def adminOps : List Nat := [0x00, 0x01, 0x02, 0x04, 0x05, 0x06, 0x08, 0x09, 0x0A, 0x0C, 0x10, 0x11, 0x81, 0x82, 0x84, 0xC0, 0xC1]
def ioOps : List Nat := [0x00, 0x01, 0x02, 0x79, 0x7A, 0x7D]

/-- Whether the boot ROM's recovery loop serves a command (R708). -/
def recoveryServes (c : NvmeCmd) : Bool :=
  c.sq == 0 && (c.op == 0x06 || c.op == 0x11 || (c.op == 0x10 && bits (c.dw 10) 3 3 == 1) ||
    (c.op == 0x02 && (c.dw 10 % 256 == 0x01 || c.dw 10 % 256 == 0xC1)))

/-- A command with a status and nothing else. -/
def nvmeFail (c : NvmeCmd) (st : NvmeStatus) (s : State) : State := nvmeComplete c st 0 0 s

def invalidField : NvmeStatus := nvmeErr 0 0x02
def invalidNamespace : NvmeStatus := nvmeErr 0 0x0B

/-- Namespace Not Ready with a CRD; DNR 0. -/
def notReady (crd : Nat) : NvmeStatus := { code := 0x82, crd := crd }

/-- Firmware takes the outstanding command `cid` of queue `sq`, an admin or an I/O command with opcode `op`. An opcode that is not
supported is refused; a command with another supported opcode is left alone. -/
def nvmeRun (admin : Bool) (op : Nat) (sq : Fin 65) (cid : BitVec 16) (f : NvmeCmd → State → State) (s : State) : Out :=
  s.onCore fun s =>
    match s.nvq.cmds.find? fun c => c.sq == sq.val && c.cid == cid.toNat && !c.done with
    | none => s
    | some c =>
      if (c.sq == 0) != admin then s
      else if s.boot.recovery && !recoveryServes c then nvmeFail c { notReady 3 with dnr := true } s
      else if !(if admin then adminOps else ioOps).contains c.op then nvmeFail c (nvmeErr 0 0x01) s
      else if c.op ≠ op then s
      else if leAt c.raw 1 1 ≠ 0 then nvmeFail c invalidField s
      else f c s

/-! ### Data -/

/-- The host memory that PRP entries name: addresses and lengths; the list holds the entries of a PRP list. -/
def prpRuns (prp1 prp2 : Nat) (list : List (BitVec 64)) (len : Nat) : Option (List (Nat × Nat)) :=
  let first := min len (4096 - prp1 % 4096)
  let rest := len - first
  if rest = 0 then some [(prp1, first)]
  else if rest ≤ 4096 then some [(prp1, first), (prp2 / 4096 * 4096, rest)]
  else
    let n := (rest + 4095) / 4096
    if list.length < n then none
    else some ((prp1, first) :: ((list.take n).zipIdx.map fun p => (p.1.toNat / 4096 * 4096, min 4096 (rest - 4096 * p.2))))

/-- Bytes written to host memory along a list of runs. -/
def hostPut : List (Nat × Nat) → Marked → State → State
  | [], _, s => s
  | (a, n) :: r, l, s => hostPut r (l.drop n) (if n = 0 then s else hostWrite a (l.take n) s)

/-- Data goes to the host, and the command completes; without Bus Master Enable it completes with an internal error (R533), and a PRP
list that cannot be read is a transfer error. -/
def nvmeGive (c : NvmeCmd) (list : List (BitVec 64)) (l : Marked) (st : NvmeStatus) (dw0 dw1 : Nat) (s : State) : State :=
  if !pceMaster s then nvmeFail c (nvmeErr 0 0x06) s
  else match prpRuns c.prp1 c.prp2 list l.length with
    | none => nvmeFail c { code := 0x04 } s
    | some r => nvmeComplete c st dw0 dw1 (hostPut r l s)

/-- Bytes without poison. -/
def clean (l : List Byte) : Marked := l.map fun b => (b, false)

/-- Data comes from the host before `f`; `ok` is whether its reads succeeded. -/
def nvmeTake (c : NvmeCmd) (ok : Bool) (f : State → State) (s : State) : State :=
  if !pceMaster s then nvmeFail c (nvmeErr 0 0x06) s
  else if !ok then nvmeFail c { code := 0x04 } s
  else f s

/-- `n` bytes: what the spec leaves open below, the pieces it states over it. -/
def overlay (kind sub n : Nat) (l : List (Nat × List Byte)) : List Byte :=
  l.foldl (fun b p => splice b p.1 p.2) ((Config.hostPage kind sub ++ zeros n).take n)

/-! ### Namespaces (R551) -/

/-- The entry of an existing namespace, as the table stood at the last rise of CC.EN. -/
def nsFind (n : Nat) (s : State) : Option (List Byte) :=
  if 1 ≤ n ∧ n ≤ 8 then
    let e := s.nvme.spaces.getD (n - 1) []
    if leAt e 0 1 = 1 ∨ leAt e 0 1 = 2 then some e else none
  else none

def nsKind (e : List Byte) : Nat := leAt e 0 1
def nsFirst (e : List Byte) : Nat := leAt e 4 4
def nsCount (e : List Byte) : Nat := leAt e 8 4
def lbaBytes (e : List Byte) : Nat := if leAt e 1 1 = 1 then 16384 else 4096

/-- LBAs of a zone (R106). -/
def zoneLen (e : List Byte) : Nat := 268435456 / lbaBytes e

/-- The capacity in LBAs of zone record `z` (R107). -/
def zoneCap (z : Nat) (e : List Byte) (s : State) : Nat :=
  match s.image with | some i => leAt (zoneRec (i.body 1 0) z) 16 4 * 4096 / lbaBytes e | none => 0

/-- LBAs of a namespace. -/
def nsLbas (e : List Byte) (s : State) : Nat :=
  if nsKind e = 2 then nsCount e * zoneLen e
  else ((List.range (nsCount e)).map fun k => zoneCap ((zoneCounts s).1 + nsFirst e + k) e s).sum

/-- The namespaces that exist, in ascending order. -/
def nsActive (s : State) : List Nat := (List.range' 1 8).filter fun n => (nsFind n s).isSome

/-! ### Enable and shutdown (R543, R576) -/

/-- CC.EN has risen: firmware builds the controller and sets RDY, or CFS on settings that R543 does not allow. -/
def execCcEnRise (s : State) : Out :=
  s.onCore fun s =>
    let cc := s.nvq.cc.toNat
    if cc % 2 = 0 ∨ s.bit NVQ_CSTS.RDY then s
    else
      let aqa := s.nvq.aqa.toNat
      let sq := aqa % 4096
      let cq := aqa / 65536
      if bits cc 4 3 ≠ 6 ∨ bits cc 7 4 ≠ 0 ∨ bits cc 16 4 ≠ 6 ∨ bits cc 20 4 ≠ 4 ∨ sq = 0 ∨ 1023 < sq ∨ cq = 0 ∨ 1023 < cq then
        s.set NVQ_CSTS.CFS 1
      else
        let s := ((((((s.set (NVQ_SQ.SIZE 0) sq).set (NVQ_SQ.CQID 0) 0).set (NVQ_SQ.RING 0) 0).set (NVQ_SQ.QPRIO 0) 0).set
          (NVQ_SQ_PTR.TAIL 0) 0).set (NVQ_SQ_PTR.HEAD 0) 0).set (NVQ_SQ_ADDR.PAGE 0) (s.nvq.asq.toNat / 4096)
        let s := ((((((s.set (NVQ_CQ.SIZE 0) cq).set (NVQ_CQ.IV 0) 0).set (NVQ_CQ.PHASE 0) 1).set (NVQ_CQ.IEN 0) 1).set
          (NVQ_CQ_PTR.TAIL 0) 0).set (NVQ_CQ_PTR.HEAD 0) 0).set (NVQ_CQ_ADDR.PAGE 0) (s.nvq.acq.toNat / 4096)
        let table := (List.range' 1 8).map fun n => dictStored 0x4020 n 32 s
        let s := s.modNvme fun n => { n with spaces := table, features := [], image := [] }
        (((s.set (NVQ_SQ.EN 0) 1).set (NVQ_CQ.EN 0) 1).set NVQ_CTRL.ENABLE 1).set NVQ_CSTS.RDY 1

/-- CC.EN has fallen. -/
def execCcEnFall (s : State) : Out :=
  s.onCore fun s => if s.nvq.cc.toNat % 2 = 1 then s else (nvmeStop s).set NVQ_CSTS.SHST 0

/-- A durability point in the open group of a journal entry (R91). -/
def zoneDurable (entry : Nat) (s : State) : State :=
  forEach [(0, 0), (0, 1), (1, 0), (1, 1)] (fun (p : Fin 2 × Fin 2) s =>
    match s.wp[p.1].acc[p.2] with
    | some a => if a.entry = entry then journalPoint p.1 p.2 s else s
    | none => s) s

def setZone (z : Nat) (f : Zone → Zone) (s : State) : State := { s with zones := kvInsert s.zones z (f (s.zone z)) }

/-- A zone is closed: its parity reaches the journal and it keeps its entry (R91, R556). -/
def zoneClose (z : Nat) (s : State) : State :=
  setZone z (fun x => { x with state := 4 }) (match kvFind s.nvme.active z with | some e => zoneDurable e s | none => s)

/-- Whether a zone is open. -/
def zoneIsOpen (z : Nat) (s : State) : Bool := (s.zone z).state == 2 || (s.zone z).state == 3

/-- CC.SHN is 01b: durability points, cached writes and zone lists; the open zones are Closed then (R715). -/
def execNormalShutdown (s : State) : Out :=
  s.onCore fun s =>
    if bits s.nvq.cc.toNat 14 2 ≠ 1 then s
    else
      let s := journalOpen 1 (journalOpen 0 s)
      let s := forEach s.nvme.active (fun p s => if zoneIsOpen p.1 s then setZone p.1 (fun x => { x with state := 4 }) s else s) s
      (s.modNvme fun n => { n with cached := [] }).set NVQ_CSTS.SHST 2

/-- CC.SHN is 10b: only the journal writes. -/
def execAbruptShutdown (s : State) : Out :=
  s.onCore fun s =>
    if bits s.nvq.cc.toNat 14 2 ≠ 2 then s else (journalOpen 1 (journalOpen 0 s)).set NVQ_CSTS.SHST 2

/-! ### Queues (R544) -/

/-- Whether a queue ID may name a new I/O queue. -/
def newQueue (q : Nat) (en : Nat → Fld) (s : State) : Bool := decide (1 ≤ q ∧ q ≤ 64) && !s.bit (en q)

def execNvmeCreateIoCq (sq : Fin 65) (cid : BitVec 16) (s : State) : Out :=
  nvmeRun true 0x05 sq cid (fun c s =>
    let q := c.dw 10 % 65536
    let size := c.dw 10 / 65536
    let iv := c.dw 11 / 65536
    if !(c.dw 11).testBit 0 ∨ 2 ^ 52 ≤ c.prp1 then nvmeFail c invalidField s
    else if !newQueue q NVQ_CQ.EN s then nvmeFail c (nvmeErr 1 0x01) s
    else if size = 0 ∨ 1023 < size then nvmeFail c (nvmeErr 1 0x02) s
    else if 64 < iv then nvmeFail c (nvmeErr 1 0x08) s
    else
      let cd := (kvFind s.nvme.features (0x900 + iv)).getD 0
      let s := ((((s.set (NVQ_CQ.SIZE q) size).set (NVQ_CQ.IV q) iv).set (NVQ_CQ.PHASE q) 1).set (NVQ_CQ.CD q) cd).set (NVQ_CQ.IEN q)
        (bits (c.dw 11) 1 1)
      let s := ((s.set (NVQ_CQ_PTR.TAIL q) 0).set (NVQ_CQ_PTR.HEAD q) 0).set (NVQ_CQ_ADDR.PAGE q) (c.prp1 / 4096)
      nvmeComplete c {} 0 0 (s.set (NVQ_CQ.EN q) 1)) s

def execNvmeCreateIoSq (sq : Fin 65) (cid : BitVec 16) (s : State) : Out :=
  nvmeRun true 0x01 sq cid (fun c s =>
    let q := c.dw 10 % 65536
    let size := c.dw 10 / 65536
    let cq := c.dw 11 / 65536
    if !(c.dw 11).testBit 0 ∨ 2 ^ 52 ≤ c.prp1 then nvmeFail c invalidField s
    else if !newQueue q NVQ_SQ.EN s then nvmeFail c (nvmeErr 1 0x01) s
    else if size = 0 ∨ 1023 < size then nvmeFail c (nvmeErr 1 0x02) s
    else if cq = 0 ∨ 64 < cq ∨ !s.bit (NVQ_CQ.EN cq) then nvmeFail c (nvmeErr 1 0x00) s
    else
      let s := (((s.set (NVQ_SQ.SIZE q) size).set (NVQ_SQ.CQID q) cq).set (NVQ_SQ.RING q) (q % 8)).set (NVQ_SQ.QPRIO q) (bits (c.dw 11) 1 2)
      let s := ((s.set (NVQ_SQ_PTR.TAIL q) 0).set (NVQ_SQ_PTR.HEAD q) 0).set (NVQ_SQ_ADDR.PAGE q) (c.prp1 / 4096)
      nvmeComplete c {} 0 0 (s.set (NVQ_SQ.EN q) 1)) s

/-- Each unfinished command of the queue completes with Command Aborted due to SQ Deletion before the Delete does. -/
def execNvmeDeleteIoSq (sq : Fin 65) (cid : BitVec 16) (s : State) : Out :=
  nvmeRun true 0x00 sq cid (fun c s =>
    let q := c.dw 10 % 65536
    if q = 0 ∨ 64 < q ∨ !s.bit (NVQ_SQ.EN q) then nvmeFail c (nvmeErr 1 0x01) s
    else
      let s := forEach (s.nvq.cmds.filter fun x => x.sq == q && !x.done) (fun x s => nvmeFail x (nvmeErr 0 0x08) s) s
      nvmeComplete c {} 0 0 (s.set (NVQ_SQ.EN q) 0)) s

def execNvmeDeleteIoCq (sq : Fin 65) (cid : BitVec 16) (s : State) : Out :=
  nvmeRun true 0x04 sq cid (fun c s =>
    let q := c.dw 10 % 65536
    if q = 0 ∨ 64 < q ∨ !s.bit (NVQ_CQ.EN q) then nvmeFail c (nvmeErr 1 0x01) s
    else if (List.range 65).any fun k => s.bit (NVQ_SQ.EN k) && s.get (NVQ_SQ.CQID k) == q then nvmeFail c (nvmeErr 1 0x0C) s
    else nvmeComplete c {} 0 0 (s.set (NVQ_CQ.EN q) 0)) s

/-- Abort: `started` is whether the command it names has started on media or host DMA. -/
def execNvmeAbort (sq : Fin 65) (cid : BitVec 16) (started : Bool) (s : State) : Out :=
  nvmeRun true 0x08 sq cid (fun c s =>
    match s.nvq.cmds.find? fun x => x.sq == c.dw 10 % 65536 && x.cid == c.dw 10 / 65536 && !x.done && x != c with
    | some x => if started then nvmeComplete c {} 1 0 s else nvmeComplete c {} 0 0 (nvmeFail x (nvmeErr 0 0x07) s)
    | none => nvmeComplete c {} 1 0 s) s

/-- Asynchronous Event Request: at most 4 outstanding; an event that waits completes it at once. -/
def execNvmeAsyncEventRequest (sq : Fin 65) (cid : BitVec 16) (s : State) : Out :=
  nvmeRun true 0x0C sq cid (fun c s =>
    if 4 < (s.nvq.cmds.filter fun x => x.sq == 0 && x.op == 0x0C && !x.done).length then nvmeFail c (nvmeErr 1 0x05) s
    else match s.nvme.events with
      | [] => s
      | e :: r => nvmeComplete c {} e 0 (s.modNvme fun n => { n with events := r, masked := e % 8 :: n.masked })) s

/-! ### Identify (R540, R541, R551, R564) -/

/-- A power state descriptor: Max Power, the non-operational flag, ENLAT and EXLAT (R564). -/
def psDescriptor (n : Nat) (s : State) : List Byte :=
  leBytes 2 (dictNat 0x2002 n 0 s) ++ [0] ++ leBytes 1 (if n = 4 then 2 else 0) ++ leBytes 4 (if n = 4 then 20000000 else 600000) ++
    leBytes 4 (if n = 4 then 40000000 else 600000)

/-- The Identify Controller data structure. -/
def identifyController (s : State) : List Byte :=
  overlay 0x01 0 4096 ([
    (0, leBytes 2 0x1FD7), (77, [8]), (78, leBytes 2 1), (80, leBytes 4 0x00020000), (84, leBytes 4 40000000), (88, leBytes 4 5000000),
    (111, [1]), (128, leBytes 2 5), (130, leBytes 2 20), (132, leBytes 2 100), (256, leBytes 2 0x0005), (258, [3]), (259, [3]),
    (260, [0x04]), (262, [63]), (263, [4]), (265, [0]), (319, [1]), (328, leBytes 4 1), (512, [0x66]), (513, [0x44]),
    (516, leBytes 4 8), (525, [0x07])] ++ (List.range 5).map fun n => (2048 + 32 * n, psDescriptor n s))

/-- The Identify Namespace data structure of an existing namespace. -/
def identifyNamespace (n : Nat) (e : List Byte) (s : State) : List Byte :=
  let k := nsLbas e s
  overlay 0x00 n 4096 [(0, leBytes 8 k ++ leBytes 8 k), (25, [1]), (26, leBytes 1 (leAt e 1 1)), (27, [0]), (28, [0]), (29, [0]),
    (128, leBytes 4 (12 * 65536)), (132, leBytes 4 (14 * 65536))]

/-- A list of namespace identifiers, 4 bytes each, zero behind the last. -/
def nsList (l : List Nat) : List Byte := (l.flatMap (leBytes 4) ++ zeros 4096).take 4096

/-- What Identify returns for a CNS, or its status. -/
def identifyData (c : NvmeCmd) (s : State) : NvmeStatus ⊕ List Byte :=
  let cns := c.dw 10 % 256
  let n := c.nsid
  let csi := c.dw 11 / 2 ^ 24
  let withNs (f : List Byte → NvmeStatus ⊕ List Byte) : NvmeStatus ⊕ List Byte :=
    match nsFind n s with | some e => f e | none => .inl invalidNamespace
  let csiOf (e : List Byte) : Nat := if nsKind e = 2 then 2 else 0
  if cns = 0x00 then
    if n = 0xFFFFFFFF then .inr (overlay 0x00 n 4096 [(25, [1]), (128, leBytes 4 (12 * 65536)), (132, leBytes 4 (14 * 65536))])
    else withNs fun e => .inr (identifyNamespace n e s)
  else if cns = 0x01 then .inr (identifyController s)
  else if cns = 0x02 then
    if 0xFFFFFFFE ≤ n then .inl invalidNamespace else .inr (nsList ((nsActive s).filter (n < ·)))
  else if cns = 0x03 then withNs fun e => .inr (overlay 0x03 n 4096 [(0, [4, 1, 0, 0] ++ leBytes 1 (csiOf e))])
  else if cns = 0x05 then
    withNs fun e =>
      if csi ≠ csiOf e then .inl invalidField
      else if csi = 0 then .inr (overlay 0x05 n 4096 [])
      else .inr (overlay 0x05 (0x200 + n) 4096 [(4, leBytes 4 63), (8, leBytes 4 63), (2816, leBytes 8 65536 ++ [0]),
        (2832, leBytes 8 16384 ++ [0])])
  else if cns = 0x06 then
    if csi = 2 then .inr (overlay 0x06 2 4096 [(0, [8])]) else if csi = 0 then .inr (overlay 0x06 0 4096 []) else .inl invalidField
  else if cns = 0x07 then
    if 0xFFFFFFFE ≤ n then .inl invalidNamespace
    else .inr (nsList ((nsActive s).filter fun k => n < k && (match nsFind k s with | some e => csiOf e == csi | none => false)))
  else if cns = 0x08 then withNs fun _ => .inr (overlay 0x08 n 4096 [])
  else if cns = 0x1C then .inr (leBytes 8 5 ++ zeros 4088)
  else .inl invalidField

def execNvmeIdentify (sq : Fin 65) (cid : BitVec 16) (list : List (BitVec 64)) (s : State) : Out :=
  nvmeRun true 0x06 sq cid (fun c s =>
    match identifyData c s with
    | .inl st => nvmeFail c st s
    | .inr l => nvmeGive c list (clean l) {} 0 0 s) s

/-! ### Features (R565, R573) -/

/-- The features supported. -/
def featureIds : List Nat := [0x01, 0x02, 0x04, 0x06, 0x07, 0x08, 0x09, 0x0B]

/-- The key under which a feature is held: vectors and temperature sensors have values of their own. -/
def featureKey (fid dw11 : Nat) : Nat :=
  if fid = 0x09 then 0x900 + dw11 % 65536 else if fid = 0x04 then 0x400 + bits dw11 16 6 else fid

/-- Firmware parks the heads of an actuator, and the companion reports PARKED (R324). -/
def parkHeads (n : Fin 2) (s : State) : State := (adlPark n 0 1 (s.set (ADL_CTRL.PARK n) 1)).set (ADL_STATUS.COMP_STATE n) 0

/-- The park of firmware ends; unparking follows. -/
def parkEnd (n : Fin 2) (s : State) : State := adlUncause n 0 (s.set (ADL_CTRL.PARK n) 0)

/-- Set Features Power Management (R565): a grade for PS0 to PS3; PS4 parks the heads and stops the spindle, and leaving it starts the
spindle again. -/
def setPower (ps : Nat) (s : State) : State :=
  let old := s.nvme.ps
  let s := s.modNvme fun n => { n with ps := ps, lastPs := if ps = 4 then n.lastPs else ps }
  if ps = 4 then spmStop (parkHeads 1 (parkHeads 0 s))
  else
    let s := if s.variant1408 then s else spmGradeReq (3 - ps) s
    if old = 4 then spmRun (parkEnd 1 (parkEnd 0 s)) else s

def execNvmeSetFeatures (sq : Fin 65) (cid : BitVec 16) (s : State) : Out :=
  nvmeRun true 0x09 sq cid (fun c s =>
    let fid := c.dw 10 % 256
    let v := c.dw 11
    let put (k x : Nat) (s : State) : State := s.modNvme fun n => { n with features := kvInsert n.features k x }
    if !featureIds.contains fid then nvmeFail c invalidField s
    else if (c.dw 10).testBit 31 then nvmeFail c (nvmeErr 1 0x0D) s
    else if fid = 0x01 then
      nvmeComplete c {} 0 0 ((((s.set NVQ_ARB.AB (bits v 0 3)).set NVQ_ARB.LPW (bits v 8 8)).set NVQ_ARB.MPW (bits v 16 8)).set
        NVQ_ARB.HPW (bits v 24 8))
    else if fid = 0x02 then
      if 4 < bits v 0 5 then nvmeFail c invalidField s else nvmeComplete c {} 0 0 (setPower (bits v 0 5) s)
    else if fid = 0x07 then nvmeComplete c {} 0x003F003F 0 s
    else if fid = 0x08 then nvmeComplete c {} 0 0 ((s.set NVQ_COAL.THR (bits v 0 8)).set NVQ_COAL.TIME (bits v 8 8))
    else if fid = 0x09 then
      if 64 < v % 65536 then nvmeFail c invalidField s
      else
        let s := put (featureKey fid v) (bits v 16 1) s
        nvmeComplete c {} 0 0 (forEach (List.range 65) (fun q s =>
          if s.bit (NVQ_CQ.EN q) && s.get (NVQ_CQ.IV q) == v % 65536 then s.set (NVQ_CQ.CD q) (bits v 16 1) else s) s)
    else nvmeComplete c {} 0 0 (put (featureKey fid v) (if fid = 0x06 then v % 2 else v) s)) s

/-- The value of a feature. -/
def featureValue (fid dw11 : Nat) (s : State) : Nat :=
  if fid = 0x01 then
    s.get NVQ_ARB.AB + 256 * s.get NVQ_ARB.LPW + 65536 * s.get NVQ_ARB.MPW + 2 ^ 24 * s.get NVQ_ARB.HPW
  else if fid = 0x02 then s.nvme.ps
  else if fid = 0x07 then 0x003F003F
  else if fid = 0x08 then s.get NVQ_COAL.THR + 256 * s.get NVQ_COAL.TIME
  else if fid = 0x09 then dw11 % 65536 + 65536 * (kvFind s.nvme.features (featureKey fid dw11)).getD 0
  else (kvFind s.nvme.features (featureKey fid dw11)).getD 0

/-- Get Features: the value in force; nothing is saved, and every feature may be changed. -/
def execNvmeGetFeatures (sq : Fin 65) (cid : BitVec 16) (s : State) : Out :=
  nvmeRun true 0x0A sq cid (fun c s =>
    let fid := c.dw 10 % 256
    let sel := bits (c.dw 10) 8 3
    if !featureIds.contains fid ∨ 3 < sel ∨ (fid = 0x09 ∧ 64 < c.dw 11 % 65536) then nvmeFail c invalidField s
    else nvmeComplete c {} (if sel = 3 then 4 else featureValue fid (c.dw 11) s) 0 s) s

/-! ### Log pages (R571, R572) -/

/-- An Error Information entry, with its count. -/
def errorEntry (n : Nat) (e : NvmeErr) : List Byte :=
  leBytes 8 n ++ leBytes 2 e.sq ++ leBytes 2 e.cid ++ leBytes 2 e.status ++ leBytes 2 0 ++ leBytes 8 e.lba ++ leBytes 4 e.nsid ++ zeros 36

/-- An error is entered: the newest first, 64 kept. -/
def nvmeLogError (c : NvmeCmd) (st : NvmeStatus) (lba : Nat) (s : State) : State :=
  s.modNvme fun n => { n with errorCount := n.errorCount + 1,
                              errors := ({ sq := c.sq, cid := c.cid, status := st.word, lba := lba, nsid := c.nsid } :: n.errors).take 64 }

/-- The unrecoverable fragments of every head. -/
def mediaErrors (s : State) : Nat := (s.nvme.health.map fun h => h.2.getD 4 0).sum

/-- The media health page (R572). -/
def healthPage (s : State) : List Byte :=
  [1] ++ leBytes 1 (if s.variant1408 then 14 else 28) ++ leBytes 1 (s.get SPM_STATUS.GRADE_ACT) ++ leBytes 1 (s.get SPM_STATUS.TARGET) ++
    zeros 4 ++ leBytes 8 s.opSeconds ++ zeros 48 ++
    (List.range 28).flatMap fun h =>
      if s.variant1408 && decide (14 ≤ h) then zeros 64
      else ((kvFind s.nvme.health h).getD (List.replicate 8 0)).flatMap (leBytes 8)

/-- The pages supported. -/
def logIds : List Nat := [0x00, 0x01, 0x02, 0x03, 0x05, 0x81, 0xBF, 0xC0, 0xC1]

/-- Sanitizing now. -/
def sanitizing (s : State) : Bool := decide (s.now < s.nvme.sanitize)

/-- The bytes of a log page. -/
def logPage (lid nsid : Nat) (s : State) : List Byte :=
  if lid = 0x00 then (List.range 256).flatMap fun k => leBytes 4 (boolNat (logIds.contains k))
  else if lid = 0x01 then
    let l := s.nvme.errors.zipIdx.flatMap fun p => errorEntry (s.nvme.errorCount - p.2) p.1
    (l ++ zeros 4096).take 4096
  else if lid = 0x02 then
    overlay 0x102 0 512 [(1, leBytes 2 (ofS 16 (s.dieTemp / 16 + 273))), (112, leBytes 16 s.powerCycles), (128, leBytes 16 (s.opSeconds / 3600)),
      (160, leBytes 16 (mediaErrors s)), (176, leBytes 16 s.nvme.errorCount)]
  else if lid = 0x03 then
    let next := match flashDir s with | (some d, _) => leAt d 4 1 | _ => 0
    overlay 0x103 0 512 [(0, leBytes 1 (s.boot.slot + 16 * next))]
  else if lid = 0x05 then
    let words (ops : List Nat) : List Byte := (List.range 256).flatMap fun k => if ops.contains k then overlay 0x105 k 4 [(0, [1])] else zeros 4
    words adminOps ++ words ioOps ++ zeros 2048
  else if lid = 0x81 then
    overlay 0x181 0 512 [(2, leBytes 2 (if s.nvme.sanitize = 0 then 0 else if sanitizing s then 2 else 1)), (4, leBytes 4 s.nvme.sanitized)]
  else if lid = 0xBF then
    let l := (s.nvme.changed.filter fun p => p.1 == nsid).map (·.2)
    (leBytes 2 (if 511 < l.length then 0xFFFF else l.length) ++ zeros 6 ++ (l.take 511).flatMap (leBytes 8) ++ zeros 4096).take 4096
  else if lid = 0xC0 then healthPage s
  else s.readBytes ringBase ringSize

/-- The event type that reading a page unmasks: error status, health, notices. -/
def logEvent (lid : Nat) : Option Nat :=
  if lid = 0x01 then some 0 else if lid = 0x02 then some 1 else if lid = 0xBF then some 2 else none

def execNvmeGetLogPage (sq : Fin 65) (cid : BitVec 16) (list : List (BitVec 64)) (s : State) : Out :=
  nvmeRun true 0x02 sq cid (fun c s =>
    let lid := c.dw 10 % 256
    let len := 4 * (c.dw 10 / 65536 + 65536 * (c.dw 11 % 65536) + 1)
    let ofs := c.dw 12 + 2 ^ 32 * c.dw 13
    if !logIds.contains lid then nvmeFail c (nvmeErr 1 0x09) s
    else
      let page := logPage lid c.nsid s
      if ofs % 4 ≠ 0 ∨ page.length ≤ ofs ∨ 2 ^ 20 < len then nvmeFail c invalidField s
      else
        let part := slice page ofs len
        let s := if (c.dw 10).testBit 15 then s
          else s.modNvme fun n => { n with masked := match logEvent lid with | some e => n.masked.filter (· != e) | none => n.masked,
                                           changed := if lid = 0xBF then n.changed.filter (fun p => p.1 != c.nsid) else n.changed }
        nvmeGive c list (clean (part ++ zeros (len - part.length))) {} 0 0 s) s

/-! ### Firmware (R566, R641, R643, R708) -/

/-- Firmware Image Download: a part of an image, in units of 4 KiB. -/
def execNvmeFirmwareDownload (sq : Fin 65) (cid : BitVec 16) (data : List Byte) (ok : Bool) (s : State) : Out :=
  nvmeRun true 0x11 sq cid (fun c s =>
    let len := 4 * (c.dw 10 + 1)
    let ofs := 4 * c.dw 11
    if len % 4096 ≠ 0 ∨ ofs % 4096 ≠ 0 ∨ 16777216 + 256 < ofs + len ∨ 2 ^ 20 < len then nvmeFail c invalidField s
    else nvmeTake c ok (fun s =>
      let img := s.nvme.image
      let part := (data ++ zeros len).take len
      nvmeComplete c {} 0 0 (s.modNvme fun n => { n with image := splice (img ++ zeros (ofs - img.length)) ofs part })) s) s

/-- The slot that a Commit writes or selects: slot 0 leaves the choice to the controller, which takes the one that does not run. -/
def commitSlot (fs : Nat) (s : State) : Nat := if fs = 0 then (if s.boot.slot = 1 then 2 else 1) else fs

def execNvmeFirmwareCommit (sq : Fin 65) (cid : BitVec 16) (s : State) : Out :=
  nvmeRun true 0x10 sq cid (fun c s =>
    let fs := c.dw 10 % 8
    let ca := bits (c.dw 10) 3 3
    let slot := commitSlot fs s
    if sanitizing s then nvmeFail c (nvmeErr 0 0x1D) s
    else if 2 < ca then nvmeFail c invalidField s
    else if 2 < fs then nvmeFail c (nvmeErr 1 0x06) s
    else match flashDir s with
      | (none, _) => nvmeFail c (nvmeErr 0 0x06) s
      | (some dir, _) =>
        let at_ := slotOfs dir slot
        let l := if ca = 2 then flashRead at_ (imageLen (flashRead at_ 256 s)) s else s.nvme.image
        if !headerOk fwMagic l ∨ !imageValid fwMagic l s ∨ leAt l 8 8 < s.boot.svn then nvmeFail c (nvmeErr 1 0x07) s
        else
          let s := if ca = 2 then s else flashWrite at_ (l.take (imageLen l)) s
          let s := if ca = 0 then s else flashSelect slot s
          let rec_ := s.boot.recovery
          let s := if ca = 0 then nvmeComplete c {} 0 0 s else nvmeFail c (nvmeErr 1 0x0B) s
          if rec_ then coreReset s else s) s

/-! ### Security and sanitize (R567, R568, R632) -/

/-- A feature descriptor of Level 0 Discovery: its code, and its data after the 4-byte head. -/
def l0Feature (code len : Nat) (l : List (Nat × List Byte)) : List Byte :=
  beBytes 2 code ++ [0x10] ++ leBytes 1 len ++ overlay 0x200 code len l

/-- Level 0 Discovery (R632). -/
def level0 (s : State) : List Byte :=
  let locked := (List.range 32).any fun r => (rangeOf r s).locked false || (rangeOf r s).locked true
  let flags := (overlay 0x201 0 1 []).map fun b => b &&& 0x32#8 ||| 0x09#8 ||| BitVec.ofNat 8 (4 * boolNat locked)
  let body := l0Feature 0x0001 12 [] ++ l0Feature 0x0002 12 [(0, flags)] ++
    l0Feature 0x0003 28 [(8, beBytes 4 4096), (12, beBytes 8 1)] ++ l0Feature 0x0202 12 [(2, beBytes 2 1), (4, beBytes 4 131072)] ++
    l0Feature 0x0203 16 [(0, beBytes 2 0x1000), (2, beBytes 2 1), (5, beBytes 2 4), (7, beBytes 2 32)]
  beBytes 4 (44 + body.length) ++ overlay 0x200 0 44 [] ++ body

/-- Security Send: firmware takes the methods that it carries, whose steps CIP performs by operations of its own. -/
def execNvmeSecuritySend (sq : Fin 65) (cid : BitVec 16) (ok : Bool) (s : State) : Out :=
  nvmeRun true 0x81 sq cid (fun c s =>
    if 2 < c.dw 10 / 2 ^ 24 then nvmeFail c invalidField s else nvmeTake c ok (nvmeComplete c {} 0 0) s) s

/-- Security Receive: the protocols supported, Level 0 Discovery, or the response that firmware has for the ComID. -/
def execNvmeSecurityReceive (sq : Fin 65) (cid : BitVec 16) (response : List Byte) (list : List (BitVec 64)) (s : State) : Out :=
  nvmeRun true 0x82 sq cid (fun c s =>
    let secp := c.dw 10 / 2 ^ 24
    let spsp := bits (c.dw 10) 8 16
    let len := c.dw 11
    if 2 < secp then nvmeFail c invalidField s
    else
      let l := if secp = 0 ∧ spsp = 0 then zeros 6 ++ beBytes 2 3 ++ [0, 1, 2]
        else if secp = 1 ∧ spsp = 1 then level0 s else response
      nvmeGive c list (clean ((l ++ zeros (len - l.length)).take len)) {} 0 0 s) s

/-- Sanitize, Crypto Erase only: the media key of every range is replaced and every zone becomes Empty. When the background phase ends,
within 2 s, the spec leaves open. -/
def execNvmeSanitize (sq : Fin 65) (cid : BitVec 16) (s : State) : Out :=
  nvmeRun true 0x84 sq cid (fun c s =>
    if sanitizing s then nvmeFail c (nvmeErr 0 0x1D) s
    else if c.dw 10 % 8 ≠ 4 then nvmeFail c invalidField s
    else
      let s := forEach (List.finRange 32) (fun r s => replaceMek r 3 s) s
      let (t, s) := (resetZones s).fresh
      let now := s.now
      nvmeComplete c {} 0 0 (s.modNvme fun n => { n with active := [], cached := [], sanitize := now + 1 + t % 200000000, sanitized := c.dw 10 })) s

/-! ### The dictionary (R569, R570) -/

def execNvmeDictionaryRead (sq : Fin 65) (cid : BitVec 16) (list : List (BitVec 64)) (s : State) : Out :=
  nvmeRun true 0xC0 sq cid (fun c s =>
    if c.nsid ≠ 0 then nvmeFail c invalidField s
    else
      let ((st, ty, total, data), s) := dictRead (.host sq) (c.dw 10 % 65536) (bits (c.dw 10) 16 8) (c.dw 11) (c.dw 12) s
      if st ≠ 0 then nvmeFail c (nvmeErr 7 st) s else nvmeGive c list (clean data) {} total ty s) s

def execNvmeDictionaryWrite (sq : Fin 65) (cid : BitVec 16) (data : List Byte) (ok : Bool) (s : State) : Out :=
  nvmeRun true 0xC1 sq cid (fun c s =>
    if c.nsid ≠ 0 then nvmeFail c invalidField s
    else nvmeTake c ok (fun s =>
      let len := c.dw 12
      let (st, s) := dictWrite (.host sq) false (c.dw 10 % 65536) (bits (c.dw 10) 16 8) (c.dw 11)
        ((data ++ zeros (min len 0x100001 - data.length)).take (min len 0x100001)) 0 true s
      nvmeFail c (if st = 0 then {} else nvmeErr 7 st) s) s) s

end Sys2Proof.Machine
end

