-- ==== Sys2Proof/Machine/Zones.lean ====
section
/-! DEFINITION. The NVMe I/O commands: reads, writes and flushes, and the zones of the zoned namespaces (R542, R552 to R563). -/

namespace Sys2Proof.Machine

def NvmeCmd.slba (c : NvmeCmd) : Nat := leAt c.raw 40 8
def NvmeCmd.nlb (c : NvmeCmd) : Nat := leAt c.raw 48 2 + 1
def NvmeCmd.fua (c : NvmeCmd) : Bool := (c.dw 12).testBit 30

/-! ### Readiness (R563) -/

/-- The locking ranges that cover LBAs of a namespace (R633). -/
def rangesOf (n slba len : Nat) (s : State) : List Nat :=
  let spans := (List.range' 1 31).filterMap fun r =>
    let g := (rangeOf r s).geometry
    let (first, k) := Config.rangeSpan g
    let lo := max first slba
    let hi := min (first + k) (slba + len)
    if rangeNs r s == n && g != [] && decide (lo < hi) then some (r, hi - lo) else none
  spans.map (·.1) ++ if (spans.map (·.2)).sum < len then [0] else []

/-- What becomes of a command that needs media: it runs, is held, or ends with a status. -/
inductive Ready where
  | go | held
  | stop (st : NvmeStatus)
  deriving DecidableEq, Repr

/-- Readiness for LBAs of namespace `n`. -/
def mediaReady (write : Bool) (n slba len : Nat) (s : State) : Ready :=
  let rs := rangesOf n slba len s
  if s.bit SPM_STATUS.CHANGING then
    if s.bit SPM_INT.OVERTIME then .stop (notReady 1) else .held
  else if !s.bit SPM_STATUS.SPEED_OK then .stop (if s.bit SPM_INT.OVERTIME then notReady 1 else notReady 2)
  else if s.bit CIP_STATUS.ERROR then .stop (nvmeErr 0 0x06)
  else if !s.bit CIP_STATUS.READY then .held
  else if rs.any fun r => (rangeOf r s).locked write then .stop (nvmeErr 2 0x86)
  else if rs.any fun r => (s.cip.slots.toList.getD r none).isNone then .held
  else if inConflict s then .stop { notReady 3 with dnr := true }
  else if sanitizing s then .stop (nvmeErr 0 0x1D)
  else if s.get (PSL_STATUS.VERSION 0) = 0 ∨ s.get (ADL_STATUS.VERSION 0) = 0 then
    if s.variant1408 || s.get (PSL_STATUS.VERSION 1) == 0 || s.get (ADL_STATUS.VERSION 1) == 0 then .stop (notReady 3) else .go
  else .go

/-- An I/O command that arrives in PS4 starts the return to the last operational power state (R565). -/
def powerReturn (s : State) : State := if s.nvme.ps = 4 then setPower s.nvme.lastPs s else s

/-- The command runs once the media are ready for its LBAs. -/
def whenReady (c : NvmeCmd) (write : Bool) (slba len : Nat) (f : State → State) (s : State) : State :=
  let s := powerReturn s
  match mediaReady write c.nsid slba len s with
  | .go => f s
  | .held => s
  | .stop st => nvmeFail c st s

/-- An I/O command on an existing namespace; a command of the zoned set is refused on the conventional one (R542, R551). -/
def ioRun (op : Nat) (zoned : Bool) (sq : Fin 65) (cid : BitVec 16) (f : NvmeCmd → List Byte → State → State) (s : State) : Out :=
  nvmeRun false op sq cid (fun c s =>
    match nsFind c.nsid s with
    | none => nvmeFail c invalidNamespace s
    | some e => if zoned && nsKind e == 1 then nvmeFail c (nvmeErr 0 0x01) s else f c e s) s

/-! ### Zone resources (R556, R557) -/

/-- The zone records of a namespace. -/
def nsZones (e : List Byte) : List Nat := List.range' (nsFirst e) (nsCount e)

/-- The zone of an LBA of a zoned namespace. -/
def zoneOf (e : List Byte) (lba : Nat) : Nat := nsFirst e + lba / zoneLen e

/-- The first LBA of a zone. -/
def zoneStart (e : List Byte) (z : Nat) : Nat := (z - nsFirst e) * zoneLen e

/-- A zone releases its journal entry and takes a state. -/
def zoneLeave (z state : Nat) (s : State) : State :=
  setZone z (fun x => { x with state := state }) (s.modNvme fun n => { n with active := kvErase n.active z })

def openCount (s : State) : Nat := (s.nvme.active.filter fun p => zoneIsOpen p.1 s).length

/-- The lowest journal entry that no active zone holds. -/
def freeEntry (s : State) : Nat := ((List.range 64).find? fun e => !s.nvme.active.any fun p => p.2 == e).getD 0

/-- A zone opens, implicitly as state 2 or explicitly as state 3; a status where the resources forbid it. -/
def zoneOpen (z state : Nat) (s : State) : Option NvmeStatus × State :=
  let old := (s.zone z).state
  if old = 3 ∨ old = state then (none, s)
  else if old = 2 then (none, setZone z (fun x => { x with state := state }) s)
  else if old = 1 ∧ 64 ≤ s.nvme.active.length then (some (nvmeErr 1 0xBD), s)
  else
    let room : Option State :=
      if openCount s < 64 then some s
      else (s.nvme.active.find? fun p => (s.zone p.1).state == 2).map fun p => zoneClose p.1 s
    match room with
    | none => (some (nvmeErr 1 0xBE), s)
    | some s =>
      let e := (kvFind s.nvme.active z).getD (freeEntry s)
      (none, setZone z (fun x => { x with state := state }) (s.modNvme fun n => { n with active := kvErase n.active z ++ [(z, e)] }))

/-- LBAs become readable behind the write pointer; a zone written to its capacity is Full. -/
def zoneAdvance (z len : Nat) (e : List Byte) (s : State) : State :=
  let s := setZone z (fun x => { x with wp := x.wp + len }) s
  let s := s.modNvme fun n => { n with active := match kvFind n.active z with | some k => kvErase n.active z ++ [(z, k)] | none => n.active }
  if zoneCap z e s ≤ (s.zone z).wp then zoneLeave z 0xE s else s

/-- What a zone's state refuses a write: Offline, Read Only, Full. -/
def zoneShut (z : Nat) (s : State) : Option NvmeStatus :=
  let st := (s.zone z).state
  if st = 0xF then some (nvmeErr 1 0xBB) else if st = 0xD then some (nvmeErr 1 0xBA) else if st = 0xE then some (nvmeErr 1 0xB9) else none

/-! ### Writes (R552 to R554, R557 to R559, R575) -/

/-- The Error Information entries of the LBAs whose data came poisoned. -/
def poisonErrors (c : NvmeCmd) (slba lba : Nat) (l : Marked) (s : State) : State :=
  forEach ((List.range ((l.length + lba - 1) / lba)).filter fun k => ((l.drop (k * lba)).take lba).any (·.2))
    (fun k s => nvmeLogError c {} (slba + k) s) s

/-- The slots of a write meet R262, or the rewrite reserve is used up: then the zone is Read Only and the write fails. -/
def zoneWrite (c : NvmeCmd) (e : List Byte) (z slba : Nat) (data : Marked) (fault append : Bool) (s : State) : State :=
  if fault then
    let s := zoneLeave z 0xD s
    nvmeFail c (nvmeErr 2 0x80) (s.modNvme fun n => { n with changed := n.changed ++ [(c.nsid, zoneStart e z)] })
  else
    let entry := kvFind s.nvme.active z
    let s := zoneAdvance z c.nlb e (poisonErrors c slba (lbaBytes e) data s)
    let s := match entry with | some k => if c.fua then zoneDurable k s else s | none => s
    nvmeComplete c {} (if append then slba % 2 ^ 32 else 0) (if append then slba / 2 ^ 32 else 0) s

/-- The checks of R558 on a zone, from its state on, and then the data and the write at `slba`. -/
def zoneTake (c : NvmeCmd) (e : List Byte) (z slba : Nat) (data : Marked) (ok fault append : Bool) (s : State) : State :=
  match zoneShut z s with
  | some st => nvmeFail c st s
  | none =>
    if !append && slba != zoneStart e z + (s.zone z).wp then nvmeFail c (nvmeErr 1 0xBC) s
    else if zoneCap z e s < (s.zone z).wp + c.nlb then nvmeFail c (nvmeErr 1 0xB8) s
    else whenReady c true slba c.nlb (fun s =>
      match zoneOpen z 2 s with
      | (some st, s) => nvmeFail c st s
      | (none, s) => nvmeTake c ok (zoneWrite c e z slba data fault append) s) s

/-- Whether the Volatile Write Cache is enabled. -/
def cacheOn (s : State) : Bool := (kvFind s.nvme.features 0x06).getD 0 == 1

/-- Write: host data with its poison; `ok` is whether its reads succeeded, `fault` whether a slot is void beyond the rewrite reserve. -/
def execNvmeWrite (sq : Fin 65) (cid : BitVec 16) (data : Marked) (ok fault : Bool) (s : State) : Out :=
  ioRun 0x01 false sq cid (fun c e s =>
    let len := c.nlb
    if 2 ^ 20 < len * lbaBytes e then nvmeFail c invalidField s
    else if nsLbas e s < c.slba + len then nvmeFail c (nvmeErr 0 0x80) s
    else if nsKind e = 2 then zoneTake c e (zoneOf e c.slba) c.slba data ok fault false s
    else whenReady c true c.slba len (nvmeTake c ok fun s =>
      let s := poisonErrors c c.slba (lbaBytes e) data s
      if cacheOn s && !c.fua then
        nvmeComplete c {} 0 0 (s.modNvme fun n => { n with cached := n.cached ++ [(c.slba, len)] })
      else if fault then nvmeFail c (nvmeErr 2 0x80) s
      else nvmeComplete c {} 0 0 s) s) s

/-- Zone Append: the LBAs at the write pointer are assigned, and the first is returned (R559). -/
def execZoneAppend (sq : Fin 65) (cid : BitVec 16) (data : Marked) (ok fault : Bool) (s : State) : Out :=
  ioRun 0x7D true sq cid (fun c e s =>
    if 2 ^ 20 < c.nlb * lbaBytes e then nvmeFail c invalidField s
    else if nsLbas e s ≤ c.slba then nvmeFail c (nvmeErr 0 0x80) s
    else if c.slba % zoneLen e ≠ 0 then nvmeFail c invalidField s
    else
      let z := zoneOf e c.slba
      zoneTake c e z (c.slba + (s.zone z).wp) data ok fault true s) s

/-- Flush: what completed before it is durable, in one namespace or in all (R555). -/
def execNvmeFlush (sq : Fin 65) (cid : BitVec 16) (s : State) : Out :=
  nvmeRun false 0x00 sq cid (fun c s =>
    let spaces := if c.nsid = 0xFFFFFFFF then (nsActive s).filterMap fun n => nsFind n s else (nsFind c.nsid s).toList
    if spaces.isEmpty && c.nsid != 0xFFFFFFFF then nvmeFail c invalidNamespace s
    else
      let conv := spaces.any fun e => nsKind e == 1
      let flush (s : State) : State :=
        let zs := (spaces.filter fun e => nsKind e == 2).flatMap nsZones
        let s := forEach s.nvme.active (fun p s => if zs.contains p.1 then zoneDurable p.2 s else s) s
        nvmeComplete c {} 0 0 (if conv then s.modNvme fun n => { n with cached := [] } else s)
      if conv && !s.nvme.cached.isEmpty then
        let n := ((nsActive s).find? fun n => match nsFind n s with | some e => nsKind e == 1 | none => false).getD 0
        let s := powerReturn s
        match mediaReady true n 0 1 s with
        | .go => flush s
        | .held => s
        | .stop st => nvmeFail c st s
      else flush s) s

/-! ### Reads (R561, R575) -/

/-- The bytes a read returns: those of the media below the write pointers, zero at and beyond them. -/
def readLbas (e : List Byte) (slba : Nat) : (n k : Nat) → (data : Marked) → State → Marked
  | 0, _, _, _ => []
  | n + 1, k, data, s =>
    let b := lbaBytes e
    let z := zoneOf e (slba + k)
    let blank := nsKind e == 2 && decide ((s.zone z).wp ≤ (slba + k) % zoneLen e)
    let part := (data.take b) ++ clean (zeros (b - (data.take b).length))
    (if blank then clean (zeros b) else part) ++ readLbas e slba n (k + 1) (data.drop b) s

/-- Read: the operands are the PRP list, what the media and the buffer hold for the LBAs, and the LBA and head of a fragment that no
recovery gave back. -/
def execNvmeRead (sq : Fin 65) (cid : BitVec 16) (list : List (BitVec 64)) (data : Marked) (lost : Option (BitVec 64 × Fin 28))
    (s : State) : Out :=
  ioRun 0x02 false sq cid (fun c e s =>
    let len := c.nlb
    if 2 ^ 20 < len * lbaBytes e then nvmeFail c invalidField s
    else if nsLbas e s < c.slba + len then nvmeFail c (nvmeErr 0 0x80) s
    else if nsKind e = 2 ∧ (List.range' (c.slba / zoneLen e) ((c.slba + len - 1) / zoneLen e - c.slba / zoneLen e + 1)).any
        (fun k => (s.zone (nsFirst e + k)).state == 0xF) then nvmeFail c (nvmeErr 1 0xBB) s
    else whenReady c false c.slba len (fun s =>
      match lost with
      | some (lba, h) =>
        let st := nvmeErr 2 0x81
        nvmeFail c st (nvmeLogError c st lba.toNat (mediaCount (h.val * 2 ^ 35) 4 s))
      | none =>
        let l := readLbas e c.slba len 0 data s
        match (List.range len).find? fun k => ((l.drop (k * lbaBytes e)).take (lbaBytes e)).any (·.2) with
        | some k => nvmeGive c list l (nvmeErr 2 0x81) 0 0 (nvmeLogError c (nvmeErr 2 0x81) (c.slba + k) s)
        | none => nvmeGive c list l {} 0 0 s) s) s

/-! ### Zone management (R560) -/

/-- The actions of Zone Management Send. -/
def zoneActions : List Nat := [0x01, 0x02, 0x03, 0x04, 0x05, 0x10]

/-- Zone Management Send with action `act` on one zone, or with Select All on the zones in the states `all`; `f` answers a status
where a zone refuses it. Commands with another supported action are left alone. -/
def zoneSend (act : Nat) (all : List Nat) (media : Bool) (f : List Byte → Nat → State → Option NvmeStatus × State) (sq : Fin 65)
    (cid : BitVec 16) (s : State) : Out :=
  ioRun 0x79 true sq cid (fun c e s =>
    let a := c.dw 13 % 256
    if !zoneActions.contains a then nvmeFail c invalidField s
    else if a ≠ act then s
    else
      let every := (c.dw 13).testBit 8
      if !every ∧ nsLbas e s ≤ c.slba then nvmeFail c (nvmeErr 0 0x80) s
      else if !every ∧ c.slba % zoneLen e ≠ 0 then nvmeFail c invalidField s
      else
        let zs := if every then (nsZones e).filter fun z => all.contains (s.zone z).state else [zoneOf e c.slba]
        let run (s : State) : State :=
          let r := zs.foldl (fun (r : Option NvmeStatus × State) z => match r.1 with | some _ => r | none => f e z r.2) (none, s)
          nvmeFail c (r.1.getD {}) r.2
        if media then whenReady c true (if every then 0 else c.slba) 1 run s else run s) s

/-- A transition that the Zoned Namespace Command Set does not allow. -/
def badTransition : NvmeStatus := nvmeErr 1 0xBF

def execZoneClose (sq : Fin 65) (cid : BitVec 16) (s : State) : Out :=
  zoneSend 0x01 [2, 3] false (fun _ z s =>
    if (s.zone z).state = 4 then (none, s) else if zoneIsOpen z s then (none, zoneClose z s) else (some badTransition, s)) sq cid s

/-- Finish: fill and parity end the open group, and the zone is Full (R95). -/
def execZoneFinish (sq : Fin 65) (cid : BitVec 16) (s : State) : Out :=
  zoneSend 0x02 [2, 3, 4] true (fun _ z s =>
    let st := (s.zone z).state
    if st = 0xE then (none, s) else if st ≤ 4 then (none, zoneLeave z 0xE s) else (some badTransition, s)) sq cid s

def execZoneOpen (sq : Fin 65) (cid : BitVec 16) (s : State) : Out :=
  zoneSend 0x03 [4] false (fun _ z s => if (s.zone z).state ≤ 4 then zoneOpen z 3 s else (some badTransition, s)) sq cid s

/-- Reset: ZONE_GEN rises modulo 65,536, and the zone is Empty (R109). -/
def execZoneReset (sq : Fin 65) (cid : BitVec 16) (s : State) : Out :=
  zoneSend 0x04 [2, 3, 4, 0xE] false (fun _ z s =>
    let st := (s.zone z).state
    if st = 1 then (none, s)
    else if st ≤ 4 ∨ st = 0xE then
      (none, setZone z (fun x => { x with wp := 0, gen := (x.gen + 1) % 65536 }) (zoneLeave z 1 s))
    else (some badTransition, s)) sq cid s

def execZoneOffline (sq : Fin 65) (cid : BitVec 16) (s : State) : Out :=
  zoneSend 0x05 [0xD] false (fun _ z s =>
    let st := (s.zone z).state
    if st = 0xF then (none, s) else if st = 0xD then (none, zoneLeave z 0xF s) else (some badTransition, s)) sq cid s

/-- Set Zone Descriptor Extension completes with Invalid Field. -/
def execZoneSetDescriptorExt (sq : Fin 65) (cid : BitVec 16) (s : State) : Out :=
  ioRun 0x79 true sq cid (fun c _ s => if c.dw 13 % 256 = 0x10 then nvmeFail c invalidField s else s) s

/-- A zone descriptor of the report. -/
def zoneDescriptor (e : List Byte) (z : Nat) (s : State) : List Byte :=
  let x := s.zone z
  let wp := if x.state = 0xE ∨ x.state = 0xD ∨ x.state = 0xF then 2 ^ 64 - 1 else zoneStart e z + x.wp
  [2] ++ leBytes 1 (16 * x.state) ++ zeros 6 ++ leBytes 8 (zoneCap z e s) ++ leBytes 8 (zoneStart e z) ++ leBytes 8 wp ++ zeros 32

/-- The zone states that a reporting option names: all, Empty, Implicitly Opened, Explicitly Opened, Closed, Full, Read Only, Offline. -/
def reportState (o : Nat) : Option Nat :=
  if o = 0 then some 0 else if o ≤ 4 then some o else if o = 5 then some 0xE else if o = 6 then some 0xD else if o = 7 then some 0xF else none

/-- Zone Management Receive, Report Zones only (R542). -/
def execZoneReportZones (sq : Fin 65) (cid : BitVec 16) (list : List (BitVec 64)) (s : State) : Out :=
  ioRun 0x7A true sq cid (fun c e s =>
    let len := 4 * (c.dw 12 + 1)
    match reportState (bits (c.dw 13) 8 8) with
    | none => nvmeFail c invalidField s
    | some o =>
      if c.dw 13 % 256 ≠ 0 ∨ 2 ^ 20 < len then nvmeFail c invalidField s
      else if nsLbas e s ≤ c.slba then nvmeFail c (nvmeErr 0 0x80) s
      else
        let zs := (nsZones e).filter fun z => decide (zoneOf e c.slba ≤ z) && (o == 0 || (s.zone z).state == o)
        let fit := zs.take (if len < 64 then 0 else (len - 64) / 64)
        let count := if (c.dw 13).testBit 16 then fit.length else zs.length
        let l := leBytes 8 count ++ zeros 56 ++ fit.flatMap fun z => zoneDescriptor e z s
        nvmeGive c list (clean ((l ++ zeros (len - l.length)).take len)) {} 0 0 s) s

end Sys2Proof.Machine
end

