-- ==== Sys2Proof/Machine/Bus.lean ====
section
/-! DEFINITION. Register space: which register an address names, what a write of it does and what a read of it answers (R3, R10 to
R16, R35, R40, R645). -/

namespace Sys2Proof.Machine

/-! ### Addresses -/

/-- A register instance: its register, its address and its indexes. -/
structure Hit where
  reg : RegDef
  addr : Addr
  ix : List Nat
  deriving DecidableEq, Repr

/-- What stands at an offset of register space: a register, or a slot of the detector parameter memory, of a CLE bank, of the CLE state
memory or of an SPM parameter bank. -/
inductive Backing where
  | reg (h : Hit)
  | param (c : Fin 4) (ofs : Nat)
  | bank (b ofs : Nat)
  | cleState (ofs : Nat)
  | spmBank (b ofs : Nat)
  deriving DecidableEq, Repr

/-- Every register of the spec. -/
def regTable : List RegDef := regsMediaTable ++ regsMotionTable ++ regsCoreTable ++ regsOutsideTable

/-- The indexes of the instance at an offset from the first one. -/
def dimIndex : List (Nat × Nat) → Nat → Option (List Nat)
  | [], o => if o = 0 then some [] else none
  | (n, st) :: r, o => if o / st < n then (dimIndex r (o % st)).map (o / st :: ·) else none

/-- The register at an address. WP_SHK is one register at two addresses (R264). -/
def findReg (a : Addr) : Option Hit :=
  regTable.findSome? fun r =>
    if r.base ≤ a then
      (dimIndex r.dims (a - r.base)).map fun l => ⟨r, if r.base = WP_SHK.base then r.base else a, l⟩
    else none

/-- What stands at an address of register space (R15, R199, R218, R311, R368). -/
def backingAt (a : Addr) : Option Backing :=
  let det := a - 0x0F00100000
  let cle := a - 0x0F00300000
  let spm := a - 0x0F00380000
  if 0x0F00100000 ≤ a ∧ a < 0x0F00120000 ∧ 0x4000 ≤ det % 0x8000 then
    some (.param ⟨det / 0x8000 % 4, Nat.mod_lt _ (by decide)⟩ (det % 0x8000))
  else if 0x0F00301000 ≤ a ∧ a < 0x0F0037E800 then
    if (cle - 0x1000) % 0x3F000 < 0x3E400 then some (.bank ((cle - 0x1000) / 0x3F000) ((cle - 0x1000) % 0x3F000)) else none
  else if 0x0F0037E800 ≤ a ∧ a < 0x0F00380000 then some (.cleState cle)
  else if 0x0F00384000 ≤ a ∧ a < 0x0F0038C000 then
    if spm % 0x4000 < 104 ∨ 0x2000 ≤ spm % 0x4000 then some (.spmBank (spm / 0x4000 - 1) (spm % 0x4000)) else none
  else (findReg a).map .reg

/-- The window of a unit that is fused on the FQX-1408 (R3). -/
def fusedAddr (a : Addr) (s : State) : Bool :=
  s.variant1408 &&
    ((0x0F00110000 ≤ a && a < 0x0F00120000) || (0x0F00184000 ≤ a && a < 0x0F00188000) || (0x0F00208000 ≤ a && a < 0x0F00210000) ||
     (0x0F00284000 ≤ a && a < 0x0F00288000) || (0x0F00401000 ≤ a && a < 0x0F00402000) || (0x0F00441000 ≤ a && a < 0x0F00442000))

/-- Whether the domain of a register address is powered (R14, R33, R473). -/
def addrOn (a : Addr) (s : State) : Bool :=
  if alwaysAddr a then s.power.alwaysOn else if keptAddr a then s.power.retention else s.power.core

/-! ### Fields -/

/-- The reset word of an instance; some depend on the index (R471, R650, R659). -/
def Hit.rst (h : Hit) : BitVec 40 :=
  let k := h.ix.getD 0 0
  if h.reg.base = FLT_SRC.base then fltSrcReset k
  else if h.reg.base = FLT_DEP.base then fltDepReset k (h.ix.getD 1 0)
  else if h.reg.base = INTC_SRC.base then intcSrcReset k
  else if h.reg.base = CPX_CORE_CTRL.base then cpxCoreCtrlReset k
  else h.reg.rst

/-- The first and second index of an instance. -/
def Hit.i (h : Hit) : Nat := h.ix.getD 0 0
def Hit.j (h : Hit) : Nat := h.ix.getD 1 0
def Hit.i2 (h : Hit) : Fin 2 := ⟨h.i % 2, Nat.mod_lt _ (by decide)⟩
def Hit.i3 (h : Hit) : Fin 3 := ⟨h.i % 3, Nat.mod_lt _ (by decide)⟩
def Hit.i4 (h : Hit) : Fin 4 := ⟨h.i % 4, Nat.mod_lt _ (by decide)⟩
def Hit.i32 (h : Hit) : Fin 32 := ⟨h.i % 32, Nat.mod_lt _ (by decide)⟩

/-- Whether an instance is of a register. -/
def Hit.is (h : Hit) (r : RegDef) : Bool := h.reg.base == r.base

/-- A write of one field by its type (R12). -/
def Hit.field (h : Hit) (w : Nat) (f : RegField) (s : State) : State :=
  let d : Fld := ⟨h.addr, f.lo, f.hi + 1 - f.lo, h.rst⟩
  let v := bits w d.lo d.len
  match f.ty with
  | .ro => s
  | .wo => s
  | .rw => s.set d v
  | .rws => s.set d v
  | .rwl => s.setOnce d v
  | .w1c => s.set d (s.get d &&& (2 ^ d.len - 1 - v))

/-- A word written to the fields of a register; reserved bits are not stored (R11, R12). -/
def State.store (s : State) (h : Hit) (w : Nat) : State := forEach h.reg.fields (h.field w) s

/-- A word with a field replaced by its present value, for a field whose write is ignored. -/
def keepFld (f : Fld) (s : State) (w : Nat) : Nat := setBits w f.lo f.len (s.get f)

/-- The same where the condition holds. -/
def keepIf (c : Bool) (f : Fld) (s : State) (w : Nat) : Nat := if c then keepFld f s w else w

/-! ### Writes by block -/

/-- SYS (R49, R469, R465, R731, R285). -/
def wrSys (h : Hit) (w : Nat) (s : State) : State :=
  if h.is SYS_STEPMON then (s.store h w).when (w.testBit 32) (·.set SYS_STEPMON.MIN_RATE 0xFFFF)
  else if h.is SYS_YP_CTRL then ((s.store h w).when (w.testBit 33) (coreStop 4)).when (w.testBit 34) (coreRun 4)
  else if h.is SYS_YP_EGG then (s.store h w).when (eggOn 4 s) (eggKick 4 (bits w 16 8))
  else if h.is SYS_GPIO_DIR then s.store h (if s.bit SYS_STRAP.VALID then w else setBits w 0 5 (s.get SYS_GPIO_DIR.OE))
  else if h.is SYS_GPIO_SET then s.set SYS_GPIO_OUT.OUT (s.get SYS_GPIO_OUT.OUT ||| bits w 0 16)
  else if h.is SYS_GPIO_CLR then s.set SYS_GPIO_OUT.OUT (s.get SYS_GPIO_OUT.OUT &&& (0xFFFF - bits w 0 16))
  else if h.is SYS_BEAT then s.store h (keepIf (s.variant1408 && w.testBit 1) SYS_BEAT.MASTER s w)
  else s.store h w

/-- SUP (R678, R680, R698). -/
def wrSup (h : Hit) (w : Nat) (s : State) : State :=
  if h.is SUP_CTRL then s.when (w.testBit 0) (thenDo execSupClrCnt)
  else if h.is SUP_REQ then if w.testBit 3 then supReqWrite (bits w 0 3) s else s.store h w
  else if h.is SUP_RAIL then s.when (w.testBit 32) (·.set (SUP_RAIL.MIN_MV h.i) 0xFFFF)
  else s.store h w

/-- Whether FLT treats a source as reserved (R649, R755). -/
def fltReserved (k : Nat) (s : State) : Bool := (fltResetSeverity k).isNone || (s.variant1408 && fusedSources.contains k)

/-- The bits of FLT_DEP[k][i] that exist. -/
def fltDepMask (i : Nat) (s : State) : Nat := maskOf 40 fun b => decide (40 * i + b < 192) && !fltReserved (40 * i + b) s

/-- FLT (R653, R672, R673): a write of WINDOW, LINE or DEP is logged with the origin of its master. -/
def wrFlt (m : Master) (h : Hit) (w : Nat) (s : State) : State :=
  let logged (w : Nat) : State :=
    let s := s.store h w
    s.logConfig 0x02 (h.addr % 0x10000) (s.regWord h.addr h.rst).toNat (originOf m s)
  if h.is FLT_CTRL then (s.when (w.testBit 0) (thenDo execFltClrCnt)).when (w.testBit 1) (thenDo execFltLeave)
  else if h.is FLT_CFG then logged w
  else if h.is FLT_ACTIVE then fltSum (s.store h w)
  else if h.is FLT_INJECT then if w.testBit 39 then fltInject m w s else s.store h w
  else if h.is FLT_SRC then if fltReserved h.i s then s else logged w
  else if h.is FLT_DEP then if fltReserved h.i s then s else logged (w &&& fltDepMask h.j s)
  else s.store h w

/-- EVR (R669, R670, R674). -/
def wrEvr (m : Master) (h : Hit) (w : Nat) (s : State) : State :=
  if h.is EVR_CTRL then s.when (w.testBit 0) (thenDo execEvrClrCnt)
  else if h.is EVR_MIRROR then
    let now := s.now
    (s.store h w).when (s.get EVR_MIRROR.DONE_OFS != bits w 0 20) fun s => { s with evr := { s.evr with doneAt := now } }
  else if h.is EVR_POSTA then s.when (evrPoster m h.i s) (·.store h w)
  else if h.is EVR_POSTB then
    if w.testBit 23 then evrPost m h.i w s else s.when (evrPoster m h.i s) (·.store h w)
  else s.store h w

/-- INTC (R471, R472, R474, R479, R484). -/
def wrIntc (h : Hit) (w : Nat) (s : State) : State :=
  if h.is INTC_SRC then
    if intcReserved h.i then s else intcPresentAll (intcTargetWrite h.i (bits w 4 3) (s.set (INTC_SRC.PRIO h.i) (bits w 0 4)))
  else if h.is INTC_SWI then s.when (w.testBit 8) (thenDo (execIntcSwiGo (BitVec.ofNat 8 w)))
  else if h.is INTC_PEND then intcPendWrite h.i h.j (bits w 0 32) s
  else intcPresentAll (s.store h w)

/-- MEM (R411, R414, R418). -/
def wrMem (h : Hit) (w : Nat) (s : State) : State :=
  if h.is MEM_CTRL then (s.store h w).when (w.testBit 2) (thenDo execMemClrCnt)
  else if h.is MEM_INIT then if w.testBit 39 then memInitGo (BitVec.ofNat 40 w) s else s.store h w
  else if h.is MEM_UE_INFO then (s.store h w).when (w.testBit 15) (·.set MEM_UE_INFO.MULTI 0)
  else if h.is MEM_FLIP_CTL then s.store h (keepIf (w.testBit 39 && bits w 35 2 == 3) MEM_FLIP_CTL.ARM s w)
  else s.store h w

/-- A mode register read returns what the device holds: free (R419). -/
def drcMrwGo (w : Nat) (s : State) : State :=
  let s := drcMrw w s
  if w.testBit 27 && !s.bit DRC_MRW.ERR then let (v, s) := s.fresh; s.set DRC_MRW.OP v else s

/-- DRC (R406, R409, R411, R417, R419). -/
def wrDrc (h : Hit) (w : Nat) (s : State) : State :=
  if h.is DRC_CTRL then
    let on := w.testBit 0
    let s := if on != s.bit DRC_CTRL.PHY_EN then drcPhyEn on s else s
    let s := drcChange (fun s => s.store h (keepFld DRC_CTRL.PHY_EN s w)) s
    (s.when (w.testBit 4) (thenDo execDrcClrCnt)).when (w.testBit 2) drcBringup
  else if h.is DRC_CFG then if s.bit DRC_CTRL.ENABLE then s else s.store h w
  else if h.is DRC_MRW then if w.testBit 28 then drcMrwGo w s else s.store h w
  else if h.is DRC_INIT then s.when (w.testBit 39) drcInitGo
  else if h.is DRC_SR then (s.when (w.testBit 0) drcSrEnter).when (w.testBit 1) drcSrExit
  else if h.is DRC_UE_INFO then (s.store h w).when (w.testBit 15) (·.set DRC_UE_INFO.MULTI 0)
  else s.store h w

/-- DMA_CH_CTRL: RESET alone where it is written, else ENABLE and PAUSE where they change, then SKIP or RESUME (R487, R503, R504). -/
def wrDmaCtrl (k : Fin 32) (w : Nat) (s : State) : State :=
  if w.testBit 5 then dmaReset k s
  else
    let s := if w.testBit 0 != s.bit (DMA_CH_CTRL.ENABLE k) then dmaEnable k (w.testBit 0) s else s
    let s := if w.testBit 2 != s.bit (DMA_CH_CTRL.PAUSE k) then dmaPause k (w.testBit 2) s else s
    if w.testBit 4 then dmaSkip k s else s.when (w.testBit 3) (dmaResume k)

/-- DMA (R487, R489, R498, R503, R504, R511). -/
def wrDma (h : Hit) (w : Nat) (s : State) : State :=
  let k := h.i32
  if h.is DMA_CTRL then
    let s := s.when (w.testBit 1) (thenDo execDmaClrCnt)
    if w.testBit 0 != s.bit DMA_CTRL.ENABLE then dmaEngine (w.testBit 0) s else s
  else if h.is DMA_XLAT_INV then
    if w.testBit 39 then dmaXlatInv (bits w 36 2) (bits w 28 8) (bits w 0 28) s else s.store h w
  else if h.is DMA_CH_CTRL then wrDmaCtrl k w s
  else if h.is DMA_CH_RING_PTR then dmaTail k (bits w 12 12) (s.set (DMA_CH_RING_PTR.SIZE_LOG2 k) (bits w 24 4))
  else s.store h w

/-- A field whose values outside `lo` to `hi` are not taken. -/
def keepOutside (lo hi : Nat) (f : Fld) (s : State) (w : Nat) : Nat := keepIf (bits w f.lo f.len < lo || hi < bits w f.lo f.len) f s w

/-- A signed 16-bit field limited to ±20,000. -/
def limitFreq (f : Fld) (w : Nat) : Nat := setBits w f.lo f.len (ofS 16 (clampI (-20000) 20000 (toS 16 (bits w f.lo f.len))))

/-- DCn with its detector (R177, R184, R192, R194, R199, R220, R229, R234, R235). -/
def wrDc (h : Hit) (w : Nat) (s : State) : State :=
  let c := h.i4
  if h.is DC_CTRL then
    let off := s.bit (DC_CTRL.ENABLE c) && !w.testBit 0
    let s := (s.store h w).when (w.testBit 8) (thenDo (execDcClrCnt c))
    s.when off fun s => s.modDc c fun d => { d with rcd := d.rcd.map fun r => { r with notDecoded := true } }
  else if h.is DC_RATE then if 5200000 < bits w 0 23 then s else dcSetRate c (bits w 0 23) s
  else if h.is DC_TIMING then s.store h (limitFreq (DC_TIMING.FREQ c) w)
  else if h.is DC_SYNC then s.store h (keepOutside 8 512 (DC_SYNC.SYNC_WIN c) s (keepOutside 8 512 (DC_SYNC.SYNC2_WIN c) s w))
  else if h.is DC_RING_REL then dcRelease c (bits w 0 4) s
  else if h.is DC_CAL then (s.store h w).when (w.testBit 2) (dcCalStart c (bits w 0 2))
  else if h.is DET_CTRL then (s.store h w).when (w.testBit 8) (thenDo (execDetClrStats c))
  else if h.is DET_GSR_NEXT then gsrNext c (bits w 6 34 * 64) s
  else if h.is DET_BB_CTRL then if s.bit (DET_BB_STATUS.BUSY c) then s else s.store h w
  else if h.is DET_BB_TAIL then bbTail c (bits w 0 10) s
  else s.store h w

/-- WPn (R242, R249, R253, R264). The zone that WP_CAL.START acts on is that of the open write program, which no register names: its
number is free. -/
def wrWp (h : Hit) (w : Nat) (s : State) : State :=
  let n := h.i2
  if h.is WP_CTRL then
    let up := w.testBit 10 && !s.bit (WP_CTRL.INHIBIT n)
    ((s.store h w).when up (wpInhibit n)).when (w.testBit 11) (thenDo (execWpClrCnt n))
  else if h.is WP_RATE then
    s.store h (keepIf (5200000 < bits w 0 23) (WP_RATE.BIT_RATE n) s (limitFreq (WP_RATE.FREQ n) w))
  else if h.is WP_CAL then
    let s := s.store h w
    if w.testBit 0 then let (z, s) := s.fresh; wpCalStart n z s else s
  else s.store h w

/-- SVDn (R271, R287, R288). -/
def wrSvd (h : Hit) (w : Nat) (s : State) : State :=
  let v := h.i4
  if h.is SVD_CTRL then
    let was := s.bit (SVD_CTRL.ENABLE v)
    let on := w.testBit 0
    let s := (s.store h w).when (w.testBit 2) (thenDo (execSvdClrCnt v))
    if on && !was then s.when (s.get (SVD_STATUS.HEAD v) != 0x1F) (svdSearch v)
    else if !on && was then
      if s.get (SVD_STATUS.STATE v) = 0 then s
      else beatLost v.val ((svdSearch v s).set (SVD_STATUS.STATE v) 0)
    else s.when (w.testBit 1) (thenDo (execSvdForceSearch v))
  else s.store h w

/-- CLE (R306 to R308, R313, R314, R326). -/
def wrCle (h : Hit) (w : Nat) (s : State) : State :=
  if h.is CLE_CTRL then
    (s.store h (keepIf s.variant1408 CLE_CTRL.ACT1_EN s w)).when (w.testBit 3) cleClrSticky
  else if h.is CLE_ACT_CMD then actCmdWrite h.i2 (BitVec.ofNat 40 w) s
  else if h.is CLE_SPM_CMD then spmCmdWrite (BitVec.ofNat 40 w) s
  else if h.is CLE_BANK then ((s.store h w).when (w.testBit 0) bankCheckReq).when (w.testBit 1) bankSwitchReq
  else s.store h w

/-- SPM (R328, R336, R348, R353, R357, R367). -/
def wrSpm (h : Hit) (w : Nat) (s : State) : State :=
  if h.is SPM_CTRL then
    let off := s.bit SPM_CTRL.ENABLE && !w.testBit 0
    ((s.store h w).when (w.testBit 2) (thenDo execSpmClrCnt)).when off spmDisable
  else if h.is SPM_CMD then
    if w.testBit 2 then spmCoast s else if w.testBit 1 then spmStop s else s.when (w.testBit 0) spmRun
  else if h.is SPM_GRADE then
    let s := s.store h (keepFld SPM_GRADE.REQ s w)
    spmTarget (spmGradeReq (bits w 0 2) s)
  else if h.is SPM_ANGLE then (s.store h w).set SPM_STATUS.OFFSET_VALID 1
  else if h.is SPM_CAL then (s.store h w).when (w.testBit 0) spmCalStart
  else s.store h w

/-- FMSn (R372, R383, R385, R396). -/
def wrFms (h : Hit) (w : Nat) (s : State) : State :=
  let n := h.i2
  if h.is FMS_CTRL then
    let halted := s.bit (FMS_STATUS.HALTED n)
    let s := (s.store h w).when (w.testBit 14) (fmsAttn n)
    if halted then s.when (w.testBit 12) (fmsRun n (bits w 0 12)) else s.when (w.testBit 13) (fmsHaltReq n)
  else if h.is FMS_TPQ_PTR then tpdIrq n (s.store h w)
  else s.store h w

/-- PSLn (R164, R174, R175). The link runs while ENABLE is 1 and RST is 0; a write that makes it run starts a negotiation, and one
that ends that stops it. -/
def wrPsl (h : Hit) (w : Nat) (s : State) : State :=
  let n := h.i2
  if h.is PSL_CTRL then
    let runs (s : State) : Bool := s.bit (PSL_CTRL.ENABLE n) && !s.bit (PSL_CTRL.RST n)
    let was := runs s
    let s := (s.store h w).when (w.testBit 4) (thenDo (execPslCtrlClrErr n))
    if !was && runs s then pslNegotiate n s
    else if was && !runs s then pslHalt n s
    else s.when (w.testBit 2 && !s.bit (PSL_CTRL.RST n)) (pslNegotiate n)
  else if h.is PSL_CMD then
    let ty := bits w 0 4
    if !w.testBit 28 then if s.bit (PSL_CMD.BUSY n) then s.set (PSL_CMD.ERR n) 1 else s.store h w
    else if ty ∈ [0x0, 0x2, 0x3, 0x4, 0xB] then thenDo (pslCommand n ty (BitVec.ofNat 8 (bits w 4 8)) (BitVec.ofNat 16 (bits w 12 16))) s
    else (s.store h w).set (PSL_CMD.ERR n) 1
  else s.store h w

/-- ADLn (R320, R322, R324, R325, R327). -/
def wrAdl (h : Hit) (w : Nat) (s : State) : State :=
  let n := h.i2
  if h.is ADL_CTRL then
    let runs (s : State) : Bool := s.bit (ADL_CTRL.ENABLE n) && !s.bit (ADL_CTRL.RST n)
    let was := runs s
    let parked := s.bit (ADL_CTRL.PARK n)
    let s := (s.store h w).when (w.testBit 4) (thenDo (execAdlClrErr n))
    let s := if !was && runs s then adlStart n s
      else if was && !runs s then (adlSetDown n (adlPark n 3 4 s)).modAdl n fun a => { a with waitHello := false, attempts := 0 }
      else s.when (w.testBit 2 && !s.bit (ADL_CTRL.RST n)) (adlNegotiateReq n)
    let s := if w.testBit 6 && !parked then adlPark n 0 1 s else if !w.testBit 6 && parked then adlUncause n 0 s else s
    s.when (w.testBit 5) (thenDo (execAdlUnpark n))
  else if h.is ADL_CMD then
    let ty := bits w 0 4
    if !w.testBit 28 then s.store h w
    else if ty ∈ [2, 4, 5, 6, 7] then adlCmd n ty (BitVec.ofNat 8 (bits w 4 8)) (BitVec.ofNat 16 (bits w 12 16)) s
    else (s.store h w).set (ADL_CMD.ERR n) 1
  else s.store h w

/-- CIP (R636, R639, R645, R648). -/
def wrCip (m : Master) (h : Hit) (w : Nat) (s : State) : State :=
  if h.is CIP_CTRL then
    let s := s.set CIP_CTRL.RET_OFS (bits w 8 16)
    let s := ((s.when (w.testBit 3) (thenDo execCipClrCnt)).when (w.testBit 2) cipOnDemand).when (w.testBit 1) cipZeroize
    if w.testBit 0 then cipEnable s else s.setOnce CIP_CTRL.ENABLE 0
  else if h.is CIP_UNLK then
    if !isDebug m then s
    else if !w.testBit 3 then s.store h w
    else if bits w 6 34 = 0 then unlkRequest (bits w 4 2) s
    else unlkVerify (bits w 6 34) (bits w 4 2) s
  else s.store h w

/-- PCE (R514, R517, R535, R538, R539). -/
def wrPce (h : Hit) (w : Nat) (s : State) : State :=
  if h.is PCE_CTRL then
    let on := w.testBit 0
    let s := (s.store h (keepFld PCE_CTRL.LTSSM_EN s w)).when (w.testBit 2) (thenDo execPceClrCnt)
    if on != s.bit PCE_CTRL.LTSSM_EN then pceLtssm on s else s
  else if h.is PCE_ID || h.is PCE_DSN_L || h.is PCE_DSN_H then if s.bit PCE_CTRL.LTSSM_EN then s else s.store h w
  else if h.is PCE_FLR then (s.store h w).when (w.testBit 2) pceComplete
  else s.store h w

/-- NVQ (R546, R547, R578). -/
def wrNvq (h : Hit) (w : Nat) (s : State) : State :=
  if h.is NVQ_CTRL then (s.store h w).when (w.testBit 1) (thenDo execNvqClrCnt)
  else if h.is NVQ_POST_PTR then nvqProd (bits w 12 12) (s.store h w)
  else if h.is NVQ_CR_PTR then crShow h.i (s.store h w)
  else s.store h w

/-- FNI (R581, R585, R599, R614). -/
def wrFni (h : Hit) (w : Nat) (s : State) : State :=
  if h.is FNI_CTRL then
    let was := s.bit FNI_CTRL.ENABLE
    let s := (s.store h w).when (w.testBit 4) fniClrCnt
    if w.testBit 0 && !was then fniEnable s
    else if !w.testBit 0 && was then fniDisable s
    else s.when (w.testBit 7) fniRestart
  else if h.is FNI_EVQ then if w.testBit 39 then fniEvq w s else s.store h w
  else s.store h w

/-- ODE (R610, R615): only the master of a request register writes it. -/
def wrOde (m : Master) (h : Hit) (w : Nat) (s : State) : State :=
  if h.is ODE_REQ then
    if w.testBit 0 then odeGo m h.i3 (bits w 6 34) none true s else s.when (odeOrigin m h.i3 s).isSome (·.store h w)
  else s.store h w

/-- CPX (R458, R459, R464, R465, R468). -/
def wrCpx (h : Hit) (w : Nat) (s : State) : State :=
  if h.is CPX_CORE_CTRL then
    (s.when (w.testBit 4) (coreStop (coreOfY h.i4))).when (w.testBit 3) (coreRun (coreOfY h.i4))
  else if h.is CPX_EGG then (s.store h w).when (eggOn (coreOfY h.i4) s) (eggKick (coreOfY h.i4) (bits w 16 8))
  else if h.is CPX_L2_CTRL then
    let was := s.bit CPX_L2_CTRL.BLOCKING
    let s := (s.store h (keepFld CPX_L2_CTRL.BLOCKING s w)).when (w.testBit 3) cpxClrCnt
    if w.testBit 0 != was then l2Blocking (w.testBit 0) s else s
  else if h.is CPX_L2_LFSR then s.store h (if bits w 0 16 = 0 then 1 else w)
  else if h.is CPX_L2_ERR_INFO then (s.store h w).when (w.testBit 15) (·.set CPX_L2_ERR_INFO.MULTI 0)
  else s.store h w

/-- A write to a register instance. -/
def regWrite (m : Master) (h : Hit) (w : Nat) (s : State) : State :=
  match h.reg.block with
  | .sys => wrSys h w s
  | .sup => wrSup h w s
  | .flt => wrFlt m h w s
  | .evr => wrEvr m h w s
  | .intc => wrIntc h w s
  | .mem => wrMem h w s
  | .drc => wrDrc h w s
  | .dma => wrDma h w s
  | .dc => wrDc h w s
  | .wp => wrWp h w s
  | .fms => wrFms h w s
  | .svd => wrSvd h w s
  | .cle => wrCle h w s
  | .spm => wrSpm h w s
  | .psl => wrPsl h w s
  | .adl => wrAdl h w s
  | .cip => wrCip m h w s
  | .pce => wrPce h w s
  | .nvq => wrNvq h w s
  | .fni => wrFni h w s
  | .ode => wrOde m h w s
  | .cpx => wrCpx h w s
  | .dbg => s

/-- A slot of the detector parameter memory (R218). -/
def paramSlot (c : Fin 4) (ofs : Nat) : Fld := ⟨0x0F00100000 + 0x8000 * c.val + ofs, 0, 40, 0⟩

/-- A write to what stands at an address. The last byte of slot 60 of a detector record and slots 61 to 63 are zero; the active SPM
bank ignores a write (R218, R311, R368). -/
def backingWrite (m : Master) (b : Backing) (w : Nat) (s : State) : State :=
  match b with
  | .reg h => regWrite m h w s
  | .param c ofs =>
    let i := ofs / 8 % 64
    if 61 ≤ i then s else s.set (paramSlot c ofs) (if i = 60 then w % 2 ^ 32 else w)
  | .bank k ofs => bankWrite k ofs (BitVec.ofNat 40 w) s
  | .cleState ofs => s.set (cleSlot ofs) w
  | .spmBank k ofs =>
    if k = activeBank s then s.set SPM_INT.WERR 1
    else s.set (spmSlot (0x4000 + 0x4000 * k + ofs)) (if 0x2000 ≤ ofs then w % 2 ^ 16 else if ofs = 96 then w % 2 ^ 32 else w)

/-! ### Reads -/

/-- SYS_STEPMON: the step rate is not fixed by the spec, so it is free; MIN_RATE is at most any rate seen (R49). -/
def stepmonRead (s : State) : State :=
  if !s.power.core then s
  else
    let (r, s) := s.fresh
    let (x, s) := s.fresh
    let s := (s.set SYS_STEPMON.STEP_RATE r).set SYS_STEPMON.VALID 1
    s.set SYS_STEPMON.MIN_RATE (min (s.get SYS_STEPMON.MIN_RATE) (min (s.get SYS_STEPMON.STEP_RATE) (x % 0x10000)))

/-- What a read of SYS first brings up to date (R53, R730, R735). The level of a GPIO input is free, that of an output is driven. -/
def rdSys (h : Hit) (s : State) : State :=
  if h.is SYS_STRAP then
    (((s.set SYS_STRAP.VARIANT_1408 (boolNat s.variant1408)).set SYS_STRAP.TEST_EN (boolNat s.sup.testEn)).set SYS_STRAP.SPINGATE
      (boolNat s.sup.spingate)).set SYS_STRAP.SLOT s.sup.slot
  else if h.is SYS_TICK_L then (s.set SYS_TICK_L.TICK_LO s.now).set SYS_TICK_H.TICK_HI (bits s.now 40 24)
  else if h.is SYS_STEPMON then stepmonRead s
  else if h.is SYS_GPIO_IN then
    let (v, s) := s.fresh
    let oe := s.get SYS_GPIO_DIR.OE
    s.set SYS_GPIO_IN.IN ((s.get SYS_GPIO_OUT.OUT &&& oe) ||| (v % 0x10000 &&& (0xFFFF - oe)))
  else s

/-- What a read of another block first brings up to date. -/
def rdOther (h : Hit) (s : State) : State :=
  if h.is DC_STATUS || h.is DC_VGA || h.is DC_BASE || h.is DC_TRIM || h.is DC_TIMING then dcLoops h.i4 s
  else if h.is SPM_STATUS then s.set SPM_STATUS.PERMIT (boolNat (permitted s))
  else if h.is PCE_FLR then s.set PCE_FLR.DMA_QUIET (s.get DMA_HOST.FLR_DONE)
  else if h.is FNI_STATUS then s.set FNI_STATUS.FALLBACK_HOLD (s.get SYS_REFCLK.FALLBACK)
  else if h.is FLT_STATUS && s.bit FLT_STATUS.FAULT then
    s.set FLT_STATUS.QUIET_LEFT ((s.flt.quiet + s.get FLT_CFG.QUIET * 100000 - s.now + 99999) / 100000)
  else s

/-- The word that a read of a register instance answers. -/
def regRead (h : Hit) (s : State) : Nat × State :=
  if h.is SVD_SAM_L then
    let t := svdSamRead h.i4 s
    (t.svd[h.i4].last % 2 ^ 40, { t with resp := s.resp })
  else if h.is CIP_RNG then
    let t := cipRng s
    ((match t.resp with | .data v => v.toNat | _ => 0), { t with resp := s.resp })
  else
    let s := if h.reg.block = .sys then rdSys h s else rdOther h s
    ((s.regWord h.addr h.rst).toNat, s)

/-- The word that a read of what stands at an address answers. -/
def backingRead (b : Backing) (s : State) : Nat × State :=
  match b with
  | .reg h => regRead h s
  | .param c ofs => (s.get (paramSlot c ofs), s)
  | .bank k ofs => (s.get (bankSlot k ofs), s)
  | .cleState ofs => (s.get (cleSlot ofs), s)
  | .spmBank k ofs => (s.get (spmSlot (0x4000 + 0x4000 * k + ofs)), s)

/-! ### Accesses -/

/-- How a unit or a master that may reach register space is turned away (R3, R15, R16, R35); `full` is a 40-bit access. -/
def unitFail (full : Bool) (a : Addr) (s : State) : Option Resp :=
  if !full || a % 8 != 0 then some .decodeError
  else if fusedAddr a s then none
  else if decide (a < 0x0F00000000 ∨ 0x0F00800000 ≤ a) then some .decodeError
  else if !addrOn a s then some .busError
  else if (backingAt a).isNone then some .decodeError
  else none

/-- What the debug port at level 0 is kept from (R645): all but CIP_UNLK, CIP_UNLK_NONCE and CIP_STATUS; its writes of ODE_REQ[2],
EVR_POSTA[5] and EVR_POSTB[5] go through and are ignored there. -/
def debugKept (write : Bool) (a : Addr) : Bool :=
  match findReg a with
  | some h =>
    !(h.is CIP_UNLK || h.is CIP_UNLK_NONCE || h.is CIP_STATUS ||
      (write && ((h.is ODE_REQ && h.i == 2) || ((h.is EVR_POSTA || h.is EVR_POSTB) && h.i == 5))))
  | none => true

/-- How a master's access to register space is turned away (R40, R645). -/
def busFail (m : Master) (write full : Bool) (a : Addr) (s : State) : Option Resp :=
  if isDebug m && s.get CIP_STATUS.DBG_LEVEL == 0 && debugKept write a then some .busError
  else if m = .dma then some .decodeError
  else unitFail full a s

/-- An access that is not turned away: a fused unit reads zero and ignores writes (R3). -/
def unitWriteReg (m : Master) (a w : Nat) (s : State) : State :=
  if fusedAddr a s then s else match backingAt a with | some b => backingWrite m b w s | none => s

def unitReadReg (a : Nat) (s : State) : Nat × State :=
  if fusedAddr a s then (0, s) else match backingAt a with | some b => backingRead b s | none => (0, s)

/-- A write to register space by a master, with the answer it gets; one that is turned away changes no field (R16). -/
def busWrite (m : Master) (full : Bool) (a w : Nat) (s : State) : State :=
  match busFail m true full a s with
  | some r => { s with resp := r }
  | none => { unitWriteReg m a w s with resp := .ok }

/-- A read of register space by a master. -/
def busRead (m : Master) (full : Bool) (a : Nat) (s : State) : State :=
  match busFail m false full a s with
  | some r => { s with resp := r }
  | none => let (v, s) := unitReadReg a s; { s with resp := .data (BitVec.ofNat 40 v) }

/-- REGISTER_WRITE (R10 to R16). -/
def execRegisterWrite (m : Master) (full : Bool) (a w : BitVec 40) (s : State) : Out := .next (busWrite m full a.toNat w.toNat s)

end Sys2Proof.Machine
end

