-- ==== Sys2Proof/Machine/Operands.lean ====
section
/-! DEFINITION. The operand forms of the Yomet-40 formats (R426): immediates as the formats extend them, and branch targets. -/

namespace Sys2Proof.Machine

/-- imm24 sign-extended to 40 bits. -/
def sext24 (i : BitVec 24) : Word := i.signExtend 40

/-- imm24 zero-extended to 40 bits. -/
def zext24 (i : BitVec 24) : Word := i.setWidth 40

/-- imm29 sign-extended to 40 bits. -/
def sext29 (i : BitVec 29) : Word := i.signExtend 40

/-- The target of a branch: PC + sext(imm24) × 8. -/
def branchTarget (pc : Word) (i : BitVec 24) : Word := pc + sext24 i * 8

/-- The target of JAL: PC + sext(imm29) × 8. -/
def jalTarget (pc : Word) (i : BitVec 29) : Word := pc + sext29 i * 8

/-- What LUI writes: imm24[15:0] << 24. -/
def luiValue (i : BitVec 24) : Word := i.setWidth 40 <<< 24

/-- The amount of a shift by an immediate: imm24[5:0]. -/
def shiftImm (i : BitVec 24) : Nat := i.toNat % 64

/-- Whether an immediate of SLLI, SRLI or SRAI is outside the limits of R427. -/
def shiftImmBad (i : BitVec 24) : Bool := decide (39 < i.toNat % 64) || i.toNat / 64 != 0

/-- A bit vector of a smaller size extended to 40 bits, signed or not (R422). -/
def extendTo (signed : Bool) (n v : Nat) : Word :=
  if signed then BitVec.ofInt 40 (toS (8 * n) v) else BitVec.ofNat 40 (v % 2 ^ (8 * n))

/-- The eight bytes of an extended store: five of data, then three copies of bit 39 (R422). -/
def extendedBytes (v : Word) : List Byte := leBytes 8 (v.signExtend 64).toNat

/-- The bytes that a store of `n` bytes writes (R422). -/
def storeImage (n : Nat) (v : Word) : List Byte := if n = 8 then extendedBytes v else leBytes n v.toNat

end Sys2Proof.Machine
end

