-- ==== Sys2Proof/Machine/CoreOps.lean ====
section
/-! DEFINITION. What the instructions of a core share: its registers, translation, the accesses of fetch, load and store, taking an
exception and an interrupt, and the frame in which an instruction runs (R421 to R452, R466). -/

namespace Sys2Proof.Machine

/-! ### Registers -/

/-- A general register; g0 reads as zero (R421). -/
def Core.greg (x : Core) (r : Fin 32) : Word := if r = 0 then 0 else x.regs[r]

/-- A general register written; a write to g0 is discarded (R421). -/
def Core.setReg (x : Core) (r : Fin 32) (v : Word) : Core := if r = 0 then x else { x with regs := x.regs.set r v }

/-- A general register of core `c`. -/
def State.greg (s : State) (c : Fin 5) (r : Fin 32) : Word := s.cores[c].greg r

/-- The fields of STATUS (R431). -/
def Core.ie (x : Core) : Bool := x.status.getLsbD 0
def Core.supervisor (x : Core) : Bool := x.status.getLsbD 1
def Core.mmuOn (x : Core) : Bool := x.status.getLsbD 4

/-- STATUS on entry to an exception or an interrupt: IE to PIE and S to PS, IE cleared, S set (R434). -/
def enterStatus (v : Word) : Word :=
  BitVec.ofNat 40 (16 * (bits v.toNat 4 1) + 8 * bits v.toNat 1 1 + 4 * bits v.toNat 0 1 + 2)

/-- STATUS after RFE: PIE to IE and PS to S; S reads 1 in YP (R438, R466). -/
def leaveStatus (yp : Bool) (v : Word) : Word :=
  BitVec.ofNat 40 (v.toNat / 4 % 8 * 4 + (if yp then 2 else 2 * bits v.toNat 3 1) + bits v.toNat 2 1)

/-- Whether a core is YP. -/
def isYp (c : Fin 5) : Bool := c == 4

/-! ### Exceptions -/

/-- What an access is for: the codes of FAULTINFO.ACCESS (R431). -/
inductive Acc where
  | fetch | load | store | cache
  deriving DecidableEq, Repr

def Acc.code : Acc → Nat
  | .fetch => 0
  | .load => 1
  | .store => 2
  | .cache => 3

/-- An exception to be taken: its code, BADADDR, and FAULTINFO (R433, R435). -/
structure Exc where
  code : Nat
  addr : Word
  info : Nat := 0
  deriving DecidableEq, Repr

/-- The outcome of a part of an instruction, with what it did to the machine even where it ends in an exception. -/
abbrev Try (α : Type) := Except Exc α × State

/-- FAULTINFO from its fields (R431). -/
def faultInfo (k : Acc) (level reason : Nat) : Nat := k.code + 4 * level + 16 * reason

/-- The exception of a translation fault (R433). -/
def pageFault (k : Acc) (va : Word) (level reason : Nat) : Exc :=
  { code := match k with | .fetch => 4 | .store => 12 | _ => 8
    addr := va, info := faultInfo k level reason }

/-- The exception of a decode, bus or region error (R433). -/
def accessFault (k : Acc) (va : Word) (reason : Nat) : Exc :=
  { code := match k with | .fetch => 5 | .store => 13 | _ => 9
    addr := va, info := faultInfo k 0 reason }

/-- The exception of an uncorrectable mark or poison: FETCH_ERROR or DATA_ERROR (R414, R433). -/
def dataError (k : Acc) (va : Word) : Exc :=
  { code := match k with | .fetch => 6 | _ => 10
    addr := va, info := faultInfo k 0 10 }

/-- The alignment exception of a load or a store (R422). -/
def alignFault (k : Acc) (va : Word) : Exc :=
  { code := match k with | .store => 11 | _ => 7
    addr := va, info := faultInfo k 0 0 }

/-- FETCH_ALIGN of a control transfer (R423, R433). -/
def fetchAlign (target : Word) : Exc := { code := 3, addr := target }

/-- The exception of a failed physical access (R435). -/
def failExc (k : Acc) (va : Word) (f : AccFail) : Exc :=
  match f with
  | .decode => accessFault k va 7
  | .region => accessFault k va 6
  | .bus => accessFault k va 8
  | .off => accessFault k va 8
  | .ue => dataError k va

/-- The exception of an answer of register space. -/
def respExc (k : Acc) (va : Word) (r : Resp) : Exc :=
  match r with
  | .decodeError => accessFault k va 7
  | _ => accessFault k va 8

/-! ### Translation -/

/-- The rows' data of a WB read, with whether a row it takes is marked or poisoned; none for a bus error (R455). -/
def wbRead (req : Nat) (a n : Nat) (s : State) : Option (List Byte × Bool) × State :=
  match l2Get req (a / 64) s with
  | (none, s) => (none, s)
  | (some l, s) =>
    (some (slice l.data (a % 64) n, (l.poison ||| l.mark).testBit (a % 64 / 8)), s)

/-- REQ of MEM_UE_INFO for a core's fetch and its data (R418). -/
def coreReq (c : Fin 5) (k : Acc) : Nat := if isYp c then 2 else if k = .fetch then 0 else 1

/-- A page-table entry read by the walker of a Y core, through the L2 as WB where the L2 caches the table's memory (R447, R449). -/
def walkRead (c : Fin 5) (a : Addr) (s : State) : Option (BitVec 40) × State :=
  if !tableRegion a s then (none, s)
  else if l2Caches a s then
    match wbRead 1 a 5 s with
    | (some (l, false), s) => (some (BitVec.ofNat 40 (leNat l)), s)
    | (_, s) => (none, s)
  else
    match physRead (coreMaster c) 1 a 5 s with
    | ((l, none), s) => (if l.any (·.2) then none else some (BitVec.ofNat 40 (leNat (l.map (·.1)))), s)
    | (_, s) => (none, s)

/-- Whether a leaf grants an access (R448). -/
def leafGrants (k : Acc) (supervisor : Bool) (e : BitVec 40) : Bool :=
  (match k with
    | .fetch => pteX e && !(supervisor && pteU e)
    | .load => pteR e
    | .store => pteR e && pteW e
    | .cache => pteLeaf e) && (supervisor || pteU e)

/-- The physical address of a leaf and whether its access is uncached, or the permission fault (R446 to R448). -/
def leafUse (k : Acc) (supervisor : Bool) (e : BitVec 40) (big : Bool) (va : Word) (s : State) : Except Exc (Addr × Bool) :=
  if !leafGrants k supervisor e then .error (pageFault k va (if big then 1 else 2) 2)
  else
    let pa := leafAddr e big va.toNat
    .ok (pa, pteUc e || !l2Caches pa s)

/-- The physical address of a virtual one, and whether the access is uncached (R445 to R451). YP has no MMU and every access of it
is UC (R466). -/
def translate (c : Fin 5) (k : Acc) (va : Word) (s : State) : Try (Addr × Bool) :=
  let x := s.cores[c]
  if isYp c then (.ok (va.toNat, true), s)
  else if !x.mmuOn then
    if !x.supervisor then (.error (pageFault k va 0 9), s) else (.ok (va.toNat, !l2Caches va.toNat s), s)
  else
    let asid := x.asid.toNat
    match xlatFind x.tlb asid va.toNat with
    | some t => (leafUse k x.supervisor t.leaf t.big va s, s)
    | none =>
      match walk (walkRead c) (x.ptbase.toNat / 4096 * 4096) (x.ptbase.toNat % 32) va.toNat s with
      | (.fault reason level, s) => (.error (pageFault k va level reason), s)
      | (.leaf e big, s) =>
        let r := leafUse k x.supervisor e big va s
        (r, s.when r.isOk fun s => s.modCore c fun x => { x with
          tlb := xlatAdd 64 x.tlb { asid := asid, vpn := va.toNat / 4096, big := big, leaf := e } })

/-! ### Caches and stores of a core -/

/-- A line enters an L1 cache of 128 sets of four ways; from a full set, the way `v` leaves (R453). -/
def l1Add (v line : Nat) (l : List Nat) : List Nat :=
  if l.contains line then l
  else
    let set := l.filter fun k => k % 128 == line % 128
    (if set.length < 4 then l else l.filter fun k => some k != set[v % 4]?) ++ [line]

/-- A line enters the L1 instruction cache; which way it replaces is free. -/
def l1iFill (c : Fin 5) (line : Nat) (s : State) : State :=
  let set := s.cores[c].l1i.filter fun k => k % 128 == line % 128
  let (v, s) := if set.length < 4 then (0, s) else s.fresh
  s.modCore c fun x => { x with l1i := l1Add v line x.l1i }

/-- The oldest buffered store of a core is performed. -/
def drainOne (c : Fin 5) (s : State) : State :=
  match s.cores[c].stores with
  | [] => s
  | p :: r => l2Store c p.1 p.2 (s.modCore c fun x => { x with stores := r })

/-- A WB store enters the buffer of 8 entries; a full one first performs its oldest (R441). -/
def bufferStore (c : Fin 5) (a : Addr) (bs : List Byte) (s : State) : State :=
  let s := if 8 ≤ s.cores[c].stores.length then drainOne c s else s
  s.modCore c fun x => { x with stores := x.stores ++ [(a, bs)] }

/-- The byte that the youngest buffered store of a core holds for an address. -/
def bufferedByte (c : Fin 5) (a : Addr) (s : State) : Option Byte :=
  s.cores[c].stores.foldl (fun r p => if p.1 ≤ a ∧ a < p.1 + p.2.length then p.2[a - p.1]? else r) none

/-- IFENCE: the earlier stores are performed and the L1 instruction cache is emptied (R444). -/
def isync (c : Fin 5) (s : State) : State := (coreDrain c s).modCore c fun x => { x with l1i := [] }

/-! ### Fetch -/

/-- The instruction slot at PC is fetched: how the fetch fails, and what it brings into the caches (R40, R41, R414, R433). A line that
holds a mark or poison is not kept in the L1. -/
def fetch (c : Fin 5) (s : State) : Try Unit :=
  let pc := s.cores[c].pc
  match translate c .fetch pc s with
  | (.error e, s) => (.error e, s)
  | (.ok (pa, uc), s) =>
    let r := regionOf pa s
    if r = .none then (.error (accessFault .fetch pc 7), s)
    else if !mayFetch (coreMaster c) r then (.error (accessFault .fetch pc 6), s)
    else if uc then
      match physRead (coreMaster c) (coreReq c .fetch) pa 5 (coreDrain c s) with
      | ((_, some f), s) => (.error (failExc .fetch pc f), s)
      | ((l, none), s) => (if l.any (·.2) then .error (dataError .fetch pc) else .ok (), s)
    else if s.cores[c].l1i.contains (pa / 64) then (.ok (), s)
    else
      match l2Get 0 (pa / 64) s with
      | (none, s) => (.error (accessFault .fetch pc 8), s)
      | (some l, s) =>
        let m := l.poison ||| l.mark
        if m.testBit (pa % 64 / 8) then (.error (dataError .fetch pc), s)
        else (.ok (), s.when (m == 0) (l1iFill c (pa / 64)))

/-! ### Entry -/

/-- A core halts because the first fetch at a vector failed (R440). -/
def vectorHalt (c : Fin 5) (s : State) : State :=
  let s := s.modCore c fun x => { x with halted := true }
  let s := coreShow c false false s
  if isYp c then s else (s.set CPX_INT.VFAULT (s.get CPX_INT.VFAULT ||| 2 ^ c.val)).raise (80 + c.val)

/-- What every entry does: EPC takes PC, CAUSE its value, STATUS its entry form, the reservation is cleared, and it acts as an
IFENCE (R434, R436). -/
def enter (c : Fin 5) (cause : Word) (s : State) : State :=
  isync c (s.modCore c fun x => { x with epc := x.pc, cause := cause, status := enterStatus x.status, reserved := none, shadow := false })

/-- The vector of an exception code (R433). -/
def vectorOf (x : Core) (code : Nat) : Word := x.evbase + BitVec.ofNat 40 (64 * code)

/-- An exception is taken (R434, R440). -/
def takeException (c : Fin 5) (e : Exc) (s : State) : State :=
  let s := s.modCore c fun x => { x with badaddr := e.addr, faultinfo := BitVec.ofNat 40 e.info }
  let s := enter c (BitVec.ofNat 40 e.code) s
  let s := coreShow c false false (s.modCore c fun x => { x with pc := vectorOf x e.code })
  match fetch c s with
  | (.ok _, s) => s
  | (.error _, s) => vectorHalt c s

/-- CAUSE of an interrupt from a source: INTR with SOURCE (R431, R436). -/
def causeOfSource (k : Nat) : Word := BitVec.ofNat 40 (2 ^ 39 + 256 * k)

/-- The presented interrupt is taken: BADADDR and FAULTINFO stay, and the core jumps to the vector presented (R436, R476). -/
def takeInterrupt (c : Fin 5) (s : State) : State :=
  let k := s.get (INTC_STATE.SRC c.val)
  let s := (s.set (INTC_STATE.TAKEN_SRC c.val) k).set (INTC_STATE.TAKEN_PRIO c.val) (s.get (INTC_STATE.PRIO c.val))
  let s := enter c (causeOfSource k) s
  coreShow c false false (s.modCore c fun x => { x with pc := BitVec.ofNat 40 (intcVector c.val k s) })

/-- RFE: PC from EPC, the status back, the reservation cleared, and an IFENCE (R438). -/
def returnFrom (c : Fin 5) (s : State) : State :=
  let s := isync c (s.modCore c fun x => { x with status := leaveStatus (isYp c) x.status, reserved := none, pc := x.epc, shadow := false })
  coreShow c false (coreWaits c s) s

/-! ### The frame of an instruction -/

/-- Whether a core is powered: YP with the retention domain, the others with the core domain (R33, R466). -/
def corePowered (c : Fin 5) (s : State) : Bool := if isYp c then s.power.retention else s.power.core

/-- Whether a core executes instructions: powered, not held, not halted, not in WFI (R439, R440, R464). -/
def coreRuns (c : Fin 5) (s : State) : Bool :=
  corePowered c s && !coreHeldBit c s && !s.cores[c].halted && !coreWaits c s

/-- Whether a core takes an interrupt at this boundary: one is presented, IE is 1, and the last instruction was no store (R436). -/
def interruptDue (c : Fin 5) (s : State) : Bool :=
  s.bit (INTC_STATE.PRESENT c.val) && s.cores[c].ie && !s.cores[c].shadow

/-- The core goes on at `pc`; `store` says that the instruction was a store (R423, R436). -/
def goto (c : Fin 5) (pc : Word) (store : Bool) (s : State) : State := s.modCore c fun x => { x with pc := pc, shadow := store }

/-- The core goes on at the next slot (R423). -/
def advance (c : Fin 5) (s : State) : State := goto c (s.cores[c].pc + 8) false s

/-- The result of an instruction that writes rd and goes on (R421). -/
def writeRd (c : Fin 5) (rd : Fin 32) (v : Word) (s : State) : State := advance c (s.modCore c fun x => x.setReg rd v)

/-- An instruction whose own effect cannot fail. -/
def done (s : State) : Try Unit := (.ok (), s)

/-- The exceptions that come before an instruction's own effect: ILLEGAL under R430, then PRIV under R424. -/
def early (illegal priv : Bool) (x : Core) : Option Exc :=
  if illegal then some { code := 1, addr := x.pc }
  else if priv && !x.supervisor then some { code := 2, addr := x.pc }
  else none

/-- An instruction after its fetch: an early exception, or its effect, which may end in an exception (R432). -/
def effectOf (c : Fin 5) (illegal priv : Bool) (f : State → Try Unit) (s : State) : State :=
  match early illegal priv s.cores[c] with
  | some e => takeException c e s
  | none =>
    match f s with
    | (.ok _, t) => t
    | (.error e, t) => takeException c e t

/-- An instruction of core `c` at its PC: a core that does not run does nothing, an interrupt that is due is taken in its place, and a
fetch that fails takes its exception. -/
def runInstr (c : Fin 5) (illegal priv : Bool) (f : State → Try Unit) (s : State) : State :=
  if !coreRuns c s then s
  else if interruptDue c s then takeInterrupt c s
  else
    match fetch c s with
    | (.error e, t) => takeException c e t
    | (.ok _, t) => effectOf c illegal priv f t

/-- An unprivileged instruction that cannot be illegal and whose effect cannot fail. -/
def plainInstr (c : Fin 5) (illegal : Bool) (f : State → State) (s : State) : Out :=
  .next (runInstr c illegal false (fun s => done (f s)) s)

/-! ### Loads and stores -/

/-- Whether the four-byte rule of the control stores turns an access away (R371). -/
def storeWidthBad (r : Region) (n : Nat) : Bool :=
  match r with
  | .store _ => n != 4
  | _ => false

/-- An uncached read of `n` bytes, 8 for the extended size (R16, R371, R442). -/
def ucLoad (c : Fin 5) (n : Nat) (va : Word) (pa : Addr) (s : State) : Try (List Byte) :=
  let s := coreDrain c s
  let r := regionOf pa s
  if r = .regs then
    match busFail (coreMaster c) false (n == 8) pa s with
    | some e => (.error (respExc .load va e), s)
    | none =>
      let (v, s) := unitReadReg pa s
      (.ok (leBytes 5 v), s)
  else if storeWidthBad r n then (.error (accessFault .load va 7), s)
  else
    match physRead (coreMaster c) (coreReq c .load) pa (min n 5) s with
    | ((_, some f), s) => (.error (failExc .load va f), s)
    | ((l, none), s) => (if l.any (·.2) then .error (dataError .load va) else .ok (l.map (·.1)), s)

/-- A write-back read: its own buffered stores first, the L2 for the rest (R441, R453, R454). -/
def wbLoad (c : Fin 5) (n : Nat) (va : Word) (pa : Addr) (s : State) : Try (List Byte) :=
  let own := (List.range (min n 5)).map fun i => bufferedByte c (pa + i) s
  if own.all (·.isSome) then (.ok (own.map (·.getD 0)), s)
  else
    match wbRead 1 pa (min n 5) s with
    | (none, s) => (.error (accessFault .load va 8), s)
    | (some (_, true), s) => (.error (dataError .load va), s)
    | (some (l, false), s) =>
      (.ok (List.zipWith (fun (o : Option Byte) b => o.getD b) own l),
        s.modCore c fun x => { x with l1d := l1Add 0 (pa / 64) x.l1d })

/-- The bytes of a load of `n` bytes, with its physical address and whether it was uncached (R422, R433, R441 to R448). -/
def loadBytes (c : Fin 5) (n : Nat) (va : Word) (s : State) : Try (List Byte × Addr × Bool) :=
  if va.toNat % n ≠ 0 then (.error (alignFault .load va), s)
  else
    match translate c .load va s with
    | (.error e, s) => (.error e, s)
    | (.ok (pa, uc), s) =>
      if regionOf pa s = .none then (.error (accessFault .load va 7), s)
      else if !mayReach (coreMaster c) false (regionOf pa s) then (.error (accessFault .load va 6), s)
      else
        match (if uc then ucLoad c n va pa s else wbLoad c n va pa s) with
        | (.error e, s) => (.error e, s)
        | (.ok l, s) => (.ok (l, pa, uc), s)

/-- A load into rd (R422). -/
def loadInto (c : Fin 5) (n : Nat) (signed : Bool) (rd : Fin 32) (va : Word) (s : State) : Try Unit :=
  match loadBytes c n va s with
  | (.error e, s) => (.error e, s)
  | (.ok (l, _, _), s) => done (writeRd c rd (extendTo signed (min n 5) (leNat l)) s)

/-- How a WB store fails when it retires: no region, a region it may not write, and the boot ROM (R40, R41, R441). -/
def storeFail (c : Fin 5) (va : Word) (pa : Addr) (s : State) : Option Exc :=
  let r := regionOf pa s
  if r = .none then some (accessFault .store va 7)
  else if !mayReach (coreMaster c) true r then some (accessFault .store va 6)
  else if r = .mem 3 then some (accessFault .store va 8)
  else none

/-- An uncached write of `n` bytes; the core has retired it when the target answers, so that a write which resets the core finds it
past the store (R16, R371, R442, R467). -/
def ucStore (c : Fin 5) (n : Nat) (v va : Word) (pa : Addr) (s : State) : Try Unit :=
  let s := coreDrain c s
  let r := regionOf pa s
  let t := goto c (s.cores[c].pc + 8) true s
  if r = .regs then
    match busFail (coreMaster c) true (n == 8) pa s with
    | some e => (.error (respExc .store va e), s)
    | none => done (unitWriteReg (coreMaster c) pa v.toNat t)
  else if storeWidthBad r n then (.error (accessFault .store va 7), s)
  else
    match physWrite (coreMaster c) (coreReq c .store) pa ((storeImage n v).map fun b => (b, false)) s with
    | (some f, s) => (.error (failExc .store va f), s)
    | (none, s) => done (goto c (s.cores[c].pc + 8) true (clearReserved (some c) (pa / 64) s))

/-- A store of `n` bytes (R422, R433, R441, R442). -/
def storeInto (c : Fin 5) (n : Nat) (v va : Word) (s : State) : Try Unit :=
  if va.toNat % n ≠ 0 then (.error (alignFault .store va), s)
  else
    match translate c .store va s with
    | (.error e, s) => (.error e, s)
    | (.ok (pa, uc), s) =>
      match storeFail c va pa s with
      | some e => (.error e, s)
      | none =>
        if uc then ucStore c n v va pa s
        else
          let s := bufferStore c pa (storeImage n v) s
          done (goto c (s.cores[c].pc + 8) true s)

/-- Whether a reservation can be kept at an address: WB memory of the L2, and pantry SRAM whatever the attribute (R443). -/
def reservable (c : Fin 5) (pa : Addr) (uc : Bool) (s : State) : Bool :=
  regionOf pa s == .mem 1 || (!isYp c && !uc && l2Caches pa s)

/-- A store-conditional (R443). -/
def storeConditional (c : Fin 5) (rd : Fin 32) (v va : Word) (s : State) : Try Unit :=
  if va.toNat % 8 ≠ 0 then (.error (alignFault .store va), s)
  else
    match translate c .store va s with
    | (.error e, s) => (.error e, s)
    | (.ok (pa, uc), s) =>
      match storeFail c va pa s with
      | some e => (.error e, s)
      | none =>
        let held := s.cores[c].reserved == some (pa / 64) && reservable c pa uc s
        if !held then done (writeRd c rd 1 (s.modCore c fun x => { x with reserved := none }))
        else
          let s := coreDrain c s
          let fin (s : State) : State :=
            (writeRd c rd 0 (s.modCore c fun x => { x with reserved := none })).modCore c fun x => { x with shadow := true }
          if uc then
            match physWrite (coreMaster c) (coreReq c .store) pa ((extendedBytes v).map fun b => (b, false)) s with
            | (some f, s) => (.error (failExc .store va f), s)
            | (none, s) => done (fin (clearReserved (some c) (pa / 64) s))
          else done (fin (l2Store c pa (extendedBytes v) s))

end Sys2Proof.Machine
end

