-- ==== Sys2Proof/Machine/Cores.lean ====
section
/-! DEFINITION. The instructions of the Yomet-40 cores (R421 to R452, R466). Each command is one instruction that core `c` takes at its
PC, with the fields of its format; a field that R426 to R429 require to be zero is an operand, and raises ILLEGAL where it is not. -/

namespace Sys2Proof.Machine

/-! ### Integer operations -/

/-- A result of two registers (R428); bits 18:8 of the word must be zero. -/
def aluInstr (c : Fin 5) (rd rs1 rs2 : Fin 32) (z : BitVec 11) (f : Word → Word → Word) (s : State) : Out :=
  plainInstr c (z != 0) (fun s => writeRd c rd (f (s.greg c rs1) (s.greg c rs2)) s) s

/-- A result of a register and an immediate (R427). -/
def immInstr (c : Fin 5) (rd rs1 : Fin 32) (illegal : Bool) (f : Word → Word) (s : State) : Out :=
  plainInstr c illegal (fun s => writeRd c rd (f (s.greg c rs1)) s) s

/-- 1 for true, as the compare instructions write it. -/
def flagWord (b : Bool) : Word := if b then 1 else 0

/-- Arithmetic shift right; from 40 on, all copies of bit 39 (R428). -/
def sraWord (a : Word) (n : Nat) : Word := a.sshiftRight n

/-- Signed division rounding toward zero; by zero all ones; −2^39 ÷ −1 gives −2^39 (R428). -/
def divWord (a b : Word) : Word := if b = 0 then BitVec.allOnes 40 else BitVec.ofInt 40 (a.toInt.tdiv b.toInt)

/-- Unsigned division; by zero all ones (R428). -/
def divuWord (a b : Word) : Word := if b = 0 then BitVec.allOnes 40 else BitVec.ofNat 40 (a.toNat / b.toNat)

/-- Signed remainder; by zero the dividend (R428). -/
def remWord (a b : Word) : Word := if b = 0 then a else BitVec.ofInt 40 (a.toInt.tmod b.toInt)

/-- Unsigned remainder; by zero the dividend (R428). -/
def remuWord (a b : Word) : Word := if b = 0 then a else BitVec.ofNat 40 (a.toNat % b.toNat)

/-- ALU_ADD: rd = rs1 + rs2 (R428). -/
def execAluAdd (c : Fin 5) (rd rs1 rs2 : Fin 32) (z : BitVec 11) (s : State) : Out :=
  aluInstr c rd rs1 rs2 z (fun a b => a + b) s

/-- ALU_SUB: rd = rs1 − rs2 (R428). -/
def execAluSub (c : Fin 5) (rd rs1 rs2 : Fin 32) (z : BitVec 11) (s : State) : Out :=
  aluInstr c rd rs1 rs2 z (fun a b => a - b) s

/-- ALU_AND: bitwise and (R428). -/
def execAluAnd (c : Fin 5) (rd rs1 rs2 : Fin 32) (z : BitVec 11) (s : State) : Out :=
  aluInstr c rd rs1 rs2 z (fun a b => a &&& b) s

/-- ALU_OR: bitwise or (R428). -/
def execAluOr (c : Fin 5) (rd rs1 rs2 : Fin 32) (z : BitVec 11) (s : State) : Out :=
  aluInstr c rd rs1 rs2 z (fun a b => a ||| b) s

/-- ALU_XOR: bitwise exclusive or (R428). -/
def execAluXor (c : Fin 5) (rd rs1 rs2 : Fin 32) (z : BitVec 11) (s : State) : Out :=
  aluInstr c rd rs1 rs2 z (fun a b => a ^^^ b) s

/-- ALU_SLL: rs1 << rs2[5:0], 0 from 40 on (R428). -/
def execAluSll (c : Fin 5) (rd rs1 rs2 : Fin 32) (z : BitVec 11) (s : State) : Out :=
  aluInstr c rd rs1 rs2 z (fun a b => a <<< (b.toNat % 64)) s

/-- ALU_SRL: rs1 >> rs2[5:0], logical (R428). -/
def execAluSrl (c : Fin 5) (rd rs1 rs2 : Fin 32) (z : BitVec 11) (s : State) : Out :=
  aluInstr c rd rs1 rs2 z (fun a b => a >>> (b.toNat % 64)) s

/-- ALU_SRA: rs1 >> rs2[5:0], arithmetic (R428). -/
def execAluSra (c : Fin 5) (rd rs1 rs2 : Fin 32) (z : BitVec 11) (s : State) : Out :=
  aluInstr c rd rs1 rs2 z (fun a b => sraWord a (b.toNat % 64)) s

/-- ALU_SLT: 1 if rs1 < rs2, signed (R428). -/
def execAluSlt (c : Fin 5) (rd rs1 rs2 : Fin 32) (z : BitVec 11) (s : State) : Out :=
  aluInstr c rd rs1 rs2 z (fun a b => flagWord (a.slt b)) s

/-- ALU_SLTU: 1 if rs1 < rs2, unsigned (R428). -/
def execAluSltu (c : Fin 5) (rd rs1 rs2 : Fin 32) (z : BitVec 11) (s : State) : Out :=
  aluInstr c rd rs1 rs2 z (fun a b => flagWord (a.ult b)) s

/-- ALU_MUL: the low 40 bits of the product (R428). -/
def execAluMul (c : Fin 5) (rd rs1 rs2 : Fin 32) (z : BitVec 11) (s : State) : Out :=
  aluInstr c rd rs1 rs2 z (fun a b => a * b) s

/-- ALU_MULH: the high 40 bits of the 80-bit signed product (R428). -/
def execAluMulh (c : Fin 5) (rd rs1 rs2 : Fin 32) (z : BitVec 11) (s : State) : Out :=
  aluInstr c rd rs1 rs2 z (fun a b => BitVec.ofInt 40 (a.toInt * b.toInt / 2 ^ 40)) s

/-- ALU_MULHU: the high 40 bits of the unsigned product (R428). -/
def execAluMulhu (c : Fin 5) (rd rs1 rs2 : Fin 32) (z : BitVec 11) (s : State) : Out :=
  aluInstr c rd rs1 rs2 z (fun a b => BitVec.ofNat 40 (a.toNat * b.toNat / 2 ^ 40)) s

/-- ALU_DIV: signed quotient (R428). -/
def execAluDiv (c : Fin 5) (rd rs1 rs2 : Fin 32) (z : BitVec 11) (s : State) : Out :=
  aluInstr c rd rs1 rs2 z (fun a b => divWord a b) s

/-- ALU_DIVU: unsigned quotient (R428). -/
def execAluDivu (c : Fin 5) (rd rs1 rs2 : Fin 32) (z : BitVec 11) (s : State) : Out :=
  aluInstr c rd rs1 rs2 z (fun a b => divuWord a b) s

/-- ALU_REM: signed remainder (R428). -/
def execAluRem (c : Fin 5) (rd rs1 rs2 : Fin 32) (z : BitVec 11) (s : State) : Out :=
  aluInstr c rd rs1 rs2 z (fun a b => remWord a b) s

/-- ALU_REMU: unsigned remainder (R428). -/
def execAluRemu (c : Fin 5) (rd rs1 rs2 : Fin 32) (z : BitVec 11) (s : State) : Out :=
  aluInstr c rd rs1 rs2 z (fun a b => remuWord a b) s

/-- ADDI: rd = rs1 + sext(imm24) (R427). -/
def execAddi (c : Fin 5) (rd rs1 : Fin 32) (imm : BitVec 24) (s : State) : Out :=
  immInstr c rd rs1 false (fun a => a + sext24 imm) s

/-- ANDI: rd = rs1 AND zext(imm24) (R427). -/
def execAndi (c : Fin 5) (rd rs1 : Fin 32) (imm : BitVec 24) (s : State) : Out :=
  immInstr c rd rs1 false (fun a => a &&& zext24 imm) s

/-- ORI: rd = rs1 OR zext(imm24) (R427). -/
def execOri (c : Fin 5) (rd rs1 : Fin 32) (imm : BitVec 24) (s : State) : Out :=
  immInstr c rd rs1 false (fun a => a ||| zext24 imm) s

/-- XORI: rd = rs1 XOR zext(imm24) (R427). -/
def execXori (c : Fin 5) (rd rs1 : Fin 32) (imm : BitVec 24) (s : State) : Out :=
  immInstr c rd rs1 false (fun a => a ^^^ zext24 imm) s

/-- SLTI: 1 if rs1 < sext(imm24), signed (R427). -/
def execSlti (c : Fin 5) (rd rs1 : Fin 32) (imm : BitVec 24) (s : State) : Out :=
  immInstr c rd rs1 false (fun a => flagWord (a.slt (sext24 imm))) s

/-- SLTIU: 1 if rs1 < sext(imm24), unsigned (R427). -/
def execSltiu (c : Fin 5) (rd rs1 : Fin 32) (imm : BitVec 24) (s : State) : Out :=
  immInstr c rd rs1 false (fun a => flagWord (a.ult (sext24 imm))) s

/-- SLLI: rd = rs1 << imm24[5:0], at most 39 (R427). -/
def execSlli (c : Fin 5) (rd rs1 : Fin 32) (imm : BitVec 24) (s : State) : Out :=
  immInstr c rd rs1 (shiftImmBad imm) (fun a => a <<< shiftImm imm) s

/-- SRLI: logical right shift (R427). -/
def execSrli (c : Fin 5) (rd rs1 : Fin 32) (imm : BitVec 24) (s : State) : Out :=
  immInstr c rd rs1 (shiftImmBad imm) (fun a => a >>> shiftImm imm) s

/-- SRAI: arithmetic right shift (R427). -/
def execSrai (c : Fin 5) (rd rs1 : Fin 32) (imm : BitVec 24) (s : State) : Out :=
  immInstr c rd rs1 (shiftImmBad imm) (fun a => sraWord a (shiftImm imm)) s

/-- LUI: rd = imm24[15:0] << 24; rs1 and imm24[23:16] are 0 (R427). -/
def execLui (c : Fin 5) (rd rs1 : Fin 32) (imm : BitVec 24) (s : State) : Out :=
  immInstr c rd rs1 (rs1 != 0 || decide (0x10000 ≤ imm.toNat)) (fun _ => luiValue imm) s

/-- ADDPC: rd = PC + sext(imm29) (R427). -/
def execAddpc (c : Fin 5) (rd : Fin 32) (imm : BitVec 29) (s : State) : Out :=
  plainInstr c false (fun s => writeRd c rd (s.cores[c].pc + sext29 imm) s) s

/-! ### Loads and stores -/

/-- A load of `n` bytes from rs1 + sext(imm24) (R422, R427). -/
def loadInstr (c : Fin 5) (n : Nat) (signed : Bool) (rd rs1 : Fin 32) (imm : BitVec 24) (s : State) : Out :=
  .next (runInstr c false false (fun s => loadInto c n signed rd (s.greg c rs1 + sext24 imm) s) s)

/-- A store of `n` bytes of rs2 to rs1 + sext(imm24) (R422, R427). -/
def storeInstr (c : Fin 5) (n : Nat) (rs2 rs1 : Fin 32) (imm : BitVec 24) (s : State) : Out :=
  .next (runInstr c false false (fun s => storeInto c n (s.greg c rs2) (s.greg c rs1 + sext24 imm) s) s)

/-- LB: loads a sign-extended byte (R422). -/
def execLb (c : Fin 5) (rd rs1 : Fin 32) (imm : BitVec 24) (s : State) : Out :=
  loadInstr c 1 true rd rs1 imm s

/-- LBU: loads a zero-extended byte (R422). -/
def execLbu (c : Fin 5) (rd rs1 : Fin 32) (imm : BitVec 24) (s : State) : Out :=
  loadInstr c 1 false rd rs1 imm s

/-- LH: loads a sign-extended half (R422). -/
def execLh (c : Fin 5) (rd rs1 : Fin 32) (imm : BitVec 24) (s : State) : Out :=
  loadInstr c 2 true rd rs1 imm s

/-- LHU: loads a zero-extended half (R422). -/
def execLhu (c : Fin 5) (rd rs1 : Fin 32) (imm : BitVec 24) (s : State) : Out :=
  loadInstr c 2 false rd rs1 imm s

/-- LW: loads a sign-extended word (R422). -/
def execLw (c : Fin 5) (rd rs1 : Fin 32) (imm : BitVec 24) (s : State) : Out :=
  loadInstr c 4 true rd rs1 imm s

/-- LWU: loads a zero-extended word (R422). -/
def execLwu (c : Fin 5) (rd rs1 : Fin 32) (imm : BitVec 24) (s : State) : Out :=
  loadInstr c 4 false rd rs1 imm s

/-- LX: loads an extended value (R422). -/
def execLx (c : Fin 5) (rd rs1 : Fin 32) (imm : BitVec 24) (s : State) : Out :=
  loadInstr c 8 false rd rs1 imm s

/-- SB: stores the low byte of rs2 (R422). -/
def execSb (c : Fin 5) (rs2 rs1 : Fin 32) (imm : BitVec 24) (s : State) : Out :=
  storeInstr c 1 rs2 rs1 imm s

/-- SH: stores the low half of rs2 (R422). -/
def execSh (c : Fin 5) (rs2 rs1 : Fin 32) (imm : BitVec 24) (s : State) : Out :=
  storeInstr c 2 rs2 rs1 imm s

/-- SW: stores the low word of rs2 (R422). -/
def execSw (c : Fin 5) (rs2 rs1 : Fin 32) (imm : BitVec 24) (s : State) : Out :=
  storeInstr c 4 rs2 rs1 imm s

/-- SX: stores the extended value as a full row of rs2 (R422). -/
def execSx (c : Fin 5) (rs2 rs1 : Fin 32) (imm : BitVec 24) (s : State) : Out :=
  storeInstr c 8 rs2 rs1 imm s

/-- LR: an extended load at rs1 that reserves its granule; imm24 is 0 (R443). -/
def execLr (c : Fin 5) (rd rs1 : Fin 32) (imm : BitVec 24) (s : State) : Out :=
  .next (runInstr c (imm != 0) false (fun s =>
    match loadBytes c 8 (s.greg c rs1) s with
    | (.error e, s) => (.error e, s)
    | (.ok (l, pa, uc), s) =>
      let s := s.modCore c fun x => { x with reserved := if reservable c pa uc s then some (pa / 64) else none }
      done (writeRd c rd (BitVec.ofNat 40 (leNat l)) s)) s)

/-- SC: stores rs2 at rs1 only while the reservation holds; rd is 0 on success and 1 otherwise; FN and bits 18:8 are 0 (R443). -/
def execSc (c : Fin 5) (rd rs1 rs2 : Fin 32) (z : BitVec 19) (s : State) : Out :=
  .next (runInstr c (z != 0) false (fun s => storeConditional c rd (s.greg c rs2) (s.greg c rs1) s) s)

/-! ### Control transfer -/

/-- A branch when rs1 compares with rs2 as named (R426, R427). -/
def branchInstr (c : Fin 5) (rs1 rs2 : Fin 32) (imm : BitVec 24) (p : Word → Word → Bool) (s : State) : Out :=
  plainInstr c false (fun s =>
    if p (s.greg c rs1) (s.greg c rs2) then goto c (branchTarget s.cores[c].pc imm) false s else advance c s) s

/-- BEQ: branches when rs1 is equal (R427). -/
def execBeq (c : Fin 5) (rs1 rs2 : Fin 32) (imm : BitVec 24) (s : State) : Out :=
  branchInstr c rs1 rs2 imm (fun a b => a == b) s

/-- BNE: branches when rs1 is different (R427). -/
def execBne (c : Fin 5) (rs1 rs2 : Fin 32) (imm : BitVec 24) (s : State) : Out :=
  branchInstr c rs1 rs2 imm (fun a b => a != b) s

/-- BLT: branches when rs1 is less, signed (R427). -/
def execBlt (c : Fin 5) (rs1 rs2 : Fin 32) (imm : BitVec 24) (s : State) : Out :=
  branchInstr c rs1 rs2 imm (fun a b => a.slt b) s

/-- BGE: branches when rs1 is greater or equal, signed (R427). -/
def execBge (c : Fin 5) (rs1 rs2 : Fin 32) (imm : BitVec 24) (s : State) : Out :=
  branchInstr c rs1 rs2 imm (fun a b => !a.slt b) s

/-- BLTU: branches when rs1 is less, unsigned (R427). -/
def execBltu (c : Fin 5) (rs1 rs2 : Fin 32) (imm : BitVec 24) (s : State) : Out :=
  branchInstr c rs1 rs2 imm (fun a b => a.ult b) s

/-- BGEU: branches when rs1 is greater or equal, unsigned (R427). -/
def execBgeu (c : Fin 5) (rs1 rs2 : Fin 32) (imm : BitVec 24) (s : State) : Out :=
  branchInstr c rs1 rs2 imm (fun a b => !a.ult b) s

/-- JAL: rd = PC + 8; PC = PC + sext(imm29) × 8 (R427). -/
def execJal (c : Fin 5) (rd : Fin 32) (imm : BitVec 29) (s : State) : Out :=
  plainInstr c false (fun s =>
    let pc := s.cores[c].pc
    goto c (jalTarget pc imm) false (s.modCore c fun x => x.setReg rd (pc + 8))) s

/-- JALR: rd = PC + 8; PC = rs1 + sext(imm24); a target that is no multiple of 8 raises FETCH_ALIGN (R423, R427). -/
def execJalr (c : Fin 5) (rd rs1 : Fin 32) (imm : BitVec 24) (s : State) : Out :=
  .next (runInstr c false false (fun s =>
    let t := s.greg c rs1 + sext24 imm
    if t.toNat % 8 ≠ 0 then (.error (fetchAlign t), s)
    else done (goto c t false (s.modCore c fun x => x.setReg rd (x.pc + 8)))) s)

/-! ### System instructions -/

/-- The fields rd, rs1, rs2 and bits 18:8 of a SYS instruction, all of which must be zero (R429). -/
def sysBad (rd rs1 rs2 : Fin 32) (z : BitVec 11) : Bool := rd != 0 || rs1 != 0 || rs2 != 0 || z != 0

/-- SYSCALL: raises SYSCALL (R429, R433). -/
def execSyscall (c : Fin 5) (rd rs1 rs2 : Fin 32) (z : BitVec 11) (s : State) : Out :=
  .next (runInstr c (sysBad rd rs1 rs2 z) false (fun s => (.error { code := 14, addr := s.cores[c].pc }, s)) s)

/-- BREAK: raises BREAK (R429, R433). -/
def execBrk (c : Fin 5) (rd rs1 rs2 : Fin 32) (z : BitVec 11) (s : State) : Out :=
  .next (runInstr c (sysBad rd rs1 rs2 z) false (fun s => (.error { code := 15, addr := s.cores[c].pc }, s)) s)

/-- RFE: returns from an exception; privileged (R438). An EPC that is no multiple of 8 raises FETCH_ALIGN (R423). -/
def execRfe (c : Fin 5) (rd rs1 rs2 : Fin 32) (z : BitVec 11) (s : State) : Out :=
  .next (runInstr c (sysBad rd rs1 rs2 z) true (fun s =>
    if s.cores[c].epc.toNat % 8 ≠ 0 then (.error (fetchAlign s.cores[c].epc), s) else done (returnFrom c s)) s)

/-- WFI: waits until an interrupt is presented; privileged (R439). -/
def execWfi (c : Fin 5) (rd rs1 rs2 : Fin 32) (z : BitVec 11) (s : State) : Out :=
  .next (runInstr c (sysBad rd rs1 rs2 z) true (fun s =>
    let s := advance c s
    done (if s.bit (INTC_STATE.PRESENT c.val) then s else coreShow c false true s)) s)

/-- FENCE: waits until the earlier accesses have been performed (R442). -/
def execFence (c : Fin 5) (rd rs1 rs2 : Fin 32) (z : BitVec 11) (s : State) : Out :=
  plainInstr c (sysBad rd rs1 rs2 z) (fun s => advance c (coreDrain c s)) s

/-- IFENCE: performs the earlier stores and empties the L1 instruction cache (R444). -/
def execIfence (c : Fin 5) (rd rs1 rs2 : Fin 32) (z : BitVec 11) (s : State) : Out :=
  plainInstr c (sysBad rd rs1 rs2 z) (fun s => advance c (isync c s)) s

/-- TLBINV: invalidates the translations of the address in rs1, whatever their ASID; privileged, and illegal in YP (R429, R452, R466). -/
def execTlbinv (c : Fin 5) (rd rs1 rs2 : Fin 32) (z : BitVec 11) (s : State) : Out :=
  .next (runInstr c (sysBad rd 0 rs2 z || isYp c) true (fun s =>
    let va := (s.greg c rs1).toNat
    done (advance c ((coreDrain c s).modCore c fun x => { x with
      tlb := x.tlb.filter fun (t : Xlat) => !(if t.big then t.vpn / 512 == va / 2 ^ 21 else t.vpn == va / 4096) }))) s)

/-- TLBINVA: invalidates the whole TLB of the core; privileged, and illegal in YP (R452, R466). -/
def execTlbinva (c : Fin 5) (rd rs1 rs2 : Fin 32) (z : BitVec 11) (s : State) : Out :=
  .next (runInstr c ((sysBad rd rs1 rs2 z) || isYp c) true (fun s =>
    done (advance c ((coreDrain c s).modCore c fun x => { x with tlb := [] }))) s)

/-! ### Control registers -/

/-- The number of the control register that imm24 names; none for a reserved one, and in YP for PTBASE and ASID (R427, R430, R431,
R466). -/
def crNumber (c : Fin 5) (imm : BitVec 24) : Option Nat :=
  let k := imm.toNat
  if 10 < k ∨ (isYp c ∧ (k = 6 ∨ k = 7)) then none else some k

/-- The value of a control register (R431). -/
def crRead (c : Fin 5) (x : Core) (k : Nat) : Word :=
  match k with
  | 0 => x.status
  | 1 => x.epc
  | 2 => x.cause
  | 3 => x.badaddr
  | 4 => x.faultinfo
  | 5 => x.evbase
  | 6 => x.ptbase
  | 7 => x.asid
  | 8 => x.scratch0
  | 9 => x.scratch1
  | _ => BitVec.ofNat 40 c.val

/-- A control register written, the fields it has; COREID is read-only, and in YP S stays 1 and MMU_EN 0 (R431, R466). -/
def crWrite (c : Fin 5) (k : Nat) (v : Word) (x : Core) : Core :=
  match k with
  | 0 => { x with status := if isYp c then (v &&& 0xD) ||| 2 else v &&& 0x1F }
  | 1 => { x with epc := v }
  | 2 => { x with cause := v &&& 0x800000FF3F }
  | 3 => { x with badaddr := v }
  | 4 => { x with faultinfo := v &&& 0xFF }
  | 5 => { x with evbase := v &&& 0xFFFFFFF000 }
  | 6 => { x with ptbase := v &&& 0xFFFFFFF01F }
  | 7 => { x with asid := v &&& 0xFF }
  | 8 => { x with scratch0 := v }
  | 9 => { x with scratch1 := v }
  | _ => x

/-- MFC: rd = CR[imm24[7:0]]; rs1 and imm24[23:8] are 0; privileged (R427, R431). -/
def execMfc (c : Fin 5) (rd rs1 : Fin 32) (imm : BitVec 24) (s : State) : Out :=
  .next (runInstr c (rs1 != 0 || (crNumber c imm).isNone) true (fun s =>
    done (writeRd c rd (crRead c s.cores[c] imm.toNat) s)) s)

/-- MTC: CR[imm24[7:0]] = rs1; rd and imm24[23:8] are 0; privileged (R427, R431). -/
def execMtc (c : Fin 5) (rd rs1 : Fin 32) (imm : BitVec 24) (s : State) : Out :=
  .next (runInstr c (rd != 0 || (crNumber c imm).isNone) true (fun s =>
    let v := s.greg c rs1
    done (coreShow c false false (advance c (s.modCore c (crWrite c imm.toNat v))))) s)

/-! ### Cache operations (R460, R461) -/

/-- A line's refill in progress is completed (R461). -/
def l2Settle (line : Nat) (s : State) : State :=
  if !s.l2.misses.contains line then s
  else
    let s := s.modL2 fun x => { x with misses := x.misses.filter (· != line) }
    match l2Refill 1 line s with
    | (none, s) => l2Drained (l2Show s)
    | (some l, s) => l2Drained (l2Show (l2Place l s))

/-- The line where it lies, in the L2 or the victim cache, written back if it is dirty, and kept or discarded (R460, R461). -/
def l2LineOp (writeBack keep : Bool) (line : Nat) (s : State) : State :=
  let s := l2Settle line s
  let old : Option L2Line :=
    match l2Way line s with
    | some k => kvFind s.l2.ways k
    | none => s.l2.victims.find? fun v => v.line == line
  match old with
  | none => if keep then s else l1dDrop none line s
  | some l =>
    let s := if writeBack then l2WriteBack l s else s
    let clean (x : L2Line) : L2Line := if x.line == line then { x with dirty := false } else x
    if keep then
      s.modL2 fun x => { x with ways := x.ways.map fun p => (p.1, clean p.2)
                                victims := x.victims.map clean }
    else
      let s := s.modL2 fun x => { x with ways := x.ways.filter fun p => p.2.line != line
                                         victims := x.victims.filter fun v => v.line != line }
      l2Show (l1dDrop none line s)

/-- A cache operation by address: privileged, illegal in YP, translated with FAULTINFO.ACCESS = 11b, without effect on what the L2
does not cache; the core's earlier stores are performed first (R461, R466). -/
def cacheByAddress (c : Fin 5) (rs1 : Fin 32) (imm : BitVec 24) (f : Nat → State → State) (s : State) : Out :=
  .next (runInstr c (isYp c) true (fun s =>
    match translate c .cache (s.greg c rs1 + sext24 imm) s with
    | (.error e, s) => (.error e, s)
    | (.ok (pa, uc), s) => done (advance c (if uc then s else f (pa / 64) (coreDrain c s)))) s)

/-- A cache operation without an address, whose rs1 must be 0 (R426, R460). -/
def cacheWhole (c : Fin 5) (rs1 : Fin 32) (f : State → State) (s : State) : Out :=
  .next (runInstr c (isYp c || rs1 != 0) true (fun s => done (advance c (f s))) s)

/-- L1D_INV: invalidates the line in this core's L1 data cache (R460). -/
def execL1dInv (c : Fin 5) (rs1 : Fin 32) (imm : BitVec 24) (s : State) : Out :=
  cacheByAddress c rs1 imm (fun line s => s.modCore c fun x => { x with l1d := x.l1d.filter (· != line) }) s

/-- L1I_INV: invalidates the line in this core's L1 instruction cache (R460). -/
def execL1iInv (c : Fin 5) (rs1 : Fin 32) (imm : BitVec 24) (s : State) : Out :=
  cacheByAddress c rs1 imm (fun line s => s.modCore c fun x => { x with l1i := x.l1i.filter (· != line) }) s

/-- L2_CLEAN: writes the line back if it is dirty, and keeps it (R460). -/
def execL2Clean (c : Fin 5) (rs1 : Fin 32) (imm : BitVec 24) (s : State) : Out :=
  cacheByAddress c rs1 imm (l2LineOp true true) s

/-- L2_INV: discards the line, dirty data included (R460). -/
def execL2Inv (c : Fin 5) (rs1 : Fin 32) (imm : BitVec 24) (s : State) : Out :=
  cacheByAddress c rs1 imm (l2LineOp false false) s

/-- L2_FLUSH: writes the line back if it is dirty, then discards it (R460). -/
def execL2Flush (c : Fin 5) (rs1 : Fin 32) (imm : BitVec 24) (s : State) : Out :=
  cacheByAddress c rs1 imm (l2LineOp true false) s

/-- L1I_INVA: invalidates this core's whole L1 instruction cache (R460); imm24 is not used. -/
def execL1iInva (c : Fin 5) (rs1 : Fin 32) (_imm : BitVec 24) (s : State) : Out :=
  cacheWhole c rs1 (fun s => s.modCore c fun x => { x with l1i := [] }) s

/-- L1D_INVA: invalidates this core's whole L1 data cache (R460); imm24 is not used. -/
def execL1dInva (c : Fin 5) (rs1 : Fin 32) (_imm : BitVec 24) (s : State) : Out :=
  cacheWhole c rs1 (fun s => s.modCore c fun x => { x with l1d := [] }) s

/-- L2_FLUSH_SW: flushes the line in the set of address bits 15:6 and the way of bits 19:16, untranslated (R460). -/
def execL2FlushSw (c : Fin 5) (rs1 : Fin 32) (imm : BitVec 24) (s : State) : Out :=
  .next (runInstr c (isYp c) true (fun s =>
    let a := (s.greg c rs1 + sext24 imm).toNat
    let s := coreDrain c s
    done (advance c (match kvFind s.l2.ways (16 * bits a 6 10 + bits a 16 4) with
      | some l => l2LineOp true false l.line s
      | none => s))) s)

/-- VC_FLUSH: writes back and empties the victim cache (R460); imm24 is not used. -/
def execVcFlush (c : Fin 5) (rs1 : Fin 32) (_imm : BitVec 24) (s : State) : Out :=
  cacheWhole c rs1 vcFlush s

/-! ### Interrupts -/

/-- CORE_INTERRUPT_TAKE: a core at an instruction boundary takes the interrupt presented to it while IE is 1, never between a store and the next
instruction (R436, R476). -/
def execCoreInterruptTake (c : Fin 5) (s : State) : Out :=
  .next (if coreRuns c s && interruptDue c s then takeInterrupt c s else s)

end Sys2Proof.Machine
end

