-- ==== Sys2Proof/Machine/Microcode.lean ====
section
/-! DEFINITION. The microword actions WR and RD, by which a sequencer reaches the registers of its own half (R379, R380). -/

namespace Sys2Proof.Machine

/-- Base and window of the block that UNIT selects for FMSn (R14, R380). -/
def mwBlock (n : Fin 2) (unit : Nat) : Addr × Nat :=
  let a := n.val
  if unit = 0 then (0x0F00200000 + 0x8000 * a, 0x8000)
  else if unit = 1 then (0x0F00100000 + 0x8000 * (2 * a), 0x8000)
  else if unit = 2 then (0x0F00100000 + 0x8000 * (2 * a + 1), 0x8000)
  else if unit = 3 then (0x0F00180000 + 0x4000 * a, 0x4000)
  else if unit = 4 then (0x0F00280000 + 0x2000 * (2 * a), 0x2000)
  else if unit = 5 then (0x0F00280000 + 0x2000 * (2 * a + 1), 0x2000)
  else (0x0F00400000 + 0x1000 * a, 0x1000)

/-- The address of the register that a WR or RD names, UNIT base + 8 × REG; none beyond the block's window (R15, R379). -/
def mwAddr (n : Fin 2) (w : BitVec 128) : Option Addr :=
  let (base, size) := mwBlock n (mwUnit w)
  if 8 * mwReg w < size then some (base + 8 * mwReg w) else none

/-- The value that SRC selects: IMM or CTX[ARG] (R375). -/
def mwSource (n : Fin 2) (w : BitVec 128) (s : State) : Nat :=
  if mwSrc w = 0 then mwImm w else s.get (FMS_CTX.VALUE n (mwArg w % 8))

/-- The register takes the value; a decode or bus error halts the sequencer (R380). -/
def mwWr (n : Fin 2) (w : BitVec 128) (s : State) : State :=
  match mwAddr n w with
  | none => fmsHalt n 6 s
  | some a => if (unitFail true a s).isSome then fmsHalt n 6 s else unitWriteReg .dma a (mwSource n w s) s

/-- CTX[ARG] takes the register (R379). -/
def mwRd (n : Fin 2) (w : BitVec 128) (s : State) : State :=
  match mwAddr n w with
  | none => fmsHalt n 6 s
  | some a =>
    if (unitFail true a s).isSome then fmsHalt n 6 s
    else
      let (v, s) := unitReadReg a s
      s.set (FMS_CTX.VALUE n (mwArg w % 8)) v

/-- MW_WR (R379, R380). -/
def execMwWr (n : Fin 2) (s : State) : Out := fmsAct n 1 (mwWr n) s

/-- MW_RD (R379, R380). -/
def execMwRd (n : Fin 2) (s : State) : Out := fmsAct n 2 (mwRd n) s

end Sys2Proof.Machine
end

