-- ==== Sys2Proof/Machine/Dispatch.lean ====
section
/-! DEFINITION. One arm for each command: its meaning. -/

namespace Sys2Proof.Machine

def exec (i : Instr) (s : State) : Host.Outcome State Fault Refusal :=
  match i with
  | .registerWrite m full a w => Sys2Proof.Machine.execRegisterWrite m full a w s
  | .sysTickLRead => Sys2Proof.Machine.execSysTickLRead s
  | .stepmonClearMin => Sys2Proof.Machine.execStepmonClearMin s
  | .refPllLockLoss xtal => Sys2Proof.Machine.execRefPllLockLoss xtal s
  | .refPllRelock => Sys2Proof.Machine.execRefPllRelock s
  | .releaseComparatorMatch k => Sys2Proof.Machine.execReleaseComparatorMatch k s
  | .freeRunPeriodStart => Sys2Proof.Machine.execFreeRunPeriodStart s
  | .parityJournalWrite n bank => Sys2Proof.Machine.execParityJournalWrite n bank s
  | .manifestCommit done torn => Sys2Proof.Machine.execManifestCommit done torn s
  | .rcpImageStage ofs data origin => Sys2Proof.Machine.execRcpImageStage ofs data origin s
  | .rcpReqCheckOnly origin => Sys2Proof.Machine.execRcpReqCheckOnly origin s
  | .rcpReqCheckCommit origin => Sys2Proof.Machine.execRcpReqCheckCommit origin s
  | .rcpReqForce origin => Sys2Proof.Machine.execRcpReqForce origin s
  | .rcpCheck c => Sys2Proof.Machine.execRcpCheck c s
  | .rcpInstall c => Sys2Proof.Machine.execRcpInstall c s
  | .rcpActivate c => Sys2Proof.Machine.execRcpActivate c s
  | .pslNegotiate n peer cap0 cap1 => Sys2Proof.Machine.execPslNegotiate n peer cap0 cap1 s
  | .pslHelloTimeout n => Sys2Proof.Machine.execPslHelloTimeout n s
  | .pslKeepalive n => Sys2Proof.Machine.execPslKeepalive n s
  | .pslStatusTimeout n => Sys2Proof.Machine.execPslStatusTimeout n s
  | .pslTimedFrameMatch n => Sys2Proof.Machine.execPslTimedFrameMatch n s
  | .pslEchoMiss n => Sys2Proof.Machine.execPslEchoMiss n s
  | .pslRxEcho n full arg data => Sys2Proof.Machine.execPslRxEcho n full arg data s
  | .pslRxFault n full code data => Sys2Proof.Machine.execPslRxFault n full code data s
  | .pslRxHello n full data => Sys2Proof.Machine.execPslRxHello n full data s
  | .pslRxCap n full arg data => Sys2Proof.Machine.execPslRxCap n full arg data s
  | .pslRxAck n full arg data => Sys2Proof.Machine.execPslRxAck n full arg data s
  | .pslRxRegData n full arg data => Sys2Proof.Machine.execPslRxRegData n full arg data s
  | .pslRxStatus n full data => Sys2Proof.Machine.execPslRxStatus n full data s
  | .pslRxNak n full arg data => Sys2Proof.Machine.execPslRxNak n full arg data s
  | .pslRxDiscard n gapOnly => Sys2Proof.Machine.execPslRxDiscard n gapOnly s
  | .pslCmdNop n arg data => Sys2Proof.Machine.execPslCmdNop n arg data s
  | .pslCmdCapRd n arg data => Sys2Proof.Machine.execPslCmdCapRd n arg data s
  | .pslCmdRegWr n arg data => Sys2Proof.Machine.execPslCmdRegWr n arg data s
  | .pslCmdRegRd n arg data => Sys2Proof.Machine.execPslCmdRegRd n arg data s
  | .pslCmdStatusRq n arg data => Sys2Proof.Machine.execPslCmdStatusRq n arg data s
  | .pslCmdTimeout n => Sys2Proof.Machine.execPslCmdTimeout n s
  | .pslCtrlNegotiate n rst => Sys2Proof.Machine.execPslCtrlNegotiate n rst s
  | .pslCtrlClrErr n => Sys2Proof.Machine.execPslCtrlClrErr n s
  | .dcCalAdcOffset c => Sys2Proof.Machine.execDcCalAdcOffset c s
  | .dcCalGain c => Sys2Proof.Machine.execDcCalGain c s
  | .dcCalAsymmetry c => Sys2Proof.Machine.execDcCalAsymmetry c s
  | .dcCalDone c va vb vc temp => Sys2Proof.Machine.execDcCalDone c va vb vc temp s
  | .dcRingRel c mask => Sys2Proof.Machine.execDcRingRel c mask s
  | .dcClrCnt c => Sys2Proof.Machine.execDcClrCnt c s
  | .defectFreezeStart c sample asperity => Sys2Proof.Machine.execDefectFreezeStart c sample asperity s
  | .defectFreezeEnd c ended => Sys2Proof.Machine.execDefectFreezeEnd c ended s
  | .ringRecordStart c frag member groupK pieces => Sys2Proof.Machine.execRingRecordStart c frag member groupK pieces s
  | .ringRecordEnd c samples data => Sys2Proof.Machine.execRingRecordEnd c samples data s
  | .ringWriteOverrun c => Sys2Proof.Machine.execRingWriteOverrun c s
  | .syncMarkSearch c plan primary secondary freq phase => Sys2Proof.Machine.execSyncMarkSearch c plan primary secondary freq phase s
  | .fragmentIntakeStart c fifoDrop => Sys2Proof.Machine.execFragmentIntakeStart c fifoDrop s
  | .fragmentDelivery c d => Sys2Proof.Machine.execFragmentDelivery c d s
  | .gsrWrite c bank => Sys2Proof.Machine.execGsrWrite c bank s
  | .detGsrNextWrite c addr => Sys2Proof.Machine.execDetGsrNextWrite c addr s
  | .detClrStats c => Sys2Proof.Machine.execDetClrStats c s
  | .detBbTailWrite c tail => Sys2Proof.Machine.execDetBbTailWrite c tail s
  | .bbDecode c d plan primary secondary dmaError => Sys2Proof.Machine.execBbDecode c d plan primary secondary dmaError s
  | .bbFold c dmaError => Sys2Proof.Machine.execBbFold c dmaError s
  | .bbErase c dmaError => Sys2Proof.Machine.execBbErase c dmaError s
  | .wpStagingDone n kind frag member groupK => Sys2Proof.Machine.execWpStagingDone n kind frag member groupK s
  | .wpBankHandover n frag lead => Sys2Proof.Machine.execWpBankHandover n frag lead s
  | .shkTrip => Sys2Proof.Machine.execShkTrip s
  | .shkHoldEnd => Sys2Proof.Machine.execShkHoldEnd s
  | .wpFirmwareInhibit n => Sys2Proof.Machine.execWpFirmwareInhibit n s
  | .wpClrCnt n => Sys2Proof.Machine.execWpClrCnt n s
  | .verifyResult n count primary secondary => Sys2Proof.Machine.execVerifyResult n count primary secondary s
  | .slotRecordWrite n => Sys2Proof.Machine.execSlotRecordWrite n s
  | .wpCalStart n zone => Sys2Proof.Machine.execWpCalStart n zone s
  | .wpCalTrialEnd n metric captured temp => Sys2Proof.Machine.execWpCalTrialEnd n metric captured temp s
  | .samEvent v found index violation => Sys2Proof.Machine.execSamEvent v found index violation s
  | .missedWedge v => Sys2Proof.Machine.execMissedWedge v s
  | .positionRecordLatch v gray erased s1 s2 s3 s4 => Sys2Proof.Machine.execPositionRecordLatch v gray erased s1 s2 s3 s4 s
  | .svdForceSearch v => Sys2Proof.Machine.execSvdForceSearch v s
  | .svdClrCnt v => Sys2Proof.Machine.execSvdClrCnt v s
  | .svdSamLRead v => Sys2Proof.Machine.execSvdSamLRead v s
  | .cleFrameStart ends bad => Sys2Proof.Machine.execCleFrameStart ends bad s
  | .cleFrameStartLimit ends bad => Sys2Proof.Machine.execCleFrameStartLimit ends bad s
  | .cleOpLoad d space index cond flag => Sys2Proof.Machine.execCleOpLoad d space index cond flag s
  | .cleOpStore d port index => Sys2Proof.Machine.execCleOpStore d port index s
  | .cleOpAdd d space index => Sys2Proof.Machine.execCleOpAdd d space index s
  | .cleOpSub d space index => Sys2Proof.Machine.execCleOpSub d space index s
  | .cleOpMac d space index cidx => Sys2Proof.Machine.execCleOpMac d space index cidx s
  | .cleOpShift d aux => Sys2Proof.Machine.execCleOpShift d aux s
  | .cleOpSat d width => Sys2Proof.Machine.execCleOpSat d width s
  | .cleOpLimit d cidx => Sys2Proof.Machine.execCleOpLimit d cidx s
  | .cleActCmdWrite a w => Sys2Proof.Machine.execCleActCmdWrite a w s
  | .cleSpmCmdWrite w => Sys2Proof.Machine.execCleSpmCmdWrite w s
  | .cleBankCheck => Sys2Proof.Machine.execCleBankCheck s
  | .cleBankCheckDone => Sys2Proof.Machine.execCleBankCheckDone s
  | .cleBankSwitchReq => Sys2Proof.Machine.execCleBankSwitchReq s
  | .bankSwitch => Sys2Proof.Machine.execBankSwitch s
  | .cleClrSticky => Sys2Proof.Machine.execCleClrSticky s
  | .adlNegotiate n peer => Sys2Proof.Machine.execAdlNegotiate n peer s
  | .adlHelloTimeout n => Sys2Proof.Machine.execAdlHelloTimeout n s
  | .adlKeepalive n => Sys2Proof.Machine.execAdlKeepalive n s
  | .adlReportMiss n cmd => Sys2Proof.Machine.execAdlReportMiss n cmd s
  | .adlRxReport n seq ivcm vvcm st fault => Sys2Proof.Machine.execAdlRxReport n seq ivcm vvcm st fault s
  | .adlRxFault n code head => Sys2Proof.Machine.execAdlRxFault n code head s
  | .adlRxHello n peer => Sys2Proof.Machine.execAdlRxHello n peer s
  | .adlRxConfigData n addr value => Sys2Proof.Machine.execAdlRxConfigData n addr value s
  | .adlRxNak n refused => Sys2Proof.Machine.execAdlRxNak n refused s
  | .adlCmdConfig n addr data => Sys2Proof.Machine.execAdlCmdConfig n addr data s
  | .adlCmdArm n => Sys2Proof.Machine.execAdlCmdArm n s
  | .adlCmdRetract n reason => Sys2Proof.Machine.execAdlCmdRetract n reason s
  | .adlCmdStatusRq n => Sys2Proof.Machine.execAdlCmdStatusRq n s
  | .adlCmdConfigRd n addr => Sys2Proof.Machine.execAdlCmdConfigRd n addr s
  | .adlRspTimeout n => Sys2Proof.Machine.execAdlRspTimeout n s
  | .adlPark n => Sys2Proof.Machine.execAdlPark n s
  | .adlUnpark n => Sys2Proof.Machine.execAdlUnpark n s
  | .adlCtrlNegotiate n => Sys2Proof.Machine.execAdlCtrlNegotiate n s
  | .adlClrErr n => Sys2Proof.Machine.execAdlClrErr n s
  | .spmRun => Sys2Proof.Machine.execSpmRun s
  | .spmStop => Sys2Proof.Machine.execSpmStop s
  | .spmCoast => Sys2Proof.Machine.execSpmCoast s
  | .spmSampleSet a b c timely => Sys2Proof.Machine.execSpmSampleSet a b c timely s
  | .spmOutputApply => Sys2Proof.Machine.execSpmOutputApply s
  | .bemfZeroCrossing code t => Sys2Proof.Machine.execBemfZeroCrossing code t s
  | .spmStopWaitExpiry => Sys2Proof.Machine.execSpmStopWaitExpiry s
  | .spmIps m => Sys2Proof.Machine.execSpmIps m s
  | .spmAngleOffsetWrite v => Sys2Proof.Machine.execSpmAngleOffsetWrite v s
  | .spmGradeReqWrite v => Sys2Proof.Machine.execSpmGradeReqWrite v s
  | .gradeChangeStart => Sys2Proof.Machine.execGradeChangeStart s
  | .gradeChangeDone => Sys2Proof.Machine.execGradeChangeDone s
  | .gradeChangeOvertime => Sys2Proof.Machine.execGradeChangeOvertime s
  | .demandSample => Sys2Proof.Machine.execDemandSample s
  | .spmCalStart => Sys2Proof.Machine.execSpmCalStart s
  | .spmCalDone sa sb sc pa pb pc temp => Sys2Proof.Machine.execSpmCalDone sa sb sc pa pb pc temp s
  | .spmGateFault => Sys2Proof.Machine.execSpmGateFault s
  | .spmClrCnt => Sys2Proof.Machine.execSpmClrCnt s
  | .v12OvCrossing mv => Sys2Proof.Machine.execV12OvCrossing mv s
  | .fmsRun n start => Sys2Proof.Machine.execFmsRun n start s
  | .fmsHalt n => Sys2Proof.Machine.execFmsHalt n s
  | .fmsAttn n => Sys2Proof.Machine.execFmsAttn n s
  | .controlStoreWrite n w q v => Sys2Proof.Machine.execControlStoreWrite n w q v s
  | .controlStoreRead n w q => Sys2Proof.Machine.execControlStoreRead n w q s
  | .microwordFetch n => Sys2Proof.Machine.execMicrowordFetch n s
  | .microwordWaitTimeout n => Sys2Proof.Machine.execMicrowordWaitTimeout n s
  | .mwNop n => Sys2Proof.Machine.execMwNop n s
  | .mwWr n => Sys2Proof.Machine.execMwWr n s
  | .mwRd n => Sys2Proof.Machine.execMwRd n s
  | .mwSegOpen n => Sys2Proof.Machine.execMwSegOpen n s
  | .mwSegStep n => Sys2Proof.Machine.execMwSegStep n s
  | .mwSegAbort n => Sys2Proof.Machine.execMwSegAbort n s
  | .mwCopy n => Sys2Proof.Machine.execMwCopy n s
  | .mwPost n => Sys2Proof.Machine.execMwPost n s
  | .mwFlag n => Sys2Proof.Machine.execMwFlag n s
  | .mwLdlc n => Sys2Proof.Machine.execMwLdlc n s
  | .mwEvt n => Sys2Proof.Machine.execMwEvt n s
  | .mwRewrite n => Sys2Proof.Machine.execMwRewrite n s
  | .fmsIrqTake n => Sys2Proof.Machine.execFmsIrqTake n s
  | .fmsCopyDone n => Sys2Proof.Machine.execFmsCopyDone n s
  | .trackProgramEnd n done => Sys2Proof.Machine.execTrackProgramEnd n done s
  | .memInitGo w => Sys2Proof.Machine.execMemInitGo w s
  | .memInitDone => Sys2Proof.Machine.execMemInitDone s
  | .memClrCnt => Sys2Proof.Machine.execMemClrCnt s
  | .protectedRowRead req a upset => Sys2Proof.Machine.execProtectedRowRead req a upset s
  | .partialWriteRmw req poison a data => Sys2Proof.Machine.execPartialWriteRmw req poison a data s
  | .scrubGroup k upset => Sys2Proof.Machine.execScrubGroup k upset s
  | .retentionScrubLap pantry larder upsets => Sys2Proof.Machine.execRetentionScrubLap pantry larder upsets s
  | .drcPhyEnable on => Sys2Proof.Machine.execDrcPhyEnable on s
  | .drcBringup => Sys2Proof.Machine.execDrcBringup s
  | .drcRetainedBringup => Sys2Proof.Machine.execDrcRetainedBringup s
  | .drcBringupEnd lanes => Sys2Proof.Machine.execDrcBringupEnd lanes s
  | .drcDevLost => Sys2Proof.Machine.execDrcDevLost s
  | .drcPllPhyLoss phy => Sys2Proof.Machine.execDrcPllPhyLoss phy s
  | .drcInitGo => Sys2Proof.Machine.execDrcInitGo s
  | .drcInitDone => Sys2Proof.Machine.execDrcInitDone s
  | .drcSrEnter => Sys2Proof.Machine.execDrcSrEnter s
  | .drcSrEntryDone => Sys2Proof.Machine.execDrcSrEntryDone s
  | .drcSrExit => Sys2Proof.Machine.execDrcSrExit s
  | .drcMrwRead w value => Sys2Proof.Machine.execDrcMrwRead w value s
  | .drcMrwWrite w => Sys2Proof.Machine.execDrcMrwWrite w s
  | .drcClrCnt => Sys2Proof.Machine.execDrcClrCnt s
  | .aluAdd c rd rs1 rs2 z => Sys2Proof.Machine.execAluAdd c rd rs1 rs2 z s
  | .aluSub c rd rs1 rs2 z => Sys2Proof.Machine.execAluSub c rd rs1 rs2 z s
  | .aluAnd c rd rs1 rs2 z => Sys2Proof.Machine.execAluAnd c rd rs1 rs2 z s
  | .aluOr c rd rs1 rs2 z => Sys2Proof.Machine.execAluOr c rd rs1 rs2 z s
  | .aluXor c rd rs1 rs2 z => Sys2Proof.Machine.execAluXor c rd rs1 rs2 z s
  | .aluSll c rd rs1 rs2 z => Sys2Proof.Machine.execAluSll c rd rs1 rs2 z s
  | .aluSrl c rd rs1 rs2 z => Sys2Proof.Machine.execAluSrl c rd rs1 rs2 z s
  | .aluSra c rd rs1 rs2 z => Sys2Proof.Machine.execAluSra c rd rs1 rs2 z s
  | .aluSlt c rd rs1 rs2 z => Sys2Proof.Machine.execAluSlt c rd rs1 rs2 z s
  | .aluSltu c rd rs1 rs2 z => Sys2Proof.Machine.execAluSltu c rd rs1 rs2 z s
  | .aluMul c rd rs1 rs2 z => Sys2Proof.Machine.execAluMul c rd rs1 rs2 z s
  | .aluMulh c rd rs1 rs2 z => Sys2Proof.Machine.execAluMulh c rd rs1 rs2 z s
  | .aluMulhu c rd rs1 rs2 z => Sys2Proof.Machine.execAluMulhu c rd rs1 rs2 z s
  | .aluDiv c rd rs1 rs2 z => Sys2Proof.Machine.execAluDiv c rd rs1 rs2 z s
  | .aluDivu c rd rs1 rs2 z => Sys2Proof.Machine.execAluDivu c rd rs1 rs2 z s
  | .aluRem c rd rs1 rs2 z => Sys2Proof.Machine.execAluRem c rd rs1 rs2 z s
  | .aluRemu c rd rs1 rs2 z => Sys2Proof.Machine.execAluRemu c rd rs1 rs2 z s
  | .addi c rd rs1 imm => Sys2Proof.Machine.execAddi c rd rs1 imm s
  | .andi c rd rs1 imm => Sys2Proof.Machine.execAndi c rd rs1 imm s
  | .ori c rd rs1 imm => Sys2Proof.Machine.execOri c rd rs1 imm s
  | .xori c rd rs1 imm => Sys2Proof.Machine.execXori c rd rs1 imm s
  | .slti c rd rs1 imm => Sys2Proof.Machine.execSlti c rd rs1 imm s
  | .sltiu c rd rs1 imm => Sys2Proof.Machine.execSltiu c rd rs1 imm s
  | .slli c rd rs1 imm => Sys2Proof.Machine.execSlli c rd rs1 imm s
  | .srli c rd rs1 imm => Sys2Proof.Machine.execSrli c rd rs1 imm s
  | .srai c rd rs1 imm => Sys2Proof.Machine.execSrai c rd rs1 imm s
  | .lui c rd rs1 imm => Sys2Proof.Machine.execLui c rd rs1 imm s
  | .addpc c rd imm => Sys2Proof.Machine.execAddpc c rd imm s
  | .lb c rd rs1 imm => Sys2Proof.Machine.execLb c rd rs1 imm s
  | .lbu c rd rs1 imm => Sys2Proof.Machine.execLbu c rd rs1 imm s
  | .lh c rd rs1 imm => Sys2Proof.Machine.execLh c rd rs1 imm s
  | .lhu c rd rs1 imm => Sys2Proof.Machine.execLhu c rd rs1 imm s
  | .lw c rd rs1 imm => Sys2Proof.Machine.execLw c rd rs1 imm s
  | .lwu c rd rs1 imm => Sys2Proof.Machine.execLwu c rd rs1 imm s
  | .lx c rd rs1 imm => Sys2Proof.Machine.execLx c rd rs1 imm s
  | .sb c rs2 rs1 imm => Sys2Proof.Machine.execSb c rs2 rs1 imm s
  | .sh c rs2 rs1 imm => Sys2Proof.Machine.execSh c rs2 rs1 imm s
  | .sw c rs2 rs1 imm => Sys2Proof.Machine.execSw c rs2 rs1 imm s
  | .sx c rs2 rs1 imm => Sys2Proof.Machine.execSx c rs2 rs1 imm s
  | .lr c rd rs1 imm => Sys2Proof.Machine.execLr c rd rs1 imm s
  | .sc c rd rs1 rs2 z => Sys2Proof.Machine.execSc c rd rs1 rs2 z s
  | .beq c rs1 rs2 imm => Sys2Proof.Machine.execBeq c rs1 rs2 imm s
  | .bne c rs1 rs2 imm => Sys2Proof.Machine.execBne c rs1 rs2 imm s
  | .blt c rs1 rs2 imm => Sys2Proof.Machine.execBlt c rs1 rs2 imm s
  | .bge c rs1 rs2 imm => Sys2Proof.Machine.execBge c rs1 rs2 imm s
  | .bltu c rs1 rs2 imm => Sys2Proof.Machine.execBltu c rs1 rs2 imm s
  | .bgeu c rs1 rs2 imm => Sys2Proof.Machine.execBgeu c rs1 rs2 imm s
  | .jal c rd imm => Sys2Proof.Machine.execJal c rd imm s
  | .jalr c rd rs1 imm => Sys2Proof.Machine.execJalr c rd rs1 imm s
  | .syscall c rd rs1 rs2 z => Sys2Proof.Machine.execSyscall c rd rs1 rs2 z s
  | .brk c rd rs1 rs2 z => Sys2Proof.Machine.execBrk c rd rs1 rs2 z s
  | .rfe c rd rs1 rs2 z => Sys2Proof.Machine.execRfe c rd rs1 rs2 z s
  | .wfi c rd rs1 rs2 z => Sys2Proof.Machine.execWfi c rd rs1 rs2 z s
  | .fence c rd rs1 rs2 z => Sys2Proof.Machine.execFence c rd rs1 rs2 z s
  | .ifence c rd rs1 rs2 z => Sys2Proof.Machine.execIfence c rd rs1 rs2 z s
  | .tlbinv c rd rs1 rs2 z => Sys2Proof.Machine.execTlbinv c rd rs1 rs2 z s
  | .tlbinva c rd rs1 rs2 z => Sys2Proof.Machine.execTlbinva c rd rs1 rs2 z s
  | .mfc c rd rs1 imm => Sys2Proof.Machine.execMfc c rd rs1 imm s
  | .mtc c rd rs1 imm => Sys2Proof.Machine.execMtc c rd rs1 imm s
  | .l1dInv c rs1 imm => Sys2Proof.Machine.execL1dInv c rs1 imm s
  | .l1iInv c rs1 imm => Sys2Proof.Machine.execL1iInv c rs1 imm s
  | .l2Clean c rs1 imm => Sys2Proof.Machine.execL2Clean c rs1 imm s
  | .l2Inv c rs1 imm => Sys2Proof.Machine.execL2Inv c rs1 imm s
  | .l2Flush c rs1 imm => Sys2Proof.Machine.execL2Flush c rs1 imm s
  | .l1iInva c rs1 imm => Sys2Proof.Machine.execL1iInva c rs1 imm s
  | .l1dInva c rs1 imm => Sys2Proof.Machine.execL1dInva c rs1 imm s
  | .l2FlushSw c rs1 imm => Sys2Proof.Machine.execL2FlushSw c rs1 imm s
  | .vcFlush c rs1 imm => Sys2Proof.Machine.execVcFlush c rs1 imm s
  | .coreInterruptTake c => Sys2Proof.Machine.execCoreInterruptTake c s
  | .l2RefillDone k => Sys2Proof.Machine.execL2RefillDone k s
  | .l2BlockingWrite v => Sys2Proof.Machine.execL2BlockingWrite v s
  | .coreRun n => Sys2Proof.Machine.execCoreRun n s
  | .coreReset n => Sys2Proof.Machine.execCoreReset n s
  | .ypRun start => Sys2Proof.Machine.execYpRun start s
  | .ypReset => Sys2Proof.Machine.execYpReset s
  | .eggKick c v => Sys2Proof.Machine.execEggKick c v s
  | .eggTimerExpiry c => Sys2Proof.Machine.execEggTimerExpiry c s
  | .cpxClrCnt => Sys2Proof.Machine.execCpxClrCnt s
  | .intcLineEvent k attention => Sys2Proof.Machine.execIntcLineEvent k attention s
  | .intcSwiGo src => Sys2Proof.Machine.execIntcSwiGo src s
  | .intcTargetWrite k t => Sys2Proof.Machine.execIntcTargetWrite k t s
  | .intcPendWrite t r w => Sys2Proof.Machine.execIntcPendWrite t r w s
  | .dmaTailWrite k tail => Sys2Proof.Machine.execDmaTailWrite k tail s
  | .dmaDescriptorFetch k => Sys2Proof.Machine.execDmaDescriptorFetch k s
  | .dmaBurst cls => Sys2Proof.Machine.execDmaBurst cls s
  | .dmaDescriptorComplete k => Sys2Proof.Machine.execDmaDescriptorComplete k s
  | .dmaStreamOut k n frag => Sys2Proof.Machine.execDmaStreamOut k n frag s
  | .dmaStreamIn k c => Sys2Proof.Machine.execDmaStreamIn k c s
  | .dmaInternalTransfer k unit => Sys2Proof.Machine.execDmaInternalTransfer k unit s
  | .dmaAccessTimeout k source => Sys2Proof.Machine.execDmaAccessTimeout k source s
  | .dmaResume k => Sys2Proof.Machine.execDmaResume k s
  | .dmaSkip k => Sys2Proof.Machine.execDmaSkip k s
  | .dmaChannelReset k => Sys2Proof.Machine.execDmaChannelReset k s
  | .dmaPause k v => Sys2Proof.Machine.execDmaPause k v s
  | .dmaChannelEnable k v => Sys2Proof.Machine.execDmaChannelEnable k v s
  | .dmaEngineEnable v => Sys2Proof.Machine.execDmaEngineEnable v s
  | .dmaCipherReady k => Sys2Proof.Machine.execDmaCipherReady k s
  | .dmaXlatInv scope asid vpn => Sys2Proof.Machine.execDmaXlatInv scope asid vpn s
  | .dmaClrCnt => Sys2Proof.Machine.execDmaClrCnt s
  | .pcieLinkTraining perst width speed => Sys2Proof.Machine.execPcieLinkTraining perst width speed s
  | .pcieLinkDown => Sys2Proof.Machine.execPcieLinkDown s
  | .pcieConfigRequest write reg be data ep => Sys2Proof.Machine.execPcieConfigRequest write reg be data ep s
  | .pcieMemoryRequest bar2 write ofs n data ep entries => Sys2Proof.Machine.execPcieMemoryRequest bar2 write ofs n data ep entries s
  | .pcieXromRead ofs n err => Sys2Proof.Machine.execPcieXromRead ofs n err s
  | .msixRaise v => Sys2Proof.Machine.execMsixRaise v s
  | .msixPendingSend => Sys2Proof.Machine.execMsixPendingSend s
  | .pcieBmeClear => Sys2Proof.Machine.execPcieBmeClear s
  | .pcieBmeSet => Sys2Proof.Machine.execPcieBmeSet s
  | .pcieD3hotEntry => Sys2Proof.Machine.execPcieD3hotEntry s
  | .pcieD0Return => Sys2Proof.Machine.execPcieD0Return s
  | .aspmL0sEntry => Sys2Proof.Machine.execAspmL0sEntry s
  | .aspmL1Entry => Sys2Proof.Machine.execAspmL1Entry s
  | .aspmExit => Sys2Proof.Machine.execAspmExit s
  | .ltrSend => Sys2Proof.Machine.execLtrSend s
  | .pcieCompletionRx k status data ep old => Sys2Proof.Machine.execPcieCompletionRx k status data ep old s
  | .pcieCompletionTimeout k => Sys2Proof.Machine.execPcieCompletionTimeout k s
  | .pcieAerError k hdr => Sys2Proof.Machine.execPcieAerError k hdr s
  | .pcieFlrInitiate => Sys2Proof.Machine.execPcieFlrInitiate s
  | .pceFlrComplete => Sys2Proof.Machine.execPceFlrComplete s
  | .pcieFlrForced => Sys2Proof.Machine.execPcieFlrForced s
  | .pcieHotReset perst => Sys2Proof.Machine.execPcieHotReset perst s
  | .pceClrCnt => Sys2Proof.Machine.execPceClrCnt s
  | .sqTailDoorbell q v entries => Sys2Proof.Machine.execSqTailDoorbell q v entries s
  | .cqHeadDoorbell q v => Sys2Proof.Machine.execCqHeadDoorbell q v s
  | .nvqPost prod => Sys2Proof.Machine.execNvqPost prod s
  | .nvqCoalTimeout v => Sys2Proof.Machine.execNvqCoalTimeout v s
  | .nvqClrCnt => Sys2Proof.Machine.execNvqClrCnt s
  | .ccEnRise => Sys2Proof.Machine.execCcEnRise s
  | .ccEnFall => Sys2Proof.Machine.execCcEnFall s
  | .normalShutdown => Sys2Proof.Machine.execNormalShutdown s
  | .abruptShutdown => Sys2Proof.Machine.execAbruptShutdown s
  | .nvmeDeleteIoSq sq cid => Sys2Proof.Machine.execNvmeDeleteIoSq sq cid s
  | .nvmeCreateIoSq sq cid => Sys2Proof.Machine.execNvmeCreateIoSq sq cid s
  | .nvmeGetLogPage sq cid list => Sys2Proof.Machine.execNvmeGetLogPage sq cid list s
  | .nvmeDeleteIoCq sq cid => Sys2Proof.Machine.execNvmeDeleteIoCq sq cid s
  | .nvmeCreateIoCq sq cid => Sys2Proof.Machine.execNvmeCreateIoCq sq cid s
  | .nvmeIdentify sq cid list => Sys2Proof.Machine.execNvmeIdentify sq cid list s
  | .nvmeAbort sq cid started => Sys2Proof.Machine.execNvmeAbort sq cid started s
  | .nvmeSetFeatures sq cid => Sys2Proof.Machine.execNvmeSetFeatures sq cid s
  | .nvmeGetFeatures sq cid => Sys2Proof.Machine.execNvmeGetFeatures sq cid s
  | .nvmeAsyncEventRequest sq cid => Sys2Proof.Machine.execNvmeAsyncEventRequest sq cid s
  | .nvmeFirmwareCommit sq cid => Sys2Proof.Machine.execNvmeFirmwareCommit sq cid s
  | .nvmeFirmwareDownload sq cid data ok => Sys2Proof.Machine.execNvmeFirmwareDownload sq cid data ok s
  | .nvmeSecuritySend sq cid ok => Sys2Proof.Machine.execNvmeSecuritySend sq cid ok s
  | .nvmeSecurityReceive sq cid response list => Sys2Proof.Machine.execNvmeSecurityReceive sq cid response list s
  | .nvmeSanitize sq cid => Sys2Proof.Machine.execNvmeSanitize sq cid s
  | .nvmeDictionaryRead sq cid list => Sys2Proof.Machine.execNvmeDictionaryRead sq cid list s
  | .nvmeDictionaryWrite sq cid data ok => Sys2Proof.Machine.execNvmeDictionaryWrite sq cid data ok s
  | .nvmeFlush sq cid => Sys2Proof.Machine.execNvmeFlush sq cid s
  | .nvmeWrite sq cid data ok fault => Sys2Proof.Machine.execNvmeWrite sq cid data ok fault s
  | .nvmeRead sq cid list data lost => Sys2Proof.Machine.execNvmeRead sq cid list data lost s
  | .zoneClose sq cid => Sys2Proof.Machine.execZoneClose sq cid s
  | .zoneFinish sq cid => Sys2Proof.Machine.execZoneFinish sq cid s
  | .zoneOpen sq cid => Sys2Proof.Machine.execZoneOpen sq cid s
  | .zoneReset sq cid => Sys2Proof.Machine.execZoneReset sq cid s
  | .zoneOffline sq cid => Sys2Proof.Machine.execZoneOffline sq cid s
  | .zoneSetDescriptorExt sq cid => Sys2Proof.Machine.execZoneSetDescriptorExt sq cid s
  | .zoneReportZones sq cid list => Sys2Proof.Machine.execZoneReportZones sq cid list s
  | .zoneAppend sq cid data ok fault => Sys2Proof.Machine.execZoneAppend sq cid data ok fault s
  | .fniEnableJoin => Sys2Proof.Machine.execFniEnableJoin s
  | .fniRestart => Sys2Proof.Machine.execFniRestart s
  | .fniClrCnt => Sys2Proof.Machine.execFniClrCnt s
  | .ndlHelloDelayExpiry => Sys2Proof.Machine.execNdlHelloDelayExpiry s
  | .ndlHelloRepeat => Sys2Proof.Machine.execNdlHelloRepeat s
  | .canBusOff => Sys2Proof.Machine.execCanBusOff s
  | .canBusOffRecovery => Sys2Proof.Machine.execCanBusOffRecovery s
  | .ndlRxHello src dst token payload full => Sys2Proof.Machine.execNdlRxHello src dst token payload full s
  | .ndlRxPermit src dst token payload full => Sys2Proof.Machine.execNdlRxPermit src dst token payload full s
  | .ndlRxEvent src dst token payload full => Sys2Proof.Machine.execNdlRxEvent src dst token payload full s
  | .ndlRxDreadReq src dst token payload full => Sys2Proof.Machine.execNdlRxDreadReq src dst token payload full s
  | .ndlRxDreadRsp src dst token payload full => Sys2Proof.Machine.execNdlRxDreadRsp src dst token payload full s
  | .ndlRxDwriteReq src dst token payload full => Sys2Proof.Machine.execNdlRxDwriteReq src dst token payload full s
  | .ndlRxDwriteRsp src dst token payload full => Sys2Proof.Machine.execNdlRxDwriteRsp src dst token payload full s
  | .ndlRxSeg src dst token payload full => Sys2Proof.Machine.execNdlRxSeg src dst token payload full s
  | .ndlRxSegAck src dst token payload full => Sys2Proof.Machine.execNdlRxSegAck src dst token payload full s
  | .ndlRxHeartbeat src dst token payload full => Sys2Proof.Machine.execNdlRxHeartbeat src dst token payload full s
  | .ndlRxAbort src dst token payload full => Sys2Proof.Machine.execNdlRxAbort src dst token payload full s
  | .ndlTransferTimeout src token => Sys2Proof.Machine.execNdlTransferTimeout src token s
  | .ndlHeartbeatTimer => Sys2Proof.Machine.execNdlHeartbeatTimer s
  | .ndlHeartbeatChange => Sys2Proof.Machine.execNdlHeartbeatChange s
  | .shelfEventOnset cls => Sys2Proof.Machine.execShelfEventOnset cls s
  | .shelfHoldoffExpiry cls => Sys2Proof.Machine.execShelfHoldoffExpiry cls s
  | .shelfEpisodeEnd cls => Sys2Proof.Machine.execShelfEpisodeEnd cls s
  | .fniEvqGo w => Sys2Proof.Machine.execFniEvqGo w s
  | .odeRead m c addr => Sys2Proof.Machine.execOdeRead m c addr s
  | .odeWrite m c addr mram => Sys2Proof.Machine.execOdeWrite m c addr mram s
  | .odeDescribe m c addr => Sys2Proof.Machine.execOdeDescribe m c addr s
  | .powerStateRequest t => Sys2Proof.Machine.execPowerStateRequest t s
  | .gradeRequestDict o task v => Sys2Proof.Machine.execGradeRequestDict o task v s
  | .spinPermitWrite o task v => Sys2Proof.Machine.execSpinPermitWrite o task v s
  | .namespaceTableWrite o task n v => Sys2Proof.Machine.execNamespaceTableWrite o task n v s
  | .severityWrite o task k v => Sys2Proof.Machine.execSeverityWrite o task k v s
  | .svnMinRaise o task v => Sys2Proof.Machine.execSvnMinRaise o task v s
  | .recipeKeyProvision o task key => Sys2Proof.Machine.execRecipeKeyProvision o task key s
  | .zeroizeDict o task v => Sys2Proof.Machine.execZeroizeDict o task v s
  | .cipEnable => Sys2Proof.Machine.execCipEnable s
  | .cipSelftestDone cause core => Sys2Proof.Machine.execCipSelftestDone cause core s
  | .cipOndemand => Sys2Proof.Machine.execCipOndemand s
  | .cipPeriodicTest fail => Sys2Proof.Machine.execCipPeriodicTest fail s
  | .cipZeroize => Sys2Proof.Machine.execCipZeroize s
  | .cipClrCnt => Sys2Proof.Machine.execCipClrCnt s
  | .entropyHealthFail adaptive => Sys2Proof.Machine.execEntropyHealthFail adaptive s
  | .cipRngRead => Sys2Proof.Machine.execCipRngRead s
  | .cipOpAesEcbEncrypt k => Sys2Proof.Machine.execCipOpAesEcbEncrypt k s
  | .cipOpAesEcbDecrypt k => Sys2Proof.Machine.execCipOpAesEcbDecrypt k s
  | .cipOpAesCbcEncrypt k => Sys2Proof.Machine.execCipOpAesCbcEncrypt k s
  | .cipOpAesCbcDecrypt k => Sys2Proof.Machine.execCipOpAesCbcDecrypt k s
  | .cipOpAesCtr k => Sys2Proof.Machine.execCipOpAesCtr k s
  | .cipOpAesGcmEncrypt k => Sys2Proof.Machine.execCipOpAesGcmEncrypt k s
  | .cipOpAesGcmDecrypt k => Sys2Proof.Machine.execCipOpAesGcmDecrypt k s
  | .cipOpCmacGenerate k => Sys2Proof.Machine.execCipOpCmacGenerate k s
  | .cipOpCmacVerify k => Sys2Proof.Machine.execCipOpCmacVerify k s
  | .cipOpKwpWrap k => Sys2Proof.Machine.execCipOpKwpWrap k s
  | .cipOpKwpUnwrap k => Sys2Proof.Machine.execCipOpKwpUnwrap k s
  | .cipOpSha384 k => Sys2Proof.Machine.execCipOpSha384 k s
  | .cipOpRandomBytes k => Sys2Proof.Machine.execCipOpRandomBytes k s
  | .cipOpEcdsaVerify k => Sys2Proof.Machine.execCipOpEcdsaVerify k s
  | .cipOpAuth k fail => Sys2Proof.Machine.execCipOpAuth k fail s
  | .cipOpSetCred k fail => Sys2Proof.Machine.execCipOpSetCred k fail s
  | .cipOpGenkey k fail => Sys2Proof.Machine.execCipOpGenkey k fail s
  | .cipOpLock k fail => Sys2Proof.Machine.execCipOpLock k fail s
  | .cipOpSetRange k fail => Sys2Proof.Machine.execCipOpSetRange k fail s
  | .cipOpMkeyGen k => Sys2Proof.Machine.execCipOpMkeyGen k s
  | .cipOpMkeyLoad k => Sys2Proof.Machine.execCipOpMkeyLoad k s
  | .cipUnlkNonceRequest m level => Sys2Proof.Machine.execCipUnlkNonceRequest m level s
  | .cipUnlkVerify m block level => Sys2Proof.Machine.execCipUnlkVerify m block level s
  | .cipUnlkLockoutEnd => Sys2Proof.Machine.execCipUnlkLockoutEnd s
  | .faultClassify k => Sys2Proof.Machine.execFaultClassify k s
  | .severity5Reset => Sys2Proof.Machine.execSeverity5Reset s
  | .faultConditionFall k => Sys2Proof.Machine.execFaultConditionFall k s
  | .faultWindowExpiry k => Sys2Proof.Machine.execFaultWindowExpiry k s
  | .faultQuietExpiry => Sys2Proof.Machine.execFaultQuietExpiry s
  | .fltLeave => Sys2Proof.Machine.execFltLeave s
  | .fltClrCnt => Sys2Proof.Machine.execFltClrCnt s
  | .fltInject m w => Sys2Proof.Machine.execFltInject m w s
  | .fltSeverityLoad => Sys2Proof.Machine.execFltSeverityLoad s
  | .coreOffFaultLog k => Sys2Proof.Machine.execCoreOffFaultLog k s
  | .aliveToggle => Sys2Proof.Machine.execAliveToggle s
  | .evrRecordWrite => Sys2Proof.Machine.execEvrRecordWrite s
  | .evrPost m c w => Sys2Proof.Machine.execEvrPost m c w s
  | .evrMirrorDue => Sys2Proof.Machine.execEvrMirrorDue s
  | .evrClrCnt => Sys2Proof.Machine.execEvrClrCnt s
  | .opSecondsTick => Sys2Proof.Machine.execOpSecondsTick s
  | .supReqGo target => Sys2Proof.Machine.execSupReqGo target s
  | .deepOffRetentionOff odePersisting => Sys2Proof.Machine.execDeepOffRetentionOff odePersisting s
  | .lowStateExit => Sys2Proof.Machine.execLowStateExit s
  | .exitRailsReady => Sys2Proof.Machine.execExitRailsReady s
  | .exitSupplyTimeout vcore vio18 => Sys2Proof.Machine.execExitSupplyTimeout vcore vio18 s
  | .wakeEdge => Sys2Proof.Machine.execWakeEdge s
  | .wakeHeldHour => Sys2Proof.Machine.execWakeHeldHour s
  | .railWarning r mv => Sys2Proof.Machine.execRailWarning r mv s
  | .railWarningClear r mv => Sys2Proof.Machine.execRailWarningClear r mv s
  | .railResetThreshold r mv => Sys2Proof.Machine.execRailResetThreshold r mv s
  | .railResetRelease => Sys2Proof.Machine.execRailResetRelease s
  | .vauxReset mv => Sys2Proof.Machine.execVauxReset mv s
  | .vauxPowerOn => Sys2Proof.Machine.execVauxPowerOn s
  | .supClrCnt => Sys2Proof.Machine.execSupClrCnt s
  | .supRailClrMin r => Sys2Proof.Machine.execSupRailClrMin r s
  | .strapLatch slot spingate => Sys2Proof.Machine.execStrapLatch slot spingate s
  | .gpioStrapSample pins => Sys2Proof.Machine.execGpioStrapSample pins s
  | .testEnRise => Sys2Proof.Machine.execTestEnRise s
  | .testEnFall => Sys2Proof.Machine.execTestEnFall s
  | .gpioSet mask => Sys2Proof.Machine.execGpioSet mask s
  | .gpioClr mask => Sys2Proof.Machine.execGpioClr mask s
  | .bootRomStart lanes cause core => Sys2Proof.Machine.execBootRomStart lanes cause core s
  | .flashRead c => Sys2Proof.Machine.execFlashRead c s
  | .flashWrite c => Sys2Proof.Machine.execFlashWrite c s
  | .manSelect c => Sys2Proof.Machine.execManSelect c s
  | .bootOk c => Sys2Proof.Machine.execBootOk c s
  | .rebind c media => Sys2Proof.Machine.execRebind c media s
  | .manifestSelection c0 c1 c2 i0 i1 i2 => Sys2Proof.Machine.execManifestSelection c0 c1 c2 i0 i1 i2 s
  | .adlRxDiscard n => Sys2Proof.Machine.execAdlRxDiscard n s
  | .slotEnd n => Sys2Proof.Machine.execSlotEnd n s
  | .journalDone n => Sys2Proof.Machine.execJournalDone n s
  | .drcPllLocked => Sys2Proof.Machine.execDrcPllLocked s
  | .railResetClear r mv => Sys2Proof.Machine.execRailResetClear r mv s
  | .vauxPowerOnLevelFall => Sys2Proof.Machine.execVauxPowerOnLevelFall s
  | .wakeFilteredFall => Sys2Proof.Machine.execWakeFilteredFall s
  | .canErrorDetected tx alt => Sys2Proof.Machine.execCanErrorDetected tx alt s
  | .canFrameSent => Sys2Proof.Machine.execCanFrameSent s

end Sys2Proof.Machine
end

