-- ==== Sys2Proof/Machine/Idle.lean ====
section
/-! DEFINITION. What a tick of 10 ns does with no command: the tick counter and the store buffers (R50, R441). -/

namespace Sys2Proof.Machine

/-- The tick counter advances while the retention domain is powered (R32, R50). -/
def countTick (s : State) : State := if s.power.retention then { s with tick := s.tick + 1 } else s

/-- A tick passes: the counter advances, and each powered Y core performs its oldest buffered store. -/
def idleTick (s : State) : State :=
  forEach (List.finRange 4) (fun n s => if s.power.core then drainOne (coreOfY n) s else s) (countTick s)

end Sys2Proof.Machine
end

