-- ==== Sys2Proof/Families.lean ====
section
/-! DEFINITION. Which commands are of units of the core domain, and which of units that the FQX-1408 has fused off (R3, R33). -/

namespace Sys2Proof

/-- Whether a command acts on units of the core domain alone (R14, R33). -/
def Instr.ofCoreDomain : Instr → Bool
  | .registerWrite _ _ _ _ => false
  | .sysTickLRead => false
  | .stepmonClearMin => false
  | .refPllLockLoss _ => false
  | .refPllRelock => false
  | .releaseComparatorMatch _ => true
  | .freeRunPeriodStart => true
  | .parityJournalWrite _ _ => true
  | .manifestCommit _ _ => true
  | .rcpImageStage _ _ _ => true
  | .rcpReqCheckOnly _ => true
  | .rcpReqCheckCommit _ => true
  | .rcpReqForce _ => true
  | .rcpCheck _ => true
  | .rcpInstall _ => true
  | .rcpActivate _ => true
  | .pslNegotiate _ _ _ _ => true
  | .pslHelloTimeout _ => true
  | .pslKeepalive _ => true
  | .pslStatusTimeout _ => true
  | .pslTimedFrameMatch _ => true
  | .pslEchoMiss _ => true
  | .pslRxEcho _ _ _ _ => true
  | .pslRxFault _ _ _ _ => true
  | .pslRxHello _ _ _ => true
  | .pslRxCap _ _ _ _ => true
  | .pslRxAck _ _ _ _ => true
  | .pslRxRegData _ _ _ _ => true
  | .pslRxStatus _ _ _ => true
  | .pslRxNak _ _ _ _ => true
  | .pslRxDiscard _ _ => true
  | .pslCmdNop _ _ _ => true
  | .pslCmdCapRd _ _ _ => true
  | .pslCmdRegWr _ _ _ => true
  | .pslCmdRegRd _ _ _ => true
  | .pslCmdStatusRq _ _ _ => true
  | .pslCmdTimeout _ => true
  | .pslCtrlNegotiate _ _ => true
  | .pslCtrlClrErr _ => true
  | .dcCalAdcOffset _ => true
  | .dcCalGain _ => true
  | .dcCalAsymmetry _ => true
  | .dcCalDone _ _ _ _ _ => true
  | .dcRingRel _ _ => true
  | .dcClrCnt _ => true
  | .defectFreezeStart _ _ _ => true
  | .defectFreezeEnd _ _ => true
  | .ringRecordStart _ _ _ _ _ => true
  | .ringRecordEnd _ _ _ => true
  | .ringWriteOverrun _ => true
  | .syncMarkSearch _ _ _ _ _ _ => true
  | .fragmentIntakeStart _ _ => true
  | .fragmentDelivery _ _ => true
  | .gsrWrite _ _ => true
  | .detGsrNextWrite _ _ => true
  | .detClrStats _ => true
  | .detBbTailWrite _ _ => true
  | .bbDecode _ _ _ _ _ _ => true
  | .bbFold _ _ => true
  | .bbErase _ _ => true
  | .wpStagingDone _ _ _ _ _ => true
  | .wpBankHandover _ _ _ => true
  | .shkTrip => true
  | .shkHoldEnd => true
  | .wpFirmwareInhibit _ => true
  | .wpClrCnt _ => true
  | .verifyResult _ _ _ _ => true
  | .slotRecordWrite _ => true
  | .wpCalStart _ _ => true
  | .wpCalTrialEnd _ _ _ _ => true
  | .samEvent _ _ _ _ => true
  | .missedWedge _ => true
  | .positionRecordLatch _ _ _ _ _ _ _ => true
  | .svdForceSearch _ => true
  | .svdClrCnt _ => true
  | .svdSamLRead _ => true
  | .cleFrameStart _ _ => true
  | .cleFrameStartLimit _ _ => true
  | .cleOpLoad _ _ _ _ _ => true
  | .cleOpStore _ _ _ => true
  | .cleOpAdd _ _ _ => true
  | .cleOpSub _ _ _ => true
  | .cleOpMac _ _ _ _ => true
  | .cleOpShift _ _ => true
  | .cleOpSat _ _ => true
  | .cleOpLimit _ _ => true
  | .cleActCmdWrite _ _ => true
  | .cleSpmCmdWrite _ => true
  | .cleBankCheck => true
  | .cleBankCheckDone => true
  | .cleBankSwitchReq => true
  | .bankSwitch => true
  | .cleClrSticky => true
  | .adlNegotiate _ _ => true
  | .adlHelloTimeout _ => true
  | .adlKeepalive _ => true
  | .adlReportMiss _ _ => true
  | .adlRxReport _ _ _ _ _ _ => true
  | .adlRxFault _ _ _ => true
  | .adlRxHello _ _ => true
  | .adlRxConfigData _ _ _ => true
  | .adlRxNak _ _ => true
  | .adlCmdConfig _ _ _ => true
  | .adlCmdArm _ => true
  | .adlCmdRetract _ _ => true
  | .adlCmdStatusRq _ => true
  | .adlCmdConfigRd _ _ => true
  | .adlRspTimeout _ => true
  | .adlPark _ => true
  | .adlUnpark _ => true
  | .adlCtrlNegotiate _ => true
  | .adlClrErr _ => true
  | .spmRun => true
  | .spmStop => true
  | .spmCoast => true
  | .spmSampleSet _ _ _ _ => true
  | .spmOutputApply => true
  | .bemfZeroCrossing _ _ => true
  | .spmStopWaitExpiry => true
  | .spmIps _ => true
  | .spmAngleOffsetWrite _ => true
  | .spmGradeReqWrite _ => true
  | .gradeChangeStart => true
  | .gradeChangeDone => true
  | .gradeChangeOvertime => true
  | .demandSample => true
  | .spmCalStart => true
  | .spmCalDone _ _ _ _ _ _ _ => true
  | .spmGateFault => true
  | .spmClrCnt => true
  | .v12OvCrossing _ => false
  | .fmsRun _ _ => true
  | .fmsHalt _ => true
  | .fmsAttn _ => true
  | .controlStoreWrite _ _ _ _ => true
  | .controlStoreRead _ _ _ => true
  | .microwordFetch _ => true
  | .microwordWaitTimeout _ => true
  | .mwNop _ => true
  | .mwWr _ => true
  | .mwRd _ => true
  | .mwSegOpen _ => true
  | .mwSegStep _ => true
  | .mwSegAbort _ => true
  | .mwCopy _ => true
  | .mwPost _ => true
  | .mwFlag _ => true
  | .mwLdlc _ => true
  | .mwEvt _ => true
  | .mwRewrite _ => true
  | .fmsIrqTake _ => true
  | .fmsCopyDone _ => true
  | .trackProgramEnd _ _ => true
  | .memInitGo _ => true
  | .memInitDone => true
  | .memClrCnt => true
  | .protectedRowRead _ _ _ => false
  | .partialWriteRmw _ _ _ _ => false
  | .scrubGroup _ _ => true
  | .retentionScrubLap _ _ _ => false
  | .drcPhyEnable _ => true
  | .drcBringup => true
  | .drcRetainedBringup => true
  | .drcBringupEnd _ => true
  | .drcDevLost => true
  | .drcPllPhyLoss _ => true
  | .drcInitGo => true
  | .drcInitDone => true
  | .drcSrEnter => true
  | .drcSrEntryDone => true
  | .drcSrExit => true
  | .drcMrwRead _ _ => true
  | .drcMrwWrite _ => true
  | .drcClrCnt => true
  | .aluAdd _ _ _ _ _ => false
  | .aluSub _ _ _ _ _ => false
  | .aluAnd _ _ _ _ _ => false
  | .aluOr _ _ _ _ _ => false
  | .aluXor _ _ _ _ _ => false
  | .aluSll _ _ _ _ _ => false
  | .aluSrl _ _ _ _ _ => false
  | .aluSra _ _ _ _ _ => false
  | .aluSlt _ _ _ _ _ => false
  | .aluSltu _ _ _ _ _ => false
  | .aluMul _ _ _ _ _ => false
  | .aluMulh _ _ _ _ _ => false
  | .aluMulhu _ _ _ _ _ => false
  | .aluDiv _ _ _ _ _ => false
  | .aluDivu _ _ _ _ _ => false
  | .aluRem _ _ _ _ _ => false
  | .aluRemu _ _ _ _ _ => false
  | .addi _ _ _ _ => false
  | .andi _ _ _ _ => false
  | .ori _ _ _ _ => false
  | .xori _ _ _ _ => false
  | .slti _ _ _ _ => false
  | .sltiu _ _ _ _ => false
  | .slli _ _ _ _ => false
  | .srli _ _ _ _ => false
  | .srai _ _ _ _ => false
  | .lui _ _ _ _ => false
  | .addpc _ _ _ => false
  | .lb _ _ _ _ => false
  | .lbu _ _ _ _ => false
  | .lh _ _ _ _ => false
  | .lhu _ _ _ _ => false
  | .lw _ _ _ _ => false
  | .lwu _ _ _ _ => false
  | .lx _ _ _ _ => false
  | .sb _ _ _ _ => false
  | .sh _ _ _ _ => false
  | .sw _ _ _ _ => false
  | .sx _ _ _ _ => false
  | .lr _ _ _ _ => false
  | .sc _ _ _ _ _ => false
  | .beq _ _ _ _ => false
  | .bne _ _ _ _ => false
  | .blt _ _ _ _ => false
  | .bge _ _ _ _ => false
  | .bltu _ _ _ _ => false
  | .bgeu _ _ _ _ => false
  | .jal _ _ _ => false
  | .jalr _ _ _ _ => false
  | .syscall _ _ _ _ _ => false
  | .brk _ _ _ _ _ => false
  | .rfe _ _ _ _ _ => false
  | .wfi _ _ _ _ _ => false
  | .fence _ _ _ _ _ => false
  | .ifence _ _ _ _ _ => false
  | .tlbinv _ _ _ _ _ => false
  | .tlbinva _ _ _ _ _ => false
  | .mfc _ _ _ _ => false
  | .mtc _ _ _ _ => false
  | .l1dInv _ _ _ => false
  | .l1iInv _ _ _ => false
  | .l2Clean _ _ _ => false
  | .l2Inv _ _ _ => false
  | .l2Flush _ _ _ => false
  | .l1iInva _ _ _ => false
  | .l1dInva _ _ _ => false
  | .l2FlushSw _ _ _ => false
  | .vcFlush _ _ _ => false
  | .coreInterruptTake _ => false
  | .l2RefillDone _ => true
  | .l2BlockingWrite _ => true
  | .coreRun _ => true
  | .coreReset _ => true
  | .ypRun _ => false
  | .ypReset => false
  | .eggKick _ _ => false
  | .eggTimerExpiry _ => false
  | .cpxClrCnt => true
  | .intcLineEvent _ _ => false
  | .intcSwiGo _ => false
  | .intcTargetWrite _ _ => true
  | .intcPendWrite _ _ _ => false
  | .dmaTailWrite _ _ => true
  | .dmaDescriptorFetch _ => false
  | .dmaBurst _ => false
  | .dmaDescriptorComplete _ => false
  | .dmaStreamOut _ _ _ => true
  | .dmaStreamIn _ _ => true
  | .dmaInternalTransfer _ _ => true
  | .dmaAccessTimeout _ _ => false
  | .dmaResume _ => true
  | .dmaSkip _ => true
  | .dmaChannelReset _ => true
  | .dmaPause _ _ => true
  | .dmaChannelEnable _ _ => true
  | .dmaEngineEnable _ => true
  | .dmaCipherReady _ => true
  | .dmaXlatInv _ _ _ => true
  | .dmaClrCnt => true
  | .pcieLinkTraining _ _ _ => true
  | .pcieLinkDown => true
  | .pcieConfigRequest _ _ _ _ _ => true
  | .pcieMemoryRequest _ _ _ _ _ _ _ => true
  | .pcieXromRead _ _ _ => true
  | .msixRaise _ => true
  | .msixPendingSend => true
  | .pcieBmeClear => true
  | .pcieBmeSet => true
  | .pcieD3hotEntry => true
  | .pcieD0Return => true
  | .aspmL0sEntry => true
  | .aspmL1Entry => true
  | .aspmExit => true
  | .ltrSend => true
  | .pcieCompletionRx _ _ _ _ _ => true
  | .pcieCompletionTimeout _ => true
  | .pcieAerError _ _ => true
  | .pcieFlrInitiate => true
  | .pceFlrComplete => true
  | .pcieFlrForced => true
  | .pcieHotReset _ => true
  | .pceClrCnt => true
  | .sqTailDoorbell _ _ _ => true
  | .cqHeadDoorbell _ _ => true
  | .nvqPost _ => true
  | .nvqCoalTimeout _ => true
  | .nvqClrCnt => true
  | .ccEnRise => true
  | .ccEnFall => true
  | .normalShutdown => true
  | .abruptShutdown => true
  | .nvmeDeleteIoSq _ _ => true
  | .nvmeCreateIoSq _ _ => true
  | .nvmeGetLogPage _ _ _ => true
  | .nvmeDeleteIoCq _ _ => true
  | .nvmeCreateIoCq _ _ => true
  | .nvmeIdentify _ _ _ => true
  | .nvmeAbort _ _ _ => true
  | .nvmeSetFeatures _ _ => true
  | .nvmeGetFeatures _ _ => true
  | .nvmeAsyncEventRequest _ _ => true
  | .nvmeFirmwareCommit _ _ => true
  | .nvmeFirmwareDownload _ _ _ _ => true
  | .nvmeSecuritySend _ _ _ => true
  | .nvmeSecurityReceive _ _ _ _ => true
  | .nvmeSanitize _ _ => true
  | .nvmeDictionaryRead _ _ _ => true
  | .nvmeDictionaryWrite _ _ _ _ => true
  | .nvmeFlush _ _ => true
  | .nvmeWrite _ _ _ _ _ => true
  | .nvmeRead _ _ _ _ _ => true
  | .zoneClose _ _ => false
  | .zoneFinish _ _ => false
  | .zoneOpen _ _ => false
  | .zoneReset _ _ => false
  | .zoneOffline _ _ => false
  | .zoneSetDescriptorExt _ _ => true
  | .zoneReportZones _ _ _ => true
  | .zoneAppend _ _ _ _ _ => true
  | .fniEnableJoin => false
  | .fniRestart => false
  | .fniClrCnt => false
  | .ndlHelloDelayExpiry => false
  | .ndlHelloRepeat => false
  | .canBusOff => false
  | .canBusOffRecovery => false
  | .ndlRxHello _ _ _ _ _ => false
  | .ndlRxPermit _ _ _ _ _ => false
  | .ndlRxEvent _ _ _ _ _ => false
  | .ndlRxDreadReq _ _ _ _ _ => false
  | .ndlRxDreadRsp _ _ _ _ _ => false
  | .ndlRxDwriteReq _ _ _ _ _ => false
  | .ndlRxDwriteRsp _ _ _ _ _ => false
  | .ndlRxSeg _ _ _ _ _ => false
  | .ndlRxSegAck _ _ _ _ _ => false
  | .ndlRxHeartbeat _ _ _ _ _ => false
  | .ndlRxAbort _ _ _ _ _ => false
  | .ndlTransferTimeout _ _ => false
  | .ndlHeartbeatTimer => false
  | .ndlHeartbeatChange => false
  | .shelfEventOnset _ => false
  | .shelfHoldoffExpiry _ => false
  | .shelfEpisodeEnd _ => false
  | .fniEvqGo _ => false
  | .odeRead _ _ _ => false
  | .odeWrite _ _ _ _ => false
  | .odeDescribe _ _ _ => false
  | .powerStateRequest _ => false
  | .gradeRequestDict _ _ _ => false
  | .spinPermitWrite _ _ _ => false
  | .namespaceTableWrite _ _ _ _ => false
  | .severityWrite _ _ _ _ => false
  | .svnMinRaise _ _ _ => false
  | .recipeKeyProvision _ _ _ => false
  | .zeroizeDict _ _ _ => false
  | .cipEnable => true
  | .cipSelftestDone _ _ => true
  | .cipOndemand => true
  | .cipPeriodicTest _ => true
  | .cipZeroize => true
  | .cipClrCnt => true
  | .entropyHealthFail _ => true
  | .cipRngRead => false
  | .cipOpAesEcbEncrypt _ => false
  | .cipOpAesEcbDecrypt _ => false
  | .cipOpAesCbcEncrypt _ => false
  | .cipOpAesCbcDecrypt _ => false
  | .cipOpAesCtr _ => false
  | .cipOpAesGcmEncrypt _ => false
  | .cipOpAesGcmDecrypt _ => false
  | .cipOpCmacGenerate _ => false
  | .cipOpCmacVerify _ => false
  | .cipOpKwpWrap _ => false
  | .cipOpKwpUnwrap _ => false
  | .cipOpSha384 _ => false
  | .cipOpRandomBytes _ => true
  | .cipOpEcdsaVerify _ => false
  | .cipOpAuth _ _ => true
  | .cipOpSetCred _ _ => true
  | .cipOpGenkey _ _ => true
  | .cipOpLock _ _ => true
  | .cipOpSetRange _ _ => true
  | .cipOpMkeyGen _ => true
  | .cipOpMkeyLoad _ => true
  | .cipUnlkNonceRequest _ _ => true
  | .cipUnlkVerify _ _ _ => true
  | .cipUnlkLockoutEnd => true
  | .faultClassify _ => true
  | .severity5Reset => true
  | .faultConditionFall _ => true
  | .faultWindowExpiry _ => true
  | .faultQuietExpiry => true
  | .fltLeave => true
  | .fltClrCnt => true
  | .fltInject _ _ => true
  | .fltSeverityLoad => true
  | .coreOffFaultLog _ => false
  | .aliveToggle => false
  | .evrRecordWrite => false
  | .evrPost _ _ _ => false
  | .evrMirrorDue => false
  | .evrClrCnt => false
  | .opSecondsTick => false
  | .supReqGo _ => false
  | .deepOffRetentionOff _ => false
  | .lowStateExit => false
  | .exitRailsReady => false
  | .exitSupplyTimeout _ _ => false
  | .wakeEdge => false
  | .wakeHeldHour => false
  | .railWarning _ _ => false
  | .railWarningClear _ _ => false
  | .railResetThreshold _ _ => false
  | .railResetRelease => false
  | .vauxReset _ => false
  | .vauxPowerOn => false
  | .supClrCnt => false
  | .supRailClrMin _ => false
  | .strapLatch _ _ => false
  | .gpioStrapSample _ => false
  | .testEnRise => false
  | .testEnFall => false
  | .gpioSet _ => false
  | .gpioClr _ => false
  | .bootRomStart _ _ _ => true
  | .flashRead _ => true
  | .flashWrite _ => true
  | .manSelect _ => true
  | .bootOk _ => true
  | .rebind _ _ => true
  | .manifestSelection _ _ _ _ _ _ => true
  | .adlRxDiscard _ => true
  | .slotEnd _ => true
  | .journalDone _ => true
  | .drcPllLocked => true
  | .railResetClear _ _ => false
  | .vauxPowerOnLevelFall => false
  | .wakeFilteredFall => false
  | .canErrorDetected _ _ => false
  | .canFrameSent => false

/-- Whether a command acts on a unit of the second half, which is fused off on the FQX-1408 (R2, R3). -/
def Instr.ofSecondHalf : Instr → Bool
  | .registerWrite _ _ _ _ => false
  | .sysTickLRead => false
  | .stepmonClearMin => false
  | .refPllLockLoss _ => false
  | .refPllRelock => false
  | .releaseComparatorMatch _ => false
  | .freeRunPeriodStart => false
  | .parityJournalWrite _ _ => false
  | .manifestCommit _ _ => false
  | .rcpImageStage _ _ _ => false
  | .rcpReqCheckOnly _ => false
  | .rcpReqCheckCommit _ => false
  | .rcpReqForce _ => false
  | .rcpCheck _ => false
  | .rcpInstall _ => false
  | .rcpActivate _ => false
  | .pslNegotiate n _ _ _ => decide (1 ≤ n.val)
  | .pslHelloTimeout n => decide (1 ≤ n.val)
  | .pslKeepalive n => decide (1 ≤ n.val)
  | .pslStatusTimeout n => decide (1 ≤ n.val)
  | .pslTimedFrameMatch n => decide (1 ≤ n.val)
  | .pslEchoMiss n => decide (1 ≤ n.val)
  | .pslRxEcho n _ _ _ => decide (1 ≤ n.val)
  | .pslRxFault n _ _ _ => decide (1 ≤ n.val)
  | .pslRxHello n _ _ => decide (1 ≤ n.val)
  | .pslRxCap n _ _ _ => decide (1 ≤ n.val)
  | .pslRxAck n _ _ _ => decide (1 ≤ n.val)
  | .pslRxRegData n _ _ _ => decide (1 ≤ n.val)
  | .pslRxStatus n _ _ => decide (1 ≤ n.val)
  | .pslRxNak n _ _ _ => decide (1 ≤ n.val)
  | .pslRxDiscard n _ => decide (1 ≤ n.val)
  | .pslCmdNop n _ _ => decide (1 ≤ n.val)
  | .pslCmdCapRd n _ _ => decide (1 ≤ n.val)
  | .pslCmdRegWr n _ _ => decide (1 ≤ n.val)
  | .pslCmdRegRd n _ _ => decide (1 ≤ n.val)
  | .pslCmdStatusRq n _ _ => decide (1 ≤ n.val)
  | .pslCmdTimeout n => decide (1 ≤ n.val)
  | .pslCtrlNegotiate n _ => decide (1 ≤ n.val)
  | .pslCtrlClrErr n => decide (1 ≤ n.val)
  | .dcCalAdcOffset c => decide (2 ≤ c.val)
  | .dcCalGain c => decide (2 ≤ c.val)
  | .dcCalAsymmetry c => decide (2 ≤ c.val)
  | .dcCalDone c _ _ _ _ => decide (2 ≤ c.val)
  | .dcRingRel c _ => decide (2 ≤ c.val)
  | .dcClrCnt c => decide (2 ≤ c.val)
  | .defectFreezeStart c _ _ => decide (2 ≤ c.val)
  | .defectFreezeEnd c _ => decide (2 ≤ c.val)
  | .ringRecordStart c _ _ _ _ => decide (2 ≤ c.val)
  | .ringRecordEnd c _ _ => decide (2 ≤ c.val)
  | .ringWriteOverrun c => decide (2 ≤ c.val)
  | .syncMarkSearch c _ _ _ _ _ => decide (2 ≤ c.val)
  | .fragmentIntakeStart c _ => decide (2 ≤ c.val)
  | .fragmentDelivery c _ => decide (2 ≤ c.val)
  | .gsrWrite c _ => decide (2 ≤ c.val)
  | .detGsrNextWrite c _ => decide (2 ≤ c.val)
  | .detClrStats c => decide (2 ≤ c.val)
  | .detBbTailWrite c _ => decide (2 ≤ c.val)
  | .bbDecode c _ _ _ _ _ => decide (2 ≤ c.val)
  | .bbFold c _ => decide (2 ≤ c.val)
  | .bbErase c _ => decide (2 ≤ c.val)
  | .wpStagingDone n _ _ _ _ => decide (1 ≤ n.val)
  | .wpBankHandover n _ _ => decide (1 ≤ n.val)
  | .shkTrip => false
  | .shkHoldEnd => false
  | .wpFirmwareInhibit n => decide (1 ≤ n.val)
  | .wpClrCnt n => decide (1 ≤ n.val)
  | .verifyResult n _ _ _ => decide (1 ≤ n.val)
  | .slotRecordWrite n => decide (1 ≤ n.val)
  | .wpCalStart n _ => decide (1 ≤ n.val)
  | .wpCalTrialEnd n _ _ _ => decide (1 ≤ n.val)
  | .samEvent v _ _ _ => decide (2 ≤ v.val)
  | .missedWedge v => decide (2 ≤ v.val)
  | .positionRecordLatch v _ _ _ _ _ _ => decide (2 ≤ v.val)
  | .svdForceSearch v => decide (2 ≤ v.val)
  | .svdClrCnt v => decide (2 ≤ v.val)
  | .svdSamLRead v => decide (2 ≤ v.val)
  | .cleFrameStart _ _ => false
  | .cleFrameStartLimit _ _ => false
  | .cleOpLoad _ _ _ _ _ => false
  | .cleOpStore _ _ _ => false
  | .cleOpAdd _ _ _ => false
  | .cleOpSub _ _ _ => false
  | .cleOpMac _ _ _ _ => false
  | .cleOpShift _ _ => false
  | .cleOpSat _ _ => false
  | .cleOpLimit _ _ => false
  | .cleActCmdWrite _ _ => false
  | .cleSpmCmdWrite _ => false
  | .cleBankCheck => false
  | .cleBankCheckDone => false
  | .cleBankSwitchReq => false
  | .bankSwitch => false
  | .cleClrSticky => false
  | .adlNegotiate n _ => decide (1 ≤ n.val)
  | .adlHelloTimeout n => decide (1 ≤ n.val)
  | .adlKeepalive n => decide (1 ≤ n.val)
  | .adlReportMiss n _ => decide (1 ≤ n.val)
  | .adlRxReport n _ _ _ _ _ => decide (1 ≤ n.val)
  | .adlRxFault n _ _ => decide (1 ≤ n.val)
  | .adlRxHello n _ => decide (1 ≤ n.val)
  | .adlRxConfigData n _ _ => decide (1 ≤ n.val)
  | .adlRxNak n _ => decide (1 ≤ n.val)
  | .adlCmdConfig n _ _ => decide (1 ≤ n.val)
  | .adlCmdArm n => decide (1 ≤ n.val)
  | .adlCmdRetract n _ => decide (1 ≤ n.val)
  | .adlCmdStatusRq n => decide (1 ≤ n.val)
  | .adlCmdConfigRd n _ => decide (1 ≤ n.val)
  | .adlRspTimeout n => decide (1 ≤ n.val)
  | .adlPark n => decide (1 ≤ n.val)
  | .adlUnpark n => decide (1 ≤ n.val)
  | .adlCtrlNegotiate n => decide (1 ≤ n.val)
  | .adlClrErr n => decide (1 ≤ n.val)
  | .spmRun => false
  | .spmStop => false
  | .spmCoast => false
  | .spmSampleSet _ _ _ _ => false
  | .spmOutputApply => false
  | .bemfZeroCrossing _ _ => false
  | .spmStopWaitExpiry => false
  | .spmIps _ => false
  | .spmAngleOffsetWrite _ => false
  | .spmGradeReqWrite _ => false
  | .gradeChangeStart => false
  | .gradeChangeDone => false
  | .gradeChangeOvertime => false
  | .demandSample => false
  | .spmCalStart => false
  | .spmCalDone _ _ _ _ _ _ _ => false
  | .spmGateFault => false
  | .spmClrCnt => false
  | .v12OvCrossing _ => false
  | .fmsRun n _ => decide (1 ≤ n.val)
  | .fmsHalt n => decide (1 ≤ n.val)
  | .fmsAttn n => decide (1 ≤ n.val)
  | .controlStoreWrite n _ _ _ => decide (1 ≤ n.val)
  | .controlStoreRead n _ _ => decide (1 ≤ n.val)
  | .microwordFetch n => decide (1 ≤ n.val)
  | .microwordWaitTimeout n => decide (1 ≤ n.val)
  | .mwNop n => decide (1 ≤ n.val)
  | .mwWr n => decide (1 ≤ n.val)
  | .mwRd n => decide (1 ≤ n.val)
  | .mwSegOpen n => decide (1 ≤ n.val)
  | .mwSegStep n => decide (1 ≤ n.val)
  | .mwSegAbort n => decide (1 ≤ n.val)
  | .mwCopy n => decide (1 ≤ n.val)
  | .mwPost n => decide (1 ≤ n.val)
  | .mwFlag n => decide (1 ≤ n.val)
  | .mwLdlc n => decide (1 ≤ n.val)
  | .mwEvt n => decide (1 ≤ n.val)
  | .mwRewrite n => decide (1 ≤ n.val)
  | .fmsIrqTake n => decide (1 ≤ n.val)
  | .fmsCopyDone n => decide (1 ≤ n.val)
  | .trackProgramEnd n _ => decide (1 ≤ n.val)
  | .memInitGo _ => false
  | .memInitDone => false
  | .memClrCnt => false
  | .protectedRowRead _ _ _ => false
  | .partialWriteRmw _ _ _ _ => false
  | .scrubGroup _ _ => false
  | .retentionScrubLap _ _ _ => false
  | .drcPhyEnable _ => false
  | .drcBringup => false
  | .drcRetainedBringup => false
  | .drcBringupEnd _ => false
  | .drcDevLost => false
  | .drcPllPhyLoss _ => false
  | .drcInitGo => false
  | .drcInitDone => false
  | .drcSrEnter => false
  | .drcSrEntryDone => false
  | .drcSrExit => false
  | .drcMrwRead _ _ => false
  | .drcMrwWrite _ => false
  | .drcClrCnt => false
  | .aluAdd _ _ _ _ _ => false
  | .aluSub _ _ _ _ _ => false
  | .aluAnd _ _ _ _ _ => false
  | .aluOr _ _ _ _ _ => false
  | .aluXor _ _ _ _ _ => false
  | .aluSll _ _ _ _ _ => false
  | .aluSrl _ _ _ _ _ => false
  | .aluSra _ _ _ _ _ => false
  | .aluSlt _ _ _ _ _ => false
  | .aluSltu _ _ _ _ _ => false
  | .aluMul _ _ _ _ _ => false
  | .aluMulh _ _ _ _ _ => false
  | .aluMulhu _ _ _ _ _ => false
  | .aluDiv _ _ _ _ _ => false
  | .aluDivu _ _ _ _ _ => false
  | .aluRem _ _ _ _ _ => false
  | .aluRemu _ _ _ _ _ => false
  | .addi _ _ _ _ => false
  | .andi _ _ _ _ => false
  | .ori _ _ _ _ => false
  | .xori _ _ _ _ => false
  | .slti _ _ _ _ => false
  | .sltiu _ _ _ _ => false
  | .slli _ _ _ _ => false
  | .srli _ _ _ _ => false
  | .srai _ _ _ _ => false
  | .lui _ _ _ _ => false
  | .addpc _ _ _ => false
  | .lb _ _ _ _ => false
  | .lbu _ _ _ _ => false
  | .lh _ _ _ _ => false
  | .lhu _ _ _ _ => false
  | .lw _ _ _ _ => false
  | .lwu _ _ _ _ => false
  | .lx _ _ _ _ => false
  | .sb _ _ _ _ => false
  | .sh _ _ _ _ => false
  | .sw _ _ _ _ => false
  | .sx _ _ _ _ => false
  | .lr _ _ _ _ => false
  | .sc _ _ _ _ _ => false
  | .beq _ _ _ _ => false
  | .bne _ _ _ _ => false
  | .blt _ _ _ _ => false
  | .bge _ _ _ _ => false
  | .bltu _ _ _ _ => false
  | .bgeu _ _ _ _ => false
  | .jal _ _ _ => false
  | .jalr _ _ _ _ => false
  | .syscall _ _ _ _ _ => false
  | .brk _ _ _ _ _ => false
  | .rfe _ _ _ _ _ => false
  | .wfi _ _ _ _ _ => false
  | .fence _ _ _ _ _ => false
  | .ifence _ _ _ _ _ => false
  | .tlbinv _ _ _ _ _ => false
  | .tlbinva _ _ _ _ _ => false
  | .mfc _ _ _ _ => false
  | .mtc _ _ _ _ => false
  | .l1dInv _ _ _ => false
  | .l1iInv _ _ _ => false
  | .l2Clean _ _ _ => false
  | .l2Inv _ _ _ => false
  | .l2Flush _ _ _ => false
  | .l1iInva _ _ _ => false
  | .l1dInva _ _ _ => false
  | .l2FlushSw _ _ _ => false
  | .vcFlush _ _ _ => false
  | .coreInterruptTake _ => false
  | .l2RefillDone _ => false
  | .l2BlockingWrite _ => false
  | .coreRun _ => false
  | .coreReset _ => false
  | .ypRun _ => false
  | .ypReset => false
  | .eggKick _ _ => false
  | .eggTimerExpiry _ => false
  | .cpxClrCnt => false
  | .intcLineEvent _ _ => false
  | .intcSwiGo _ => false
  | .intcTargetWrite _ _ => false
  | .intcPendWrite _ _ _ => false
  | .dmaTailWrite _ _ => false
  | .dmaDescriptorFetch _ => false
  | .dmaBurst _ => false
  | .dmaDescriptorComplete _ => false
  | .dmaStreamOut _ _ _ => false
  | .dmaStreamIn _ _ => false
  | .dmaInternalTransfer _ _ => false
  | .dmaAccessTimeout _ _ => false
  | .dmaResume _ => false
  | .dmaSkip _ => false
  | .dmaChannelReset _ => false
  | .dmaPause _ _ => false
  | .dmaChannelEnable _ _ => false
  | .dmaEngineEnable _ => false
  | .dmaCipherReady _ => false
  | .dmaXlatInv _ _ _ => false
  | .dmaClrCnt => false
  | .pcieLinkTraining _ _ _ => false
  | .pcieLinkDown => false
  | .pcieConfigRequest _ _ _ _ _ => false
  | .pcieMemoryRequest _ _ _ _ _ _ _ => false
  | .pcieXromRead _ _ _ => false
  | .msixRaise _ => false
  | .msixPendingSend => false
  | .pcieBmeClear => false
  | .pcieBmeSet => false
  | .pcieD3hotEntry => false
  | .pcieD0Return => false
  | .aspmL0sEntry => false
  | .aspmL1Entry => false
  | .aspmExit => false
  | .ltrSend => false
  | .pcieCompletionRx _ _ _ _ _ => false
  | .pcieCompletionTimeout _ => false
  | .pcieAerError _ _ => false
  | .pcieFlrInitiate => false
  | .pceFlrComplete => false
  | .pcieFlrForced => false
  | .pcieHotReset _ => false
  | .pceClrCnt => false
  | .sqTailDoorbell _ _ _ => false
  | .cqHeadDoorbell _ _ => false
  | .nvqPost _ => false
  | .nvqCoalTimeout _ => false
  | .nvqClrCnt => false
  | .ccEnRise => false
  | .ccEnFall => false
  | .normalShutdown => false
  | .abruptShutdown => false
  | .nvmeDeleteIoSq _ _ => false
  | .nvmeCreateIoSq _ _ => false
  | .nvmeGetLogPage _ _ _ => false
  | .nvmeDeleteIoCq _ _ => false
  | .nvmeCreateIoCq _ _ => false
  | .nvmeIdentify _ _ _ => false
  | .nvmeAbort _ _ _ => false
  | .nvmeSetFeatures _ _ => false
  | .nvmeGetFeatures _ _ => false
  | .nvmeAsyncEventRequest _ _ => false
  | .nvmeFirmwareCommit _ _ => false
  | .nvmeFirmwareDownload _ _ _ _ => false
  | .nvmeSecuritySend _ _ _ => false
  | .nvmeSecurityReceive _ _ _ _ => false
  | .nvmeSanitize _ _ => false
  | .nvmeDictionaryRead _ _ _ => false
  | .nvmeDictionaryWrite _ _ _ _ => false
  | .nvmeFlush _ _ => false
  | .nvmeWrite _ _ _ _ _ => false
  | .nvmeRead _ _ _ _ _ => false
  | .zoneClose _ _ => false
  | .zoneFinish _ _ => false
  | .zoneOpen _ _ => false
  | .zoneReset _ _ => false
  | .zoneOffline _ _ => false
  | .zoneSetDescriptorExt _ _ => false
  | .zoneReportZones _ _ _ => false
  | .zoneAppend _ _ _ _ _ => false
  | .fniEnableJoin => false
  | .fniRestart => false
  | .fniClrCnt => false
  | .ndlHelloDelayExpiry => false
  | .ndlHelloRepeat => false
  | .canBusOff => false
  | .canBusOffRecovery => false
  | .ndlRxHello _ _ _ _ _ => false
  | .ndlRxPermit _ _ _ _ _ => false
  | .ndlRxEvent _ _ _ _ _ => false
  | .ndlRxDreadReq _ _ _ _ _ => false
  | .ndlRxDreadRsp _ _ _ _ _ => false
  | .ndlRxDwriteReq _ _ _ _ _ => false
  | .ndlRxDwriteRsp _ _ _ _ _ => false
  | .ndlRxSeg _ _ _ _ _ => false
  | .ndlRxSegAck _ _ _ _ _ => false
  | .ndlRxHeartbeat _ _ _ _ _ => false
  | .ndlRxAbort _ _ _ _ _ => false
  | .ndlTransferTimeout _ _ => false
  | .ndlHeartbeatTimer => false
  | .ndlHeartbeatChange => false
  | .shelfEventOnset _ => false
  | .shelfHoldoffExpiry _ => false
  | .shelfEpisodeEnd _ => false
  | .fniEvqGo _ => false
  | .odeRead _ _ _ => false
  | .odeWrite _ _ _ _ => false
  | .odeDescribe _ _ _ => false
  | .powerStateRequest _ => false
  | .gradeRequestDict _ _ _ => false
  | .spinPermitWrite _ _ _ => false
  | .namespaceTableWrite _ _ _ _ => false
  | .severityWrite _ _ _ _ => false
  | .svnMinRaise _ _ _ => false
  | .recipeKeyProvision _ _ _ => false
  | .zeroizeDict _ _ _ => false
  | .cipEnable => false
  | .cipSelftestDone _ _ => false
  | .cipOndemand => false
  | .cipPeriodicTest _ => false
  | .cipZeroize => false
  | .cipClrCnt => false
  | .entropyHealthFail _ => false
  | .cipRngRead => false
  | .cipOpAesEcbEncrypt _ => false
  | .cipOpAesEcbDecrypt _ => false
  | .cipOpAesCbcEncrypt _ => false
  | .cipOpAesCbcDecrypt _ => false
  | .cipOpAesCtr _ => false
  | .cipOpAesGcmEncrypt _ => false
  | .cipOpAesGcmDecrypt _ => false
  | .cipOpCmacGenerate _ => false
  | .cipOpCmacVerify _ => false
  | .cipOpKwpWrap _ => false
  | .cipOpKwpUnwrap _ => false
  | .cipOpSha384 _ => false
  | .cipOpRandomBytes _ => false
  | .cipOpEcdsaVerify _ => false
  | .cipOpAuth _ _ => false
  | .cipOpSetCred _ _ => false
  | .cipOpGenkey _ _ => false
  | .cipOpLock _ _ => false
  | .cipOpSetRange _ _ => false
  | .cipOpMkeyGen _ => false
  | .cipOpMkeyLoad _ => false
  | .cipUnlkNonceRequest _ _ => false
  | .cipUnlkVerify _ _ _ => false
  | .cipUnlkLockoutEnd => false
  | .faultClassify _ => false
  | .severity5Reset => false
  | .faultConditionFall _ => false
  | .faultWindowExpiry _ => false
  | .faultQuietExpiry => false
  | .fltLeave => false
  | .fltClrCnt => false
  | .fltInject _ _ => false
  | .fltSeverityLoad => false
  | .coreOffFaultLog _ => false
  | .aliveToggle => false
  | .evrRecordWrite => false
  | .evrPost _ _ _ => false
  | .evrMirrorDue => false
  | .evrClrCnt => false
  | .opSecondsTick => false
  | .supReqGo _ => false
  | .deepOffRetentionOff _ => false
  | .lowStateExit => false
  | .exitRailsReady => false
  | .exitSupplyTimeout _ _ => false
  | .wakeEdge => false
  | .wakeHeldHour => false
  | .railWarning _ _ => false
  | .railWarningClear _ _ => false
  | .railResetThreshold _ _ => false
  | .railResetRelease => false
  | .vauxReset _ => false
  | .vauxPowerOn => false
  | .supClrCnt => false
  | .supRailClrMin _ => false
  | .strapLatch _ _ => false
  | .gpioStrapSample _ => false
  | .testEnRise => false
  | .testEnFall => false
  | .gpioSet _ => false
  | .gpioClr _ => false
  | .bootRomStart _ _ _ => false
  | .flashRead _ => false
  | .flashWrite _ => false
  | .manSelect _ => false
  | .bootOk _ => false
  | .rebind _ _ => false
  | .manifestSelection _ _ _ _ _ _ => false
  | .adlRxDiscard n => decide (1 ≤ n.val)
  | .slotEnd n => decide (1 ≤ n.val)
  | .journalDone n => decide (1 ≤ n.val)
  | .drcPllLocked => false
  | .railResetClear _ _ => false
  | .vauxPowerOnLevelFall => false
  | .wakeFilteredFall => false
  | .canErrorDetected _ _ => false
  | .canFrameSent => false

end Sys2Proof
end

