-- ==== Sys2Proof/WellFormed.lean ====
section
/-! DEFINITION. What the operands of a command can be beyond their types: the lengths that the links, the rings and the queues bound. -/

namespace Sys2Proof

/-- Whether a command can be sent: at most seven pieces of a fragment (R189), a slot of samples (R198), a program listed once, bits of
a 24-bit Gray field (R277), a transfer that PCIe carries in one packet, an I/O queue of 1,024 entries (R544), a CAN FD payload of 64
bytes (R582). -/
def Instr.wellFormed : Instr → Bool
  | .registerWrite _ _ _ _ => true
  | .sysTickLRead => true
  | .stepmonClearMin => true
  | .refPllLockLoss _ => true
  | .refPllRelock => true
  | .releaseComparatorMatch _ => true
  | .freeRunPeriodStart => true
  | .parityJournalWrite _ _ => true
  | .manifestCommit _ _ => true
  | .rcpImageStage _ data _ => decide (data.length ≤ 0x100000)
  | .rcpReqCheckOnly _ => true
  | .rcpReqCheckCommit _ => true
  | .rcpReqForce _ => true
  | .rcpCheck _ => true
  | .rcpInstall _ => true
  | .rcpActivate _ => true
  | .pslNegotiate _ _ _ _ => true
  | .pslHelloTimeout _ => true
  | .pslKeepalive _ => true
  | .pslStatusTimeout _ => true
  | .pslTimedFrameMatch _ => true
  | .pslEchoMiss _ => true
  | .pslRxEcho _ _ _ _ => true
  | .pslRxFault _ _ _ _ => true
  | .pslRxHello _ _ _ => true
  | .pslRxCap _ _ _ _ => true
  | .pslRxAck _ _ _ _ => true
  | .pslRxRegData _ _ _ _ => true
  | .pslRxStatus _ _ _ => true
  | .pslRxNak _ _ _ _ => true
  | .pslRxDiscard _ _ => true
  | .pslCmdNop _ _ _ => true
  | .pslCmdCapRd _ _ _ => true
  | .pslCmdRegWr _ _ _ => true
  | .pslCmdRegRd _ _ _ => true
  | .pslCmdStatusRq _ _ _ => true
  | .pslCmdTimeout _ => true
  | .pslCtrlNegotiate _ _ => true
  | .pslCtrlClrErr _ => true
  | .dcCalAdcOffset _ => true
  | .dcCalGain _ => true
  | .dcCalAsymmetry _ => true
  | .dcCalDone _ _ _ _ _ => true
  | .dcRingRel _ _ => true
  | .dcClrCnt _ => true
  | .defectFreezeStart _ _ _ => true
  | .defectFreezeEnd _ _ => true
  | .ringRecordStart _ _ _ _ pieces => decide (1 ≤ pieces.length) && decide (pieces.length ≤ 7)
  | .ringRecordEnd _ _ data => decide (data.length ≤ 81664)
  | .ringWriteOverrun _ => true
  | .syncMarkSearch _ _ _ _ _ _ => true
  | .fragmentIntakeStart _ _ => true
  | .fragmentDelivery _ _ => true
  | .gsrWrite _ _ => true
  | .detGsrNextWrite _ _ => true
  | .detClrStats _ => true
  | .detBbTailWrite _ _ => true
  | .bbDecode _ _ _ _ _ _ => true
  | .bbFold _ _ => true
  | .bbErase _ _ => true
  | .wpStagingDone _ _ _ _ _ => true
  | .wpBankHandover _ _ _ => true
  | .shkTrip => true
  | .shkHoldEnd => true
  | .wpFirmwareInhibit _ => true
  | .wpClrCnt _ => true
  | .verifyResult _ _ _ _ => true
  | .slotRecordWrite _ => true
  | .wpCalStart _ _ => true
  | .wpCalTrialEnd _ _ _ _ => true
  | .samEvent _ _ _ _ => true
  | .missedWedge _ => true
  | .positionRecordLatch _ _ erased _ _ _ _ => erased.all fun b => decide (b < 24)
  | .svdForceSearch _ => true
  | .svdClrCnt _ => true
  | .svdSamLRead _ => true
  | .cleFrameStart _ bad => decide bad.Nodup
  | .cleFrameStartLimit _ bad => decide bad.Nodup
  | .cleOpLoad _ _ _ _ _ => true
  | .cleOpStore _ _ _ => true
  | .cleOpAdd _ _ _ => true
  | .cleOpSub _ _ _ => true
  | .cleOpMac _ _ _ _ => true
  | .cleOpShift _ _ => true
  | .cleOpSat _ _ => true
  | .cleOpLimit _ _ => true
  | .cleActCmdWrite _ _ => true
  | .cleSpmCmdWrite _ => true
  | .cleBankCheck => true
  | .cleBankCheckDone => true
  | .cleBankSwitchReq => true
  | .bankSwitch => true
  | .cleClrSticky => true
  | .adlNegotiate _ _ => true
  | .adlHelloTimeout _ => true
  | .adlKeepalive _ => true
  | .adlReportMiss _ _ => true
  | .adlRxReport _ _ _ _ _ _ => true
  | .adlRxFault _ _ _ => true
  | .adlRxHello _ _ => true
  | .adlRxConfigData _ _ _ => true
  | .adlRxNak _ _ => true
  | .adlCmdConfig _ _ _ => true
  | .adlCmdArm _ => true
  | .adlCmdRetract _ _ => true
  | .adlCmdStatusRq _ => true
  | .adlCmdConfigRd _ _ => true
  | .adlRspTimeout _ => true
  | .adlPark _ => true
  | .adlUnpark _ => true
  | .adlCtrlNegotiate _ => true
  | .adlClrErr _ => true
  | .spmRun => true
  | .spmStop => true
  | .spmCoast => true
  | .spmSampleSet _ _ _ _ => true
  | .spmOutputApply => true
  | .bemfZeroCrossing _ _ => true
  | .spmStopWaitExpiry => true
  | .spmIps _ => true
  | .spmAngleOffsetWrite _ => true
  | .spmGradeReqWrite _ => true
  | .gradeChangeStart => true
  | .gradeChangeDone => true
  | .gradeChangeOvertime => true
  | .demandSample => true
  | .spmCalStart => true
  | .spmCalDone _ _ _ _ _ _ _ => true
  | .spmGateFault => true
  | .spmClrCnt => true
  | .v12OvCrossing _ => true
  | .fmsRun _ _ => true
  | .fmsHalt _ => true
  | .fmsAttn _ => true
  | .controlStoreWrite _ _ _ _ => true
  | .controlStoreRead _ _ _ => true
  | .microwordFetch _ => true
  | .microwordWaitTimeout _ => true
  | .mwNop _ => true
  | .mwWr _ => true
  | .mwRd _ => true
  | .mwSegOpen _ => true
  | .mwSegStep _ => true
  | .mwSegAbort _ => true
  | .mwCopy _ => true
  | .mwPost _ => true
  | .mwFlag _ => true
  | .mwLdlc _ => true
  | .mwEvt _ => true
  | .mwRewrite _ => true
  | .fmsIrqTake _ => true
  | .fmsCopyDone _ => true
  | .trackProgramEnd _ _ => true
  | .memInitGo _ => true
  | .memInitDone => true
  | .memClrCnt => true
  | .protectedRowRead _ _ _ => true
  | .partialWriteRmw _ _ _ data => decide (1 ≤ data.length)
  | .scrubGroup _ _ => true
  | .retentionScrubLap _ _ _ => true
  | .drcPhyEnable _ => true
  | .drcBringup => true
  | .drcRetainedBringup => true
  | .drcBringupEnd _ => true
  | .drcDevLost => true
  | .drcPllPhyLoss _ => true
  | .drcInitGo => true
  | .drcInitDone => true
  | .drcSrEnter => true
  | .drcSrEntryDone => true
  | .drcSrExit => true
  | .drcMrwRead _ _ => true
  | .drcMrwWrite _ => true
  | .drcClrCnt => true
  | .aluAdd _ _ _ _ _ => true
  | .aluSub _ _ _ _ _ => true
  | .aluAnd _ _ _ _ _ => true
  | .aluOr _ _ _ _ _ => true
  | .aluXor _ _ _ _ _ => true
  | .aluSll _ _ _ _ _ => true
  | .aluSrl _ _ _ _ _ => true
  | .aluSra _ _ _ _ _ => true
  | .aluSlt _ _ _ _ _ => true
  | .aluSltu _ _ _ _ _ => true
  | .aluMul _ _ _ _ _ => true
  | .aluMulh _ _ _ _ _ => true
  | .aluMulhu _ _ _ _ _ => true
  | .aluDiv _ _ _ _ _ => true
  | .aluDivu _ _ _ _ _ => true
  | .aluRem _ _ _ _ _ => true
  | .aluRemu _ _ _ _ _ => true
  | .addi _ _ _ _ => true
  | .andi _ _ _ _ => true
  | .ori _ _ _ _ => true
  | .xori _ _ _ _ => true
  | .slti _ _ _ _ => true
  | .sltiu _ _ _ _ => true
  | .slli _ _ _ _ => true
  | .srli _ _ _ _ => true
  | .srai _ _ _ _ => true
  | .lui _ _ _ _ => true
  | .addpc _ _ _ => true
  | .lb _ _ _ _ => true
  | .lbu _ _ _ _ => true
  | .lh _ _ _ _ => true
  | .lhu _ _ _ _ => true
  | .lw _ _ _ _ => true
  | .lwu _ _ _ _ => true
  | .lx _ _ _ _ => true
  | .sb _ _ _ _ => true
  | .sh _ _ _ _ => true
  | .sw _ _ _ _ => true
  | .sx _ _ _ _ => true
  | .lr _ _ _ _ => true
  | .sc _ _ _ _ _ => true
  | .beq _ _ _ _ => true
  | .bne _ _ _ _ => true
  | .blt _ _ _ _ => true
  | .bge _ _ _ _ => true
  | .bltu _ _ _ _ => true
  | .bgeu _ _ _ _ => true
  | .jal _ _ _ => true
  | .jalr _ _ _ _ => true
  | .syscall _ _ _ _ _ => true
  | .brk _ _ _ _ _ => true
  | .rfe _ _ _ _ _ => true
  | .wfi _ _ _ _ _ => true
  | .fence _ _ _ _ _ => true
  | .ifence _ _ _ _ _ => true
  | .tlbinv _ _ _ _ _ => true
  | .tlbinva _ _ _ _ _ => true
  | .mfc _ _ _ _ => true
  | .mtc _ _ _ _ => true
  | .l1dInv _ _ _ => true
  | .l1iInv _ _ _ => true
  | .l2Clean _ _ _ => true
  | .l2Inv _ _ _ => true
  | .l2Flush _ _ _ => true
  | .l1iInva _ _ _ => true
  | .l1dInva _ _ _ => true
  | .l2FlushSw _ _ _ => true
  | .vcFlush _ _ _ => true
  | .coreInterruptTake _ => true
  | .l2RefillDone _ => true
  | .l2BlockingWrite _ => true
  | .coreRun _ => true
  | .coreReset _ => true
  | .ypRun _ => true
  | .ypReset => true
  | .eggKick _ _ => true
  | .eggTimerExpiry _ => true
  | .cpxClrCnt => true
  | .intcLineEvent _ _ => true
  | .intcSwiGo _ => true
  | .intcTargetWrite _ _ => true
  | .intcPendWrite _ _ _ => true
  | .dmaTailWrite _ _ => true
  | .dmaDescriptorFetch _ => true
  | .dmaBurst _ => true
  | .dmaDescriptorComplete _ => true
  | .dmaStreamOut _ _ _ => true
  | .dmaStreamIn _ _ => true
  | .dmaInternalTransfer _ _ => true
  | .dmaAccessTimeout _ _ => true
  | .dmaResume _ => true
  | .dmaSkip _ => true
  | .dmaChannelReset _ => true
  | .dmaPause _ _ => true
  | .dmaChannelEnable _ _ => true
  | .dmaEngineEnable _ => true
  | .dmaCipherReady _ => true
  | .dmaXlatInv _ _ _ => true
  | .dmaClrCnt => true
  | .pcieLinkTraining _ _ _ => true
  | .pcieLinkDown => true
  | .pcieConfigRequest _ _ _ _ _ => true
  | .pcieMemoryRequest _ _ _ n _ _ _ => decide (1 ≤ n.toNat) && decide (n.toNat ≤ 4096)
  | .pcieXromRead _ n _ => decide (1 ≤ n.toNat) && decide (n.toNat ≤ 4096)
  | .msixRaise _ => true
  | .msixPendingSend => true
  | .pcieBmeClear => true
  | .pcieBmeSet => true
  | .pcieD3hotEntry => true
  | .pcieD0Return => true
  | .aspmL0sEntry => true
  | .aspmL1Entry => true
  | .aspmExit => true
  | .ltrSend => true
  | .pcieCompletionRx _ _ data _ _ => decide (data.length ≤ 4096)
  | .pcieCompletionTimeout _ => true
  | .pcieAerError _ _ => true
  | .pcieFlrInitiate => true
  | .pceFlrComplete => true
  | .pcieFlrForced => true
  | .pcieHotReset _ => true
  | .pceClrCnt => true
  | .sqTailDoorbell _ _ entries => decide (entries.length ≤ 1024)
  | .cqHeadDoorbell _ _ => true
  | .nvqPost _ => true
  | .nvqCoalTimeout _ => true
  | .nvqClrCnt => true
  | .ccEnRise => true
  | .ccEnFall => true
  | .normalShutdown => true
  | .abruptShutdown => true
  | .nvmeDeleteIoSq _ _ => true
  | .nvmeCreateIoSq _ _ => true
  | .nvmeGetLogPage _ _ _ => true
  | .nvmeDeleteIoCq _ _ => true
  | .nvmeCreateIoCq _ _ => true
  | .nvmeIdentify _ _ _ => true
  | .nvmeAbort _ _ _ => true
  | .nvmeSetFeatures _ _ => true
  | .nvmeGetFeatures _ _ => true
  | .nvmeAsyncEventRequest _ _ => true
  | .nvmeFirmwareCommit _ _ => true
  | .nvmeFirmwareDownload _ _ _ _ => true
  | .nvmeSecuritySend _ _ _ => true
  | .nvmeSecurityReceive _ _ _ _ => true
  | .nvmeSanitize _ _ => true
  | .nvmeDictionaryRead _ _ _ => true
  | .nvmeDictionaryWrite _ _ _ _ => true
  | .nvmeFlush _ _ => true
  | .nvmeWrite _ _ _ _ _ => true
  | .nvmeRead _ _ _ _ _ => true
  | .zoneClose _ _ => true
  | .zoneFinish _ _ => true
  | .zoneOpen _ _ => true
  | .zoneReset _ _ => true
  | .zoneOffline _ _ => true
  | .zoneSetDescriptorExt _ _ => true
  | .zoneReportZones _ _ _ => true
  | .zoneAppend _ _ _ _ _ => true
  | .fniEnableJoin => true
  | .fniRestart => true
  | .fniClrCnt => true
  | .ndlHelloDelayExpiry => true
  | .ndlHelloRepeat => true
  | .canBusOff => true
  | .canBusOffRecovery => true
  | .ndlRxHello _ _ _ payload _ => decide (payload.length ≤ 64)
  | .ndlRxPermit _ _ _ payload _ => decide (payload.length ≤ 64)
  | .ndlRxEvent _ _ _ payload _ => decide (payload.length ≤ 64)
  | .ndlRxDreadReq _ _ _ payload _ => decide (payload.length ≤ 64)
  | .ndlRxDreadRsp _ _ _ payload _ => decide (payload.length ≤ 64)
  | .ndlRxDwriteReq _ _ _ payload _ => decide (payload.length ≤ 64)
  | .ndlRxDwriteRsp _ _ _ payload _ => decide (payload.length ≤ 64)
  | .ndlRxSeg _ _ _ payload _ => decide (payload.length ≤ 64)
  | .ndlRxSegAck _ _ _ payload _ => decide (payload.length ≤ 64)
  | .ndlRxHeartbeat _ _ _ payload _ => decide (payload.length ≤ 64)
  | .ndlRxAbort _ _ _ payload _ => decide (payload.length ≤ 64)
  | .ndlTransferTimeout _ _ => true
  | .ndlHeartbeatTimer => true
  | .ndlHeartbeatChange => true
  | .shelfEventOnset _ => true
  | .shelfHoldoffExpiry _ => true
  | .shelfEpisodeEnd _ => true
  | .fniEvqGo _ => true
  | .odeRead _ _ _ => true
  | .odeWrite _ _ _ _ => true
  | .odeDescribe _ _ _ => true
  | .powerStateRequest _ => true
  | .gradeRequestDict _ _ _ => true
  | .spinPermitWrite _ _ _ => true
  | .namespaceTableWrite _ _ _ _ => true
  | .severityWrite _ _ _ _ => true
  | .svnMinRaise _ _ _ => true
  | .recipeKeyProvision _ _ _ => true
  | .zeroizeDict _ _ _ => true
  | .cipEnable => true
  | .cipSelftestDone _ _ => true
  | .cipOndemand => true
  | .cipPeriodicTest _ => true
  | .cipZeroize => true
  | .cipClrCnt => true
  | .entropyHealthFail _ => true
  | .cipRngRead => true
  | .cipOpAesEcbEncrypt _ => true
  | .cipOpAesEcbDecrypt _ => true
  | .cipOpAesCbcEncrypt _ => true
  | .cipOpAesCbcDecrypt _ => true
  | .cipOpAesCtr _ => true
  | .cipOpAesGcmEncrypt _ => true
  | .cipOpAesGcmDecrypt _ => true
  | .cipOpCmacGenerate _ => true
  | .cipOpCmacVerify _ => true
  | .cipOpKwpWrap _ => true
  | .cipOpKwpUnwrap _ => true
  | .cipOpSha384 _ => true
  | .cipOpRandomBytes _ => true
  | .cipOpEcdsaVerify _ => true
  | .cipOpAuth _ _ => true
  | .cipOpSetCred _ _ => true
  | .cipOpGenkey _ _ => true
  | .cipOpLock _ _ => true
  | .cipOpSetRange _ _ => true
  | .cipOpMkeyGen _ => true
  | .cipOpMkeyLoad _ => true
  | .cipUnlkNonceRequest _ _ => true
  | .cipUnlkVerify _ _ _ => true
  | .cipUnlkLockoutEnd => true
  | .faultClassify _ => true
  | .severity5Reset => true
  | .faultConditionFall _ => true
  | .faultWindowExpiry _ => true
  | .faultQuietExpiry => true
  | .fltLeave => true
  | .fltClrCnt => true
  | .fltInject _ _ => true
  | .fltSeverityLoad => true
  | .coreOffFaultLog _ => true
  | .aliveToggle => true
  | .evrRecordWrite => true
  | .evrPost _ _ _ => true
  | .evrMirrorDue => true
  | .evrClrCnt => true
  | .opSecondsTick => true
  | .supReqGo _ => true
  | .deepOffRetentionOff _ => true
  | .lowStateExit => true
  | .exitRailsReady => true
  | .exitSupplyTimeout _ _ => true
  | .wakeEdge => true
  | .wakeHeldHour => true
  | .railWarning _ _ => true
  | .railWarningClear _ _ => true
  | .railResetThreshold _ _ => true
  | .railResetRelease => true
  | .vauxReset _ => true
  | .vauxPowerOn => true
  | .supClrCnt => true
  | .supRailClrMin _ => true
  | .strapLatch _ _ => true
  | .gpioStrapSample _ => true
  | .testEnRise => true
  | .testEnFall => true
  | .gpioSet _ => true
  | .gpioClr _ => true
  | .bootRomStart _ _ _ => true
  | .flashRead _ => true
  | .flashWrite _ => true
  | .manSelect _ => true
  | .bootOk _ => true
  | .rebind _ _ => true
  | .manifestSelection _ _ _ _ _ _ => true
  | .adlRxDiscard _ => true
  | .slotEnd _ => true
  | .journalDone _ => true
  | .drcPllLocked => true
  | .railResetClear _ _ => true
  | .vauxPowerOnLevelFall => true
  | .wakeFilteredFall => true
  | .canErrorDetected _ _ => true
  | .canFrameSent => true

end Sys2Proof
end

