-- ==== Sys2Proof/Safety.lean ====
section
/-! DEFINITION. What the claims call safe: the form of memory and of the register file, and a step that goes on. -/

namespace Sys2Proof

/-- The keys of a list rise strictly. -/
def keysRise {α : Type} : List (Nat × α) → Bool
  | [] => true
  | [_] => true
  | a :: b :: r => decide (a.1 < b.1) && keysRise (b :: r)

/-- The canonical form of memory: addresses rise strictly, and no entry holds what an unlisted address reads as. -/
def Memory.wf (m : List Host.Cell) : Bool := keysRise m && m.all fun c => c.2 != 0

/-- The invariant of the machine: memory is in its canonical form, and the register list has each address once, in order. -/
def Machine.Inv (s : Machine.State) : Prop := Memory.wf s.mem = true ∧ keysRise s.regs = true

/-- A step that ends in a next state. -/
def Machine.goesOn (s : Machine.State) : Prop := ∃ t, Machine.step s = .next t

/-- A command answers a next state, of which `P` holds. -/
def Machine.Gives (i : Instr) (s : Machine.State) (P : Machine.State → Prop) : Prop := ∃ t, Machine.exec i s = .next t ∧ P t

/-- Outside the registers at the addresses listed, every register field is as it was. -/
def Machine.RegsBut (l : List Addr) (s t : Machine.State) : Prop := ∀ g : Fld, g.addr ∉ l → t.get g = s.get g

/-- Nothing differs but registers, and of these only the ones at the addresses listed. -/
def Machine.OnlyRegs (l : List Addr) (s t : Machine.State) : Prop := t = { s with regs := t.regs } ∧ Machine.RegsBut l s t

/-- A core that runs, with no interrupt due, whose fetch at PC succeeds and leaves `t`; the instruction itself comes next. -/
def Machine.Fetched (c : Fin 5) (s t : Machine.State) : Prop :=
  Machine.coreRuns c s = true ∧ Machine.interruptDue c s = false ∧ Machine.fetch c s = (.ok (), t)

/-- The outstanding command `c` that the admin or I/O command with opcode `op` names: firmware runs, the opcode is supported, and the
command has no fused or reserved bits (R540 to R542, R573). -/
def Machine.Takes (admin : Bool) (op : Nat) (sq : Fin 65) (cid : BitVec 16) (c : Machine.NvmeCmd) (s : Machine.State) : Prop :=
  s.power.core = true ∧ s.boot.recovery = false ∧
  s.nvq.cmds.find? (fun x => x.sq == sq.val && x.cid == cid.toNat && !x.done) = some c ∧ (c.sq == 0) = admin ∧ c.op = op ∧
  leAt c.raw 1 1 = 0

/-- `n` bytes at `a` that the DMA may read and write without a page crossing. -/
def Machine.Room (a n : Nat) (s : Machine.State) : Prop :=
  (∃ m : Fin 5, Machine.regionOf a s = .mem m) ∧ Machine.accessFail .dma false a n s = none ∧ Machine.accessFail .dma true a n s = none ∧
  a % 4096 + n ≤ 4096

/-- Channel 16 + `k` runs the descriptor `d`, whose one element is `e`, and its context block at `ctx` names operation `op` (R621,
R622): what the cipher cluster needs to carry the operation out. -/
def Machine.CipReady (k : Fin 8) (op ctx : Nat) (d : Machine.DmaDesc) (e : Machine.DmaElem) (s : Machine.State) : Prop :=
  Machine.dmaActs ⟨16 + k.val, by omega⟩ s = true ∧ s.dma.chan[16 + k.val].desc = some d ∧ d.xts = false ∧ d.finish = none ∧ d.tail = .fin ∧
  d.elems = [e] ∧ s.bit Machine.CIP_STATUS.ERROR = false ∧ s.bit Machine.CIP_STATUS.READY = true ∧
  s.bit Machine.CIP_STATUS.SELFTEST = false ∧ ctx = 64 * s.get (Machine.CIP_CH_CTX.ADDR k) ∧
  Machine.Room ctx 384 s ∧ Machine.Room ctx 112 s ∧ Machine.Room e.addr e.len s ∧ leAt (s.readBytes ctx 384) 0 1 = op ∧
  Machine.ctxBad op e.len (s.readBytes ctx 384) = false

/-- The result that the table of operations gives for the operations that use no key store, on a context block `c` without flags and
the bytes `m` of the source (R623): what goes to LOCAL, what goes to OUT, and STATUS. -/
def Machine.cipTable (op : Nat) (c m : List Byte) : Machine.CipResult :=
  let key := slice c 32 32
  let iv := slice c 16 16
  let tag := leAt c 4 1
  let aad := leAt c 8 4
  let ks := Machine.aesRoundKeys key
  let gcm (d : Bool) := Machine.aesGcm d key (iv.take 12) (m.take aad) (m.drop aad)
  if op ∈ [1, 2, 3, 4] ∧ m.length % 16 ≠ 0 then { status := 0x48 }
  else if op = 1 then { output := (Machine.blocks16 m).flatMap (Machine.aesEncWith ks) }
  else if op = 2 then { output := (Machine.blocks16 m).flatMap (Machine.aesDecWith ks) }
  else if op = 3 then
    { output := Machine.cbcEnc ks iv (Machine.blocks16 m), out := some ((Machine.cbcEnc ks iv (Machine.blocks16 m)).drop (m.length - 16)) }
  else if op = 4 then { output := Machine.cbcDec ks iv (Machine.blocks16 m), out := some (m.drop (m.length - 16)) }
  else if op = 5 then { output := Machine.aesCtr key iv m, out := some (beBytes 16 (beNat iv + (m.length + 15) / 16)) }
  else if op = 6 then { output := (gcm false).1, out := some ((gcm false).2.take tag) }
  else if op = 7 then { output := (gcm true).1, status := if (gcm true).2.take tag = (slice c 64 48).take tag then 0 else 0x41 }
  else if op = 8 then { out := some ((Machine.aesCmac key m).take tag) }
  else if op = 9 then { status := if (Machine.aesCmac key m).take tag = (slice c 64 48).take tag then 0 else 0x41 }
  else if op = 10 then { output := Machine.kwpWrap key m }
  else if op = 11 then
    if m.length % 8 ≠ 0 ∨ m.length < 16 then { status := 0x48 }
    else if Machine.kwpUnwrap key m = none then { status := 0x43 }
    else { output := (Machine.kwpUnwrap key m).getD [] }
  else if op = 16 then { out := some (Machine.sha384 m) }
  else if Machine.ecOnCurve (beNat (slice c 128 48)) (beNat (slice c 176 48)) = true ∧
      Machine.ecdsaVerify (slice c 128 96) (slice c 224 96) (Machine.sha384 m) = true then {}
  else { status := 0x44 }

/-- An operation has ended with the result `r` (R621 to R623): STATUS, the approved indicator and the count in its context block, the
output at LOCAL, OUT where the operation writes it, nothing else in memory, and its descriptor done. -/
def Machine.Served (k : Fin 8) (ctx : Nat) (d : Machine.DmaDesc) (r : Machine.CipResult) (s t : Machine.State) : Prop :=
  (t.readByte (ctx + 3)).toNat = r.status ∧ (t.readByte (ctx + 5)).toNat = s.get Machine.CIP_STATUS.APPROVED ∧
  t.readBytes (ctx + 12) 4 = leBytes 4 r.output.length ∧ t.readBytes d.localAddr r.output.length = r.output ∧
  (∀ o ∈ r.out.toList, t.readBytes (ctx + 64) o.length = o) ∧
  (∀ a, (a < ctx ∨ ctx + 112 ≤ a) → (a < d.localAddr ∨ d.localAddr + r.output.length ≤ a) → t.readByte a = s.readByte a) ∧
  t.dma.chan[16 + k.val].desc = some { d with finish := some (0, d.total) }

end Sys2Proof
end

