-- ==== Sys2Proof/Certificates/Slice0/Obligations.lean ====
section
/-! DEFINITION. The statements for the provers. -/

open Sys2Proof Sys2Proof.Machine

/-- A step carries out the command at the front of the queue. For every command c and state s, a step of s with c put at the front
of its queue is exec of c on s, whose queue is the rest. -/
def Obligations.StepTakesFront : Prop :=
  ∀ (c : Instr) (s : State), step { s with pending := c :: s.pending } = exec c s

/-- One tick passes on an empty queue. The tick counter counts up by one, modulo 2^64, when a step finds no command and the
retention domain is powered; with nothing in the store buffers, nothing else changes. That a step on an empty queue is one tick is
the model's choice (assumption 2). -/
def Obligations.EmptyQueueTicks : Prop :=
  ∀ s : State, s.pending = [] → s.power.retention = true → (∀ c : Fin 5, s.cores[c].stores = []) →
    step s = .next { s with tick := s.tick + 1 }

/-- Nothing acts in a domain that is off, nor in the half that is fused off. A command of a unit of the core domain changes
nothing while the core domain is unpowered; a command of a unit that is fused off on the FQX-1408 changes nothing there. -/
def Obligations.SilentUnits : Prop :=
  (∀ (c : Instr) (s : State), Instr.ofCoreDomain c = true → s.power.core = false → exec c s = .next s) ∧
  (∀ (c : Instr) (s : State), Instr.ofSecondHalf c = true → s.variant1408 = true → exec c s = .next s)

/-- The tick registers, the reference PLL, the step monitor and the pins. A read of SYS_TICK_L answers the low 40 bits of the tick
count and latches the high 24; CLEAR_MIN sets MIN_RATE to 0xFFFF; a loss of lock falls back, is counted and raises source 0; a
relock ends the fallback; GPIO_SET and GPIO_CLR set and clear the output bits written as 1. Nothing outside the registers named
changes (R49, R53 to R55, R731). -/
def Obligations.SystemUnit : Prop :=
  ∀ s : State, s.power.retention = true →
    (Gives .sysTickLRead s fun t => t.resp = .data (BitVec.ofNat 40 (s.now % 2 ^ 40)) ∧ t.get SYS_TICK_H.TICK_HI = s.now / 2 ^ 40 ∧
      t = { s with regs := t.regs, resp := t.resp } ∧ RegsBut [SYS_TICK_H.TICK_HI.addr] s t) ∧
    (Gives .stepmonClearMin s fun t => t.get SYS_STEPMON.MIN_RATE = 0xFFFF ∧ t.get SYS_STEPMON.STEP_RATE = s.get SYS_STEPMON.STEP_RATE ∧
      OnlyRegs [SYS_STEPMON.MIN_RATE.addr] s t) ∧
    (∀ xtal : Bool, s.bit SYS_REFCLK.FALLBACK = false → Gives (.refPllLockLoss xtal) s fun t =>
      t.get SYS_REFCLK.PLL_LOCK = 0 ∧ t.get SYS_REFCLK.LOCK_LOST = 1 ∧ t.get SYS_REFCLK.FALLBACK = 1 ∧
      t.get SYS_REFCLK.LOSS_COUNT = min (s.get SYS_REFCLK.LOSS_COUNT + 1) 255 ∧
      t.get SYS_REFCLK.XTAL_FAIL = (if xtal then 1 else s.get SYS_REFCLK.XTAL_FAIL) ∧ t.raised = s.raised ++ [0] ∧
      t = { s with regs := t.regs, raised := t.raised } ∧ RegsBut [SYS_REFCLK.FALLBACK.addr] s t) ∧
    (Gives .refPllRelock s fun t => t.get SYS_REFCLK.PLL_LOCK = 1 ∧ t.get SYS_REFCLK.FALLBACK = 0 ∧
      t.get SYS_REFCLK.LOCK_LOST = s.get SYS_REFCLK.LOCK_LOST ∧ OnlyRegs [SYS_REFCLK.FALLBACK.addr] s t) ∧
    (∀ mask : BitVec 16,
      (Gives (.gpioSet mask) s fun t => t.get SYS_GPIO_OUT.OUT = s.get SYS_GPIO_OUT.OUT ||| mask.toNat ∧ OnlyRegs [SYS_GPIO_OUT.OUT.addr] s t) ∧
      (Gives (.gpioClr mask) s fun t => t.get SYS_GPIO_OUT.OUT = s.get SYS_GPIO_OUT.OUT &&& (~~~mask).toNat ∧ OnlyRegs [SYS_GPIO_OUT.OUT.addr] s t))

/-- Register writes by field type, and the writes that are turned away. A write that is not a 40-bit one at a multiple of 8 gets a
decode error; one to an unpowered domain a bus error; one to a fused unit is ignored with no error. None changes a field. A write
that is taken stores an RW field, takes an RWL field once, clears the W1C bits written as 1 and leaves RO fields (R3, R11 to R16).
-/
def Obligations.RegisterAccess : Prop :=
  ∀ (n : Fin 4) (w : BitVec 40) (s : State),
    (∀ (full : Bool) (a : BitVec 40), full = false ∨ a.toNat % 8 ≠ 0 →
      exec (.registerWrite (.y n) full a w) s = .next { s with resp := .decodeError }) ∧
    (∀ a : BitVec 40, a.toNat % 8 = 0 → 0x0F00000000 ≤ a.toNat → a.toNat < 0x0F00010000 → s.power.retention = false →
      exec (.registerWrite (.y n) true a w) s = .next { s with resp := .busError }) ∧
    (∀ a : BitVec 40, a.toNat % 8 = 0 → 0x0F00110000 ≤ a.toNat → a.toNat < 0x0F00120000 → s.variant1408 = true →
      exec (.registerWrite (.y n) true a w) s = .next { s with resp := .ok }) ∧
    (s.power.retention = true →
      (Gives (.registerWrite (.y n) true (BitVec.ofNat 40 0x0F00000708) w) s fun t => t.resp = .ok ∧
        t.get SYS_GPIO_OUT.OUT = w.toNat % 2 ^ 16 ∧ t = { s with regs := t.regs, resp := .ok } ∧
        RegsBut [SYS_GPIO_OUT.OUT.addr] s t) ∧
      (Gives (.registerWrite (.y n) true (BitVec.ofNat 40 0x0F000300C0) w) s fun t => t.resp = .ok ∧
        t.get EVR_INT.DROPPED = (if w.getLsbD 2 then 0 else s.get EVR_INT.DROPPED) ∧
        t.get EVR_INT.RECORD = (if w.getLsbD 0 then 0 else s.get EVR_INT.RECORD)) ∧
      exec (.registerWrite (.y n) true (BitVec.ofNat 40 0x0F00030010) w) s = .next { s with resp := .ok }) ∧
    (s.power.core = true →
      (s.locked (CPX_EGG.ENABLE 0) = true → Gives (.registerWrite (.y n) true (BitVec.ofNat 40 (CPX_EGG.ENABLE 0).addr) w) s fun t =>
        t.get (CPX_EGG.ENABLE 0) = s.get (CPX_EGG.ENABLE 0)) ∧
      (s.locked (CPX_EGG.ENABLE 0) = false → Gives (.registerWrite (.y n) true (BitVec.ofNat 40 (CPX_EGG.ENABLE 0).addr) w) s fun t =>
        t.get (CPX_EGG.ENABLE 0) = w.toNat / 2 ^ 14 % 2 ∧ t.locked (CPX_EGG.ENABLE 0) = true))

/-- Staging, checking and installing an image. A write within the staging area and its bytes so far stages them. A request while a
commit runs answers 0x1F. Else a check answers what the image check finds, 0x01 for a good image; a check and commit 0x02 and
starts the commit, or 0x1E for an incompatible one; a forced one needs factory rights (0x22) and skips compatibility. The services
answer the same in g1 to g3; RCP_ACTIVATE requests activation of the committed image (R147 to R152). -/
def Obligations.RecipeRequests : Prop :=
  ∀ s : State, s.power.core = true →
    (∀ (ofs : BitVec 32) (data : List Byte) (origin : BitVec 8), s.rcp.commit = none → ofs.toNat + data.length ≤ 192 * 2 ^ 20 →
      ofs.toNat ≤ s.rcp.staged.length →
      exec (.rcpImageStage ofs data origin) s =
        .next { s with rcp := { s.rcp with staged := if ofs = 0 then data else splice s.rcp.staged ofs.toNat data } }) ∧
    (∀ (ofs : BitVec 32) (data : List Byte) (origin : BitVec 8), s.rcp.commit ≠ none →
      Gives (.rcpImageStage ofs data origin) s fun t => t.rcp = s.rcp ∧ t.mem = s.mem) ∧
    (∀ origin : BitVec 8, s.rcp.commit ≠ none →
      ∀ i ∈ [Instr.rcpReqCheckOnly origin, .rcpReqCheckCommit origin, .rcpReqForce origin],
        Gives i s fun t => t.rcp = s.rcp ∧ t.mem = s.mem ∧ t.man = s.man) ∧
    (∀ origin : BitVec 8, s.rcp.commit = none → inConflict s = false →
      (Gives (.rcpReqCheckOnly origin) s fun t => t.rcp.commit = none ∧ t.rcp.staged = s.rcp.staged ∧ t.mem = s.mem ∧
        (t.rcp.status, t.rcp.section_, t.rcp.record) = (imageCheck s.rcp.staged s).getD (1, 0xFFFF, 0)) ∧
      (Gives (.rcpReqCheckCommit origin) s fun t => t.mem = s.mem ∧
        (t.rcp.status, t.rcp.section_, t.rcp.record) = (imageCheck s.rcp.staged s).getD
          (if compatible (parseImage s.rcp.staged) s then 2 else 0x1E, 0xFFFF, 0) ∧
        t.rcp.commit = if (imageCheck s.rcp.staged s).isNone ∧ compatible (parseImage s.rcp.staged) s
          then some (parseImage s.rcp.staged, false, origin.toNat, true) else none) ∧
      (Gives (.rcpReqForce origin) s fun t => t.mem = s.mem ∧
        (t.rcp.status, t.rcp.section_, t.rcp.record) =
          (if origin.toNat = 0x61 then (imageCheck s.rcp.staged s).getD (2, 0xFFFF, 0) else (0x22, 0xFFFF, 0)) ∧
        (origin.toNat ≠ 0x61 → t.rcp.commit = none))) ∧
    (∀ c : Fin 4, coreHeldBit (coreOfY c) s = false → s.cores[coreOfY c].halted = false → s.rcp.commit = none → inConflict s = false →
      (Gives (.rcpCheck c) s fun t =>
        let l := s.readBytes (s.cores[coreOfY c].regs[1]).toNat (s.cores[coreOfY c].regs[2]).toNat
        t.cores[coreOfY c].regs[1] = BitVec.ofNat 40 ((imageCheck l s).getD (1, 0xFFFF, 0)).1 ∧
        t.cores[coreOfY c].regs[2] = BitVec.ofNat 40 ((imageCheck l s).getD (1, 0xFFFF, 0)).2.1 ∧
        t.cores[coreOfY c].regs[3] = BitVec.ofNat 40 ((imageCheck l s).getD (1, 0xFFFF, 0)).2.2 ∧
        (∀ k : Fin 32, k.val = 0 ∨ 3 < k.val → t.cores[coreOfY c].regs[k] = s.cores[coreOfY c].regs[k]) ∧ t.mem = s.mem) ∧
      ((s.cores[coreOfY c].regs[3]).toNat.testBit 0 = false → Gives (.rcpInstall c) s fun t =>
        let l := s.readBytes (s.cores[coreOfY c].regs[1]).toNat (s.cores[coreOfY c].regs[2]).toNat
        t.cores[coreOfY c].regs[1] =
          BitVec.ofNat 40 ((imageCheck l s).getD (if compatible (parseImage l) s then 2 else 0x1E, 0xFFFF, 0)).1 ∧ t.mem = s.mem) ∧
      (∀ i, s.man.committed = some i → Gives (.rcpActivate c) s fun t => t.cores[coreOfY c].regs[1] = 3 ∧
        t.cores[coreOfY c].regs[2] = 0xFFFF ∧ t.rcp.activate = true ∧ t.spm.activate = true ∧ t.man = s.man ∧ t.mem = s.mem))

/-- Committing, selecting and rebinding the media manifest. A commit whose three copies are written ends with status 0x03, a new
GENERATION, three equal copies and its image committed; one cut short ends with 0x21 and rewrites no later slot. Three equal valid
copies are selected with code 1; none valid is manifest-conflict, code 6, and source 2. MAN_SELECT and REBIND without factory
rights answer 0x22 and change nothing else (R114 to R116, R151, R709, R710, R714). -/
def Obligations.ManifestService : Prop :=
  ∀ s : State, s.power.core = true →
    (∀ (img : ImageInfo) (force activate : Bool) (origin : Nat), s.rcp.commit = some (img, force, origin, activate) →
      inConflict s = false → s.power.retention = true →
      (∀ torn : Bool, Gives (.manifestCommit 3 torn) s fun t => t.rcp.commit = none ∧ t.rcp.status = 3 ∧
        t.man.generation = s.man.generation + 1 ∧ (∀ k : Fin 3, t.man.copies[k] = manifestCopy img (s.man.generation + 1)) ∧
        t.man.committed ≠ none ∧ (t.rcp.activate = true ∨ activate = false)) ∧
      (∀ (done : Fin 3) (torn : Bool), Gives (.manifestCommit ⟨done.val, Nat.lt_succ_of_lt done.isLt⟩ torn) s fun t =>
        t.rcp.commit = none ∧ t.rcp.status = 0x21 ∧ t.man.generation = s.man.generation ∧ t.man.committed = s.man.committed ∧ t.mem = s.mem ∧
        ∀ k : Fin 3, t.man.copies[k] = if k < done then manifestCopy img (s.man.generation + 1)
          else if k = done ∧ torn = true then [] else s.man.copies[k])) ∧
    (s.rcp.commit = none → ∀ (done : Fin 4) (torn : Bool), exec (.manifestCommit done torn) s = .next s) ∧
    (∀ (i0 i1 i2 : Option (List Byte)),
      (∀ l : List Byte, copyValid l = true → bindingHolds (some 0) { s with man := { s.man with ids := #v[i0.getD [], i1.getD [], i2.getD []] } } = true →
        Gives (.manifestSelection (some l) (some l) (some l) i0 i1 i2) s fun t => t.manifest = 1 ∧ t.man.generation = copyGen l ∧
          t.man.committed = some (copyImage l) ∧ t.rcp.activate = true ∧ ∀ k : Fin 3, t.man.copies[k] = l) ∧
      (bindingHolds none { s with man := { s.man with ids := #v[i0.getD [], i1.getD [], i2.getD []] } } = true →
        Gives (.manifestSelection none none none i0 i1 i2) s fun t => t.manifest = 6 ∧ t.man.committed = none ∧
          t.raised = s.raised ++ [2] ∧ t.mem = s.mem)) ∧
    (∀ c : Fin 4, coreHeldBit (coreOfY c) s = false → s.cores[coreOfY c].halted = false → s.get CIP_STATUS.DBG_LEVEL ≠ 2 →
      ∀ p ∈ [Instr.manSelect c, .rebind c []], Gives p s fun t => t.cores[coreOfY c].regs[1] = 0x22 ∧
        t = { s with cores := t.cores })

/-- How a preamp link comes up. A negotiation whose HELLO is answered takes the highest version in both bitmaps, reports the
peer's bitmap, comes up when a version is common and CAP0 bit 8 is set, and raises the link fault otherwise; an unanswered HELLO
is sent again up to four times, then the link fault is raised; a requested negotiation takes the link down and sends HELLO; RST
holds it down (R164, R166, R174). -/
def Obligations.PslNegotiation : Prop :=
  ∀ (n : Fin 2) (s : State), s.unitOn n.val = true →
    (∀ peer cap0 cap1 : BitVec 16, s.psl[n].waitHello = true →
      Gives (.pslNegotiate n peer cap0 cap1) s fun t =>
        t.get (PSL_STATUS.PEER_MAP n.val) = peer.toNat % 2 ^ (PSL_STATUS.PEER_MAP n.val).len ∧
        t.psl[n].waitHello = false ∧
        t.get (PSL_STATUS.VERSION n.val) =
          (if cap0.getLsbD 8 then (if peer.getLsbD 2 then 3 else if peer.getLsbD 1 then 2 else if peer.getLsbD 0 then 1 else 0) else 0) ∧
        (t.bit (PSL_STATUS.LINK_UP n.val) = true ↔ cap0.getLsbD 8 = true ∧ peer.toNat % 8 ≠ 0) ∧
        (t.bit (PSL_STATUS.LINK_UP n.val) = false → t.get (PSL_FAULT.LINK n.val) = 1 ∧ 27 + 4 * n.val ∈ t.raised)) ∧
    (s.psl[n].waitHello = true → s.psl[n].attempts < 4 →
      Gives (.pslHelloTimeout n) s fun t => t.psl[n].sent = s.psl[n].sent ++ [pslFrame 1 0 7] ∧
        t.psl[n].attempts = s.psl[n].attempts + 1 ∧ t.regs = s.regs ∧ t.raised = s.raised) ∧
    (s.psl[n].waitHello = true → 4 ≤ s.psl[n].attempts →
      Gives (.pslHelloTimeout n) s fun t => t.psl[n].waitHello = false ∧ t.get (PSL_FAULT.LINK n.val) = 1 ∧
        t.raised = s.raised ++ [27 + 4 * n.val]) ∧
    (s.bit (PSL_STATUS.WG n.val) = false → s.bit (WP_STATUS.WG n.val) = false →
      (Gives (.pslCtrlNegotiate n false) s fun t => t.bit (PSL_STATUS.LINK_UP n.val) = false ∧ t.psl[n].waitHello = true ∧
        t.psl[n].attempts = 1 ∧ t.psl[n].sent = s.psl[n].sent ++ [pslFrame 1 0 7]) ∧
      (Gives (.pslCtrlNegotiate n true) s fun t => t.bit (PSL_STATUS.LINK_UP n.val) = false ∧ t.psl[n].waitHello = false ∧
        t.get (PSL_CTRL.RST n.val) = 1 ∧ t.psl[n].sent = s.psl[n].sent))

/-- Keepalives, errors, and the frames sent at a time. A link that is up sends STATUS_RQ as its keepalive; the first and second
unanswered in a row are counted and the third takes the link down with the link fault; a discarded frame is counted, and three in
a row with CRC or SOF errors take the link down; CLR_ERR clears the counts and nothing else (R157, R165, R166, R174). A WG-off
frame goes out at or after its tick with its ECHO awaited, the comparator becoming free; a frame of another kind whose tick has
passed is late and counted, and is not sent; a comparator whose tick has not come keeps its frame. A missing echo of a frame that
is no gate-off is counted and no longer awaited (R167 to R170). -/
def Obligations.PslKeepaliveAndTimedFrames : Prop :=
  (∀ (n : Fin 2) (s : State), s.unitOn n.val = true →
    (s.bit (PSL_STATUS.LINK_UP n.val) = true →
      exec (.pslKeepalive n) s = .next (s.modPsl n fun p => { p with kaWaiting := true, sent := p.sent ++ [pslFrame 0xB 0 0] })) ∧
    (s.psl[n].kaWaiting = true → s.psl[n].unanswered < 2 →
      exec (.pslStatusTimeout n) s = .next (s.modPsl n fun p => { p with kaWaiting := false, unanswered := p.unanswered + 1 })) ∧
    (s.psl[n].kaWaiting = true → s.psl[n].unanswered = 2 →
      Gives (.pslStatusTimeout n) s fun t => t.bit (PSL_STATUS.LINK_UP n.val) = false ∧ t.get (PSL_FAULT.LINK n.val) = 1 ∧
        t.psl[n].kaWaiting = false) ∧
    (∀ gapOnly : Bool, gapOnly = true ∨ s.psl[n].badRow < 2 →
      Gives (.pslRxDiscard n gapOnly) s fun t =>
        t.get (PSL_ERR.CRC_UP n.val) = min (s.get (PSL_ERR.CRC_UP n.val) + 1) (2 ^ (PSL_ERR.CRC_UP n.val).len - 1) ∧
        t.psl[n].badRow = (if gapOnly then s.psl[n].badRow else s.psl[n].badRow + 1) ∧
        t.get (PSL_STATUS.LINK_UP n.val) = s.get (PSL_STATUS.LINK_UP n.val)) ∧
    (s.psl[n].badRow = 2 → Gives (.pslRxDiscard n false) s fun t => t.bit (PSL_STATUS.LINK_UP n.val) = false) ∧
    (Gives (.pslCtrlClrErr n) s fun t => (∀ f ∈ [PSL_ERR.NAK n.val, PSL_ERR.LATE n.val, PSL_ERR.ECHO_MISS n.val, PSL_ERR.OVERRUN n.val,
        PSL_ERR.CRC_UP n.val], t.get f = 0) ∧ t = { s with regs := t.regs } ∧
        ∀ g : Fld, g.addr ≠ (PSL_ERR.NAK n.val).addr → t.get g = s.get g)) ∧
  (∀ (n : Fin 2) (s : State), s.unitOn n.val = true →
    (∀ t0 f : Nat, s.psl[n].wg = some (t0, f) → s.psl[n].rg0 = none → s.psl[n].rg1 = none → s.psl[n].sel = none → s.psl[n].queue = [] →
      pslType f = 7 →
      (t0 ≤ s.now → (pslData f).testBit 0 = false →
        Gives (.pslTimedFrameMatch n) s fun t => t.psl[n].wg = none ∧ t.psl[n].sent = s.psl[n].sent ++ [f] ∧
          t.psl[n].echoes = s.psl[n].echoes ++ [(f, false)] ∧ t.psl[n].lineFree = max s.now s.psl[n].lineFree + 42 ∧ t.regs = s.regs) ∧
      (t0 < s.now → (pslData f).testBit 0 = true →
        Gives (.pslTimedFrameMatch n) s fun t => t.psl[n].wg = none ∧ t.psl[n].sent = s.psl[n].sent) ∧
      (s.now < t0 → exec (.pslTimedFrameMatch n) s = .next s)) ∧
    (∀ r, s.psl[n].echoes = (pslFrame 5 0 0, false) :: r →
      Gives (.pslEchoMiss n) s fun t => t.psl[n].echoes = r ∧
        t.get (PSL_ERR.ECHO_MISS n.val) = min (s.get (PSL_ERR.ECHO_MISS n.val) + 1) (2 ^ (PSL_ERR.ECHO_MISS n.val).len - 1)))

/-- Frames received from a preamp, and commands sent to it. A frame that finds the receive FIFO full is counted and dropped. ECHO
of an awaited WG frame sets the gate status; FAULT latches its code, head and class and raises the source of its class; a HELLO
during a negotiation brings the bitmap; CAP, ACK, REG_DATA, STATUS and NAK answer the pending command of their kind in PSL_RSP
(R56, R158, R170 to R175). With no command pending and the link up, each command sends its frame, sets BUSY and clears ERR and the
last answer; with the link down, or with one pending, it only sets ERR beside its fields. A pending command that three sends did
not bring an answer ends with TIMEOUT (R174, R175). -/
def Obligations.PslFramesAndCommands : Prop :=
  (∀ (n : Fin 2) (s : State), s.unitOn n.val = true →
    (∀ (a : BitVec 8) (d : BitVec 16), ∀ i ∈ [Instr.pslRxEcho n true a d, .pslRxFault n true a d, .pslRxHello n true d, .pslRxCap n true a d,
        .pslRxAck n true a d, .pslRxRegData n true a d, .pslRxStatus n true d, .pslRxNak n true a d],
      exec i s = .next (s.bump (PSL_ERR.OVERRUN n.val))) ∧
    (∀ (h : BitVec 4) (d : BitVec 16) (r : Bool), s.psl[n].echoes = [(pslFrame 7 h.toNat d.toNat, r)] →
      Gives (.pslRxEcho n false (BitVec.ofNat 8 (16 * h.toNat + 7)) d) s fun t => t.psl[n].echoes = [] ∧
        t.get (PSL_STATUS.WG n.val) = d.toNat % 2) ∧
    (∀ (code : BitVec 8) (d : BitVec 16), code = 6 ∨ code = 7 ∨ code = 10 ∨ code = 11 →
      Gives (.pslRxFault n false code d) s fun t => t.get (PSL_FAULT.CODE n.val) = code.toNat ∧
        t.get (PSL_FAULT.HEAD n.val) = d.toNat % 16 ∧
        t.get (if code.toNat ≤ 7 then PSL_FAULT.POWER n.val else PSL_FAULT.LINK n.val) = 1 ∧
        t.raised = s.raised ++ [24 + 4 * n.val + (if code.toNat ≤ 7 then 2 else 3)]) ∧
    (∀ d : BitVec 16, s.psl[n].waitHello = true →
      exec (.pslRxHello n false d) s =
        .next ((s.modPsl n fun p => { p with badRow := 0 }).set (PSL_STATUS.PEER_MAP n.val) d.toNat)) ∧
    (∀ (f : Nat) (a : BitVec 8) (d : BitVec 16), s.psl[n].cmd = some f →
      ∀ p ∈ [(Instr.pslRxCap n false a d, decide (pslType f = 2), 2, a.toNat), (.pslRxAck n false a d, decide (pslType f = a.toNat % 16), 3, a.toNat),
          (.pslRxRegData n false a d, decide (pslType f = 4), 4, a.toNat), (.pslRxStatus n false d, decide (pslType f = 0xB), 7, 0),
          (.pslRxNak n false a d, true, 0xE, a.toNat)],
        p.2.1 = true → Gives p.1 s fun t => t.get (PSL_RSP.TYPE n.val) = p.2.2.1 ∧ t.get (PSL_RSP.ARG n.val) = p.2.2.2 ∧
          t.get (PSL_RSP.DATA n.val) = d.toNat ∧ t.get (PSL_RSP.VALID n.val) = 1 ∧ t.get (PSL_CMD.BUSY n.val) = 0 ∧
          t.psl[n].cmd = none ∧ t.psl[n].badRow = 0)) ∧
  (∀ (n : Fin 2) (a : BitVec 8) (d : BitVec 16) (s : State), s.unitOn n.val = true →
    (∀ p ∈ [(Instr.pslCmdNop n a d, 0), (.pslCmdCapRd n a d, 2), (.pslCmdRegWr n a d, 3), (.pslCmdRegRd n a d, 4), (.pslCmdStatusRq n a d, 0xB)],
      (s.bit (PSL_CMD.BUSY n.val) = false → s.bit (PSL_STATUS.LINK_UP n.val) = true →
        Gives p.1 s fun t => t.psl[n].sent = s.psl[n].sent ++ [pslFrame p.2 a.toNat d.toNat] ∧
          t.psl[n].cmd = some (pslFrame p.2 a.toNat d.toNat) ∧ t.get (PSL_CMD.BUSY n.val) = 1 ∧ t.get (PSL_CMD.ERR n.val) = 0 ∧
          t.get (PSL_RSP.VALID n.val) = 0 ∧ t.get (PSL_RSP.TIMEOUT n.val) = 0 ∧ t.get (PSL_CMD.TYPE n.val) = p.2 ∧
          t.get (PSL_CMD.ARG n.val) = a.toNat ∧ t.get (PSL_CMD.DATA n.val) = d.toNat) ∧
      (s.bit (PSL_CMD.BUSY n.val) = true → exec p.1 s = .next (s.set (PSL_CMD.ERR n.val) 1)) ∧
      (s.bit (PSL_CMD.BUSY n.val) = false → s.bit (PSL_STATUS.LINK_UP n.val) = false →
        Gives p.1 s fun t => t.get (PSL_CMD.ERR n.val) = 1 ∧ t.psl = s.psl)) ∧
    (∀ f, s.psl[n].cmd = some f → Gives (.pslCmdTimeout n) s fun t => t.psl[n].cmd = none ∧ t.get (PSL_RSP.TIMEOUT n.val) = 1 ∧
      t.get (PSL_CMD.BUSY n.val) = 0 ∧ t.psl[n].sent = s.psl[n].sent ++ [f, f]))

/-- The three calibration routines of a data channel. With no routine running, a START that R196 does not refuse sets BUSY and
RESULT 0x01 and remembers its routine; a routine whose values pass the tests of R195 and R196 ends with RESULT 0, BUSY 0 and the
temperature, and leaves no routine (R194 to R197). -/
def Obligations.FrontEndCalibration : Prop :=
  ∀ (c : Fin 4) (s : State), s.unitOn (halfOf c).val = true →
    (∀ p ∈ [(Instr.dcCalAdcOffset c, 0), (.dcCalGain c, 1), (.dcCalAsymmetry c, 2)],
      (s.bit (DC_CAL.BUSY c.val) = true → exec p.1 s = .next s) ∧
      (s.bit (DC_CAL.BUSY c.val) = false → progNotCal (halfOf c) s = false → s.bit (DC_STATUS.RG_ON c.val) = false →
        s.bit (PSL_STATUS.LINK_UP (halfOf c).val) = true → s.get (DC_CTRL.MODE c.val) = 2 → s.get (DC_STATUS.HEAD c.val) ≠ 0x1F →
        Gives p.1 s fun t => t.get (DC_CAL.BUSY c.val) = 1 ∧ t.get (DC_CAL.RESULT c.val) = 1 ∧ t.get (DC_CAL.ROUTINE c.val) = p.2 ∧
          t.get (DC_STATUS.CAL_BUSY c.val) = 1 ∧ (t.dc[c].cal.map (·.routine)) = some p.2)) ∧
    (∀ (va vb vc : BitVec 16) (temp : BitVec 8) (k : DcCalRun), s.dc[c].cal = some k → k.routine = 1 →
      s.get (DC_CAL.MIN_CAPTURE c.val) * k.attempted ≤ k.captured * 100 → k.frozen * 4 ≤ k.recorded →
      (∀ v ∈ [va, vb, vc], 0 < v.toNat ∧ v.toNat < 511) →
      Gives (.dcCalDone c va vb vc temp) s fun t => t.get (DC_CAL.RESULT c.val) = 0 ∧ t.get (DC_CAL.BUSY c.val) = 0 ∧
        t.get (DC_STATUS.CAL_BUSY c.val) = 0 ∧ t.get (DC_CALTEMP.TEMP c.val) = temp.toNat ∧ t.get (DC_VGA.GAIN_A c.val) = va.toNat ∧
        t.get (DC_VGA.GAIN_B c.val) = vb.toNat ∧ t.get (DC_VGA.GAIN_C c.val) = vc.toNat ∧ t.dc[c].cal = none ∧
        ∀ a : Nat, a < mramBase ∨ mramBase + 0x400000 ≤ a → t.readByte a = s.readByte a)

/-- The sample ring of a data channel. A release frees exactly the HELD slots of its mask; a recording that begins with the ring
on and a free slot fills that slot and advances NEXT, and slips and counts where the slot is DECODING or HELD; a recording that
ends writes header and samples at its slot alone, leaves it DECODING, HELD or FREE, and waits for delivery; an overrun leaves the
slot SLIPPED (R189 to R192). -/
def Obligations.SampleRing : Prop :=
  ∀ (c : Fin 4) (s : State), s.unitOn (halfOf c).val = true →
    (∀ m : BitVec 4, Gives (.dcRingRel c m) s fun t =>
      (∀ k : Fin 4, t.get (ringStateFld c k.val) =
        if m.getLsbD k.val = true ∧ s.get (ringStateFld c k.val) = 3 then 0 else s.get (ringStateFld c k.val)) ∧ t.mem = s.mem) ∧
    (∀ (frag : BitVec 40) (member groupK : BitVec 6) (pieces : List Piece), s.bit (DC_STATUS.RG_ON c.val) = false →
      s.bit (DET_CTRL.GSR_EN c.val) = false →
      (s.get (DC_CTRL.MODE c.val) ≠ 1 → s.bit (DC_CTRL.RING_EN c.val) = true → s.get (ringStateFld c (s.get (DC_RING.NEXT c.val))) = 0 →
        Gives (.ringRecordStart c frag member groupK pieces) s fun t =>
          t.get (ringStateFld c (s.get (DC_RING.NEXT c.val))) = 1 ∧ t.get (DC_RING.NEXT c.val) = (s.get (DC_RING.NEXT c.val) + 1) % 4 ∧
          t.dc[c].seq = s.dc[c].seq + 1 ∧ (t.dc[c].rcd.map (·.slot)) = some (some (s.get (DC_RING.NEXT c.val))) ∧
          (t.dc[c].rcd.map (·.frag)) = some frag.toNat ∧ t.mem = s.mem) ∧
      (s.get (DC_CTRL.MODE c.val) ≠ 1 → 2 ≤ s.get (ringStateFld c (s.get (DC_RING.NEXT c.val))) →
        s.get (ringStateFld c (s.get (DC_RING.NEXT c.val))) ≤ 3 →
        Gives (.ringRecordStart c frag member groupK pieces) s fun t => (t.dc[c].rcd.map (·.slot)) = some none ∧
          t.get (DC_RING.NEXT c.val) = s.get (DC_RING.NEXT c.val) ∧
          t.get (DC_CNT.SLIP c.val) = min (s.get (DC_CNT.SLIP c.val) + 1) (2 ^ (DC_CNT.SLIP c.val).len - 1))) ∧
    (∀ (n : BitVec 32) (data : List Byte) (r : RingRec) (k : Nat), s.dc[c].rcd = some r → r.slot = some k →
      Gives (.ringRecordEnd c n data) s fun t => t.dc[c].rcd = none ∧ t.dc[c].waiting = s.dc[c].waiting ++ [r] ∧
        (∀ i < data.length, t.readByte (ringSlotAddr c k + 0x100 + i) = data[i]!) ∧
        t.readBytes (ringSlotAddr c k) 8 = leBytes 8 r.frag ∧
        (∀ a, a < ringSlotAddr c k ∨ ringSlotAddr c k + 0x100 + data.length ≤ a → t.readByte a = s.readByte a)) ∧
    (∀ (n : BitVec 32) (data : List Byte) (r : RingRec), s.dc[c].rcd = some r → r.slot = none →
      Gives (.ringRecordEnd c n data) s fun t => t.dc[c].rcd = none ∧ t.mem = s.mem) ∧
    (∀ (r : RingRec) (k : Fin 4), s.dc[c].rcd = some r → r.slot = some k.val →
      Gives (.ringWriteOverrun c) s fun t => t.get (ringStateFld c k.val) = 4 ∧ (t.dc[c].rcd.map (·.slot)) = some none)

/-- Defects, sync marks and the counts of a data channel. A defect of an enabled kind sets DEFECT, counts and starts the freeze,
whose end clears DEFECT and enters the interval in the recording; a search that captures the primary mark reports result 0, one
with the secondary alone 1 and counts PRI_MISS and SEC_RECOV, one with neither 2 and counts NO_SYNC; CLR_CNT clears the counts
(R182 to R186, R199). -/
def Obligations.DefectsAndSync : Prop :=
  ∀ (c : Fin 4) (s : State), s.unitOn (halfOf c).val = true →
    (∀ (x : BitVec 32) (ta : Bool), s.get (if ta then DC_DEFECT.TA_LEVEL c.val else DC_DEFECT.DROPOUT_LEVEL c.val) ≠ 0 →
      s.bit (DC_STATUS.DEFECT c.val) = false →
      Gives (.defectFreezeStart c x ta) s fun t => t.get (DC_STATUS.DEFECT c.val) = 1 ∧
        t.dc[c].freeze = some (x.toNat, if ta then 2 else 1) ∧
        t.get (DC_DEFECT.DEF_CNT c.val) = min (s.get (DC_DEFECT.DEF_CNT c.val) + 1) (2 ^ (DC_DEFECT.DEF_CNT c.val).len - 1)) ∧
    (∀ (x : BitVec 32) (a ty : Nat) (r : RingRec), s.dc[c].freeze = some (a, ty) → s.dc[c].rcd = some r → r.defects = [] →
      Gives (.defectFreezeEnd c x) s fun t => t.get (DC_STATUS.DEFECT c.val) = 0 ∧ t.dc[c].freeze = none ∧
        (t.dc[c].rcd.map (·.defects)) = some [(a, x.toNat + 8 * s.get (DC_DEFECT.HANGOVER c.val) - a, ty)]) ∧
    (∀ (plan : BitVec 32) (freq : BitVec 16) (ph : BitVec 6) (r : RingRec), s.dc[c].rcd = some r →
      (Gives (.syncMarkSearch c plan [(plan.toNat, 0)] [] freq ph) s fun t => t.get (DC_SYNC_LAST.RESULT c.val) = 0 ∧
        (t.dc[c].rcd.map fun r => (r.sync, r.sync1, r.sync2, r.coded0)) = some (1, plan.toNat, 0xFFFFFFFF, plan.toNat) ∧
        t.get (DC_CNT.NO_SYNC c.val) = s.get (DC_CNT.NO_SYNC c.val)) ∧
      (Gives (.syncMarkSearch c plan [] [(plan.toNat + 16400, 0)] freq ph) s fun t => t.get (DC_SYNC_LAST.RESULT c.val) = 1 ∧
        (t.dc[c].rcd.map fun r => (r.sync, r.coded0, r.toHeld)) = some (2, plan.toNat, true) ∧
        t.get (DC_CNT.SEC_RECOV c.val) = min (s.get (DC_CNT.SEC_RECOV c.val) + 1) (2 ^ (DC_CNT.SEC_RECOV c.val).len - 1)) ∧
      (Gives (.syncMarkSearch c plan [] [] freq ph) s fun t => t.get (DC_SYNC_LAST.RESULT c.val) = 2 ∧
        t.get (DC_CNT.NO_SYNC c.val) = min (s.get (DC_CNT.NO_SYNC c.val) + 1) (2 ^ (DC_CNT.NO_SYNC c.val).len - 1) ∧
        (t.dc[c].rcd.map fun r => r.toHeld) = some true)) ∧
    (Gives (.dcClrCnt c) s fun t => (∀ f ∈ [DC_CNT.NO_SYNC c.val, DC_CNT.SEC_RECOV c.val, DC_CNT.PRI_MISS c.val, DC_CNT.SLIP c.val,
        DC_DEFECT.DEF_CNT c.val, DC_TIMING.CSLIP c.val], t.get f = 0) ∧ t = { s with regs := t.regs })

/-- Intake, delivery and group records of the detector. An intake takes the lowest free engine and the active parameter record; a
fragment whose samples dropped takes none and is not decoded. A delivery reports the fragment's outcome in DET_LAST, frees its
engine and its place, hands over user data only on outcome 0x00, and frees or holds the ring slot. A group record is written
through its channel and its bank closes; DET_GSR_NEXT arms an address; CLR_STATS clears the statistics (R209, R212 to R218, R229,
R235). -/
def Obligations.DetectorLine : Prop :=
  ∀ (c : Fin 4) (s : State), s.unitOn (halfOf c).val = true →
    (∀ r : RingRec, s.dc[c].rcd = some r →
      (∀ k, freeEngine (s.get (DET_STATUS.ENG_BUSY c.val)) = some k → s.bit (DET_CTRL.ENABLE c.val) = true → s.bit (DC_CTRL.ENABLE c.val) = true →
        Gives (.fragmentIntakeStart c false) s fun t => t.dc[c].rcd = some { r with engine := some k } ∧
          t.get (DET_STATUS.ENG_BUSY c.val) = s.get (DET_STATUS.ENG_BUSY c.val) ||| 2 ^ k ∧ t.get (DET_STATUS.INTAKE c.val) = 1 ∧
          t.get (DET_STATUS.PSEL c.val) = s.get (DET_PSEL.PSEL c.val) ∧ t.mem = s.mem) ∧
      (Gives (.fragmentIntakeStart c true) s fun t => t.dc[c].rcd = some { r with notDecoded := true } ∧
        t.get (DET_STATUS.ENG_BUSY c.val) = s.get (DET_STATUS.ENG_BUSY c.val))) ∧
    (∀ (d : Decoded) (r : RingRec) (rest : List RingRec), s.dc[c].waiting = r :: rest →
      r.notRead = false → r.toHeld = false → r.notDecoded = false → r.member < 64 →
      (Gives (.fragmentDelivery c d) s fun t => t.dc[c].waiting = rest ∧ t.mem = s.mem ∧
        t.get (DET_LAST.SYND c.val) = d.synd % 2 ^ (DET_LAST.SYND c.val).len ∧
        t.get (DET_LAST.OUTCOME c.val) = (let o := if d.converged then (if 62 ≤ r.member then 1 else tagCheck d.word r.frag) else 0x10
          if 0x10 ≤ o ∧ o ≤ 0x15 ∧ r.slot = none then 0x17 else o) ∧
        (∀ e, e < 4 → r.engine = some e → (t.get (DET_STATUS.ENG_BUSY c.val)).testBit e = false) ∧
        ∃ x, t.dc[c].deliveries = s.dc[c].deliveries ++ [x] ∧
          x.user = (if t.get (DET_LAST.OUTCOME c.val) = 0 then d.word.take 4096 else [])) ∧
      (∀ k : Fin 4, r.slot = some k.val → Gives (.fragmentDelivery c d) s fun t =>
        t.get (ringStateFld c k.val) = if t.get (DET_LAST.OUTCOME c.val) ≤ 2 then 0 else 3)) ∧
    (∀ (bank : Fin 2) (b : AccBank), s.dc[c].acc[bank] = some b → dmaServes b.chan s = true → viaOk b.chan true b.gsr 8320 s = true →
      Gives (.gsrWrite c bank) s fun t => t.mem = (s.writeVia b.chan b.gsr (gsrBytes b)).mem ∧ t.dc[c].acc[bank] = none ∧
        (t.get (DET_STATUS.GSR_OPEN c.val)).testBit bank.val = false ∧ t.get (DET_INT.GSR_DONE c.val) = 1) ∧
    (∀ a : BitVec 40, s.bit (DET_CTRL.GSR_EN c.val) = true → Gives (.detGsrNextWrite c a) s fun t =>
      t.get (DET_GSR_NEXT.ADDR c.val) = a.toNat / 64 ∧ t.get (DET_GSR_NEXT.ARMED c.val) = 1 ∧ OnlyRegs [(DET_GSR_NEXT.ADDR c.val).addr] s t) ∧
    (Gives (.detClrStats c) s fun t => (∀ f ∈ [DET_CNT_A.CONV1 c.val, DET_CNT_A.CONV2 c.val, DET_CNT_B.CONV3 c.val, DET_CNT_B.CONV4 c.val,
        DET_CNT_C.FAIL c.val, DET_CNT_C.NOT_DEC c.val, DET_CNT_D.TAG_FAIL c.val, DET_CNT_D.MISPLACED c.val, DET_ITER_SUM.LOCALS c.val,
        DET_ERR_SUM.BITS_FIXED c.val], t.get f = 0) ∧
      OnlyRegs [(DET_CNT_A.CONV1 c.val).addr, (DET_CNT_B.CONV3 c.val).addr, (DET_CNT_C.FAIL c.val).addr, (DET_CNT_D.TAG_FAIL c.val).addr,
        (DET_ITER_SUM.LOCALS c.val).addr, (DET_ERR_SUM.BITS_FIXED c.val).addr] s t)

/-- The deferred decode queue. A tail write posts entries, or sets OVF where the ring would overflow. With the queue running, an
entry without OWN stops it; an owned entry of each kind, whose accesses all succeed, ends: OWN is cleared, the head advances,
BB_DONE is raised, and memory changes only in the entry and in the buffers it names. A bad header ends a DECODE with 0x20, a bad
record a FOLD or an ERASE with 0x25, a full group an ERASE with 0 (R220 to R223, R226, R230, R231). -/
def Obligations.DeferredDecode : Prop :=
  ∀ (c : Fin 4) (s : State), s.unitOn (halfOf c).val = true →
    (∀ tail : BitVec 10,
      (tail.toNat % bbSize c s ≠ s.get (DET_BB_HEAD.HEAD c.val) → Gives (.detBbTailWrite c tail) s fun t =>
        t.get (DET_BB_TAIL.TAIL c.val) = tail.toNat % bbSize c s ∧ t.get (DET_BB_STATUS.NOT_OWNED c.val) = 0 ∧
        OnlyRegs [(DET_BB_TAIL.TAIL c.val).addr, (DET_BB_STATUS.OVF c.val).addr] s t) ∧
      (tail.toNat % bbSize c s = s.get (DET_BB_HEAD.HEAD c.val) → s.get (DET_BB_TAIL.TAIL c.val) ≠ s.get (DET_BB_HEAD.HEAD c.val) →
        exec (.detBbTailWrite c tail) s = .next (s.set (DET_BB_STATUS.OVF c.val) 1))) ∧
    (s.bit (DET_CTRL.BB_ENABLE c.val) = true → s.get (DET_BB_HEAD.HEAD c.val) ≠ s.get (DET_BB_TAIL.TAIL c.val) →
      s.bit (DET_BB_STATUS.NOT_OWNED c.val) = false → dmaServes (bbChan c s) s = true → s.bit (DMA_CH_CFG.XLAT_EN (bbChan c s)) = false →
      viaOk (bbChan c s) true (bbEntry c s) 32 s = true →
      ∀ (e : List Byte), e = s.readBytes (bbEntry c s) 32 →
        (leAt e 0 1 < 128 → ∀ (d : Decoded) (plan : BitVec 32), ∀ i ∈ [Instr.bbDecode c d plan [] [] false, .bbFold c false, .bbErase c false],
          Gives i s fun t => t.get (DET_BB_STATUS.NOT_OWNED c.val) = 1 ∧ t.get (DET_INT.BB_STOP c.val) = 1 ∧ t.mem = s.mem) ∧
        (∀ (d : Decoded) (plan : BitVec 32) (primary secondary : List (Nat × Nat)), leAt e 0 1 = 0x80 → bbReservedOk 0 e = true →
          (leAt e 1 1).testBit 2 = false → viaOk (bbChan c s) false (leAt e 4 5) 81920 s = true → d.word.length = 4128 →
          viaOk (bbChan c s) true (leAt e 9 5) 4224 s = true → viaOk (bbChan c s) false (leAt e 14 5) 304 s = true →
          Gives (.bbDecode c d plan primary secondary false) s fun t =>
            t.get (DET_BB_HEAD.HEAD c.val) = (s.get (DET_BB_HEAD.HEAD c.val) + 1) % bbSize c s ∧ t.get (DET_INT.BB_DONE c.val) = 1 ∧
            t.readByte (bbEntry c s) = 0 ∧
            (leAt (s.readBytes (leAt e 4 5) 256) 252 4 ≠ crc32c (s.readBytes (leAt e 4 5) 252) → t.readByte (bbEntry c s + 3) = 0x20) ∧
            ∀ a, (a < bbEntry c s ∨ bbEntry c s + 32 ≤ a) → (a < leAt e 9 5 ∨ leAt e 9 5 + 4224 ≤ a) → t.readByte a = s.readByte a) ∧
        (leAt e 0 1 = 0x81 → bbReservedOk 1 e = true → viaOk (bbChan c s) false (leAt e 4 5) 4128 s = true →
          viaOk (bbChan c s) true (leAt e 9 5) 8320 s = true → (∀ b ∈ s.dc[c].acc.toList, b = none) →
          Gives (.bbFold c false) s fun t =>
            t.get (DET_BB_HEAD.HEAD c.val) = (s.get (DET_BB_HEAD.HEAD c.val) + 1) % bbSize c s ∧ t.get (DET_INT.BB_DONE c.val) = 1 ∧
            t.readByte (bbEntry c s) = 1 ∧
            (gsrOk (s.readBytes (leAt e 9 5) 8320) (leAt e 25 1) = false → t.readByte (bbEntry c s + 3) = 0x25) ∧
            ∀ a, (a < bbEntry c s ∨ bbEntry c s + 32 ≤ a) → (a < leAt e 9 5 ∨ leAt e 9 5 + 8320 ≤ a) → t.readByte a = s.readByte a) ∧
        (leAt e 0 1 = 0x82 → bbReservedOk 2 e = true → viaOk (bbChan c s) false (leAt e 4 5) 8320 s = true →
          viaOk (bbChan c s) true (leAt e 9 5) 8448 s = true →
          Gives (.bbErase c false) s fun t =>
            t.get (DET_BB_HEAD.HEAD c.val) = (s.get (DET_BB_HEAD.HEAD c.val) + 1) % bbSize c s ∧ t.get (DET_INT.BB_DONE c.val) = 1 ∧
            t.readByte (bbEntry c s) = 2 ∧
            (gsrOk (s.readBytes (leAt e 4 5) 8320) 0 = false → t.readByte (bbEntry c s + 3) = 0x25) ∧
            (gsrOk (s.readBytes (leAt e 4 5) 8320) 0 = true →
              absentExps (leAt (s.readBytes (leAt e 4 5) 8320) 4 1) (leAt (s.readBytes (leAt e 4 5) 8320) 16 8) (leAt e 24 1) = [] →
              t.readByte (bbEntry c s + 3) = 0) ∧
            ∀ a, (a < bbEntry c s ∨ bbEntry c s + 32 ≤ a) → (a < leAt e 9 5 ∨ leAt e 9 5 + 8448 ≤ a) → t.readByte a = s.readByte a))

/-- From staging to the slot record. A staging turn fills a free bank with a fill word, a parity word of its group or the
channel's fragment, whose inconsistent descriptor voids the slot with 0x26; a handover too late, or with no bank, voids it with
0x25, one in time starts the slot with the gate on; at the slot's end its word is folded and its bank returns; a verify result
ends the slot with 0x00, 0x10 or 0x11; the oldest final slot is written as a record of 32 bytes and nothing else in memory changes
(R236 to R241, R256 to R261). -/
def Obligations.WriteStaging : Prop :=
  ∀ (n : Fin 2) (s : State), s.unitOn n.val = true →
    (∀ (f : BitVec 40) (m k : BitVec 6), s.wp[n].banks[0] = none → s.wp[n].banks[1] = none →
      (Gives (.wpStagingDone n .fill f m k) s fun t =>
        (t.wp[n].banks[0].map fun b => (b.frag, b.member, b.groupK, b.framed)) = some (f.toNat, m.toNat, k.toNat,
          framed (infoWord 2 { user := List.replicate 4096 0, encrypted := false, nsid := 0, keySlot := 0xFF } f.toNat m.toNat k.toNat) f.toNat) ∧
        t.wp[n].banks[1] = none ∧ t.wp[n].slots = s.wp[n].slots ++ [{ frag := f.toNat, member := m.toNat, flags := 4 }] ∧ t.mem = s.mem) ∧
      (∀ a, wpAccOf n (groupFirst f.toNat m.toNat k.toNat) s = some a → Gives (.wpStagingDone n .parity f m k) s fun t =>
        (t.wp[n].banks[0].map fun b => b.word) = some (parityWord (m == 63) a.s0 a.s1) ∧ t.mem = s.mem ∧ t.regs = s.regs) ∧
      (∀ h r, s.wp[n].inbox = h :: r → s.wp[n].flagged = [] →
        (descriptorBad h = false → Gives (.wpStagingDone n .user f m k) s fun t => t.wp[n].inbox = r ∧
          (t.wp[n].banks[0].map fun b => b.word) = some (infoWord h.kind h f.toNat m.toNat k.toNat) ∧
          (t.wp[n].slots.map fun x => x.res) = (s.wp[n].slots.map fun x => x.res) ++ [none]) ∧
        (descriptorBad h = true → Gives (.wpStagingDone n .user f m k) s fun t => t.wp[n].inbox = r ∧ t.wp[n].banks[0] = none ∧
          (t.wp[n].slots.map fun x => x.res) = (s.wp[n].slots.map fun x => x.res) ++ [some 0x26]))) ∧
    (∀ (x : WpSlot) (b : Staged) (lead : BitVec 64) (f : BitVec 40), s.wp[n].slots = [x] → x.frag = f.toNat → x.res = none →
      s.wp[n].banks[0] = some b → b.frag = f.toNat →
      (lead.toNat < s.now + 2 → Gives (.wpBankHandover n f lead) s fun t => (t.wp[n].slots.map fun y => y.res) = [some 0x25] ∧
        t.wp[n].banks[0] = none ∧ t.get (WP_STATUS.WG n.val) = s.get (WP_STATUS.WG n.val)) ∧
      (s.now + 2 ≤ lead.toNat → wpInhibited n s = none → Gives (.wpBankHandover n f lead) s fun t =>
        t.wp[n].slots = [{ x with started := true }] ∧ t.wp[n].banks[0] = some b ∧ t.get (WP_STATUS.WG n.val) = 1 ∧
        t.get (WP_STATUS.BANK_OWN n.val) = s.get (WP_STATUS.BANK_OWN n.val) ||| 1) ∧
      (s.now + 2 ≤ lead.toNat → s.bit FLT_STATUS.SAFE = true → Gives (.wpBankHandover n f lead) s fun t =>
        (t.wp[n].slots.map fun y => y.res) = [some 0x23] ∧ t.get (WP_STATUS.WG n.val) = s.get (WP_STATUS.WG n.val)) ∧
      (x.started = true → x.ended = false → s.wp[n].finishing = false → s.bit (WP_STATUS.VERIFYING n.val) = false →
        Gives (.slotEnd n) s fun t => (t.wp[n].slots.map fun y => (y.ended, y.res)) = [(true, some 1)] ∧ t.wp[n].banks[0] = none ∧
          t.get (WP_STATUS.WG n.val) = 0 ∧ 3 ∈ t.fms[n].events ∧
          t.wp[n].acc = (wpFold n b s).wp[n].acc ∧ t.mem = s.mem)) ∧
    (∀ (x : WpSlot) (count : BitVec 12), s.wp[n].slots = [x] → x.ended = true → x.verified = false → x.res = none →
      s.bit (WP_VERIFY.SYNC_REQUIRED n.val) = false →
      ∀ p q : Bool, Gives (.verifyResult n count p q) s fun t => (t.wp[n].slots.map fun y => (y.verified, y.res, y.synd)) =
        [(true, some (if p = false ∧ q = false then 0x11 else if s.get (WP_VERIFY.SYND_THRESH n.val) < count.toNat then 0x10 else 0), count.toNat)]) ∧
    (∀ (x : WpSlot) (r : List WpSlot) (a : Nat), s.wp[n].slots = x :: r → x.final = true →
      (s.get (WP_SR_PTR.PROD n.val) + 1) % srSize n s ≠ s.get (WP_SR_PTR.CONS n.val) → dmaServes s.wp[n].chan s = true →
      a = 32 * s.get (WP_SR_BASE.BASE n.val) + 32 * s.get (WP_SR_PTR.PROD n.val) → s.bit (DMA_CH_CFG.XLAT_EN s.wp[n].chan) = false →
      viaOk s.wp[n].chan true a 32 s = true →
      Gives (.slotRecordWrite n) s fun t => t.readBytes a 32 = slotRecord x s.wp[n].seq ∧
        (∀ b, b < a ∨ a + 32 ≤ b → t.readByte b = s.readByte b) ∧ t.wp[n].slots = r ∧
        t.get (WP_SR_PTR.PROD n.val) = (s.get (WP_SR_PTR.PROD n.val) + 1) % srSize n s ∧ t.get (WP_INT.RECORD n.val) = 1 ∧
        0xF ∈ t.fms[n].events) ∧
    (∀ (bank : Fin 2) (a : WAcc), s.wp[n].acc[bank] = some a →
      (s.bit (WP_STATUS.JOURNAL_BUSY n.val) = false → Gives (.parityJournalWrite n bank) s fun t => t.get (WP_STATUS.JOURNAL_BUSY n.val) = 1 ∧
        ((kvFind t.journal a.entry).map fun e => (e.first, e.members, e.s0, e.s1)) = some (a.first, a.members, a.s0, a.s1) ∧
        ∀ b, b < mramBase + 0x080000 + 0x4100 * a.entry ∨ mramBase + 0x080000 + 0x4100 * a.entry + 16544 ≤ b → t.readByte b = s.readByte b) ∧
      (s.bit (WP_STATUS.JOURNAL_BUSY n.val) = true → exec (.parityJournalWrite n bank) s =
        .next (s.modWp n fun w => { w with journalWaits := w.journalWaits ++ [bank] }))) ∧
    (s.wp[n].journalWaits = [] → Gives (.journalDone n) s fun t => t.get (WP_STATUS.JOURNAL_BUSY n.val) = 0 ∧
      t.get (WP_INT.JOURNAL_DONE n.val) = 1 ∧ OnlyRegs [(WP_STATUS.WG n.val).addr, (WP_INT.RECORD n.val).addr] s t)

/-- What idles a write path, and the assist calibration. A shock trip with its detector enabled idles both paths, holds them and
voids the slot in progress with 0x21; with it disabled nothing happens; the end of the hold lets writing resume; the firmware
inhibit idles its path and voids the slot with 0x27; CLR_CNT clears the counts. A calibration on an Empty zone with a fill program
starts at TRIM_MIN; its last trial ends it with 0x04, 0x06 or 0x00, restoring the old trim unless it passed (R249, R253, R254,
R264). -/
def Obligations.WriteInhibitsAndCalibration : Prop :=
  ∀ (n : Fin 2) (s : State), s.unitOn n.val = true →
    (s.bit (WP_SHK.ENABLE 0) = false → exec .shkTrip s = .next s) ∧
    (s.bit (WP_SHK.ENABLE 0) = true → s.wp[0].cal = none → s.wp[1].cal = none → Gives .shkTrip s fun t =>
      t.get (WP_STATUS.WG n.val) = 0 ∧ t.get (WP_STATUS.SHK_HOLD n.val) = 1 ∧ t.get (WP_SHK.TRIPPED 0) = 1 ∧ t.raised = s.raised ++ [38] ∧
      t.mem = s.mem ∧ ∀ x, s.wp[n].slots = [x] → x.res = none → x.started = true → x.ended = false →
        (t.wp[n].slots.map fun y => y.res) = [some 0x21]) ∧
    (Gives .shkHoldEnd s fun t => t.get (WP_STATUS.SHK_HOLD 0) = 0 ∧ t.get (WP_STATUS.SHK_HOLD 1) = 0 ∧
      OnlyRegs [(WP_STATUS.WG 0).addr, (WP_STATUS.WG 1).addr] s t) ∧
    (Gives (.wpFirmwareInhibit n) s fun t => t.get (WP_CTRL.INHIBIT n.val) = 1 ∧ t.get (WP_STATUS.WG n.val) = 0 ∧ t.mem = s.mem ∧
      ∀ x, s.wp[n].slots = [x] → x.res = none → x.started = true → x.ended = false → (t.wp[n].slots.map fun y => y.res) = [some 0x27]) ∧
    (Gives (.wpClrCnt n) s fun t => (∀ f ∈ [WP_CNT.UNDERRUN n.val, WP_CNT.FLAGGED n.val, WP_CNT.VOID_PES n.val, WP_CNT.VOID_OTHER n.val],
      t.get f = 0) ∧ OnlyRegs [(WP_CNT.UNDERRUN n.val).addr] s t) ∧
    (∀ zone : BitVec 20, s.bit (WP_CAL.BUSY n.val) = false →
      (writeProg n s = none → exec (.wpCalStart n zone) s = .next (s.set (WP_CAL.RESULT n.val) 2)) ∧
      (∀ p, writeProg n s = some p → s.get (WP_ASSIST.TYPE n.val) ≠ 0 → (s.zone zone.toNat).state = 1 → (leAt p.tpd 1 1).testBit 4 = true →
        Gives (.wpCalStart n zone) s fun t => t.get (WP_CAL.BUSY n.val) = 1 ∧ t.get (WP_CAL.RESULT n.val) = 1 ∧
          t.get (WP_ASSIST.TRIM n.val) = (s.readByte (leAt p.tpd 48 5 + 4)).toNat ∧ t.mem = s.mem ∧
          (t.wp[n].cal.map fun r => r.oldTrim) = some (s.get (WP_ASSIST.TRIM n.val)))) ∧
    (∀ (r : WpCalRun) (m : BitVec 16) (cap : BitVec 7) (temp : BitVec 8), s.wp[n].cal = some r →
      (r.t + r.step ≤ r.trimMax → Gives (.wpCalTrialEnd n m cap temp) s fun t =>
        (t.wp[n].cal.map fun r => r.t) = some (r.t + r.step) ∧ t.get (WP_CAL.BUSY n.val) = s.get (WP_CAL.BUSY n.val) ∧ t.mem = s.mem) ∧
      (r.trimMax < r.t + r.step → r.best = none → cap.toNat < s.get (WP_CAL.MIN_CAPTURE n.val) →
        Gives (.wpCalTrialEnd n m cap temp) s fun t => t.get (WP_CAL.RESULT n.val) = 4 ∧ t.get (WP_CAL.BUSY n.val) = 0 ∧
          t.wp[n].cal = none ∧ t.get (WP_ASSIST.TRIM n.val) = r.oldTrim % 256 ∧ t.mem = s.mem) ∧
      (r.trimMax < r.t + r.step → r.best = none → s.get (WP_CAL.MIN_CAPTURE n.val) ≤ cap.toNat → r.t = 0 →
        Gives (.wpCalTrialEnd n m cap temp) s fun t => t.get (WP_CAL.RESULT n.val) = 0 ∧ t.get (WP_CAL.BUSY n.val) = 0 ∧
          t.wp[n].cal = none ∧ t.get (WP_ASSIST.TRIM n.val) = 0 ∧
          ∀ a r, r = mramBase + s.get (FMS_WCAL.ADDR n.val) + 32 * s.get (WP_STATUS.HEAD n.val) → a < r ∨ r + 32 ≤ a →
            t.readByte a = s.readByte a))

/-- SAMs, missed wedges, records and the beat. A SAM found in SEARCH stamps and enters VERIFY; a missed wedge sends VERIFY back to
SEARCH, and in LOCKED issues a predicted stamp and an invalid record until MISS_MAX in a row lose the lock. A record with good
chevrons is valid at the computed position, one without an ID is outcome 3. FORCE_SEARCH returns to SEARCH; a read of SVD_SAM_L
latches SVD_SAM_H; CLR_CNT clears the counts; a free-running period starts a spindle frame only while no demodulator is locked
(R70, R271 to R282, R287, R288). -/
def Obligations.ServoDemodulator : Prop :=
  ∀ (v : Fin 4) (s : State), s.unitOn (halfOf v).val = true →
    (∀ (h : SamHit) (x : BitVec 10) (viol : Bool), s.get (SVD_STATUS.STATE v.val) = 1 → s.bit (SVD_STATUS.VERIFY v.val) = false →
      s.bit SYS_BEAT.NONE = true → h.mismatches = 0 → s.svd[v].swLeft = 0 →
      Gives (.samEvent v [h] x viol) s fun t => t.svd[v].last = h.stamp ∧ t.svd[v].predicted = false ∧
        t.get (SVD_STATUS.STATE v.val) = 1 ∧ t.get (SVD_STATUS.VERIFY v.val) = 1 ∧ t.svd[v].index = x.toNat / 2 ∧
        t.get (SVD_SAM_L.STAMP_LO v.val) = h.stamp % 2 ^ 40 ∧ t.get (SVD_STATUS.MISS_RUN v.val) = 0 ∧ t.mem = s.mem) ∧
    (∀ (x : BitVec 10) (viol : Bool), exec (.samEvent v [] x viol) s = .next s) ∧
    (s.bit (SVD_STATUS.VERIFY v.val) = true → Gives (.missedWedge v) s fun t => t.get (SVD_STATUS.STATE v.val) = 1 ∧
      t.get (SVD_STATUS.VERIFY v.val) = 0 ∧ t.get (SVD_STATUS.MISS_RUN v.val) = 0 ∧ t.svd[v].acq = 0 ∧ t.mem = s.mem) ∧
    (s.bit (SVD_STATUS.VERIFY v.val) = false → s.get (SVD_STATUS.STATE v.val) = 2 → writeProg (halfOf v) s = none →
      s.bit SYS_BEAT.NONE = false → s.get SYS_BEAT.ACTIVE ≠ v.val → s.svd[v].swLeft = 0 →
      (s.get (SVD_STATUS.MISS_RUN v.val) + 1 < s.get (SVD_CFG.MISS_MAX v.val) → Gives (.missedWedge v) s fun t =>
        t.svd[v].last = s.svd[v].last + svdMean v s / 65536 ∧ t.svd[v].predicted = true ∧ t.svd[v].index = (s.svd[v].index + 1) % 512 ∧
        t.get (SVD_STATUS.STATE v.val) = 2 ∧ t.get (SVD_PES.VALID v.val) = 0 ∧ t.get (SVD_PES.OUTCOME v.val) = 2 ∧
        t.get (SVD_POS.VALID v.val) = 0 ∧ t.get (SVD_INT.MISSED v.val) = 1 ∧
        t.get (SVD_STATUS.MISS_RUN v.val) = s.get (SVD_STATUS.MISS_RUN v.val) + 1 ∧ t.mem = s.mem) ∧
      (s.get (SVD_CFG.MISS_MAX v.val) ≤ s.get (SVD_STATUS.MISS_RUN v.val) + 1 → s.get (SVD_STATUS.MISS_RUN v.val) < 2 → Gives (.missedWedge v) s fun t =>
        t.get (SVD_STATUS.STATE v.val) = 1 ∧ t.get (SVD_INT.LOCK_LOST v.val) = 1 ∧ t.raised = s.raised ++ [40 + v.val] ∧
        (t.get SYS_BEAT.LOCKED).testBit v.val = false)) ∧
    (∀ (g : BitVec 24) (s1 s2 s3 s4 : List Nat), s.get (SVD_STATUS.STATE v.val) ≠ 0 → writeProg (halfOf v) s = none →
      (∀ pair pos, svdPosition v (grayToBin 5 g.toNat) s1 s2 s3 s4 s = some (pair, pos) →
        Gives (.positionRecordLatch v g [] s1 s2 s3 s4) s fun t => t.get (SVD_POS.VALID v.val) = 1 ∧ t.get (SVD_PES.VALID v.val) = 1 ∧
          t.get (SVD_PES.OUTCOME v.val) = 0 ∧ t.get (SVD_POS.POS v.val) = pos.toNat % 2 ^ (SVD_POS.POS v.val).len ∧
          t.get (SVD_POS.PAIR v.val) = pair % 2 ∧ t.get (SVD_ID.TRACK v.val) = grayToBin 5 g.toNat % 2 ^ (SVD_ID.TRACK v.val).len ∧
          t.svd[v].latched = true ∧ t.mem = s.mem) ∧
      (s.svd[v].hist = [] → Gives (.positionRecordLatch v g [0, 1] s1 s2 s3 s4) s fun t => t.get (SVD_POS.VALID v.val) = 0 ∧
        t.get (SVD_PES.VALID v.val) = 0 ∧ t.get (SVD_PES.OUTCOME v.val) = 3 ∧ t.get (SVD_ID.ERASED v.val) = 2 ∧ t.svd[v].latched = true ∧
        t.mem = s.mem)) ∧
    (s.get (SVD_STATUS.STATE v.val) ≠ 0 → s.get SYS_BEAT.ACTIVE ≠ v.val → Gives (.svdForceSearch v) s fun t =>
      t.get (SVD_STATUS.STATE v.val) = 1 ∧ t.get (SVD_STATUS.VERIFY v.val) = 0 ∧ t.svd[v].ivals = [] ∧
      OnlyRegs [(SVD_STATUS.STATE v.val).addr, (SVD_MEAN.COUNT v.val).addr, SYS_BEAT.LOCKED.addr] { s with svd := t.svd } t) ∧
    (s.get (SVD_STATUS.STATE v.val) = 0 → exec (.svdForceSearch v) s = .next s) ∧
    (Gives (.svdClrCnt v) s fun t => (∀ f ∈ [SVD_CNT.LOCK_LOSS v.val, SVD_CNT.IDX_MISMATCH v.val, SVD_CNT.BAD_ID v.val, SVD_CNT.MISSED v.val],
      t.get f = 0) ∧ OnlyRegs [(SVD_CNT.MISSED v.val).addr] s t) ∧
    (Gives (.svdSamLRead v) s fun t => t.resp = .data (BitVec.ofNat 40 s.svd[v].last) ∧
      t.get (SVD_SAM_H.STAMP_HI v.val) = s.svd[v].last / 2 ^ 40 % 2 ^ (SVD_SAM_H.STAMP_HI v.val).len ∧
      t.get (SVD_SAM_H.PREDICTED v.val) = (if s.svd[v].predicted then 1 else 0) ∧
      OnlyRegs [(SVD_SAM_H.STAMP_HI v.val).addr] { s with resp := t.resp } t) ∧
    (s.bit SYS_BEAT.NONE = false → exec .freeRunPeriodStart s = .next s) ∧
    (s.bit SYS_BEAT.NONE = true → switchDue s = false → s.bit CLE_CTRL.ENABLE = true → Gives .freeRunPeriodStart s fun t =>
      t.get CLE_STATUS.FREE = 1 ∧ t.cle.base = s.now ∧ t.cle.due = true ∧ t.cle.beatFrame = false ∧ t.mem = s.mem)

/-- Negotiation, reports, faults and commands of an actuator drive link. A negotiation takes the highest common version and comes
up, or raises the link fault; an unanswered HELLO is sent four times; a keepalive sends STATUS_RQ; missed reports and discarded
frames are counted, the third in a row ends the link; a REPORT with the right SEQ is taken, another is counted; FAULT latches;
answers end the pending command. ADL_CMD sends its frame or sets ERR; its third send times out. PARK and UNPARK act on the park
causes (R316 to R327). -/
def Obligations.ActuatorLink : Prop :=
  ∀ (n : Fin 2) (s : State), s.unitOn n.val = true →
    (∀ peer : BitVec 16, s.adl[n].waitHello = true → ∀ p ∈ [(Instr.adlNegotiate n peer, true), (.adlRxHello n peer, s.bit (ADL_CTRL.ENABLE n.val))],
      p.2 = true →
      Gives p.1 s fun t => t.adl[n].waitHello = false ∧
        t.get (ADL_STATUS.VERSION n.val) = (if peer.getLsbD 1 then 2 else if peer.getLsbD 0 then 1 else 0) ∧
        (peer.toNat % 4 ≠ 0 → t.get (ADL_STATUS.LINK_UP n.val) = 1 ∧ t.raised = s.raised) ∧
        (peer.toNat % 4 = 0 → t.get (ADL_FAULT.LINK n.val) = 1 ∧ 32 + 2 * n.val ∈ t.raised)) ∧
    (s.adl[n].waitHello = true → s.adl[n].attempts < 4 → Gives (.adlHelloTimeout n) s fun t =>
      t.adl[n].sent = s.adl[n].sent ++ [adlFrame 1 (s.get (ADL_STATUS.SEQ n.val)) (0x0003 * 2 ^ 48)] ∧
      t.adl[n].attempts = s.adl[n].attempts + 1 ∧ t.regs = s.regs) ∧
    (s.adl[n].waitHello = true → 4 ≤ s.adl[n].attempts → Gives (.adlHelloTimeout n) s fun t => t.adl[n].waitHello = false ∧
      t.get (ADL_FAULT.LINK n.val) = 1 ∧ t.raised = s.raised ++ [32 + 2 * n.val] ∧ t.get (ADL_STATUS.VERSION n.val) = 0) ∧
    (s.bit (ADL_CTRL.ENABLE n.val) = true → Gives (.adlCtrlNegotiate n) s fun t => t.get (ADL_STATUS.LINK_UP n.val) = 0 ∧
      t.get (ADL_STATUS.PARKED n.val) = 1 ∧ t.adl[n].waitHello = true ∧ t.adl[n].attempts = 1) ∧
    (s.bit (ADL_STATUS.LINK_UP n.val) = true → s.cle.owners[n.val].cmp = none →
      (Gives (.adlKeepalive n) s fun t => t.adl[n].sent = s.adl[n].sent ++ [adlFrame 6 (s.get (ADL_STATUS.SEQ n.val)) 0] ∧
        t.adl[n].rqWaiting = true ∧ t.regs = s.regs) ∧
      (s.bit (ADL_CMD.BUSY n.val) = false → s.bit (ADL_CTRL.ENABLE n.val) = true → s.bit (ADL_STATUS.PARKED n.val) = false →
        ∀ (a : BitVec 8) (d : BitVec 16), ∀ p ∈ [(Instr.adlCmdConfig n a d, 2, a.toNat, d.toNat), (.adlCmdArm n, 4, 0, 0),
            (.adlCmdRetract n a, 5, a.toNat, 0), (.adlCmdStatusRq n, 6, 0, 0), (.adlCmdConfigRd n a, 7, a.toNat, 0)],
          Gives p.1 s fun t =>
            t.adl[n].sent = s.adl[n].sent ++ [adlFrame p.2.1 (s.get (ADL_STATUS.SEQ n.val)) (p.2.2.1 * 2 ^ 56 + p.2.2.2 * 2 ^ 40)] ∧
            t.get (ADL_CMD.ERR n.val) = 0 ∧ t.get (ADL_CMD.TYPE n.val) = p.2.1 ∧ t.get (ADL_RSP.VALID n.val) = 0 ∧
            t.get (ADL_CMD.BUSY n.val) = if 6 ≤ p.2.1 then 1 else 0)) ∧
    (s.bit (ADL_STATUS.LINK_UP n.val) = false → ∀ (a : BitVec 8) (d : BitVec 16),
      ∀ i ∈ [Instr.adlCmdConfig n a d, .adlCmdArm n, .adlCmdRetract n a, .adlCmdStatusRq n, .adlCmdConfigRd n a],
        Gives i s fun t => t.get (ADL_CMD.ERR n.val) = 1 ∧ t.adl = s.adl) ∧
    (∀ f, s.adl[n].cmd = some f → s.cle.owners[n.val].cmp = none →
      (s.adl[n].tries < 3 → Gives (.adlRspTimeout n) s fun t => t.adl[n].sent = s.adl[n].sent ++ [f] ∧ t.adl[n].tries = s.adl[n].tries + 1) ∧
      (3 ≤ s.adl[n].tries → Gives (.adlRspTimeout n) s fun t => t.get (ADL_RSP.TIMEOUT n.val) = 1 ∧ t.get (ADL_CMD.BUSY n.val) = 0 ∧
        t.adl[n].cmd = none ∧ t.adl[n].sent = s.adl[n].sent)) ∧
    (∀ q r, s.adl[n].awaiting = q :: r → s.adl[n].repRow < 2 → Gives (.adlReportMiss n true) s fun t => t.adl[n].awaiting = r ∧
      t.get (ADL_ERR.REPORT_MISS n.val) = min (s.get (ADL_ERR.REPORT_MISS n.val) + 1) (2 ^ (ADL_ERR.REPORT_MISS n.val).len - 1) ∧
      t.get (ADL_STATUS.LINK_UP n.val) = s.get (ADL_STATUS.LINK_UP n.val)) ∧
    (s.adl[n].rqWaiting = true → s.adl[n].rqRow = 2 → Gives (.adlReportMiss n false) s fun t => t.bit (ADL_STATUS.LINK_UP n.val) = false) ∧
    (s.adl[n].badRow < 2 → Gives (.adlRxDiscard n) s fun t => t.adl[n].badRow = s.adl[n].badRow + 1 ∧
      t.get (ADL_ERR.CRC_UP n.val) = min (s.get (ADL_ERR.CRC_UP n.val) + 1) (2 ^ (ADL_ERR.CRC_UP n.val).len - 1) ∧ t.raised = s.raised) ∧
    (s.adl[n].badRow = 2 → s.bit (ADL_STATUS.LINK_UP n.val) = true → Gives (.adlRxDiscard n) s fun t => t.bit (ADL_STATUS.LINK_UP n.val) = false ∧
      32 + 2 * n.val ∈ t.raised) ∧
    (s.bit (ADL_CTRL.ENABLE n.val) = true →
      (∀ (q : BitVec 4) (iv : BitVec 16) (vv : BitVec 12) (st : BitVec 2),
        (q.toNat = s.get (ADL_STATUS.SEQ n.val) → s.adl[n].cmd = none → Gives (.adlRxReport n q iv vv st 0) s fun t =>
          t.get (ADL_REPORT.SEQ n.val) = q.toNat ∧ t.get (ADL_REPORT.IVCM n.val) = iv.toNat ∧ t.get (ADL_REPORT.VVCM n.val) = vv.toNat ∧
          t.get (ADL_REPORT.STATE n.val) = st.toNat ∧ t.get (ADL_STATUS.COMP_STATE n.val) = st.toNat ∧ t.cle.fresh[n] = true ∧
          q.toNat ∉ t.adl[n].awaiting) ∧
        (q.toNat ≠ s.get (ADL_STATUS.SEQ n.val) → Gives (.adlRxReport n q iv vv st 0) s fun t =>
          t.get (ADL_ERR.SEQ_ERR n.val) = min (s.get (ADL_ERR.SEQ_ERR n.val) + 1) (2 ^ (ADL_ERR.SEQ_ERR n.val).len - 1) ∧
          t.get (ADL_REPORT.IVCM n.val) = s.get (ADL_REPORT.IVCM n.val))) ∧
      (∀ (code : BitVec 6) (h : BitVec 4), 1 ≤ code.toNat → code.toNat ≤ 9 → Gives (.adlRxFault n code h) s fun t =>
        t.get (ADL_FAULT.CODE n.val) = code.toNat ∧ t.get (ADL_FAULT.HEAD n.val) = h.toNat ∧ t.get (ADL_FAULT.COMP n.val) = 1 ∧
        t.raised = s.raised ++ [33 + 2 * n.val]) ∧
      (∀ (f : Nat) (a : BitVec 8) (d : BitVec 16) (k : BitVec 4), s.adl[n].cmd = some f → adlType f = 7 →
        (Gives (.adlRxConfigData n a d) s fun t => t.get (ADL_RSP.TYPE n.val) = 2 ∧ t.get (ADL_RSP.ADDR n.val) = a.toNat ∧
          t.get (ADL_RSP.DATA n.val) = d.toNat ∧ t.get (ADL_RSP.VALID n.val) = 1 ∧ t.get (ADL_CMD.BUSY n.val) = 0 ∧ t.adl[n].cmd = none) ∧
        (Gives (.adlRxNak n k) s fun t => t.get (ADL_RSP.TYPE n.val) = 0xE ∧ t.get (ADL_RSP.DATA n.val) = k.toNat ∧
          t.get (ADL_ERR.NAK n.val) = min (s.get (ADL_ERR.NAK n.val) + 1) (2 ^ (ADL_ERR.NAK n.val).len - 1) ∧ t.adl[n].cmd = none))) ∧
    (Gives (.adlPark n) s fun t => t.get (ADL_CTRL.PARK n.val) = 1 ∧ t.get (ADL_STATUS.PARKED n.val) = 1 ∧
      (t.get (ADL_STATUS.PARK_CAUSE n.val)).testBit 0 = true ∧ t.mem = s.mem) ∧
    (s.get (ADL_STATUS.PARK_CAUSE n.val) % 16 = 0 → Gives (.adlUnpark n) s fun t => t.get (ADL_STATUS.PARK_CAUSE n.val) = 0 ∧
      t.get (ADL_STATUS.PARKED n.val) = 0 ∧ OnlyRegs [(ADL_STATUS.PARKED n.val).addr] s t) ∧
    (s.get (ADL_STATUS.PARK_CAUSE n.val) % 16 ≠ 0 → exec (.adlUnpark n) s = .next s) ∧
    (Gives (.adlClrErr n) s fun t => (∀ f ∈ [ADL_ERR.NAK n.val, ADL_ERR.SEQ_ERR n.val, ADL_ERR.REPORT_MISS n.val, ADL_ERR.OVERRUN n.val,
      ADL_ERR.CRC_UP n.val], t.get f = 0) ∧ OnlyRegs [(ADL_ERR.NAK n.val).addr] s t)

/-- The operations of a control law program. LOAD copies its operand where its condition holds; STORE writes state memory, or an
output port saturated to 16 bits; ADD, SUB, MAC and a left SHIFT put the exact result into WD, saturated to 40 bits with OVF of
the program's slot; a right SHIFT rounds half up; SAT and LIMIT clamp. Only WD and the operation counter change beside the flags
(R297, R301 to R304). -/
def Obligations.CleOperations : Prop :=
  ∀ (d : Fin 8) (s : State), s.power.core = true →
    (∀ (sp : Fin 4) (x : BitVec 8) (fl : BitVec 6) (cond : Fin 3),
      Gives (.cleOpLoad d sp x cond fl) s fun t =>
        t.cle.run.w[d] = (if cond.val = 0 ∨ (cond.val = 1 ∧ s.cle.run.flags.testBit fl.toNat = true) ∨
          (cond.val = 2 ∧ s.cle.run.flags.testBit fl.toNat = false) then BitVec.ofInt 40 (cleSrc sp.val x.toNat s) else s.cle.run.w[d]) ∧
        (∀ e : Fin 8, e ≠ d → t.cle.run.w[e] = s.cle.run.w[e]) ∧ t.cle.run.op = s.cle.run.op + 1 ∧ t = { s with cle := t.cle }) ∧
    (∀ x : BitVec 8,
      (Gives (.cleOpStore d false x) s fun t => t.get (stateSlot s.cle.run.owner x.toNat) = (s.cle.run.w[d]).toNat ∧
        t.cle.run.op = s.cle.run.op + 1 ∧ t.cle.run.w = s.cle.run.w ∧
        OnlyRegs [(stateSlot s.cle.run.owner x.toNat).addr] { s with cle := t.cle } t) ∧
      (∀ k : Fin 3, x.toNat = k.val → Gives (.cleOpStore d true x) s fun t =>
        (t.cle.owners[s.cle.run.owner].out[k]).toInt = clampI (-32768) 32767 (s.cle.run.w[d]).toInt ∧
        t.cle.run.op = s.cle.run.op + 1 ∧ t.cle.run.w = s.cle.run.w ∧
        ((s.cle.run.w[d]).toInt = clampI (-32768) 32767 (s.cle.run.w[d]).toInt → t.regs = s.regs) ∧ t.mem = s.mem)) ∧
    (∀ (sp : Fin 4) (x : BitVec 8) (e : Fin 3) (y : BitVec 8) (u : BitVec 6),
      ∀ p ∈ [(Instr.cleOpAdd d sp x, (s.cle.run.w[d]).toInt + cleSrc sp.val x.toNat s),
          (.cleOpSub d sp x, (s.cle.run.w[d]).toInt - cleSrc sp.val x.toNat s),
          (.cleOpMac d e x y, (s.cle.run.w[d]).toInt + roundShift (cleSrc e.val x.toNat s *
            coeffValue (coeffWord (activeBank s) s.cle.run.coeff y.toNat s)) (coeffShift (coeffWord (activeBank s) s.cle.run.coeff y.toNat s))),
          (.cleOpShift d u, if 0 < u.toInt then (s.cle.run.w[d]).toInt * 2 ^ u.toInt.toNat else roundShift (s.cle.run.w[d]).toInt (-u.toInt).toNat)],
        Gives p.1 s fun t => (t.cle.run.w[d]).toInt = clampI (-2 ^ 39) (2 ^ 39 - 1) p.2 ∧
          (p.2 = clampI (-2 ^ 39) (2 ^ 39 - 1) p.2 → t.regs = s.regs) ∧
          (p.2 ≠ clampI (-2 ^ 39) (2 ^ 39 - 1) p.2 → (t.get CLE_OVF.SLOT).testBit (s.cle.run.slot % 32) = true ∧ t.get CLE_INT.OVF = 1) ∧
          (∀ k : Fin 8, k ≠ d → t.cle.run.w[k] = s.cle.run.w[k]) ∧ t.cle.run.op = s.cle.run.op + 1 ∧
          t = { s with cle := t.cle, regs := t.regs }) ∧
    (∀ width : Fin 41, 2 ≤ width.val → Gives (.cleOpSat d width) s fun t =>
      (t.cle.run.w[d]).toInt = clampI (-2 ^ (width.val - 1)) (2 ^ (width.val - 1) - 1) (s.cle.run.w[d]).toInt ∧
      (∀ k : Fin 8, k ≠ d → t.cle.run.w[k] = s.cle.run.w[k]) ∧ t.cle.run.op = s.cle.run.op + 1 ∧
      ((t.cle.run.w[d]).toInt ≠ (s.cle.run.w[d]).toInt → (t.get CLE_CLAMP.SLOT).testBit (s.cle.run.slot % 32) = true) ∧
      OnlyRegs [CLE_CLAMP.SLOT.addr] { s with cle := t.cle } t) ∧
    (∀ y : BitVec 8, Gives (.cleOpLimit d y) s fun t =>
      let b := activeBank s
      t.cle.run.w[d] = BitVec.ofInt 40 (clampI (coeffValue (coeffWord b s.cle.run.coeff y.toNat s))
        (coeffValue (coeffWord b s.cle.run.coeff (y.toNat + 1) s)) (s.cle.run.w[d]).toInt) ∧
      (∀ k : Fin 8, k ≠ d → t.cle.run.w[k] = s.cle.run.w[k]) ∧ t.cle.run.op = s.cle.run.op + 1 ∧
      OnlyRegs [CLE_CLAMP.SLOT.addr] { s with cle := t.cle } t)

/-- Frames, commands, banks and releases of the control law engine. A due spindle frame starts and is counted, late at its limit;
a command word waits for the next frame with its seek registers copied; a bank check runs once and reports its code; a switch is
pending only after a check that passed, and then makes the other bank active; CLR_STICKY clears the sticky flags; a comparator
that matches in time releases its owner's outputs (R65, R66, R290 to R294, R306 to R314, R326). -/
def Obligations.CleFramesAndBanks : Prop :=
  ∀ s : State, s.power.core = true →
    (∀ (ends : Vector Nat 3) (bad : List (Fin 3)),
      (s.cle.due = false → exec (.cleFrameStart ends bad) s = .next s ∧ exec (.cleFrameStartLimit ends bad) s = .next s) ∧
      (s.cle.due = true → s.bit CLE_CTRL.ENABLE = true → s.cle.beatFrame = false → (∀ i, findProgram 2 i s = none) → s.cle.cmd = .replicate 2 none →
        Gives (.cleFrameStart ends bad) s fun t => t.cle.due = false ∧ t.get CLE_INT.FRAME = 1 ∧
          t.get CLE_STATUS.FRAMES = (s.get CLE_STATUS.FRAMES + 1) % 2 ^ CLE_STATUS.FRAMES.len ∧ t.mem = s.mem) ∧
      (s.cle.due = true → s.bit CLE_CTRL.ENABLE = true → s.cle.beatFrame = true → s.bit CLE_CTRL.ACT0_EN = false →
        s.bit CLE_CTRL.ACT1_EN = false → (∀ i, findProgram 2 i s = none) → s.cle.cmd = .replicate 2 none →
        Gives (.cleFrameStartLimit ends bad) s fun t => t.cle.due = false ∧ t.get CLE_STATUS.LATE_INPUT = 1 ∧ t.get CLE_INT.FRAME = 1 ∧
          t.get CLE_STATUS.FRAMES = (s.get CLE_STATUS.FRAMES + 1) % 2 ^ CLE_STATUS.FRAMES.len ∧ t.mem = s.mem)) ∧
    (∀ (a : Fin 2) (w : BitVec 40), Gives (.cleActCmdWrite a w) s fun t => t.get (CLE_ACT_STATE.PEND a.val) = 1 ∧
      (s.cle.cmd[a] ≠ none → t.get (CLE_ACT_STATE.OVERWRITE a.val) = 1) ∧
      (t.cle.cmd[a].map fun c => (c.index, c.head0, c.head1, c.slot1, c.pflags)) =
        some (w.toNat % 32, w.toNat / 32 % 16, w.toNat / 512 % 16, w.getLsbD 13, w.toNat / 2 ^ 15 % 256) ∧
      (t.cle.cmd[a].map fun c => c.seek.isSome) = some (w.getLsbD 14) ∧ t.mem = s.mem) ∧
    (∀ w : BitVec 40, Gives (.cleSpmCmdWrite w) s fun t => t.get CLE_SPM_CMD.INDEX = w.toNat % 32 ∧ t.cle.spmCmd = true ∧
      (w.getLsbD 13 = true → t.get CLE_SPM_CMD.ERR = 0) ∧ t.get CLE_SPM_CMD.CUR = s.get CLE_SPM_CMD.CUR ∧
      OnlyRegs [CLE_SPM_CMD.INDEX.addr] { s with cle := t.cle } t) ∧
    (s.cle.checking = false → Gives .cleBankCheck s fun t => t.cle.checking = true ∧ t.get CLE_BANK.CHECK_OK = 0 ∧
      OnlyRegs [CLE_BANK.CHECK_OK.addr] { s with cle := t.cle } t) ∧
    (s.cle.checking = true → exec .cleBankCheck s = .next s ∧ Gives .cleBankCheckDone s fun t => t.cle.checking = false ∧
      t.get CLE_BANK.CHECK_CODE = (bankCheck (inactiveBank s) s).1 % 2 ^ CLE_BANK.CHECK_CODE.len ∧ t.get CLE_INT.CHECK_DONE = 1 ∧
      (t.get CLE_BANK.CHECK_OK = 1 ↔ (bankCheck (inactiveBank s) s).1 = 0) ∧ OnlyRegs [CLE_BANK.CHECK_OK.addr, CLE_INT.CHECK_DONE.addr] { s with cle := t.cle } t) ∧
    (s.bit CLE_BANK.CHECK_OK = true → s.cle.checking = false → exec .cleBankSwitchReq s = .next (s.set CLE_BANK.SWITCH_PEND 1)) ∧
    (s.bit CLE_BANK.CHECK_OK = false → Gives .cleBankSwitchReq s fun t => t.get CLE_BANK.WERR = 1 ∧ t.get CLE_INT.WERR = 1 ∧
      t.get CLE_BANK.SWITCH_PEND = s.get CLE_BANK.SWITCH_PEND ∧ OnlyRegs [CLE_BANK.WERR.addr, CLE_INT.WERR.addr] s t) ∧
    (s.bit CLE_BANK.SWITCH_PEND = true → Gives .bankSwitch s fun t => t.get CLE_STATUS.BANK = 1 - s.get CLE_STATUS.BANK ∧
      t.get CLE_BANK.SWITCH_PEND = 0 ∧ t.get CLE_BANK.CHECK_OK = 0 ∧ t.get CLE_INT.SWITCHED = 1 ∧ t.cle.seek = .replicate 2 none ∧ t.mem = s.mem ∧
      t.get CLE_STATUS.GRADE = bankGrade (1 - s.get CLE_STATUS.BANK) s % 2 ^ CLE_STATUS.GRADE.len) ∧
    (Gives .cleClrSticky s fun t => t.get CLE_OVF.SLOT = 0 ∧ t.get CLE_CLAMP.SLOT = 0 ∧ t.get CLE_LATE.SLOT = 0 ∧ t.get CLE_FIRST.VALID = 0 ∧
      t.get CLE_STATUS.MIN_SLACK = 0xFF ∧
      OnlyRegs [CLE_OVF.SLOT.addr, CLE_CLAMP.SLOT.addr, CLE_LATE.SLOT.addr, CLE_FIRST.VALID.addr, CLE_STATUS.MIN_SLACK.addr] s t) ∧
    (∀ k : Fin 3,
      (s.cle.owners[k].cmp = none → exec (.releaseComparatorMatch k) s = .next s) ∧
      (∀ e, s.cle.owners[k].cmp = some s.now → s.cle.owners[k].held = some e → e + 2 ≤ s.now → Gives (.releaseComparatorMatch k) s fun t =>
        t.cle.owners[k].released = s.cle.owners[k].out ∧ t.cle.owners[k].cmp = none ∧ t.mem = s.mem) ∧
      (s.cle.owners[k].cmp = some s.now → s.cle.owners[k].held = none → Gives (.releaseComparatorMatch k) s fun t =>
        t.cle.owners[k].released = s.cle.owners[k].released ∧ t.cle.owners[k].cmp = none ∧
        (cleProgram k s ≠ none → t.get CLE_INT.LATE = 1 ∧ 56 ∈ t.raised)))

/-- Starting, sensing, stopping and coasting the spindle. RUN with ENABLE 0 is refused with 1, on low V12 with 4; permitted it
begins SENSE, and without the permit it waits. STOP with an ACTIVE companion is refused with 2, else it brakes or coasts; COAST
waits for a period in a driving mode. Four forward crossings at the catch speed are a caught rotor; a stopped rotor goes to IPS,
whose pulses fix the angle or fail. A gate fault coasts and raises source 65 (R347 to R351, R365 to R367). -/
def Obligations.SpindleCommands : Prop :=
  ∀ s : State, s.power.core = true →
    (s.bit SPM_CTRL.ENABLE = false → exec .spmRun s = .next ((s.set SPM_STATUS.ERR_CODE 1).set SPM_INT.CMD_ERR 1)) ∧
    (s.bit SPM_CTRL.ENABLE = true → s.bit SPM_INT.GATE_FAULT = false →
      ((s.get SUP_STATUS.WARN_NOW).testBit 0 = true → exec .spmRun s = .next ((s.set SPM_STATUS.ERR_CODE 4).set SPM_INT.CMD_ERR 1)) ∧
      ((s.get SUP_STATUS.WARN_NOW).testBit 0 = false → (spmMode s = 0 ∨ spmMode s = 2 ∨ spmMode s = 8) →
        (permitted s = true → Gives .spmRun s fun t => spmMode t = 1 ∧ t.spm.crossings = [] ∧ t.spm.senseTries = 0 ∧
          t.get SPM_STATUS.START_TRY = 0 ∧ t.mem = s.mem) ∧
        (permitted s = false → Gives .spmRun s fun t => spmMode t = spmMode s ∧ t.get SPM_STATUS.PERMIT_WAIT = 1 ∧ t.spm.runHeld = true ∧
          t.mem = s.mem))) ∧
    (compActive 0 s = true ∨ compActive 1 s = true → exec .spmStop s = .next ((s.set SPM_STATUS.ERR_CODE 2).set SPM_INT.CMD_ERR 1)) ∧
    (compActive 0 s = false → compActive 1 s = false →
      ((spmMode s = 5 ∨ spmMode s = 6) → Gives .spmStop s fun t => spmMode t = 7 ∧ t.get SPM_STATUS.CHANGING = 0 ∧ t.get SPM_STATUS.GRADE_PEND = 0 ∧
        OnlyRegs [SPM_STATUS.MODE.addr] s t) ∧
      ((spmMode s = 1 ∨ spmMode s = 3 ∨ spmMode s = 4) → Gives .spmStop s fun t => spmMode t = 8 ∧ t.spm.restart = false ∧ t.mem = s.mem)) ∧
    (3 ≤ spmMode s → spmMode s ≤ 7 → exec .spmCoast s = .next { s with spm := { s.spm with coastReq := true } }) ∧
    (spmMode s = 1 ∨ spmMode s = 2 → Gives .spmCoast s fun t => spmMode t = 8 ∧ t.mem = s.mem) ∧
    (Gives .spmGateFault s fun t => t.get SPM_INT.GATE_FAULT = 1 ∧ spmMode t = 8 ∧ t.raised = s.raised ++ [65] ∧ t.mem = s.mem) ∧
    (Gives .spmClrCnt s fun t => t.get SPM_CNT.TRUNC = 0 ∧ t.get SPM_CNT.SHUNT_INV = 0 ∧ t.get SPM_CNT.CATCHES = 0 ∧ t.get SPM_CNT.STARTS = 0 ∧
      OnlyRegs [SPM_CNT.STARTS.addr] s t) ∧
    (∀ (k : Fin 6) (x : BitVec 64),
      (spmMode s ≠ 1 → spmMode s ≠ 8 → Gives (.bemfZeroCrossing k x) s fun t => t.get SPM_STATUS.STOP_SEEN = 0 ∧
        t.spm.crossings = ((s.spm.crossings ++ [(x.toNat, k.val)]).reverse.take 4).reverse ∧
        (t.spm.calMoved = true ↔ s.spm.calMoved = true ∨ spmMode s = 9) ∧ OnlyRegs [SPM_STATUS.MODE.addr] { s with spm := t.spm } t) ∧
      (∀ a b d, spmMode s = 1 → s.spm.caught = none → s.spm.crossings = [a, b, d] → polePairs s ≠ 0 → a.1 < x.toNat →
        crossingOrder 1 [a, b, d, (x.toNat, k.val)] = true →
        Gives (.bemfZeroCrossing k x) s fun t =>
          let rpm := (2 * 3000000000 + polePairs s * (x.toNat - a.1)) / (2 * (polePairs s * (x.toNat - a.1)))
          (spmRec 30 2 s ≤ rpm → t.get SPM_CATCH.RESULT = 2 ∧ t.spm.caught = some (crossingAngle k.val, rpm, x.toNat) ∧ spmMode t = 1 ∧
            t.get SPM_CNT.CATCHES = min (s.get SPM_CNT.CATCHES + 1) 1023) ∧
          (rpm < spmRec 30 2 s → t.get SPM_CATCH.RESULT = 3 ∧ spmMode t = 2 ∧ t.spm.toIps = true) ∧
          t.get SPM_CATCH.RPM = rpm % 2 ^ 16 ∧ t.mem = s.mem)) ∧
    (spmMode s = 1 → s.spm.caught = none → Gives .spmStopWaitExpiry s fun t => spmMode t = 3 ∧ t.get SPM_STATUS.STOP_SEEN = 1 ∧
      t.get SPM_CATCH.RESULT = 1 ∧ t.mem = s.mem) ∧
    (spmMode s = 8 → s.spm.restart = false → Gives .spmStopWaitExpiry s fun t => spmMode t = 0 ∧ t.get SPM_STATUS.STOP_SEEN = 1 ∧ t.mem = s.mem) ∧
    (∀ m : Vector (BitVec 12) 6,
      (spmMode s ≠ 3 → exec (.spmIps m) s = .next s) ∧
      (spmMode s = 3 → (∀ x ∈ m.toList, x.toNat < spmRec 24 2 s) → s.spm.ipsFails < 2 → Gives (.spmIps m) s fun t => spmMode t = 3 ∧
        t.spm.ipsFails = s.spm.ipsFails + 1 ∧ t.get SPM_CNT.STARTS = min (s.get SPM_CNT.STARTS + 1) 1023 ∧ t.mem = s.mem) ∧
      (spmMode s = 3 → spmRec 24 2 s ≤ (m[0]).toNat → 32 ≤ (m[0]).toNat → (∀ k : Fin 6, k ≠ 0 → m[k] = 0) → Gives (.spmIps m) s fun t =>
        spmMode t = 4 ∧ t.spm.theta = 0 ∧ t.spm.olSpeed = 0 ∧ t.spm.ipsFails = 0 ∧ t.mem = s.mem))

/-- Grades, samples, outputs and calibration of the spindle. A grade request is refused on the FQX-1408 and else sets REQ; a
change asked for starts with a checked bank of its grade, completes when its grade runs at speed, and is reported over time;
demand is the last second's bytes; a sample set that is not timely is not valid, one at the offsets is zero current; outputs of
zero volts put every edge at half duty; a calibration runs only in STOPPED and ends with its code; V12 levels set and clear the
holds (R332, R339, R353 to R363, R696). -/
def Obligations.SpindleGradesAndMeasures : Prop :=
  ∀ s : State, s.power.core = true →
    (∀ v : BitVec 2,
      (s.variant1408 = true → exec (.spmGradeReqWrite v) s = .next ((s.set SPM_STATUS.ERR_CODE 3).set SPM_INT.CMD_ERR 1)) ∧
      (s.variant1408 = false → Gives (.spmGradeReqWrite v) s fun t => t.get SPM_GRADE.REQ = v.toNat ∧
        t.get SPM_STATUS.TARGET = min v.toNat (s.get SPM_GRADE.MAX) ∧ spmMode t = spmMode s ∧
        OnlyRegs [SPM_GRADE.REQ.addr, SPM_STATUS.TARGET.addr, SPM_INT.GRADE_START.addr] s t)) ∧
    (∀ v : BitVec 16, Gives (.spmAngleOffsetWrite v) s fun t => t.get SPM_ANGLE.OFFSET = v.toNat ∧ t.get SPM_STATUS.OFFSET_VALID = 1 ∧
      OnlyRegs [SPM_ANGLE.OFFSET.addr, SPM_STATUS.OFFSET_VALID.addr] s t) ∧
    (s.bit SPM_STATUS.GRADE_PEND = true → s.bit SPM_STATUS.CHANGING = false → s.bit CLE_BANK.CHECK_OK = true →
      bankGrade (inactiveBank s) s = s.get SPM_STATUS.TARGET → Gives .gradeChangeStart s fun t => t.get SPM_STATUS.CHANGING = 1 ∧
        t.get SPM_STATUS.GRADE_PEND = 0 ∧ t.get SPM_STATUS.SPEED_OK = 0 ∧ t.spm.goal = s.get SPM_STATUS.TARGET ∧
        (t.spm.switchWanted = true ↔ s.get SPM_STATUS.TARGET ≤ s.get SPM_STATUS.GRADE_ACT) ∧ t.mem = s.mem) ∧
    (s.bit CLE_BANK.CHECK_OK = false → exec .gradeChangeStart s = .next s) ∧
    (s.bit SPM_STATUS.CHANGING = true → s.spm.switchWanted = false → s.bit CLE_BANK.SWITCH_PEND = false → s.bit SPM_STATUS.SPEED_OK = true →
      bankGrade (activeBank s) s = s.spm.goal → s.spm.goal < 4 → Gives .gradeChangeDone s fun t => t.get SPM_STATUS.CHANGING = 0 ∧
        t.get SPM_STATUS.GRADE_ACT = s.spm.goal ∧ t.get SPM_INT.GRADE_DONE = 1 ∧ t.mem = s.mem) ∧
    (s.bit SPM_STATUS.CHANGING = true → exec .gradeChangeOvertime s =
      .next { s.set SPM_INT.OVERTIME 1 with raised := s.raised ++ [64] }) ∧
    (s.bit SPM_STATUS.CHANGING = false → exec .gradeChangeOvertime s = .next s) ∧
    (s.variant1408 = false → Gives .demandSample s fun t =>
      t.get SPM_DEMAND.MBPS = min 0xFFFF (((s.spm.movedNow :: s.spm.moved).take 10).sum / 1000000) ∧ t.spm.movedNow = 0 ∧
      t.spm.moved = (s.spm.movedNow :: s.spm.moved).take 10 ∧ OnlyRegs [SPM_DEMAND.MBPS.addr] { s with spm := t.spm } t) ∧
    (∀ a b c : BitVec 12, spmRec 1 1 s = 1 →
      (Gives (.spmSampleSet a b c false) s fun t => t.get SPM_STATUS.SAMPLES_OK = 0 ∧ OnlyRegs [SPM_STATUS.SAMPLES_OK.addr] s t) ∧
      (a.toNat = s.get SPM_IOFS.OFS_A → b.toNat = s.get SPM_IOFS.OFS_B → c.toNat = s.get SPM_IOFS.OFS_C →
        (∀ x ∈ [a, b, c], x ≠ 0x800#12 ∧ x ≠ 0x7FF#12) → spmRec 4 4 s * iMax s ≠ 0 → spmMode s < 3 →
        Gives (.spmSampleSet a b c true) s fun t => t.get SPM_STATUS.SAMPLES_OK = 1 ∧ t.spm.id = 0 ∧ t.spm.iq = 0 ∧
          t.spm.setStart = some s.spm.start ∧ t.get SPM_CURR.ID = 0 ∧ t.get SPM_CURR.IQ = 0 ∧
          OnlyRegs [SPM_STATUS.SAMPLES_OK.addr, SPM_CURR.ID.addr] { s with spm := t.spm } t)) ∧
    (spmMode s < 4 ∨ 7 < spmMode s → exec .spmOutputApply s = .next s) ∧
    (4 ≤ spmMode s → spmMode s ≤ 7 → s.spm.released = (0, 0) → spmRec 1 1 s = 1 → Gives .spmOutputApply s fun t =>
      t.get SPM_VOLT.VD = 0 ∧ t.get SPM_VOLT.VQ = 0 ∧ t.get SPM_STATUS.V_SAT = 0 ∧ t.get SPM_VOLT.V12 = s.get (SUP_RAIL.MV 0) / 100 % 256 ∧
      t.spm.nextEdges = List.replicate 3 ((s.spm.len + 2) / 4, (3 * s.spm.len + 2) / 4) ∧
      OnlyRegs [SPM_STATUS.V_SAT.addr, SPM_VOLT.VD.addr] { s with spm := t.spm } t) ∧
    (spmMode s ≠ 0 → exec .spmCalStart s = .next (s.set SPM_CAL.RESULT 2)) ∧
    (spmMode s = 0 → Gives .spmCalStart s fun t => spmMode t = 9 ∧ t.get SPM_CAL.BUSY = 1 ∧ t.get SPM_CAL.RESULT = 1 ∧ t.spm.calMoved = false ∧
      t.mem = s.mem) ∧
    (∀ (sa sb sc : Int) (pa pb pc : Nat) (temp : BitVec 8), spmMode s = 9 → spmRec 1 1 s = 1 → s.spm.runHeld = false →
      (s.spm.calMoved = true → Gives (.spmCalDone sa sb sc pa pb pc temp) s fun t => spmMode t = 0 ∧ t.get SPM_CAL.RESULT = 8 ∧
        t.get SPM_CAL.BUSY = 0 ∧ t.get SPM_INT.CAL_DONE = 1 ∧ t.get SPM_IOFS.OFS_A = s.get SPM_IOFS.OFS_A ∧ t.mem = s.mem) ∧
      (s.spm.calMoved = false → max pa (max pb pc) ≤ s.get SPM_CAL.SPREAD →
        (∀ x ∈ [sa, sb, sc], (roundShift x 10).natAbs ≤ 255) → Gives (.spmCalDone sa sb sc pa pb pc temp) s fun t =>
          spmMode t = 0 ∧ t.get SPM_CAL.RESULT = 0 ∧ t.get SPM_CAL.BUSY = 0 ∧ t.get SPM_INT.CAL_DONE = 1 ∧
          t.get SPM_IOFS.OFS_A = ofS 12 (roundShift sa 10) ∧ t.get SPM_IOFS.OFS_B = ofS 12 (roundShift sb 10) ∧
          t.get SPM_IOFS.OFS_C = ofS 12 (roundShift sc 10) ∧
          ∀ x, x < mramBase + s.get SPM_CAL.REC_ADDR ∨ mramBase + s.get SPM_CAL.REC_ADDR + 32 ≤ x → t.readByte x = s.readByte x)) ∧
    (s.power.retention = true → ∀ mv : BitVec 16,
      (mv.toNat < 12940 → Gives (.v12OvCrossing mv) s fun t => t.get SUP_STATUS.OV_HOLD = 0 ∧ t.get SUP_STATUS.OV_DUMP = 0 ∧
        t.get SPM_STATUS.BRAKE_HOLD = 0 ∧ t.get SPM_STATUS.DUMP = 0 ∧ t.mem = s.mem) ∧
      (13800 < mv.toNat → s.bit SUP_STATUS.OV_DUMP = false → Gives (.v12OvCrossing mv) s fun t => t.get SUP_STATUS.OV_HOLD = 1 ∧
        t.get SUP_STATUS.OV_DUMP = 1 ∧ t.get SPM_STATUS.BRAKE_HOLD = 1 ∧ t.get SPM_STATUS.DUMP = 1 ∧ t.get SUP_INT.OV = 1 ∧
        t.get SPM_INT.DUMP = 1 ∧ t.mem = s.mem))

/-- Control store, fetch, sequencing, interrupts and program ends. While halted a control store write stores its quarter with
valid parity, while running it gets a bus error; a read answers the quarter, or a bus error on bad parity. RUN starts clean, HALT
halts at a boundary, ATTN latches; a fetch issues a legal word and halts on a bad one; NEXT picks the next word; a wait that times
out completes without its action; an enabled interrupt pushes PC; a program ends with its status, and COPY_DONE moves the ring
slot (R370 to R378, R383 to R391). -/
def Obligations.FormatterSequencer : Prop :=
  ∀ (n : Fin 2) (s : State), s.unitOn n.val = true →
    (∀ (w : BitVec 12) (q : Fin 4) (v : BitVec 32),
      (s.bit (FMS_STATUS.HALTED n.val) = true → Gives (.controlStoreWrite n w q v) s fun t => t.resp = .ok ∧
        (storeQuarter n (4 * w.toNat + q.val) t).toNat % 2 ^ 32 = v.toNat ∧ quarterOk (storeQuarter n (4 * w.toNat + q.val) t) = true ∧
        (∀ k, k ≠ 4 * w.toNat + q.val → storeQuarter n k t = storeQuarter n k s) ∧ t = { s with fms := t.fms, resp := .ok }) ∧
      (s.bit (FMS_STATUS.HALTED n.val) = false → s.bit (FMS_STATUS.WREJ n.val) = false → Gives (.controlStoreWrite n w q v) s fun t =>
        t.resp = .busError ∧ t.fms = s.fms ∧ t.raised = s.raised ++ [48 + n.val] ∧ t.get (FMS_STATUS.WREJ n.val) = 1 ∧
        t.get (FMS_WREJ.WORD n.val) = w.toNat ∧ t.get (FMS_WREJ.QUARTER n.val) = q.val) ∧
      (quarterOk (storeQuarter n (4 * w.toNat + q.val) s) = true → exec (.controlStoreRead n w q) s =
        .next { s with resp := .data (BitVec.ofNat 40 ((storeQuarter n (4 * w.toNat + q.val) s).toNat % 2 ^ 32)) }) ∧
      (quarterOk (storeQuarter n (4 * w.toNat + q.val) s) = false → Gives (.controlStoreRead n w q) s fun t => t.resp = .busError ∧
        t.get (FMS_PAR.VALID n.val) = 1 ∧ t.get (FMS_PAR.ILLEGAL n.val) = 0 ∧ t.get (FMS_PAR.WORD n.val) = w.toNat ∧
        t.get (FMS_PAR.QUARTER n.val) = q.val)) ∧
    (∀ start : BitVec 12,
      (s.bit (FMS_STATUS.HALTED n.val) = true → Gives (.fmsRun n start) s fun t => t.get (FMS_STATUS.HALTED n.val) = 0 ∧
        t.get (FMS_STATUS.PC n.val) = start.toNat ∧ t.fms[n].stack = [] ∧ t.fms[n].lc = .replicate 4 0 ∧ t.fms[n].flags = 0 ∧
        t.fms[n].events = [] ∧ t.fms[n].word = none ∧ t.fms[n].store = s.fms[n].store ∧ t.mem = s.mem) ∧
      (s.bit (FMS_STATUS.HALTED n.val) = false → exec (.fmsRun n start) s = .next (s.set (FMS_CTRL.START_ADDR n.val) start.toNat))) ∧
    (s.bit (FMS_STATUS.HALTED n.val) = false → s.fms[n].word = none → s.fms[n].prog = none → Gives (.fmsHalt n) s fun t =>
      t.get (FMS_STATUS.HALTED n.val) = 1 ∧ t.get (FMS_STATUS.HALT_CAUSE n.val) = 2 ∧ t.get (FMS_INT.HALTED n.val) = 1 ∧ t.mem = s.mem) ∧
    (Gives (.fmsAttn n) s fun t => 0x17 ∈ t.fms[n].events ∧ (t.get (FMS_IRQ.PEND n.val)).testBit 0 = true ∧
      OnlyRegs [(FMS_IRQ.PEND n.val).addr] { s with fms := t.fms } t) ∧
    (s.bit (FMS_STATUS.HALTED n.val) = false → s.fms[n].word = none →
      (∀ v : Fin 4 → Nat, (∀ k : Fin 4, quarterOk (storeQuarter n (4 * s.get (FMS_STATUS.PC n.val) + k.val) s) = true ∧
          v k = (storeQuarter n (4 * s.get (FMS_STATUS.PC n.val) + k.val) s).toNat % 2 ^ 32) →
        ∀ w : BitVec 128, w.toNat = v 0 + v 1 * 2 ^ 32 + v 2 * 2 ^ 64 + v 3 * 2 ^ 96 →
        (mwIllegal w = false → Gives (.microwordFetch n) s fun t => t.fms[n].word = some w ∧ t.get (FMS_STATUS.PC n.val) = s.get (FMS_STATUS.PC n.val) ∧
          (t.get (FMS_STATUS.WAITING n.val) = 0 ↔ waitOver n w s = true) ∧ t.mem = s.mem) ∧
        (mwIllegal w = true → s.fms[n].prog = none → Gives (.microwordFetch n) s fun t => t.get (FMS_STATUS.HALTED n.val) = 1 ∧
          t.get (FMS_STATUS.HALT_CAUSE n.val) = 4 ∧ t.get (FMS_PAR.ILLEGAL n.val) = 1 ∧ t.raised = s.raised ++ [50 + n.val]))) ∧
    (∀ w : BitVec 128, s.fms[n].word = some w → s.bit (FMS_STATUS.HALTED n.val) = false → s.fms[n].haltReq = false →
      (mwAct w = 0 → mwWait w = 0 →
        (mwNext w = 0 → Gives (.mwNop n) s fun t => t.get (FMS_STATUS.PC n.val) = (s.get (FMS_STATUS.PC n.val) + 1) % 4096 ∧ t.fms[n].word = none ∧
          t.mem = s.mem) ∧
        (mwNext w = 1 → Gives (.mwNop n) s fun t => t.get (FMS_STATUS.PC n.val) = mwTarget w ∧ t.fms[n].word = none) ∧
        (mwNext w = 4 → s.fms[n].stack.length < 4 → Gives (.mwNop n) s fun t => t.get (FMS_STATUS.PC n.val) = mwTarget w ∧
          t.fms[n].stack = (s.get (FMS_STATUS.PC n.val) + 1) % 4096 :: s.fms[n].stack) ∧
        (mwNext w = 4 → 4 ≤ s.fms[n].stack.length → s.fms[n].prog = none → Gives (.mwNop n) s fun t => t.get (FMS_STATUS.HALTED n.val) = 1 ∧
          t.get (FMS_STATUS.HALT_CAUSE n.val) = 5) ∧
        (mwNext w = 7 → s.fms[n].prog = none → Gives (.mwNop n) s fun t => t.get (FMS_STATUS.HALTED n.val) = 1 ∧
          t.get (FMS_STATUS.HALT_CAUSE n.val) = 1)) ∧
      (mwTimeout w ≠ 0 → waitOver n w s = false → mwNext w = 0 → Gives (.microwordWaitTimeout n) s fun t =>
        t.get (FMS_STATUS.PC n.val) = (s.get (FMS_STATUS.PC n.val) + 1) % 4096 ∧ t.fms[n].timeout = true ∧ t.fms[n].word = none ∧
        t.fms[n].lc = s.fms[n].lc ∧ t.fms[n].flags = s.fms[n].flags ∧ t.mem = s.mem)) ∧
    (∀ k : Fin 8, (s.get (FMS_IRQ.PEND n.val) &&& s.get (FMS_IRQ.EN n.val)).testBit k.val = true →
      (∀ j < k, (s.get (FMS_IRQ.PEND n.val) &&& s.get (FMS_IRQ.EN n.val)).testBit j.val = false) → s.bit (FMS_STATUS.HALTED n.val) = false →
      s.bit (FMS_STATUS.IN_IRQ n.val) = false → s.fms[n].word = none → s.fms[n].stack.length < 4 → Gives (.fmsIrqTake n) s fun t =>
        t.get (FMS_STATUS.PC n.val) = 8 + k.val ∧ t.fms[n].stack = s.get (FMS_STATUS.PC n.val) :: s.fms[n].stack ∧
        t.get (FMS_STATUS.IN_IRQ n.val) = 1 ∧ (t.get (FMS_IRQ.PEND n.val)).testBit k.val = false ∧ t.mem = s.mem) ∧
    (∀ (p : TrackProg) (d : BitVec 12), s.fms[n].prog = some p → p.stop = true → Gives (.trackProgramEnd n d) s fun t => t.fms[n].prog = none ∧
      t.get (FMS_PROG.STATUS n.val) = 1 ∧ t.get (FMS_STATUS.ACTIVE n.val) = 0 ∧ t.get (FMS_INT.PROG_END n.val) = 1 ∧
      t.get (FMS_TPQ_PTR.HEAD n.val) = (s.get (FMS_TPQ_PTR.HEAD n.val) + 1) % tpqSize n s ∧ 4 ∈ t.fms[n].events ∧
      (t.readByte p.tpdAddr).getLsbD 7 = false ∧ t.readByte (p.tpdAddr + 58) = 1) ∧
    (∀ x : RingCopy, s.fms[n].copies = [x] → x.done = false → (∀ k, k = 8 + leAt x.tpd 24 1 % 8 → dmaServes k s = true ∧ viaOk k true x.buf 81920 s = true) →
      Gives (.fmsCopyDone n) s fun t => t.fms[n].copies = [{ x with done := true }] ∧ 0x0A ∈ t.fms[n].events ∧
        (t.get (FMS_IRQ.PEND n.val)).testBit 5 = true ∧
        t.mem = (s.writeVia (8 + leAt x.tpd 24 1 % 8) x.buf (s.readBytes (ringSlotAddr (fmsDc n x.chan) x.slot) 81920)).mem)

/-- The actions of microwords. A word of each action, with its wait over and NEXT 0, performs the action, and the sequencer goes
on to PC + 1: FLAG, LDLC and EVT set their flag, counter and event bit; WR and RD move a value to or from a register of the half;
SEG OPEN opens the program or refuses it with its code; STEP prepares the next field; ABORT ends the program with status 2; COPY
and POST pass a held ring slot on; REWRITE hands a flagged slot back (R375, R379, R380, R386 to R394). -/
def Obligations.MicrowordActions : Prop :=
  ∀ (n : Fin 2) (w : BitVec 128) (s : State), s.unitOn n.val = true → s.fms[n].word = some w → s.bit (FMS_STATUS.HALTED n.val) = false →
    s.fms[n].haltReq = false → mwWait w = 0 → mwNext w = 0 →
    (∀ p ∈ [(Instr.mwNop n, 0), (.mwWr n, 1), (.mwRd n, 2), (.mwSegOpen n, 3), (.mwSegStep n, 3), (.mwSegAbort n, 3), (.mwCopy n, 4),
        (.mwPost n, 5), (.mwFlag n, 6), (.mwLdlc n, 7), (.mwEvt n, 8), (.mwRewrite n, 9)],
      mwAct w ≠ p.2 → exec p.1 s = .next s) ∧
    (mwAct w = 6 → Gives (.mwFlag n) s fun t => t.get (FMS_STATUS.PC n.val) = (s.get (FMS_STATUS.PC n.val) + 1) % 4096 ∧
      (∀ k : Fin 8, t.fms[n].flags.getLsbD k.val = if k.val = mwArg w % 8 then (mwArg w).testBit 3 else s.fms[n].flags.getLsbD k.val) ∧
      OnlyRegs [(FMS_STATUS.PC n.val).addr] { s with fms := t.fms } t) ∧
    (mwAct w = 7 → Gives (.mwLdlc n) s fun t => t.get (FMS_STATUS.PC n.val) = (s.get (FMS_STATUS.PC n.val) + 1) % 4096 ∧
      t.fms[n].lc = s.fms[n].lc.set (mwLc w) (BitVec.ofNat 16 (mwImm w)) ∧ OnlyRegs [(FMS_STATUS.PC n.val).addr] { s with fms := t.fms } t) ∧
    (mwAct w = 8 → Gives (.mwEvt n) s fun t => t.get (FMS_STATUS.PC n.val) = (s.get (FMS_STATUS.PC n.val) + 1) % 4096 ∧
      t.get (FMS_INT.MEV n.val) = s.get (FMS_INT.MEV n.val) ||| 2 ^ (mwArg w % 8) ∧
      OnlyRegs [(FMS_STATUS.PC n.val).addr, (FMS_INT.MEV n.val).addr] { s with fms := t.fms } t) ∧
    (mwUnit w = 4 → mwReg w = ((SVD_TARGET.TARGET 0).addr - 0x0F00280000) / 8 →
      (mwAct w = 1 → mwSrc w = 0 → Gives (.mwWr n) s fun t => t.get (FMS_STATUS.PC n.val) = (s.get (FMS_STATUS.PC n.val) + 1) % 4096 ∧
        t.get (SVD_TARGET.TARGET (2 * n.val)) = mwImm w % 2 ^ (SVD_TARGET.TARGET 0).len ∧
        OnlyRegs [(FMS_STATUS.PC n.val).addr, (SVD_TARGET.TARGET (2 * n.val)).addr] { s with fms := t.fms } t) ∧
      (mwAct w = 2 → Gives (.mwRd n) s fun t => t.get (FMS_STATUS.PC n.val) = (s.get (FMS_STATUS.PC n.val) + 1) % 4096 ∧
        t.get (FMS_CTX.VALUE n.val (mwArg w % 8)) = (s.regWord (SVD_TARGET.TARGET (2 * n.val)).addr (SVD_TARGET.TARGET 0).rst).toNat ∧
        OnlyRegs [(FMS_STATUS.PC n.val).addr, (FMS_CTX.VALUE n.val (mwArg w % 8)).addr] { s with fms := t.fms } t)) ∧
    (mwAct w = 3 → mwArg w = 0 →
      (tpdReady n s = false ∨ s.fms[n].prog ≠ none → Gives (.mwSegOpen n) s fun t => t.get (FMS_INT.SEQ_ERR n.val) = 1 ∧ t.fms[n].prog = s.fms[n].prog ∧
        t.mem = s.mem) ∧
      (tpdReady n s = true → s.fms[n].prog = none → ∀ tp, tp = s.readBytes (tpdAddr n s) 64 →
        (∀ code, openCheck n tp s = .error code → Gives (.mwSegOpen n) s fun t => t.fms[n].prog = none ∧ t.get (FMS_INT.REFUSED n.val) = 1 ∧
          t.get (FMS_PROG.STATUS n.val) = code % 2 ^ (FMS_PROG.STATUS n.val).len ∧
          (t.readByte (tpdAddr n s)).getLsbD 7 = false) ∧
        (∀ p0 p1, openCheck n tp s = .ok (p0, p1) → leAt tp 0 1 % 4 = 0 → Gives (.mwSegOpen n) s fun t =>
          t.fms[n].prog = some { tpdAddr := tpdAddr n s, tpd := tp, plan0 := p0, plan1 := p1 } ∧
          t.get (FMS_STATUS.ACTIVE n.val) = 1 ∧ t.get (FMS_PROG.SLOT n.val) = leAt tp 20 2 % 2 ^ (FMS_PROG.SLOT n.val).len ∧ t.mem = s.mem))) ∧
    (∀ p, mwAct w = 3 → mwArg w = 1 → s.fms[n].prog = some p →
      (p.finished = true → Gives (.mwSegStep n) s fun t => t.fms[n].prog = some p ∧
        t.get (FMS_STATUS.PC n.val) = (s.get (FMS_STATUS.PC n.val) + 1) % 4096 ∧ t.psl = s.psl) ∧
      (p.finished = false → p.stop = false → fieldPieces p.tpd p.begun (fieldSegments n p.plan0 ((s.svd[fmsDc n 0].index + 1) % 512) s) ≠ [] →
        Gives (.mwSegStep n) s fun t => (t.fms[n].prog.map fun x => (x.begun, x.tpd)) = some (true, p.tpd) ∧
          t.get (FMS_PROG.WEDGE n.val) = (s.svd[fmsDc n 0].index + 1) % 512 ∧
          t.get (FMS_STATUS.PC n.val) = (s.get (FMS_STATUS.PC n.val) + 1) % 4096 ∧ t.mem = s.mem)) ∧
    (∀ p, mwAct w = 3 → mwArg w = 2 → s.fms[n].prog = some p → Gives (.mwSegAbort n) s fun t => t.fms[n].prog = none ∧
      t.get (FMS_PROG.STATUS n.val) = 2 ∧ t.get (FMS_INT.PROG_END n.val) = 1 ∧ t.get (FMS_STATUS.ACTIVE n.val) = 0 ∧ t.get (WP_STATUS.WG n.val) = 0 ∧
      t.get (FMS_STATUS.PC n.val) = (s.get (FMS_STATUS.PC n.val) + 1) % 4096) ∧
    (mwAct w = 4 → mwArg w = 0 →
      (oldestUncopied n 0 s = none → Gives (.mwCopy n) s fun t => t.get (FMS_INT.SEQ_ERR n.val) = 1 ∧ t.fms[n].copies = s.fms[n].copies) ∧
      (∀ k p, oldestUncopied n 0 s = some k → s.fms[n].prog = some p → copyFree n s = true → Gives (.mwCopy n) s fun t =>
        (t.fms[n].copies.map fun x => (x.chan, x.slot, x.done)) = (s.fms[n].copies.map fun x => (x.chan, x.slot, x.done)) ++ [(0, k, false)] ∧
        t.get (FMS_COPY_PTR.PROD n.val) = (s.get (FMS_COPY_PTR.PROD n.val) + 1) % copySize n s ∧ t.mem = s.mem)) ∧
    (mwAct w = 5 → mwArg w = 0 →
      (s.fms[n].copies = [] → Gives (.mwPost n) s fun t => t.get (FMS_INT.SEQ_ERR n.val) = 1 ∧ t.mem = s.mem) ∧
      (∀ x, s.fms[n].copies = [x] → x.chan = 0 → x.done = true → Gives (.mwPost n) s fun t => t.fms[n].copies = [] ∧
        (∀ a b, b = 32 * s.get (DET_BB_BASE.BASE (2 * n.val)) + 32 * s.get (DET_BB_TAIL.TAIL (2 * n.val)) → a < b ∨ b + 32 ≤ a →
          t.readByte a = s.readByte a) ∧
        t.readByte (32 * s.get (DET_BB_BASE.BASE (2 * n.val)) + 32 * s.get (DET_BB_TAIL.TAIL (2 * n.val))) = 0x80)) ∧
    (∀ x r, mwAct w = 9 → s.wp[n].flagged = x :: r → Gives (.mwRewrite n) s fun t => t.wp[n].flagged = r ∧ t.wp[n].owed = s.wp[n].owed ++ [x] ∧
      t.get (FMS_STATUS.PC n.val) = (s.get (FMS_STATUS.PC n.val) + 1) % 4096 ∧ OnlyRegs [(FMS_STATUS.PC n.val).addr] { s with fms := t.fms, wp := t.wp } t)

/-- Reads and writes of protected rows and blocks. A read of a row without wrong bits gives its data and poison and changes
nothing else; one wrong bit, or one or two wrong symbols of a DRAM block, is corrected and counted; two wrong bits, or three to
five symbols, give the mark (a bus error to the debug port), are captured the first time and raise the source of the memory. A
full row stores data and poison, a part of a row is merged; memory that is off or absent answers an error (R398, R399, R408, R409,
R414, R415). -/
def Obligations.ProtectedRows : Prop :=
  ∀ (s : State) (a : BitVec 40) (req : Fin 5),
    (memoryOf a.toNat = none → ∀ u p l, exec (.protectedRowRead req a u) s = .next { s with resp := .decodeError } ∧
      exec (.partialWriteRmw req p a l) s = .next { s with resp := .decodeError }) ∧
    (∀ m, memoryOf a.toNat = some m → memoryOn a.toNat s = false → ∀ u p l,
      exec (.protectedRowRead req a u) s = .next { s with resp := .busError } ∧
      exec (.partialWriteRmw req p a l) s = .next { s with resp := .busError }) ∧
    (∀ m, memoryOf a.toNat = some m → memoryOn a.toNat s = true → ∀ upset : BitVec 576,
      let u := upsetAt a.toNat upset.toNat s
      let wrong := if m = 4 then badSymbols (u.block a.toNat) else popCount 73 (u.row a.toNat).flip
      let row : Resp := .row (goodRow a.toNat s) (s.row a.toNat).poison
      (wrong = 0 → exec (.protectedRowRead req a upset) s = .next { u with resp := row }) ∧
      (m ≠ 4 → wrong = 1 → Gives (.protectedRowRead req a upset) s fun t => t.resp = row ∧ t.get MEM_INT.CE = 1 ∧
        t.get MEM_CE_LAST.ADDR = a.toNat / 8 % 2 ^ 37 ∧ t.get MEM_CE_LAST.MEMORY = m.val % 4 ∧ t.mem = s.mem ∧
        (m = 2 → t.get MEM_CE.LARDER = min (s.get MEM_CE.LARDER + 1) 1023)) ∧
      (m = 4 → wrong = 1 ∨ wrong = 2 → Gives (.protectedRowRead req a upset) s fun t => t.resp = row ∧ t.get DRC_INT.CE = 1 ∧
        (wrong = 1 → t.get DRC_CE.CE1 = min (s.get DRC_CE.CE1 + 1) (2 ^ DRC_CE.CE1.len - 1) ∧ t.get DRC_CE.CE2 = s.get DRC_CE.CE2) ∧
        (wrong = 2 → t.get DRC_CE.CE2 = min (s.get DRC_CE.CE2 + 1) (2 ^ DRC_CE.CE2.len - 1) ∧ t.get DRC_CE.CE1 = s.get DRC_CE.CE1) ∧
        t.mem = s.mem) ∧
      ((if m = 4 then 3 ≤ wrong ∧ wrong ≤ 5 else wrong = 2) → Gives (.protectedRowRead req a upset) s fun t =>
        t.resp = (if req = 4 then .busError else .uncorrectable) ∧ t.raised = s.raised ++ [72 + m.val] ∧ t.mem = s.mem ∧
        (m = 4 → t.get DRC_INT.UE = 1 ∧
          (s.bit DRC_UE_INFO.VALID = false → t.get DRC_UE_ADDR.ADDR = a.toNat / 64 % 2 ^ DRC_UE_ADDR.ADDR.len ∧ t.get DRC_UE_INFO.VALID = 1 ∧
            t.get DRC_UE_INFO.REQ = req.val ∧ t.get DRC_UE_INFO.MULTI = 0) ∧
          (s.bit DRC_UE_INFO.VALID = true → t.get DRC_UE_ADDR.ADDR = s.get DRC_UE_ADDR.ADDR ∧ t.get DRC_UE_INFO.MULTI = 1)) ∧
        (m ≠ 4 → t.get MEM_INT.UE = 1 ∧
          (s.bit MEM_UE_INFO.VALID = false → t.get MEM_UE_ADDR.ADDR = a.toNat / 8 * 8 % 2 ^ 40 ∧ t.get MEM_UE_INFO.VALID = 1 ∧
            t.get MEM_UE_INFO.REQ = req.val ∧ t.get MEM_UE_INFO.MEMORY = m.val ∧ t.get MEM_UE_INFO.MULTI = 0) ∧
          (s.bit MEM_UE_INFO.VALID = true → t.get MEM_UE_ADDR.ADDR = s.get MEM_UE_ADDR.ADDR ∧ t.get MEM_UE_INFO.MULTI = 1)))) ∧
    (∀ m p l, memoryOf a.toNat = some m → memoryOn a.toNat s = true → m ≠ 3 → m ≠ 4 → s.bit MEM_FLIP_CTL.ARM = false →
      0 < l.length → a.toNat % 8 + l.length ≤ 8 →
      (l.length = 8 → Gives (.partialWriteRmw req p a l) s fun t => t.readBytes a.toNat 8 = l ∧ t.row a.toNat = { poison := p, flip := 0 } ∧
        t.resp = .ok ∧ t.regs = s.regs ∧ ∀ b, b < a.toNat ∨ a.toNat + 8 ≤ b → t.readByte b = s.readByte b) ∧
      (l.length < 8 → popCount 73 (s.row a.toNat).flip = 0 → Gives (.partialWriteRmw req p a l) s fun t => t.readBytes a.toNat l.length = l ∧
        t.row a.toNat = { poison := p || (s.row a.toNat).poison, flip := 0 } ∧ t.resp = .ok ∧ t.regs = s.regs ∧
        ∀ b, b < a.toNat ∨ a.toNat + l.length ≤ b → t.readByte b = s.readByte b) ∧
      (l.length < 8 → popCount 73 (s.row a.toNat).flip = 2 → Gives (.partialWriteRmw req p a l) s fun t => t.readBytes a.toNat l.length = l ∧
        t.row a.toNat = { poison := true, flip := 0 } ∧ t.resp = .ok ∧ t.raised = s.raised ++ [72 + m.val] ∧
        ∀ b, b < a.toNat / 8 * 8 ∨ a.toNat / 8 * 8 + 8 ≤ b → t.readByte b = s.readByte b)) ∧
    (∀ p l, memoryOf a.toNat = some 4 → memoryOn a.toNat s = true → s.bit DRC_INJECT.ARM = false →
      0 < l.length → a.toNat % 64 + l.length ≤ 64 → badSymbols (s.block a.toNat) = 0 →
      Gives (.partialWriteRmw req p a l) s fun t => t.readBytes a.toNat l.length = l ∧ t.block a.toNat = 0 ∧ t.resp = .ok ∧ t.regs = s.regs ∧
        ∀ b, b < a.toNat ∨ a.toNat + l.length ≤ b → t.readByte b = s.readByte b)

/-- Fills of the SRAMs, scrubbing, and the counts of MEM and DRC. A fill that fits starts, one that does not or comes while one
runs is ignored with INIT_ERR; at its end its groups read 0 with P = 0 and all else is as it was. A scrubber takes the next group
only when enabled and GAP has passed, writes back a correctable row or block with its P, counts it, and wraps at the end of the
memory; data never changes. The retention scrubber's lap stores its times, counts errors and reports an uncorrectable row (R411 to
R413, R418 to R420). -/
def Obligations.FillsAndScrubs : Prop :=
  ∀ s : State, s.power.core = true →
    (∀ w : BitVec 40,
      (s.bit MEM_INIT.BUSY = true → exec (.memInitGo w) s = .next (s.set MEM_INT.INIT_ERR 1)) ∧
      (s.bit MEM_INIT.BUSY = false → Gives (.memInitGo w) s fun t => t.get MEM_INIT.TARGET = bits w.toNat 36 2 ∧
        t.get MEM_INIT.COUNT = bits w.toNat 17 17 ∧ t.get MEM_INIT.START = bits w.toNat 0 17 ∧
        (bits w.toNat 0 17 + bits w.toNat 17 17 + 1 ≤ fillGroups (bits w.toNat 36 2) → t.get MEM_INIT.BUSY = 1 ∧
          t.memu.fill = some (bits w.toNat 36 2, bits w.toNat 0 17, bits w.toNat 17 17 + 1) ∧
          OnlyRegs [MEM_INIT.BUSY.addr] { s with memu := t.memu } t) ∧
        (fillGroups (bits w.toNat 36 2) < bits w.toNat 0 17 + bits w.toNat 17 17 + 1 → t.get MEM_INIT.BUSY = 0 ∧
          t.get MEM_INT.INIT_ERR = 1 ∧ OnlyRegs [MEM_INIT.BUSY.addr, MEM_INT.INIT_ERR.addr] s t))) ∧
    (s.memu.fill = none → exec .memInitDone s = .next s) ∧
    (∀ k b n, s.memu.fill = some (k, b, n) → Gives .memInitDone s fun t =>
      let lo := (if k = 0 then 0x0010000000 else 0x0020000000) + 64 * b
      (∀ x, lo ≤ x → x < lo + 64 * n → t.readByte x = 0 ∧ t.row x = {}) ∧
      (∀ x, x < lo ∨ lo + 64 * n ≤ x → t.readByte x = s.readByte x) ∧ t.memu.fill = none ∧
      t.get MEM_INIT.BUSY = 0 ∧ t.get MEM_INT.INIT_DONE = 1 ∧
      OnlyRegs [MEM_INIT.BUSY.addr, MEM_INT.INIT_DONE.addr] { s with mem := t.mem, memu := t.memu } t) ∧
    (Gives .memClrCnt s fun t => t.get MEM_CE.MAIN = 0 ∧ t.get MEM_CE.PANTRY = 0 ∧ t.get MEM_CE.LARDER = 0 ∧ t.get MEM_CE.ROM = 0 ∧
      OnlyRegs [MEM_CE.MAIN.addr] s t) ∧
    (Gives .drcClrCnt s fun t => t.get DRC_CE.CE1 = 0 ∧ t.get DRC_CE.CE2 = 0 ∧ OnlyRegs [DRC_CE.CE1.addr] s t) ∧
    (∀ (k : Fin 3) (upset : BitVec 584), scrubMay k s = false → exec (.scrubGroup k upset) s = .next s) ∧
    (∀ (k : Fin 3) (upset : BitVec 584), scrubMay k s = true →
      let pos := s.memu.scrubs[k.castSucc].pos
      let last := if k = 2 then dramEnd s ≤ 0x1000000000 + 64 * pos + 64 else fillGroups k.val ≤ pos + 1
      Gives (.scrubGroup k upset) s fun t => t.memu.scrubs[k.castSucc].pos = (if last then 0 else pos + 1) ∧
        t.memu.scrubs[k.castSucc].last = some s.now ∧ t.mem = s.mem ∧
        (k = 2 → memoryOf (0x1000000000 + 64 * pos) = some 4 → s.block (0x1000000000 + 64 * pos) = 0 → badSymbols (upset.toNat % 2 ^ 576) ≤ 2 →
          t.block (0x1000000000 + 64 * pos) = 0 ∧ t.raised = s.raised ∧ t.row (0x1000000000 + 64 * pos) = s.row (0x1000000000 + 64 * pos) ∧
          (badSymbols (upset.toNat % 2 ^ 576) = 1 → t.get DRC_CE.CE1 = min (s.get DRC_CE.CE1 + 1) (2 ^ DRC_CE.CE1.len - 1))) ∧
        (k ≠ 2 → pos < fillGroups k.val → (∀ j : Fin 8, popCount 73 ((s.row ((if k = 0 then 0x0010000000 else 0x0020000000) + 64 * pos + 8 * j.val)).flip ^^^
            bits upset.toNat (73 * j.val) 73) ≤ 1) →
          t.raised = s.raised ∧ ∀ j : Fin 8,
            popCount 73 (t.row ((if k = 0 then 0x0010000000 else 0x0020000000) + 64 * pos + 8 * j.val)).flip = 0 ∧
            (t.row ((if k = 0 then 0x0010000000 else 0x0020000000) + 64 * pos + 8 * j.val)).poison =
              (s.row ((if k = 0 then 0x0010000000 else 0x0020000000) + 64 * pos + 8 * j.val)).poison)) ∧
    (s.power.retention = true → ∀ p l : BitVec 20,
      (s.memu.rows = [] → Gives (.retentionScrubLap p l []) s fun t => t.get SYS_PSCRUB_LAP.LARDER = l.toNat ∧ t.get SYS_PSCRUB_LAP.PANTRY = 0 ∧
        OnlyRegs [SYS_PSCRUB_LAP.LARDER.addr] { s with memu := t.memu } t) ∧
      (∀ (a : BitVec 40) (mask : BitVec 73), s.memu.rows = [] → memoryOf a.toNat = some 2 → a.toNat % 8 = 0 →
        (popCount 73 mask.toNat = 1 → Gives (.retentionScrubLap p l [(a, mask)]) s fun t =>
          t.get SYS_PSCRUB.LARDER_CE = min (s.get SYS_PSCRUB.LARDER_CE + 1) (2 ^ SYS_PSCRUB.LARDER_CE.len - 1) ∧
          t.row a.toNat = {} ∧ t.pulses = s.pulses ∧ t.mem = s.mem) ∧
        (popCount 73 mask.toNat = 2 → Gives (.retentionScrubLap p l [(a, mask)]) s fun t =>
          t.get SYS_PSCRUB.LARDER_UE = min (s.get SYS_PSCRUB.LARDER_UE + 1) (2 ^ SYS_PSCRUB.LARDER_UE.len - 1) ∧
          (t.row a.toNat).flip = mask.toNat ∧ 231 ∈ t.pulses ∧ t.mem = s.mem)))

/-- Bringing up, losing, filling and refreshing the DRAM. PHY_EN starts the PHY; the PLL locks; BRINGUP runs and its end makes
READY follow PHY_UP and PLL_LOCK or names the failed lanes; the retained one runs under SR_HOLD and keeps the array. A lost
device, PLL or PHY clears READY and raises source 77 once. The fill zeroes all DRAM. Self-refresh is entered behind the fill,
saves DRC_CFG, and left by EXIT. A mode register command is refused while READY is 0 (R406, R407, R409, R411, R419, R684, R685).
-/
def Obligations.DramController : Prop :=
  ∀ s : State, s.power.core = true →
    (s.bit DRC_CTRL.ENABLE = false → Gives (.drcPhyEnable true) s fun t => t.get DRC_CTRL.PHY_EN = 1 ∧
      t.get DRC_STATUS.PHY_UP = (if s.power.dramPhy then 1 else 0) ∧ OnlyRegs [DRC_CTRL.PHY_EN.addr, DRC_STATUS.PHY_UP.addr] s t) ∧
    (s.bit DRC_STATUS.SR = true → exec (.drcPhyEnable false) s = .next s) ∧
    (s.bit DRC_STATUS.SR = false → Gives (.drcPhyEnable false) s fun t => t.get DRC_CTRL.PHY_EN = 0 ∧ t.get DRC_STATUS.PHY_UP = 0 ∧
      t.get DRC_STATUS.PLL_LOCK = 0 ∧ t.get DRC_STATUS.READY = 0 ∧ t.memu.bringup = none ∧
      ∀ a, t.readByte a = if 0x1000000000 ≤ a ∧ a < 0x1200000000 then 0 else s.readByte a) ∧
    (s.bit DRC_CTRL.PHY_EN = true → s.bit DRC_STATUS.PHY_UP = true → exec .drcPllLocked s = .next (s.set DRC_STATUS.PLL_LOCK 1)) ∧
    (s.bit DRC_CTRL.PHY_EN = false ∨ s.bit DRC_STATUS.PHY_UP = false → exec .drcPllLocked s = .next s) ∧
    (s.bit SUP_STATUS.SR_HOLD = false → (s.bit DRC_CTRL.PHY_EN = false ∨ s.bit DRC_STATUS.PLL_LOCK = false) → exec .drcBringup s = .next s) ∧
    (s.bit SUP_STATUS.SR_HOLD = false → s.bit DRC_CTRL.PHY_EN = true → s.bit DRC_STATUS.PLL_LOCK = true → Gives .drcBringup s fun t =>
      t.memu.bringup = some false ∧ t.get DRC_STATUS.BRINGUP_DONE = 0 ∧ t.get DRC_STATUS.LANE_FAIL = 0 ∧
      ∀ a, t.readByte a = if 0x1000000000 ≤ a ∧ a < 0x1200000000 then 0 else s.readByte a) ∧
    (s.bit SUP_STATUS.SR_HOLD = true → ∀ i ∈ [Instr.drcBringup, Instr.drcRetainedBringup], Gives i s fun t =>
      t.memu.bringup = some true ∧ t.get DRC_CTRL.PHY_EN = 1 ∧ t.get DRC_STATUS.PLL_LOCK = 1 ∧ t.mem = s.mem) ∧
    (s.bit SUP_STATUS.SR_HOLD = false → exec .drcRetainedBringup s = .next s) ∧
    (∀ lanes : BitVec 4,
      (s.memu.bringup = none → exec (.drcBringupEnd lanes) s = .next s) ∧
      (∀ r, s.memu.bringup = some r → Gives (.drcBringupEnd lanes) s fun t => t.memu.bringup = none ∧ t.get DRC_INT.BRINGUP_END = 1 ∧
        t.get DRC_STATUS.DEV_LOST = 0 ∧
        (lanes = 0 → t.get DRC_STATUS.BRINGUP_DONE = 1 ∧ t.get DRC_STATUS.READY = s.get DRC_STATUS.PHY_UP * s.get DRC_STATUS.PLL_LOCK ∧
          t.mem = s.mem) ∧
        (lanes ≠ 0 → t.get DRC_STATUS.BRINGUP_FAIL = 1 ∧ t.get DRC_STATUS.LANE_FAIL = lanes.toNat ∧ t.get DRC_STATUS.READY = s.get DRC_STATUS.READY) ∧
        (r = true → t.get SUP_STATUS.SR_HOLD = 0 ∧ t.get DRC_STATUS.SR = 0))) ∧
    (s.bit DRC_STATUS.READY = true → Gives .drcDevLost s fun t => t.get DRC_STATUS.DEV_LOST = 1 ∧ t.get DRC_STATUS.READY = 0 ∧ t.mem = s.mem ∧
      t.raised = s.raised ++ (if s.bit DRC_CTRL.ENABLE && !drcBroken s then [77] else [])) ∧
    (s.bit DRC_STATUS.READY = false → exec .drcDevLost s = .next s) ∧
    (∀ phy, Gives (.drcPllPhyLoss phy) s fun t => t.get (if phy then DRC_STATUS.PHY_UP else DRC_STATUS.PLL_LOCK) = 0 ∧ t.get DRC_STATUS.READY = 0 ∧
      t.mem = s.mem ∧ t.raised = s.raised ++ (if s.bit DRC_CTRL.ENABLE && !drcBroken s then [77] else []) ∧
      OnlyRegs [DRC_STATUS.READY.addr] { s with raised := t.raised } t) ∧
    (s.bit DRC_STATUS.READY = false ∨ s.bit DRC_INIT.BUSY = true → exec .drcInitGo s = .next s) ∧
    (s.bit DRC_STATUS.READY = true → s.bit DRC_INIT.BUSY = false → Gives .drcInitGo s fun t => t.get DRC_INIT.BUSY = 1 ∧
      t.get DRC_STATUS.INIT_BUSY = 1 ∧ t.get DRC_INIT.PROGRESS = 0 ∧ OnlyRegs [DRC_INIT.BUSY.addr, DRC_STATUS.INIT_BUSY.addr] s t) ∧
    (s.bit DRC_INIT.BUSY = true → Gives .drcInitDone s fun t => t.get DRC_INIT.BUSY = 0 ∧ t.get DRC_STATUS.INIT_BUSY = 0 ∧
      t.get DRC_INT.INIT_DONE = 1 ∧ t.get DRC_INIT.PROGRESS = dramGiB s * 16384 ∧
      ∀ a, t.readByte a = if 0x1000000000 ≤ a ∧ a < 0x1200000000 then 0 else s.readByte a) ∧
    (s.bit DRC_INIT.BUSY = false → exec .drcInitDone s = .next s) ∧
    (exec .drcSrEnter s = .next { s with memu := { s.memu with srWait := s.bit DRC_STATUS.READY } }) ∧
    (s.memu.srWait = false ∨ s.bit DRC_INIT.BUSY = true → exec .drcSrEntryDone s = .next s) ∧
    (s.memu.srWait = true → s.bit DRC_INIT.BUSY = false → Gives .drcSrEntryDone s fun t => t.get DRC_SR.STATE = 1 ∧ t.get DRC_STATUS.SR = 1 ∧
      t.get DRC_STATUS.READY = 0 ∧ t.get SYS_DRC_SAVE.VALID = 1 ∧ t.get SYS_DRC_SAVE.SIZE = s.get DRC_CFG.SIZE ∧
      t.get SYS_DRC_SAVE.RANKS = s.get DRC_CFG.RANKS ∧ t.get SYS_DRC_SAVE.RATE = s.get DRC_CFG.RATE ∧ t.mem = s.mem) ∧
    (s.bit DRC_SR.STATE = false → exec .drcSrExit s = .next s) ∧
    (s.bit DRC_SR.STATE = true → Gives .drcSrExit s fun t => t.get DRC_SR.STATE = 0 ∧ t.get DRC_STATUS.SR = 0 ∧ t.get SYS_DRC_SAVE.VALID = 0 ∧
      t.mem = s.mem ∧ (s.bit DRC_STATUS.BRINGUP_DONE = false → t.get DRC_STATUS.READY = 0)) ∧
    (∀ (w : BitVec 40) (v : BitVec 8),
      (s.bit DRC_STATUS.READY = false → (Gives (.drcMrwWrite w) s fun t => t.get DRC_MRW.ERR = 1 ∧ t.memu = s.memu ∧
          OnlyRegs [DRC_MRW.ERR.addr] s t) ∧
        Gives (.drcMrwRead w v) s fun t => t.get DRC_MRW.ERR = 1 ∧ OnlyRegs [DRC_MRW.ERR.addr] s t) ∧
      (s.bit DRC_STATUS.READY = true → s.bit DRC_MRW.BUSY = false → (Gives (.drcMrwWrite w) s fun t => t.get DRC_MRW.ERR = 0 ∧
          t.get DRC_MRW.OP = bits w.toNat 8 8 ∧ t.get DRC_MRW.MA = bits w.toNat 16 8 ∧ t.memu.mrw.length = s.memu.mrw.length + 1) ∧
        Gives (.drcMrwRead w v) s fun t => t.get DRC_MRW.ERR = 0 ∧ t.get DRC_MRW.OP = v.toNat ∧ t.get DRC_MRW.READ = 1))

/-- The operations of two registers. With bits 18:8 zero, each of the 17 ALU operations of a core that reaches its effect writes
rd with the value the table gives, with the shifts from 40 on and the corners of division; a word with another bit of 18:8 raises
ILLEGAL. -/
def Obligations.RegisterOperations : Prop :=
  ∀ (c : Fin 5) (rd rs1 rs2 : Fin 32) (s t : State), Fetched c s t →
    (∀ p ∈ ([(.aluAdd c rd rs1 rs2 0, fun a b => BitVec.ofNat 40 (a.toNat + b.toNat)),
             (.aluSub c rd rs1 rs2 0, fun a b => BitVec.ofInt 40 ((a.toNat : Int) - b.toNat)),
             (.aluAnd c rd rs1 rs2 0, fun a b => a &&& b),
             (.aluOr c rd rs1 rs2 0, fun a b => a ||| b),
             (.aluXor c rd rs1 rs2 0, fun a b => a ^^^ b),
             (.aluSll c rd rs1 rs2 0, fun a b => BitVec.ofNat 40 (a.toNat * 2 ^ (b.toNat % 64))),
             (.aluSrl c rd rs1 rs2 0, fun a b => BitVec.ofNat 40 (a.toNat / 2 ^ (b.toNat % 64))),
             (.aluSra c rd rs1 rs2 0, fun a b => BitVec.ofInt 40 (a.toInt / 2 ^ (b.toNat % 64))),
             (.aluSlt c rd rs1 rs2 0, fun a b => if a.toInt < b.toInt then 1 else 0),
             (.aluSltu c rd rs1 rs2 0, fun a b => if a.toNat < b.toNat then 1 else 0),
             (.aluMul c rd rs1 rs2 0, fun a b => BitVec.ofNat 40 (a.toNat * b.toNat)),
             (.aluMulh c rd rs1 rs2 0, fun a b => BitVec.ofInt 40 (a.toInt * b.toInt / 2 ^ 40)),
             (.aluMulhu c rd rs1 rs2 0, fun a b => BitVec.ofNat 40 (a.toNat * b.toNat / 2 ^ 40)),
             (.aluDiv c rd rs1 rs2 0, fun a b =>
               if b = 0 then -1 else if a.toInt = -2 ^ 39 ∧ b.toInt = -1 then a else BitVec.ofInt 40 (a.toInt.tdiv b.toInt)),
             (.aluDivu c rd rs1 rs2 0, fun a b => if b = 0 then -1 else BitVec.ofNat 40 (a.toNat / b.toNat)),
             (.aluRem c rd rs1 rs2 0, fun a b =>
               if b = 0 then a else if a.toInt = -2 ^ 39 ∧ b.toInt = -1 then 0 else BitVec.ofInt 40 (a.toInt.tmod b.toInt)),
             (.aluRemu c rd rs1 rs2 0, fun a b => if b = 0 then a else BitVec.ofNat 40 (a.toNat % b.toNat))] :
            List (Instr × (Word → Word → Word))),
      exec p.1 s = .next (writeRd c rd (p.2 (t.greg c rs1) (t.greg c rs2)) t)) ∧
    (∀ z : BitVec 11, z ≠ 0 → ∀ i ∈ [Instr.aluAdd c rd rs1 rs2 z, .aluSub c rd rs1 rs2 z, .aluAnd c rd rs1 rs2 z,
        .aluOr c rd rs1 rs2 z, .aluXor c rd rs1 rs2 z, .aluSll c rd rs1 rs2 z, .aluSrl c rd rs1 rs2 z, .aluSra c rd rs1 rs2 z,
        .aluSlt c rd rs1 rs2 z, .aluSltu c rd rs1 rs2 z, .aluMul c rd rs1 rs2 z, .aluMulh c rd rs1 rs2 z,
        .aluMulhu c rd rs1 rs2 z, .aluDiv c rd rs1 rs2 z, .aluDivu c rd rs1 rs2 z, .aluRem c rd rs1 rs2 z,
        .aluRemu c rd rs1 rs2 z],
      exec i s = .next (takeException c { code := 1, addr := t.cores[c].pc } t))

/-- The operations of a register and an immediate, and what writing rd leaves. ADDI, SLTI and SLTIU sign-extend imm24, ANDI, ORI
and XORI zero-extend it, the shifts take imm24[5:0] from 0 to 39, LUI writes imm24[15:0] shifted left by 24, ADDPC adds to PC; a
shift or LUI whose immediate is outside its limits raises ILLEGAL (R427). Writing a result leaves every general register but rd,
discards a write to g0, advances PC by 8 modulo 2^40, and leaves the other cores, the control registers of its own core and the
rest of the machine (R421, R423). -/
def Obligations.ImmediateOperations : Prop :=
  (∀ (c : Fin 5) (rd : Fin 32) (v : Word) (s : State),
    (∀ r : Fin 32, (writeRd c rd v s).greg c r = if r = rd ∧ rd ≠ 0 then v else s.greg c r) ∧
    (writeRd c rd v s).cores[c] = { s.cores[c] with regs := (writeRd c rd v s).cores[c].regs, pc := s.cores[c].pc + 8, shadow := false } ∧
    writeRd c rd v s = { s with cores := s.cores.set c ((writeRd c rd v s).cores[c]) }) ∧
  (∀ (c : Fin 5) (rd rs1 : Fin 32) (imm : BitVec 24) (k : BitVec 29) (s t : State), Fetched c s t →
    (∀ p ∈ ([(.addi c rd rs1 imm, fun a => BitVec.ofInt 40 (a.toInt + imm.toInt)),
             (.andi c rd rs1 imm, fun a => BitVec.ofNat 40 (a.toNat &&& imm.toNat)),
             (.ori c rd rs1 imm, fun a => BitVec.ofNat 40 (a.toNat ||| imm.toNat)),
             (.xori c rd rs1 imm, fun a => BitVec.ofNat 40 (a.toNat ^^^ imm.toNat)),
             (.slti c rd rs1 imm, fun a => if a.toInt < imm.toInt then 1 else 0),
             (.sltiu c rd rs1 imm, fun a => if a.toNat < (imm.signExtend 40).toNat then 1 else 0),
             (.addpc c rd k, fun _ => BitVec.ofInt 40 (t.cores[c].pc.toInt + k.toInt))] : List (Instr × (Word → Word))),
      exec p.1 s = .next (writeRd c rd (p.2 (t.greg c rs1)) t)) ∧
    (imm.toNat < 40 →
      exec (.slli c rd rs1 imm) s = .next (writeRd c rd (BitVec.ofNat 40 ((t.greg c rs1).toNat * 2 ^ imm.toNat)) t) ∧
      exec (.srli c rd rs1 imm) s = .next (writeRd c rd (BitVec.ofNat 40 ((t.greg c rs1).toNat / 2 ^ imm.toNat)) t) ∧
      exec (.srai c rd rs1 imm) s = .next (writeRd c rd (BitVec.ofInt 40 ((t.greg c rs1).toInt / 2 ^ imm.toNat)) t)) ∧
    (40 ≤ imm.toNat → ∀ i ∈ [Instr.slli c rd rs1 imm, .srli c rd rs1 imm, .srai c rd rs1 imm],
      exec i s = .next (takeException c { code := 1, addr := t.cores[c].pc } t)) ∧
    (imm.toNat < 2 ^ 16 → exec (.lui c rd 0 imm) s = .next (writeRd c rd (BitVec.ofNat 40 (imm.toNat * 2 ^ 24)) t)) ∧
    (rs1 ≠ 0 ∨ 2 ^ 16 ≤ imm.toNat → exec (.lui c rd rs1 imm) s = .next (takeException c { code := 1, addr := t.cores[c].pc } t)))

/-- What a load writes. A load whose address is a multiple of its size and whose bytes can be read writes rd with them, little-
endian, sign- or zero-extended; LR writes the extended value and reserves the granule where a reservation can be kept. A load of a
Y core with MMU_EN = 0 in supervisor mode from pantry SRAM or MRAM, whose rows read clean, answers the bytes of memory as they
stand after the core's earlier stores, five of them for the extended size (R422, R427, R442, R443, R445). -/
def Obligations.LoadsComplete : Prop :=
  (∀ (c : Fin 5) (rd rs1 : Fin 32) (imm : BitVec 24) (s t u : State) (l : List Byte) (pa : Nat) (uc : Bool), Fetched c s t →
    (∀ p ∈ [(Instr.lb c rd rs1 imm, 1, true), (.lbu c rd rs1 imm, 1, false), (.lh c rd rs1 imm, 2, true),
            (.lhu c rd rs1 imm, 2, false), (.lw c rd rs1 imm, 4, true), (.lwu c rd rs1 imm, 4, false), (.lx c rd rs1 imm, 8, true)],
      loadBytes c p.2.1 (t.greg c rs1 + imm.signExtend 40) t = (.ok (l, pa, uc), u) →
        exec p.1 s = .next (writeRd c rd (extendTo p.2.2 (min p.2.1 5) (leNat l)) u)) ∧
    (loadBytes c 8 (t.greg c rs1) t = (.ok (l, pa, uc), u) →
      exec (.lr c rd rs1 0) s = .next (writeRd c rd (BitVec.ofNat 40 (leNat l))
        { u with cores := u.cores.set c { u.cores[c] with
            reserved := if reservable c pa uc u then some (pa / 64) else none } }))) ∧
  (∀ (c : Fin 5) (n : Nat) (va : Word) (s u : State) (l : Marked), c ≠ 4 → s.cores[c].supervisor = true → s.cores[c].mmuOn = false →
    n ∈ [1, 2, 4, 8] → va.toNat % n = 0 → (∃ m : Fin 5, (m = 1 ∨ m = 2) ∧ regionOf va.toNat s = .mem m) →
    physRead (coreMaster c) 1 va.toNat (min n 5) (coreDrain c s) = ((l, none), u) → (l.any (·.2)) = false →
    loadBytes c n va s = (.ok (l.map (·.1), va.toNat, true), u))

/-- What a store does when it retires. A store to WB memory whose address is a multiple of its size and which the MMU and the
regions allow enters the store buffer with its bytes, after the oldest entry of a full buffer is performed, and the next
instruction follows; the extended size stores eight bytes, the upper three being copies of bit 39. It changes no byte of memory
that the oldest entry does not hold (R422, R441). -/
def Obligations.StoresComplete : Prop :=
  ∀ (c : Fin 5) (rs2 rs1 : Fin 32) (imm : BitVec 24) (s t u : State) (pa : Nat), Fetched c s t →
    ∀ p ∈ [(Instr.sb c rs2 rs1 imm, 1), (.sh c rs2 rs1 imm, 2), (.sw c rs2 rs1 imm, 4), (.sx c rs2 rs1 imm, 8)],
      (t.greg c rs1 + imm.signExtend 40).toNat % p.2 = 0 →
      translate c .store (t.greg c rs1 + imm.signExtend 40) t = (.ok (pa, false), u) →
      storeFail c (t.greg c rs1 + imm.signExtend 40) pa u = none →
      u.cores[c].stores.length < 8 →
      exec p.1 s = .next { u with cores := u.cores.set c { u.cores[c] with
        stores := u.cores[c].stores ++ [(pa, leBytes p.2 (t.greg c rs2 |>.signExtend 64).toNat)]
        pc := u.cores[c].pc + 8
        shadow := true } }

/-- SC stores only while the reservation holds. An SC that the MMU and the regions allow writes 1 to rd, stores nothing and clears
the reservation when the core holds none for the granule; with it held, the earlier stores are performed, then the extended value
of rs2 (in the L2 for WB memory, in memory itself for UC), and rd is 0. A word whose bits 18:0 are not zero raises ILLEGAL. After
a store of core a to a granule no other core holds a reservation for it, and the others stand; taking an exception or an interrupt
and returning from one clear the core's own (R434, R438, R443). -/
def Obligations.StoreConditional : Prop :=
  (∀ (c : Fin 5) (rd rs1 rs2 : Fin 32) (s t u : State) (pa : Nat) (uc : Bool), Fetched c s t →
    (t.greg c rs1).toNat % 8 = 0 → translate c .store (t.greg c rs1) t = (.ok (pa, uc), u) →
    storeFail c (t.greg c rs1) pa u = none →
    (u.cores[c].reserved ≠ some (pa / 64) ∨ reservable c pa uc u = false →
      exec (.sc c rd rs1 rs2 0) s = .next (writeRd c rd 1 (u.modCore c fun x => { x with reserved := none }))) ∧
    (u.cores[c].reserved = some (pa / 64) → reservable c pa uc u = true → uc = false →
      ∃ v, exec (.sc c rd rs1 rs2 0) s = .next v ∧ v.greg c rd = 0 ∧ v.cores[c].reserved = none ∧ v.cores[c].pc = u.cores[c].pc + 8 ∧
        v.cores[c].stores = [] ∧ v.mem = (l2Store c pa (extendedBytes (t.greg c rs2)) (coreDrain c u)).mem) ∧
    (∀ w, u.cores[c].reserved = some (pa / 64) → reservable c pa uc u = true → uc = true →
      physWrite (coreMaster c) (coreReq c .store) pa ((extendedBytes (t.greg c rs2)).map fun b => (b, false)) (coreDrain c u) = (none, w) →
      ∃ v, exec (.sc c rd rs1 rs2 0) s = .next v ∧ v.greg c rd = 0 ∧ v.cores[c].reserved = none ∧ v.mem = w.mem) ∧
    (∀ z : BitVec 19, z ≠ 0 →
      exec (.sc c rd rs1 rs2 z) s = .next (takeException c { code := 1, addr := t.cores[c].pc } t))) ∧
  (∀ (a b : Fin 5) (g : Nat) (s : State), (clearReserved (some a) g s).cores[b].reserved =
      if b ≠ a ∧ s.cores[b].reserved = some g then none else s.cores[b].reserved) ∧
  (∀ (c : Fin 5) (v : Word) (s : State), s.cores[c].stores = [] → (enter c v s).cores[c].reserved = none) ∧
  (∀ (c : Fin 5) (s : State), s.cores[c].stores = [] → (returnFrom c s).cores[c].reserved = none)

/-- Where control goes. Each branch goes to PC + sext(imm24) × 8 when its comparison holds and to the next slot otherwise; JAL and
JALR write rd with PC + 8 and go to their target, and a JALR whose target is no multiple of 8 takes FETCH_ALIGN with BADADDR the
target and writes nothing (R423, R426, R427). -/
def Obligations.BranchesAndJumps : Prop :=
  ∀ (c : Fin 5) (rd rs1 rs2 : Fin 32) (imm : BitVec 24) (k : BitVec 29) (s t : State), Fetched c s t →
    (∀ p ∈ ([(.beq c rs1 rs2 imm, fun a b => a = b), (.bne c rs1 rs2 imm, fun a b => a ≠ b),
             (.blt c rs1 rs2 imm, fun a b => a.toInt < b.toInt), (.bge c rs1 rs2 imm, fun a b => b.toInt ≤ a.toInt),
             (.bltu c rs1 rs2 imm, fun a b => a.toNat < b.toNat), (.bgeu c rs1 rs2 imm, fun a b => b.toNat ≤ a.toNat)] :
            List (Instr × (Word → Word → Prop))),
      (p.2 (t.greg c rs1) (t.greg c rs2) → exec p.1 s = .next (goto c (t.cores[c].pc + imm.signExtend 40 * 8) false t)) ∧
      (¬ p.2 (t.greg c rs1) (t.greg c rs2) → exec p.1 s = .next (goto c (t.cores[c].pc + 8) false t))) ∧
    exec (.jal c rd k) s = .next (goto c (t.cores[c].pc + k.signExtend 40 * 8) false
      (t.modCore c fun x => x.setReg rd (x.pc + 8))) ∧
    ((t.greg c rs1 + imm.signExtend 40).toNat % 8 = 0 →
      exec (.jalr c rd rs1 imm) s = .next (goto c (t.greg c rs1 + imm.signExtend 40) false
        (t.modCore c fun x => x.setReg rd (x.pc + 8)))) ∧
    ((t.greg c rs1 + imm.signExtend 40).toNat % 8 ≠ 0 →
      exec (.jalr c rd rs1 imm) s = .next (takeException c { code := 3, addr := t.greg c rs1 + imm.signExtend 40 } t))

/-- What taking an exception does. With no buffered store and a vector that can be fetched, an exception sets EPC to PC, CAUSE to
its code with INTR 0, BADADDR and FAULTINFO, copies IE to PIE and S to PS, clears IE and sets S, clears the reservation, empties
the L1 instruction cache but for the vector's line, and goes to EVBASE + 64 × code; SYSCALL and BREAK with their fields zero take
it with codes 0xE and 0xF (R429, R433, R434). -/
def Obligations.ExceptionEntry : Prop :=
  (∀ (c : Fin 5) (e : Exc) (s : State), s.cores[c].stores = [] → (takeException c e s).cores[c].halted = s.cores[c].halted →
    (takeException c e s).cores[c].epc = s.cores[c].pc ∧
    (takeException c e s).cores[c].cause = BitVec.ofNat 40 e.code ∧
    (takeException c e s).cores[c].badaddr = e.addr ∧
    (takeException c e s).cores[c].faultinfo = BitVec.ofNat 40 e.info ∧
    (takeException c e s).cores[c].pc = s.cores[c].evbase + BitVec.ofNat 40 (64 * e.code) ∧
    (takeException c e s).cores[c].reserved = none ∧
    (takeException c e s).cores[c].regs = s.cores[c].regs ∧
    ∀ i : Fin 5, ((takeException c e s).cores[c].status.getLsbD i.val) =
      (if i = 0 then false else if i = 1 then true else if i = 2 then s.cores[c].status.getLsbD 0
       else if i = 3 then s.cores[c].status.getLsbD 1 else s.cores[c].status.getLsbD 4)) ∧
  (∀ (c : Fin 5) (s t : State), Fetched c s t →
    exec (.syscall c 0 0 0 0) s = .next (takeException c { code := 14, addr := t.cores[c].pc } t) ∧
    exec (.brk c 0 0 0 0) s = .next (takeException c { code := 15, addr := t.cores[c].pc } t))

/-- A vector that cannot be fetched halts the core. An exception of a Y core whose vector fetch fails leaves the core halted, sets
CPX_CORE_CTRL[n].VFAULT and the core's bit of CPX_INT.VFAULT and raises fault source 80 + n; a halted core takes no instruction
until a core reset. -/
def Obligations.VectorFetchHalts : Prop :=
  (∀ (n : Fin 4) (e : Exc) (s t : State) (x : Exc),
    fetch (coreOfY n) (coreShow (coreOfY n) false false ((enter (coreOfY n) (BitVec.ofNat 40 e.code)
      (s.modCore (coreOfY n) fun y => { y with badaddr := e.addr, faultinfo := BitVec.ofNat 40 e.info })).modCore (coreOfY n)
        fun y => { y with pc := vectorOf y e.code })) = (.error x, t) →
    (takeException (coreOfY n) e s).cores[coreOfY n].halted = true ∧
    (takeException (coreOfY n) e s).get (CPX_CORE_CTRL.VFAULT n.val) = 1 ∧
    ((takeException (coreOfY n) e s).get CPX_INT.VFAULT).testBit n.val = true ∧
    (takeException (coreOfY n) e s).raised = t.raised ++ [80 + n.val]) ∧
  (∀ (c : Fin 5) (rd rs1 rs2 : Fin 32) (z : BitVec 11) (s : State), s.cores[c].halted = true → exec (.aluAdd c rd rs1 rs2 z) s = .next s) ∧
  (∀ (n : Fin 4) (s : State), s.power.core = true → ∃ t, exec (.coreReset n) s = .next t ∧ t.cores[coreOfY n].halted = false)

/-- RFE, WFI, the fences, the TLB operations, MFC and MTC. In supervisor mode RFE takes PC from EPC, IE from PIE and S from PS;
WFI goes on to the next slot and waits unless an interrupt is presented; FENCE performs the earlier stores; IFENCE also empties
the L1 instruction cache; TLBINV drops every entry whose page covers the address whatever its ASID, TLBINVA every entry. MFC reads
each control register and MTC writes the fields that it has: STATUS five bits, in YP with S at 1 and MMU_EN at 0; EVBASE and
PTBASE without their low bits but L1LOG; ASID eight bits; COREID none. A number above 0x0A raises ILLEGAL (R427, R429, R431, R438,
R439, R442, R444, R452, R466). -/
def Obligations.SystemInstructions : Prop :=
  (∀ (c : Fin 5) (rs1 : Fin 32) (s t : State), Fetched c s t →
    (exec (.fence c 0 0 0 0) s = .next (advance c (coreDrain c t))) ∧
    (exec (.ifence c 0 0 0 0) s = .next (advance c ((coreDrain c t).modCore c fun x => { x with l1i := [] }))) ∧
    (t.cores[c].supervisor = true →
      (t.cores[c].epc.toNat % 8 = 0 → t.cores[c].stores = [] →
        ∃ u, exec (.rfe c 0 0 0 0) s = .next u ∧ u.cores[c].pc = t.cores[c].epc ∧ u.cores[c].regs = t.cores[c].regs ∧
          u.cores[c].ie = t.cores[c].status.getLsbD 2 ∧ u.cores[c].supervisor = (c == 4 || t.cores[c].status.getLsbD 3) ∧
          u.cores[c].status.getLsbD 2 = t.cores[c].status.getLsbD 2 ∧ u.cores[c].mmuOn = t.cores[c].mmuOn ∧
          u.cores[c].reserved = none ∧ u.cores[c].l1i = []) ∧
      (t.bit (INTC_STATE.PRESENT c.val) = true → exec (.wfi c 0 0 0 0) s = .next (advance c t)) ∧
      (t.bit (INTC_STATE.PRESENT c.val) = false → ∃ u, exec (.wfi c 0 0 0 0) s = .next u ∧ coreWaits c u = true ∧
        u.cores = (advance c t).cores) ∧
      (c ≠ 4 → t.cores[c].stores = [] →
        (∃ u, exec (.tlbinv c 0 rs1 0 0) s = .next u ∧ u.cores[c].pc = t.cores[c].pc + 8 ∧
          ∀ x, x ∈ u.cores[c].tlb ↔ x ∈ t.cores[c].tlb ∧
            ¬ (if x.big then x.vpn / 512 = (t.greg c rs1).toNat / 2 ^ 21 else x.vpn = (t.greg c rs1).toNat / 4096)) ∧
        exec (.tlbinva c 0 0 0 0) s = .next (advance c (t.modCore c fun x => { x with tlb := [] }))))) ∧
  (∀ (c : Fin 5) (r : Fin 32) (k : Fin 11) (s t : State), Fetched c s t → t.cores[c].supervisor = true → (c = 4 → k ≠ 6 ∧ k ≠ 7) →
    exec (.mfc c r 0 (BitVec.ofNat 24 k.val)) s = .next (writeRd c r (crRead c t.cores[c] k.val) t) ∧
    (∃ u, exec (.mtc c 0 r (BitVec.ofNat 24 k.val)) s = .next u ∧ u.cores[c].pc = t.cores[c].pc + 8 ∧
      u.cores[c].regs = t.cores[c].regs ∧ u.mem = t.mem ∧
      (∀ j : Fin 11, j ≠ k → crRead c u.cores[c] j.val = crRead c t.cores[c] j.val) ∧
      crRead c u.cores[c] k.val =
        (match k.val with
         | 0 => if c = 4 then BitVec.ofNat 40 ((t.greg c r).toNat % 16 / 4 * 4 + 2 + (t.greg c r).toNat % 2) else BitVec.ofNat 40 ((t.greg c r).toNat % 32)
         | 2 => t.greg c r &&& 0x800000FF3F
         | 4 => BitVec.ofNat 40 ((t.greg c r).toNat % 256)
         | 5 => BitVec.ofNat 40 ((t.greg c r).toNat / 4096 * 4096)
         | 6 => BitVec.ofNat 40 ((t.greg c r).toNat / 4096 * 4096 + (t.greg c r).toNat % 32)
         | 7 => BitVec.ofNat 40 ((t.greg c r).toNat % 256)
         | 10 => BitVec.ofNat 40 c.val
         | _ => t.greg c r)) ∧
    (∀ imm : BitVec 24, 10 < imm.toNat → exec (.mfc c r 0 imm) s = .next (takeException c { code := 1, addr := t.cores[c].pc } t) ∧
      exec (.mtc c 0 r imm) s = .next (takeException c { code := 1, addr := t.cores[c].pc } t)))

/-- What the cache operations of a Y core do. In supervisor mode with no buffered store, the operations by address act on the line
of the translated address where the L2 caches it, and do nothing on other memory; L1I_INVA and L1D_INVA empty a cache of the core;
L2_FLUSH_SW flushes the line of the given set and way; VC_FLUSH empties the victim cache. In YP every one of them is illegal.
After L2_INV or L2_FLUSH a line without a miss in progress is in no way of the L2, in no victim entry and in no L1 data cache, and
L2_INV leaves memory as it was (R460, R461, R466). -/
def Obligations.CacheOperations : Prop :=
  (∀ (c : Fin 5) (rs1 : Fin 32) (imm : BitVec 24) (s t u : State) (pa : Nat), Fetched c s t → c ≠ 4 → t.cores[c].supervisor = true →
    translate c .cache (t.greg c rs1 + imm.signExtend 40) t = (.ok (pa, false), u) → u.cores[c].stores = [] →
    exec (.l1dInv c rs1 imm) s = .next (advance c (u.modCore c fun x => { x with l1d := x.l1d.filter (· != pa / 64) })) ∧
    exec (.l1iInv c rs1 imm) s = .next (advance c (u.modCore c fun x => { x with l1i := x.l1i.filter (· != pa / 64) })) ∧
    exec (.l2Clean c rs1 imm) s = .next (advance c (l2LineOp true true (pa / 64) u)) ∧
    exec (.l2Inv c rs1 imm) s = .next (advance c (l2LineOp false false (pa / 64) u)) ∧
    exec (.l2Flush c rs1 imm) s = .next (advance c (l2LineOp true false (pa / 64) u))) ∧
  (∀ (c : Fin 5) (rs1 : Fin 32) (imm : BitVec 24) (s t u : State) (pa : Nat), Fetched c s t → c ≠ 4 → t.cores[c].supervisor = true →
    translate c .cache (t.greg c rs1 + imm.signExtend 40) t = (.ok (pa, true), u) →
    ∀ i ∈ [Instr.l1dInv c rs1 imm, .l1iInv c rs1 imm, .l2Clean c rs1 imm, .l2Inv c rs1 imm, .l2Flush c rs1 imm],
      exec i s = .next (advance c u)) ∧
  (∀ (c : Fin 5) (rs1 : Fin 32) (imm : BitVec 24) (s t : State), Fetched c s t → c ≠ 4 → t.cores[c].supervisor = true →
    exec (.l1iInva c 0 imm) s = .next (advance c (t.modCore c fun x => { x with l1i := [] })) ∧
    exec (.l1dInva c 0 imm) s = .next (advance c (t.modCore c fun x => { x with l1d := [] })) ∧
    (t.cores[c].stores = [] → ∀ l : L2Line,
      kvFind t.l2.ways (16 * bits (t.greg c rs1 + imm.signExtend 40).toNat 6 10 + bits (t.greg c rs1 + imm.signExtend 40).toNat 16 4) = some l →
      exec (.l2FlushSw c rs1 imm) s = .next (advance c (l2LineOp true false l.line t))) ∧
    (∃ u, exec (.vcFlush c 0 imm) s = .next u ∧ u.l2.victims = [] ∧ u.get CPX_L2_STATUS.VC_USED = 0 ∧ u.cores[c].pc = t.cores[c].pc + 8)) ∧
  (∀ (rs1 : Fin 32) (imm : BitVec 24) (s t : State), Fetched 4 s t →
    ∀ i ∈ [Instr.l1dInv 4 rs1 imm, .l1iInv 4 rs1 imm, .l2Clean 4 rs1 imm, .l2Inv 4 rs1 imm, .l2Flush 4 rs1 imm, .l1iInva 4 rs1 imm,
           .l1dInva 4 rs1 imm, .l2FlushSw 4 rs1 imm, .vcFlush 4 rs1 imm],
      exec i s = .next (takeException 4 { code := 1, addr := t.cores[(4 : Fin 5)].pc } t)) ∧
  (∀ (wb : Bool) (line : Nat) (s : State), line ∉ s.l2.misses →
    (∀ p ∈ s.l2.ways, p.1 / 16 = p.2.line % 1024) → keysRise s.l2.ways = true →
    (∀ p ∈ (l2LineOp wb false line s).l2.ways, p.2.line ≠ line) ∧
    (∀ v ∈ (l2LineOp wb false line s).l2.victims, v.line ≠ line) ∧
    (∀ c : Fin 5, line ∉ (l2LineOp wb false line s).cores[c].l1d) ∧
    (wb = false → (l2LineOp wb false line s).mem = s.mem))

/-- Taking an interrupt. A core that runs with IE = 1, an interrupt presented and no store just before takes it: EPC holds PC,
CAUSE has INTR = 1 and the source, BADADDR and FAULTINFO stay, PC is INTC_VBASE + 64 × the source, and INTC_STATE records the
source and its priority; the pending bit and the threshold stay. Every instruction command of the core does the same at such a
boundary, which is the model's choice (assumption 3); a core with IE = 0 takes none (R436, R475, R476). -/
def Obligations.InterruptTaken : Prop :=
  ∀ (c : Fin 5) (s : State), coreRuns c s = true →
    (s.cores[c].ie = true → s.bit (INTC_STATE.PRESENT c.val) = true → s.cores[c].shadow = false → s.cores[c].stores = [] →
      ∃ t, exec (.coreInterruptTake c) s = .next t ∧ t.cores[c].epc = s.cores[c].pc ∧
        t.cores[c].cause = BitVec.ofNat 40 (2 ^ 39 + 256 * s.get (INTC_STATE.SRC c.val)) ∧
        t.cores[c].badaddr = s.cores[c].badaddr ∧ t.cores[c].faultinfo = s.cores[c].faultinfo ∧
        t.cores[c].pc = BitVec.ofNat 40 (0x4000 * s.get (INTC_VBASE.BASE c.val) + 64 * s.get (INTC_STATE.SRC c.val)) ∧
        t.cores[c].ie = false ∧ t.cores[c].supervisor = true ∧ t.cores[c].status.getLsbD 2 = true ∧
        t.get (INTC_STATE.TAKEN_SRC c.val) = s.get (INTC_STATE.SRC c.val) ∧
        t.get (INTC_STATE.TAKEN_PRIO c.val) = s.get (INTC_STATE.PRIO c.val) ∧
        (∀ r : Fin 8, t.get (INTC_PEND.PEND c.val r.val) = s.get (INTC_PEND.PEND c.val r.val)) ∧
        exec (.fence c 0 0 0 0) s = .next t) ∧
    (s.cores[c].ie = false ∨ s.cores[c].shadow = true ∨ s.bit (INTC_STATE.PRESENT c.val) = false →
      exec (.coreInterruptTake c) s = .next s)

/-- Which forms raise ILLEGAL and PRIV. A system instruction with a field that must be zero, an LR with an immediate, an MFC with
rs1 or an MTC with rd, and in YP the TLB operations raise ILLEGAL; RFE, WFI, TLBINV, TLBINVA, CACHE, MFC and MTC of a Y core raise
PRIV in user mode. Taking the exception is all that they do. -/
def Obligations.IllegalAndPrivileged : Prop :=
  (∀ (c : Fin 5) (rd rs1 rs2 : Fin 32) (z : BitVec 11) (s t : State), Fetched c s t → rd ≠ 0 ∨ rs1 ≠ 0 ∨ rs2 ≠ 0 ∨ z ≠ 0 →
    ∀ i ∈ [Instr.syscall c rd rs1 rs2 z, .brk c rd rs1 rs2 z, .rfe c rd rs1 rs2 z, .wfi c rd rs1 rs2 z, .fence c rd rs1 rs2 z,
           .ifence c rd rs1 rs2 z, .tlbinva c rd rs1 rs2 z],
      exec i s = .next (takeException c { code := 1, addr := t.cores[c].pc } t)) ∧
  (∀ (c : Fin 5) (rd r : Fin 32) (imm : BitVec 24) (s t : State), Fetched c s t →
    (imm ≠ 0 → exec (.lr c rd r imm) s = .next (takeException c { code := 1, addr := t.cores[c].pc } t)) ∧
    (r ≠ 0 → exec (.mfc c rd r imm) s = .next (takeException c { code := 1, addr := t.cores[c].pc } t)) ∧
    (rd ≠ 0 → exec (.mtc c rd r imm) s = .next (takeException c { code := 1, addr := t.cores[c].pc } t)) ∧
    (c = 4 → exec (.tlbinv c 0 r 0 0) s = .next (takeException c { code := 1, addr := t.cores[c].pc } t) ∧
      exec (.tlbinva c 0 0 0 0) s = .next (takeException c { code := 1, addr := t.cores[c].pc } t))) ∧
  (∀ (c : Fin 5) (r : Fin 32) (k : Fin 11) (imm : BitVec 24) (s t : State), Fetched c s t → c ≠ 4 → t.cores[c].supervisor = false →
    ∀ i ∈ [Instr.rfe c 0 0 0 0, .wfi c 0 0 0 0, .tlbinv c 0 r 0 0, .tlbinva c 0 0 0 0, .l1dInv c r imm, .l1iInv c r imm, .l2Clean c r imm,
           .l2Inv c r imm, .l2Flush c r imm, .l1iInva c 0 imm, .l1dInva c 0 imm, .l2FlushSw c r imm, .vcFlush c 0 imm,
           .mfc c r 0 (BitVec.ofNat 24 k.val), .mtc c 0 r (BitVec.ofNat 24 k.val)],
      exec i s = .next (takeException c { code := 2, addr := t.cores[c].pc } t))

/-- Running and resetting cores, the watchdogs, and the L2's own steps. RUN starts a held core at its start address with its
control registers at reset and its general registers as they were; reset holds it. The kick value restarts a watchdog, any other
and the second expiry put it in stage 2, with its source raised; that of YP restarts YP. Blocking waits for the misses and empties
the victim cache. A refill that returns puts the line's bytes into the L2, one with a bus error brings none; CLR_CNT clears the
counts (R455 to R459, R464, R465, R468, R469). -/
def Obligations.CoreComplex : Prop :=
  ∀ s : State, s.power.core = true → s.power.retention = true →
    (∀ n : Fin 4, (s.bit (CPX_CORE_CTRL.HELD n.val) = false → exec (.coreRun n) s = .next s) ∧
      (s.bit (CPX_CORE_CTRL.HELD n.val) = true → Gives (.coreRun n) s fun t =>
        t.cores[coreOfY n] = { regs := s.cores[coreOfY n].regs, pc := BitVec.ofNat 40 (8 * s.get (CPX_START.ADDR n.val)) } ∧
        t.get (CPX_CORE_CTRL.HELD n.val) = 0 ∧ t.get (CPX_CORE_CTRL.WFI n.val) = 0 ∧ t.get (CPX_CORE_CTRL.USER n.val) = 0 ∧
        OnlyRegs [(CPX_CORE_CTRL.HELD n.val).addr] { s with cores := s.cores.set (coreOfY n) t.cores[coreOfY n] } t) ∧
      (Gives (.coreReset n) s fun t => t.cores[coreOfY n] = { regs := s.cores[coreOfY n].regs, pc := 0 } ∧
        t.get (CPX_CORE_CTRL.HELD n.val) = 1 ∧ t.get (CPX_CORE_CTRL.WFI n.val) = 0 ∧
        OnlyRegs [(CPX_CORE_CTRL.HELD n.val).addr] { s with cores := s.cores.set (coreOfY n) t.cores[coreOfY n] } t)) ∧
    (∀ a : BitVec 27,
      (s.bit SYS_YP_CTRL.HELD = false → exec (.ypRun a) s = .next (s.set SYS_YP_CTRL.START a.toNat)) ∧
      (s.bit SYS_YP_CTRL.HELD = true → Gives (.ypRun a) s fun t =>
        t.cores[4] = { regs := s.cores[4].regs, pc := BitVec.ofNat 40 (8 * a.toNat), evbase := 0x0020000000 } ∧
        t.get SYS_YP_CTRL.START = a.toNat ∧ t.get SYS_YP_CTRL.HELD = 0 ∧
        OnlyRegs [SYS_YP_CTRL.HELD.addr] { s with cores := s.cores.set 4 t.cores[4] } t)) ∧
    (Gives .ypReset s fun t => t.get SYS_YP_CTRL.HELD = 1 ∧ t.get SYS_YP_CTRL.WFI = 0 ∧ t.cores[4].pc = 0 ∧ t.cores[4].stores = [] ∧
      OnlyRegs [SYS_YP_CTRL.HELD.addr] { s with cores := s.cores.set 4 t.cores[4] } t) ∧
    (∀ c : Fin 5,
      (eggOn c s = false → exec (.eggTimerExpiry c) s = .next s ∧ ∀ v, exec (.eggKick c v) s = .next s) ∧
      (eggOn c s = true → exec (.eggKick c 0xA5) s = .next (s.set (eggStage c) 0)) ∧
      (eggOn c s = true → s.get (eggStage c) = 0 → exec (.eggTimerExpiry c) s = .next (s.set (eggStage c) 1)) ∧
      (eggOn c s = true → s.get (eggStage c) = 2 → exec (.eggTimerExpiry c) s = .next s) ∧
      (eggOn c s = true → ∀ p ∈ [(Instr.eggKick c 0x5A, true), (Instr.eggTimerExpiry c, decide (s.get (eggStage c) = 1))], p.2 = true →
        Gives p.1 s fun t => t.get (eggStage c) = 2 ∧ t.raised = s.raised ++ [84 + c.val] ∧ t.mem = s.mem ∧
          (c ≠ 4 → (t.get CPX_INT.EGG2).testBit c.val = true) ∧
          (c = 4 → t.cores[4].pc = BitVec.ofNat 40 (8 * s.get SYS_YP_CTRL.START) ∧ t.get SYS_YP_CTRL.HELD = 0))) ∧
    (Gives (.l2BlockingWrite false) s fun t => t.get CPX_L2_CTRL.BLOCKING = 0 ∧ t.get CPX_L2_STATUS.BLOCKING_ACT = 0 ∧
      t.get CPX_L2_STATUS.DRAINING = 0 ∧ OnlyRegs [CPX_L2_CTRL.BLOCKING.addr, CPX_L2_STATUS.DRAINING.addr] s t) ∧
    (s.bit CPX_L2_STATUS.BLOCKING_ACT = false → Gives (.l2BlockingWrite true) s fun t => t.get CPX_L2_CTRL.BLOCKING = 1 ∧
      (s.l2.misses ≠ [] → t.get CPX_L2_STATUS.DRAINING = 1 ∧ t.get CPX_L2_STATUS.BLOCKING_ACT = 0 ∧ t.l2 = s.l2 ∧ t.mem = s.mem) ∧
      (s.l2.misses = [] → t.get CPX_L2_STATUS.DRAINING = 0 ∧ t.get CPX_L2_STATUS.BLOCKING_ACT = 1 ∧ t.l2.victims = [] ∧ t.l2.ways = s.l2.ways)) ∧
    (∀ k : Fin 8, (s.l2.misses[k.val]? = none → exec (.l2RefillDone k) s = .next s) ∧
      (∀ line, s.l2.misses[k.val]? = some line → memoryOn (64 * line) s = false → Gives (.l2RefillDone k) s fun t =>
        line ∉ t.l2.misses ∧ t.l2.ways = s.l2.ways) ∧
      (∀ line, s.l2.misses[k.val]? = some line → memoryOn (64 * line) s = true → l2Way line s = none → s.block (64 * line) = 0 →
        (∀ j : Fin 8, s.row (64 * line + 8 * j.val) = {}) → Gives (.l2RefillDone k) s fun t => line ∉ t.l2.misses ∧
          (l2Way line t).bind (kvFind t.l2.ways) = some { line := line, dirty := false, data := s.readBytes (64 * line) 64 })) ∧
    (Gives .cpxClrCnt s fun t => t.get CPX_L2_CNT_A.MISS = 0 ∧ t.get CPX_L2_CNT_A.MERGE = 0 ∧ t.get CPX_L2_CNT_B.PREFETCH = 0 ∧
      t.get CPX_L2_CNT_B.RECALL = 0 ∧ (∀ n : Fin 4, t.get (CPX_L1ERR.L1I n.val) = 0 ∧ t.get (CPX_L1ERR.TLB n.val) = 0) ∧
      OnlyRegs [CPX_L2_CNT_A.MISS.addr, CPX_L2_CNT_B.RECALL.addr, (CPX_L1ERR.L1I 0).addr, (CPX_L1ERR.L1I 1).addr, (CPX_L1ERR.L1I 2).addr,
        (CPX_L1ERR.L1I 3).addr] s t)

/-- Lines, software sources, targets and pending bits. A high line or a pulse sets the source's pending bit for its target and the
presentation follows; a low line only shows in LINE; a reserved source, or one whose part is unpowered, does nothing. INTC_SWI
sets only software sources. TARGET is written once, for the sources below 224, and a pending bit moves along. A write of INTC_PEND
sets and clears bits of the target's own sources, and a level source whose line is high stays pending (R470 to R475, R479, R484).
-/
def Obligations.InterruptController : Prop :=
  ∀ s : State,
    (∀ (k : Fin 256) (b : Bool),
      (intcReserved k.val = true ∨ intcOn k.val s = false → exec (.intcLineEvent k b) s = .next s) ∧
      (intcReserved k.val = false → intcOn k.val s = true →
        (intcEdge k.val = true → k.val ∉ s.pulses → exec (.intcLineEvent k b) s = .next s) ∧
        (intcEdge k.val = true → k.val ∈ s.pulses → intcTarget k.val s < 5 → Gives (.intcLineEvent k b) s fun t =>
          intcPend (intcTarget k.val s) k.val t = true ∧ t.pulses = s.pulses.erase k.val ∧ t.mem = s.mem) ∧
        (intcEdge k.val = false → intcLine k.val b s = false → exec (.intcLineEvent k b) s = .next (s.set (INTC_SRC.LINE k.val) 0)) ∧
        (intcEdge k.val = false → intcLine k.val b s = true → intcTarget k.val s < 5 → Gives (.intcLineEvent k b) s fun t =>
          t.get (INTC_SRC.LINE k.val) = 1 ∧ intcPend (intcTarget k.val s) k.val t = true ∧ t.mem = s.mem ∧
          ∀ j : Fin 5, t.bit (INTC_STATE.PRESENT j.val) = (intcBest j.val t).isSome ∧
            t.get (INTC_STATE.SRC j.val) = (intcBest j.val t).getD 0))) ∧
    (s.power.retention = true → ∀ src : BitVec 8,
      (src.toNat < 192 ∨ (224 ≤ src.toNat ∧ src.toNat < 240) → exec (.intcSwiGo src) s = .next s) ∧
      (((192 ≤ src.toNat ∧ src.toNat < 224) ∨ 240 ≤ src.toNat) → intcOn src.toNat s = true → intcTarget src.toNat s < 5 →
        Gives (.intcSwiGo src) s fun t => intcPend (intcTarget src.toNat s) src.toNat t = true ∧ t.mem = s.mem ∧ t.cores = s.cores)) ∧
    (s.power.core = true → ∀ (k : Fin 256) (g : BitVec 3),
      (intcReserved k.val = true ∨ 224 ≤ k.val ∨ 5 ≤ g.toNat ∨ s.bit (INTC_SRC.LOCKED k.val) = true →
        exec (.intcTargetWrite k g) s = .next s) ∧
      (intcReserved k.val = false → k.val < 224 → g.toNat < 5 → s.bit (INTC_SRC.LOCKED k.val) = false → s.get (INTC_SRC.TARGET k.val) < 5 →
        Gives (.intcTargetWrite k g) s fun t => t.get (INTC_SRC.TARGET k.val) = g.toNat ∧ t.get (INTC_SRC.LOCKED k.val) = 1 ∧
          intcPend g.toNat k.val t = (intcPend (s.get (INTC_SRC.TARGET k.val)) k.val s ||
            (g.toNat != s.get (INTC_SRC.TARGET k.val) && intcPend g.toNat k.val s)) ∧
          (g.toNat ≠ s.get (INTC_SRC.TARGET k.val) → intcPend (s.get (INTC_SRC.TARGET k.val)) k.val t = false) ∧ t.mem = s.mem)) ∧
    (s.power.core = true → s.power.retention = true → ∀ (g : Fin 5) (r : Fin 8) (w : BitVec 32) (j : Fin 32),
      Gives (.intcPendWrite g r w) s fun t => intcPend g.val (32 * r.val + j.val) t =
        (decide (intcTarget (32 * r.val + j.val) s = g.val) && !intcReserved (32 * r.val + j.val) &&
          (w.getLsbD j.val || (!intcEdge (32 * r.val + j.val) && s.bit (INTC_SRC.LINE (32 * r.val + j.val))))) ∧ t.mem = s.mem)

/-- Commands of the DMA channels and of the engine. A TAIL write that would fill the ring sets OVF and writes nothing; another
starts an idle channel. PAUSE, ENABLE and the engine's ENABLE move the state as R487 says; RESET empties the channel and its
pointers; RESUME starts the element again and SKIP ends the descriptor with its KIND; both act only in FAULTED. A missing response
is fault 0x12; the cipher lets a HELD channel run; an invalidation drops what its scope names; CLR_CNT clears the counts (R487,
R489, R498, R501 to R504, R507, R511). -/
def Obligations.DmaChannels : Prop :=
  ∀ s : State, s.power.core = true →
    (∀ k : Fin 32,
      (∀ tail : BitVec 12,
        (dmaPosted k s = true → tail.toNat % dmaRing k s = s.get (DMA_CH_RING_PTR.HEAD k) % dmaRing k s →
          exec (.dmaTailWrite k tail) s = .next (s.set (DMA_CH_STATUS.OVF k) 1)) ∧
        (dmaPosted k s = false ∨ tail.toNat % dmaRing k s ≠ s.get (DMA_CH_RING_PTR.HEAD k) % dmaRing k s → Gives (.dmaTailWrite k tail) s fun t =>
          t.get (DMA_CH_RING_PTR.TAIL k) = tail.toNat ∧ t.get (DMA_CH_RING_PTR.HEAD k) = s.get (DMA_CH_RING_PTR.HEAD k) ∧
          t.get (DMA_CH_STATUS.NOT_OWNED k) = 0 ∧ t.mem = s.mem ∧ t.dma.chan[k].asleep = false ∧
          (s.dma.chan[k].st = 1 → s.bit DMA_CTRL.ENABLE = true → s.bit (DMA_CH_CTRL.ENABLE k) = true → s.bit (DMA_CH_CTRL.PAUSE k) = false →
            s.bit DMA_HOST.BME_OFF = false →
            t.get (DMA_CH_STATUS.STATE k) = if tail.toNat % dmaRing k s = s.get (DMA_CH_RING_PTR.HEAD k) % dmaRing k s then 1 else 2))) ∧
      (Gives (.dmaPause k true) s fun t => t.get (DMA_CH_CTRL.PAUSE k) = 1 ∧
        t.dma.chan[k] = { s.dma.chan[k] with st := if s.dma.chan[k].st = 2 then 4 else s.dma.chan[k].st } ∧ t.mem = s.mem) ∧
      (Gives (.dmaPause k false) s fun t => t.get (DMA_CH_CTRL.PAUSE k) = 0 ∧ t.mem = s.mem ∧
        (s.dma.chan[k].st ≠ 4 → t.dma = s.dma) ∧
        (s.dma.chan[k].st = 4 → s.dma.chan[k].desc ≠ none → s.bit DMA_HOST.BME_OFF = false → t.dma.chan[k].st = 2)) ∧
      (Gives (.dmaChannelEnable k false) s fun t => t.get (DMA_CH_CTRL.ENABLE k) = 0 ∧ t.mem = s.mem ∧
        t.dma.chan[k] = { s.dma.chan[k] with
          st := if s.dma.chan[k].st = 1 ∨ (s.dma.chan[k].st = 2 ∧ s.dma.chan[k].desc = none) then 0 else s.dma.chan[k].st }) ∧
      (Gives (.dmaChannelEnable k true) s fun t => t.get (DMA_CH_CTRL.ENABLE k) = 1 ∧ t.mem = s.mem ∧
        (s.dma.chan[k].st ≠ 0 → t.dma = s.dma) ∧ (s.dma.chan[k].st = 0 → dmaPosted k s = false → t.dma.chan[k].st = 1)) ∧
      (Gives (.dmaChannelReset k) s fun t => t.dma.chan[k] = { stale := s.dma.chan[k].stale + boolNat s.dma.chan[k].read.isSome } ∧
        t.get (DMA_CH_RING_PTR.HEAD k) = 0 ∧ t.get (DMA_CH_RING_PTR.TAIL k) = 0 ∧ t.get (DMA_CH_FAULT.VALID k) = 0 ∧
        t.get (DMA_CH_STATUS.STATE k) = 0 ∧ t.mem = s.mem) ∧
      (s.dma.chan[k].st ≠ 5 → exec (.dmaResume k) s = .next s ∧ exec (.dmaSkip k) s = .next s) ∧
      (∀ d, s.dma.chan[k].st = 5 → s.dma.chan[k].site = some .element → s.dma.chan[k].desc = some d →
        (d.elems ≠ [] → s.bit (DMA_CH_CTRL.PAUSE k) = false → s.bit DMA_HOST.BME_OFF = false → Gives (.dmaResume k) s fun t =>
          t.dma.chan[k].desc = some { d with cur := 0 } ∧ t.dma.chan[k].st = 2 ∧ t.get (DMA_CH_FAULT.VALID k) = 0 ∧ t.mem = s.mem) ∧
        (Gives (.dmaSkip k) s fun t =>
          t.dma.chan[k].desc = some { d with finish := some (s.get (DMA_CH_FAULT.KIND k), s.get (DMA_CH_FAULT_DONE.BYTES_DONE k)) } ∧
          t.get (DMA_CH_FAULT.VALID k) = 0 ∧ t.get (DMA_CH_RING_PTR.HEAD k) = s.get (DMA_CH_RING_PTR.HEAD k) ∧ t.mem = s.mem)) ∧
      (s.dma.chan[k].st = 5 → s.dma.chan[k].site = some .fetch ∨ s.dma.chan[k].site = some .writeBack → Gives (.dmaSkip k) s fun t =>
        t.get (DMA_CH_RING_PTR.HEAD k) = (s.get (DMA_CH_RING_PTR.HEAD k) + 1) % dmaRing k s % 4096 ∧ t.dma.chan[k].desc = none ∧ t.mem = s.mem) ∧
      (∀ x : Fin 3, dmaActs k s = false → exec (.dmaAccessTimeout k x) s = .next s) ∧
      (dmaActs k s = true → s.dma.chan[k].desc = none → dmaPosted k s = true → Gives (.dmaAccessTimeout k 2) s fun t =>
        t.get (DMA_CH_FAULT.KIND k) = 0x12 ∧ t.get (DMA_CH_FAULT.SOURCE k) = 2 ∧ t.get (DMA_CH_FAULT.VALID k) = 1 ∧
        t.get (DMA_CH_STATUS.STATE k) = 5 ∧ t.get (DMA_CH_INT.FAULT k) = 1 ∧ t.raised = s.raised ++ [96 + dmaClass k] ∧ t.mem = s.mem) ∧
      (s.dma.chan[k].st ≠ 3 → exec (.dmaCipherReady k) s = .next s) ∧
      (∀ d, s.dma.chan[k].st = 3 → s.dma.chan[k].desc = some d → s.bit DMA_CTRL.ENABLE = true →
        (s.bit CIP_STATUS.ERROR = true → Gives (.dmaCipherReady k) s fun t => t.get (DMA_CH_FAULT.KIND k) = 0x17 ∧
          t.get (DMA_CH_FAULT.SOURCE k) = 6 ∧ t.get (DMA_CH_STATUS.STATE k) = 5 ∧ t.mem = s.mem) ∧
        (s.bit CIP_STATUS.ERROR = false → d.xts = true → (cipKey d.key d.xtsDecrypt s).isSome = true → s.bit (DMA_CH_CTRL.PAUSE k) = false →
          s.bit DMA_HOST.BME_OFF = false → Gives (.dmaCipherReady k) s fun t => t.get (DMA_CH_STATUS.STATE k) = 2 ∧
            t.dma.chan[k].desc = some d ∧ t.mem = s.mem) ∧
        (s.bit CIP_STATUS.ERROR = false → d.xts = true → cipKey d.key d.xtsDecrypt s = none → exec (.dmaCipherReady k) s = .next s))) ∧
    (∀ v : Bool, Gives (.dmaEngineEnable v) s fun t => t.get DMA_CTRL.ENABLE = boolNat v ∧ t.dma = s.dma ∧ t.mem = s.mem ∧
      ∀ k : Fin 32, t.get (DMA_CH_STATUS.STATE k) = (if v then s.dma.chan[k].st % 8 else 0)) ∧
    (∀ (sc : BitVec 2) (asid : BitVec 8) (vpn : BitVec 28), Gives (.dmaXlatInv sc asid vpn) s fun t =>
      let page (x : Xlat) : Bool := if x.big then x.vpn / 512 == vpn.toNat / 512 else x.vpn == vpn.toNat
      (sc = 0 → t.dma.xlat = []) ∧ (sc = 1 → t.dma.xlat = s.dma.xlat.filter fun x => x.asid != asid.toNat || pteG x.leaf) ∧
      (sc = 2 → t.dma.xlat = s.dma.xlat.filter fun x => !(page x && (pteG x.leaf || x.asid == asid.toNat))) ∧
      (sc = 3 → t.dma.xlat = s.dma.xlat.filter fun x => !page x) ∧ t.dma.chan = s.dma.chan ∧ t.mem = s.mem) ∧
    (Gives .dmaClrCnt s fun t => t.get DMA_XLAT_CNT.WALKS = 0 ∧ t.get DMA_XLAT_CNT.FAULTS = 0 ∧ t.dma = s.dma ∧ t.mem = s.mem ∧
      ∀ k : Fin 32, t.get (DMA_CH_CNT.DESC k) = 0 ∧ t.get (DMA_CH_CNT.FAULTS k) = 0)

/-- Descriptors, bursts, write-backs and streams, with translation off and clean memory. A fetch takes the posted descriptor's 32
bytes and its list; one that is not owned stops the channel with NOT_OWNED, a bad one is fault 0x15. The mover copies one burst
inside a 512-byte block; a host channel sends it as a posted write, or asks for a read. The write-back stores STATUS, DONE and
HOPS with OWN clear, and HEAD moves on. Stream out hands the bytes to the write path, stream in stores the record; an internal
transfer that cannot reach memory faults (R488 to R496, R500). -/
def Obligations.DmaTransfers : Prop :=
  ∀ s : State, s.power.core = true → (∀ x, s.row x = {} ∧ s.block x = 0) → (∀ k : Fin 32, s.bit (DMA_CH_CFG.XLAT_EN k) = false) →
    (∀ k : Fin 32,
      let a := 32 * s.get (DMA_CH_RING_BASE.BASE k) + 32 * (s.get (DMA_CH_RING_PTR.HEAD k) % dmaRing k s)
      let raw := s.readBytes a 32
      (dmaActs k s = false ∨ s.dma.chan[k].desc ≠ none → exec (.dmaDescriptorFetch k) s = .next s) ∧
      (dmaActs k s = true → s.dma.chan[k].desc = none → dmaPosted k s = false → Gives (.dmaDescriptorFetch k) s fun t =>
        t.get (DMA_CH_STATUS.STATE k) = (if s.bit (DMA_CH_CTRL.ENABLE k) then 1 else 0) ∧ t.mem = s.mem) ∧
      (∀ m, dmaActs k s = true → s.dma.chan[k].desc = none → dmaPosted k s = true → regionOf a s = .mem m →
        (∀ f, accessFail .dma false a 32 s = some f → f ≠ .bus → Gives (.dmaDescriptorFetch k) s fun t => t.get (DMA_CH_FAULT.KIND k) = 0x16 ∧
          t.get (DMA_CH_FAULT.SOURCE k) = 2 ∧ t.get (DMA_CH_STATUS.STATE k) = 5 ∧ t.mem = s.mem) ∧
        (accessFail .dma false a 32 s = none →
          (leAt raw 0 1 < 128 → Gives (.dmaDescriptorFetch k) s fun t => t.get (DMA_CH_STATUS.NOT_OWNED k) = 1 ∧
            t.get (DMA_CH_INT.NOT_OWNED k) = 1 ∧ t.dma.chan[k].desc = none ∧ t.dma.chan[k].asleep = true ∧ t.mem = s.mem) ∧
          (128 ≤ leAt raw 0 1 → descBad (dmaClass k) raw = true → Gives (.dmaDescriptorFetch k) s fun t =>
            t.get (DMA_CH_FAULT.KIND k) = 0x15 ∧ t.get (DMA_CH_FAULT.SOURCE k) = 2 ∧ t.get (DMA_CH_FAULT_ADDR.ADDR k) = a % 2 ^ 40 ∧
            t.get (DMA_CH_STATUS.STATE k) = 5 ∧ t.mem = s.mem) ∧
          (∀ m', 128 ≤ leAt raw 0 1 → descBad (dmaClass k) raw = false → leAt raw 0 1 % 32 = 0 → leAt raw 1 1 = 1 →
            regionOf (leAt raw 9 5) s = .mem m' → accessFail .dma false (leAt raw 9 5) 16 s = none →
            leAt (s.readBytes (leAt raw 9 5) 16) 11 1 = 0 → leAt (s.readBytes (leAt raw 9 5) 16) 12 4 = 0 →
            leAt (s.readBytes (leAt raw 9 5) 16) 8 3 ≠ 0 → (dmaClass k ≠ 0 → leAt (s.readBytes (leAt raw 9 5) 16) 0 8 < 2 ^ 40) →
            Gives (.dmaDescriptorFetch k) s fun t => t.get (DMA_CH_STATUS.ELEM k) = 1 ∧ t.get (DMA_CH_STATUS.HOP k) = 0 ∧ t.mem = s.mem ∧
              t.dma.chan[k].desc = some { addr := a, raw := raw, elems :=
                [DmaElem.mk (leAt (s.readBytes (leAt raw 9 5) 16) 0 8) (leAt (s.readBytes (leAt raw 9 5) 16) 8 3) 0] })))) ∧
    (∀ cls : Fin 4, (dmaGrant cls s = none → exec (.dmaBurst cls) s = .next s) ∧
      (∀ k d e r, dmaGrant cls s = some k → s.dma.chan[k].desc = some d → d.xts = false → d.elems = e :: r → d.cur < e.len →
        let loc := d.localAddr + d.done + d.cur
        let ext := e.addr + d.cur
        let n := min (e.len - d.cur) (512 - loc % 512)
        (dmaClass k = 0 → d.dir = false → Gives (.dmaBurst cls) s fun t =>
          t.dma.chan[k].read = some { addr := ext, len := n, local_ := loc } ∧ t.mem = s.mem ∧ t.hostOut = s.hostOut) ∧
        (∀ m, dmaClass k = 0 → d.dir = true → regionOf loc s = .mem m → accessFail .dma false loc n s = none → Gives (.dmaBurst cls) s fun t =>
          t.hostOut = s.hostOut ++ [{ addr := ext, data := s.readBytes loc n, poison := false }] ∧ t.mem = s.mem ∧
          t.spm.movedNow = s.spm.movedNow + n) ∧
        (∀ m m', dmaClass k ≠ 0 →
          let src := if d.dir then loc else ext
          let dst := if d.dir then ext else loc
          ext % 4096 + n ≤ 4096 → regionOf src s = .mem m → regionOf dst s = .mem m' → accessFail .dma false src n s = none →
          accessFail .dma true dst n s = none → src + n ≤ dst ∨ dst + n ≤ src → Gives (.dmaBurst cls) s fun t =>
            t.readBytes dst n = s.readBytes src n ∧ (∀ b, b < dst ∨ dst + n ≤ b → t.readByte b = s.readByte b) ∧
            t.dma.granted[cls] = k.val % 8 ∧ t.dma.chan[k].st = 2 ∧
            t.dma.chan[k].desc.map (fun y => (y.cur, y.done, y.elems.length)) =
              some (if d.cur + n < e.len then (d.cur + n, d.done, r.length + 1) else (0, d.done + e.len, r.length))))) ∧
    (∀ k : Fin 32, (dmaActs k s = false → exec (.dmaDescriptorComplete k) s = .next s) ∧
      (∀ d st n m, dmaActs k s = true → s.dma.chan[k].desc = some d → d.finish = some (st, n) → d.addr % 32 = 0 → d.raw.length = 32 →
        regionOf d.addr s = .mem m → accessFail .dma true d.addr 32 s = none → Gives (.dmaDescriptorComplete k) s fun t =>
          t.readBytes d.addr 32 = descBack d st n ∧ (∀ b, b < d.addr ∨ d.addr + 32 ≤ b → t.readByte b = s.readByte b) ∧
          t.dma.chan[k].desc = none ∧
          t.get (DMA_CH_RING_PTR.HEAD k) = (s.get (DMA_CH_RING_PTR.HEAD k) + 1) % dmaRing k s % 4096 ∧
          (d.ctl.testBit 6 = true → t.get (DMA_CH_INT.DONE k) = 1))) ∧
    (∀ (k : Fin 8) (n : Fin 2) (f : BitVec 40), s.unitOn n.val = true →
      (dmaActs (mediaChan k) s = false → exec (.dmaStreamOut k n f) s = .next s) ∧
      (∀ d e, dmaActs (mediaChan k) s = true → s.wp[n].chan = (mediaChan k).val → s.wp[n].inbox = [] → s.wp[n].owed = [] →
        s.wp[n].flagged = [] → s.dma.chan[mediaChan k].desc = some d → d.stream = true → d.dir = false → d.xts = false → d.finish = none →
        d.elems = [e] → e.len = 4096 → e.addr % 4096 = 0 → regionOf e.addr s = .mem 4 → accessFail .dma false e.addr 4096 s = none →
        leAt d.raw 24 1 ≠ 0 → leAt d.raw 25 1 = 1 →
        Gives (.dmaStreamOut k n f) s fun t => t.mem = s.mem ∧ (t.dma.chan[mediaChan k].desc.bind fun y => y.finish).isSome = true ∧
          (t.wp[n].inbox.map fun h => h.kind) = [1])) ∧
    (∀ (k : Fin 8) (c : Fin 4), s.unitOn (halfOf c).val = true →
      (dmaActs (mediaChan k) s = false ∨ s.dc[c].deliveries = [] → exec (.dmaStreamIn k c) s = .next s) ∧
      (∀ d x r m, dmaActs (mediaChan k) s = true → s.dma.chan[mediaChan k].desc = some d → s.dc[c].deliveries = x :: r →
        d.stream = true → d.dir = true → d.xts = false → d.finish = none → x.user = [] → x.record.length = 64 → d.localAddr % 64 = 0 →
        regionOf d.localAddr s = .mem m → accessFail .dma true d.localAddr 64 s = none → Gives (.dmaStreamIn k c) s fun t =>
          t.readBytes d.localAddr 64 = x.record ∧ (∀ b, b < d.localAddr ∨ d.localAddr + 64 ≤ b → t.readByte b = s.readByte b) ∧
          t.dc[c].deliveries = r ∧ (t.dma.chan[mediaChan k].desc.bind fun y => y.finish) = some (0, 0))) ∧
    (∀ (k : Fin 8) (u : Fin 3),
      (dmaServes (mediaChan k).val s = false ∨ internalOf (mediaChan k) u.val s = none → exec (.dmaInternalTransfer k u) s = .next s) ∧
      (∀ a n, dmaServes (mediaChan k).val s = true → internalOf (mediaChan k) u.val s = some (a, n) →
        ((pagesOf a n).length ≤ 24 → (∀ p ∈ pagesOf a n, accessFail .dma true p.1 p.2 s = none) →
          exec (.dmaInternalTransfer k u) s = .next s) ∧
        (∀ f, pagesOf a n = [(a, n)] → accessFail .dma true a n s = some f → f ≠ .bus → f ≠ .ue → Gives (.dmaInternalTransfer k u) s fun t =>
          t.get (DMA_CH_FAULT.KIND (mediaChan k).val) = 0x16 ∧ t.dma.chan[mediaChan k].site = some (.internal u.val) ∧
          t.get (DMA_CH_FAULT.SOURCE (mediaChan k).val) = 4 ∧ t.get (DMA_CH_STATUS.STATE (mediaChan k).val) = 5 ∧ t.mem = s.mem)))

/-- The link, its power states, errors and the resets of the function. With PERST high and LTSSM_EN set the link trains to the
best both sides offer; a link-down, a hot reset or PERST low resets the function, and an FLR silences the host channels, discards
every NVMe command and disables every queue until COMPLETE or 10 ms; configuration space then returns to its reset values but for
what is sticky. ASPM and LTR follow Link Control and the outstanding work; errors, completions and timeouts are counted and
reported (R514, R524 to R529, R534 to R538). -/
def Obligations.PcieLinkAndResets : Prop :=
  ∀ s : State, s.power.core = true →
    (∀ (w : Fin 2) (v : Fin 5),
      exec (.pcieLinkTraining true w v) s = .next (s.set PCE_STATUS.PERST 1) ∧
      (s.bit PCE_CTRL.LTSSM_EN = false ∨ s.power.pciePhy = false → exec (.pcieLinkTraining false w v) s = .next (s.set PCE_STATUS.PERST 0)) ∧
      (s.bit PCE_CTRL.LTSSM_EN = true → s.power.pciePhy = true → Gives (.pcieLinkTraining false w v) s fun t =>
        t.get PCE_STATUS.WIDTH = min (w.val + 1) (if s.get PCE_CTRL.MAX_WIDTH = 1 then 1 else 2) ∧
        t.get PCE_STATUS.SPEED = min (v.val + 1) (if s.get PCE_CTRL.MAX_SPEED = 0 ∨ 5 < s.get PCE_CTRL.MAX_SPEED then 5 else s.get PCE_CTRL.MAX_SPEED) ∧
        t.get PCE_STATUS.LINK_STATE = 3 ∧ t.get PCE_STATUS.LINK_UP = 1 ∧ (s.bit PCE_STATUS.LINK_UP = false → t.get PCE_INT.LINK_UP = 1) ∧
        OnlyRegs [PCE_STATUS.LINK_UP.addr, PCE_INT.LINK_UP.addr] s t)) ∧
    (s.bit PCE_STATUS.LINK_UP = false → exec .pcieLinkDown s = .next s ∧ exec (.pcieHotReset false) s = .next s) ∧
    (s.bit PCE_STATUS.LINK_UP = true → ∀ i ∈ [Instr.pcieLinkDown, Instr.pcieHotReset false, Instr.pcieHotReset true], Gives i s fun t =>
      t.get PCE_STATUS.LINK_UP = 0 ∧ t.get PCE_STATUS.WIDTH = 0 ∧ t.get PCE_INT.LINK_DOWN = 1 ∧ t.get PCE_INT.HOT_RESET = 1 ∧
      t.get PCE_FLR.BUSY = 1 ∧ t.pce.hot = true) ∧
    (pceFlr s = true → exec .pcieFlrInitiate s = .next s) ∧
    (pceFlr s = false → Gives .pcieFlrInitiate s fun t => t.get PCE_FLR.BUSY = 1 ∧ t.get PCE_INT.FLR = 1 ∧ t.get DMA_HOST.FLR_DONE = 1 ∧
      t.get DMA_HOST.BME_OFF = 1 ∧ t.get NVQ_STATUS.FETCH_STOP = 1 ∧ t.nvq.cmds = [] ∧ t.nvq.cc = 0 ∧ t.nvme.waiting = [] ∧
      t.get NVQ_CSTS.RDY = 0 ∧ (∀ q : Fin 65, t.get (NVQ_SQ.EN q.val) = 0 ∧ t.get (NVQ_CQ.EN q.val) = 0) ∧
      (∀ k : Fin 8, t.dma.chan[k].desc = none ∧ t.dma.chan[k].st = 0)) ∧
    (pceFlr s = false ∨ s.bit DMA_HOST.FLR_DONE = false → exec .pceFlrComplete s = .next s) ∧
    (pceFlr s = true → s.bit DMA_HOST.FLR_DONE = true → Gives .pceFlrComplete s fun t => t.get PCE_FLR.BUSY = 0 ∧ t.get PCE_STATUS.FLR_BUSY = 0 ∧
      t.get PCE_STATUS.BME = 0 ∧ t.get PCE_STATUS.DSTATE = 0 ∧ t.pce.msix = [] ∧ t.pce.pba = [] ∧ pceBme t = false ∧ t.mem = s.mem ∧
      (∀ j : Fin 1024, cfgWord j.val t = if (cfgReg j.val).sticky || ((cfgReg j.val).keep && !s.pce.hot) then cfgWord j.val s else (cfgReg j.val).rst)) ∧
    (pceFlr s = false → exec .pcieFlrForced s = .next s) ∧
    (pceFlr s = true → Gives .pcieFlrForced s fun t => t.get PCE_FLR.BUSY = 0 ∧ t.get PCE_FLR.FORCED = 1 ∧ t.raised = s.raised ++ [100] ∧
      t.nvq = {} ∧ t.mem = s.mem) ∧
    (∀ (k : Fin 8) (l : List Byte) (ep : Bool), s.dma.chan[k].read = none →
      (s.dma.chan[k].stale = 0 → exec (.pcieCompletionTimeout k) s = .next s ∧ Gives (.pcieCompletionRx k 0 l ep false) s fun t =>
        (cfgWord 65 t).testBit 16 = true ∧ t.mem = s.mem ∧ t.dma = s.dma) ∧
      (0 < s.dma.chan[k].stale → (Gives (.pcieCompletionTimeout k) s fun t => t.dma.chan[k].stale = s.dma.chan[k].stale - 1 ∧
          t.get PCE_ERR.CPL_TIMEOUT = min (s.get PCE_ERR.CPL_TIMEOUT + 1) (2 ^ PCE_ERR.CPL_TIMEOUT.len - 1) ∧ t.mem = s.mem) ∧
        Gives (.pcieCompletionRx k 0 l ep false) s fun t => t.dma.chan[k].stale = s.dma.chan[k].stale - 1 ∧ t.mem = s.mem ∧ t.regs = s.regs)) ∧
    (∀ (k : Fin 8) (r : HostRead) (d : DmaDesc) (l : List Byte), s.dma.chan[k].read = some r → s.dma.chan[k].desc = some d →
      s.bit DMA_CTRL.ENABLE = true →
      (Gives (.pcieCompletionTimeout k) s fun t => t.get (DMA_CH_FAULT.KIND k.val) = 0x12 ∧ t.get (DMA_CH_FAULT.SOURCE k.val) = 0 ∧
        t.get (DMA_CH_STATUS.STATE k.val) = 5 ∧ t.dma.chan[k].read = none ∧ t.mem = s.mem) ∧
      (r.tries < s.get (DMA_CH_CFG.RETRY k.val) → Gives (.pcieCompletionRx k 1 l false false) s fun t =>
        t.dma.chan[k].read = some { r with tries := r.tries + 1 } ∧ t.regs = s.regs ∧ t.mem = s.mem) ∧
      (s.get (DMA_CH_CFG.RETRY k.val) ≤ r.tries → Gives (.pcieCompletionRx k 2 l false false) s fun t =>
        t.get (DMA_CH_FAULT.KIND k.val) = 0x11 ∧ t.get (DMA_CH_STATUS.STATE k.val) = 5 ∧ t.mem = s.mem) ∧
      (∀ m, s.bit (DMA_CH_CFG.XLAT_EN k.val) = false → l.length = r.len → r.local_ % 4096 + r.len ≤ 4096 → 0 < r.len → regionOf r.local_ s = .mem m →
        accessFail .dma true r.local_ r.len s = none → (∀ x, s.row x = {} ∧ s.block x = 0) → Gives (.pcieCompletionRx k 0 l false false) s fun t =>
          t.readBytes r.local_ r.len = l ∧ (∀ b, b < r.local_ ∨ r.local_ + r.len ≤ b → t.readByte b = s.readByte b) ∧
          t.dma.chan[k].read = none ∧ t.spm.movedNow = s.spm.movedNow + r.len)) ∧
    (∀ h : BitVec 128,
      (Gives (.pcieAerError .receiver h) s fun t => t.get PCE_ERR.RX_ERR = min (s.get PCE_ERR.RX_ERR + 1) (2 ^ PCE_ERR.RX_ERR.len - 1) ∧
        (cfgWord 68 t).testBit 0 = true ∧ t.get PCE_INT.AER_COR = 1 ∧ t.mem = s.mem) ∧
      (Gives (.pcieAerError .replayTimer h) s fun t => (cfgWord 68 t).testBit 12 = true ∧ t.get PCE_ERR.RX_ERR = s.get PCE_ERR.RX_ERR) ∧
      (Gives (.pcieAerError .malformed h) s fun t => (cfgWord 65 t).testBit 18 = true ∧ t.get PCE_INT.AER_UNCOR = 1 ∧ t.mem = s.mem) ∧
      (Gives (.pcieAerError .internal h) s fun t => (cfgWord 65 t).testBit 22 = true ∧ t.raised = s.raised ++ [101] ∧ t.mem = s.mem)) ∧
    (Gives .pceClrCnt s fun t => t.get PCE_ERR.RX_ERR = 0 ∧ t.get PCE_ERR.REPLAY = 0 ∧ t.get PCE_ERR.UR = 0 ∧ t.get PCE_ERR.POISON_RX = 0 ∧
      t.get PCE_ERR.CPL_TIMEOUT = 0 ∧ OnlyRegs [PCE_ERR.UR.addr] s t) ∧
    (exec .aspmL0sEntry s = .next (if s.get PCE_STATUS.LINK_STATE = 3 ∧ (cfgWord 32 s).testBit 0 = true then s.set PCE_STATUS.LINK_STATE 5 else s)) ∧
    ((cfgWord 32 s).testBit 1 = false → exec .aspmL1Entry s = .next s) ∧
    ((cfgWord 32 s).testBit 1 = true → s.get PCE_STATUS.LINK_STATE = 3 → (∀ k : Fin 32, s.dma.chan[k].read = none ∧ s.dma.chan[k].stale = 0) →
      exec .aspmL1Entry s = .next (s.set PCE_STATUS.LINK_STATE
        (if (cfgWord 120 s).testBit 2 = true ∧ ltrPasses s = true then 8 else if (cfgWord 120 s).testBit 3 = true then 7 else 6))) ∧
    (Gives .aspmExit s fun t => t.get PCE_STATUS.LINK_STATE =
      (if 5 ≤ s.get PCE_STATUS.LINK_STATE ∧ s.get PCE_STATUS.LINK_STATE ≤ 8 then 3 else s.get PCE_STATUS.LINK_STATE) ∧
      OnlyRegs [PCE_STATUS.LINK_STATE.addr] s t) ∧
    ((cfgWord 38 s).testBit 10 = false ∨ s.bit PCE_STATUS.LINK_UP = false → exec .ltrSend s = .next s) ∧
    ((cfgWord 38 s).testBit 10 = true → s.bit PCE_STATUS.LINK_UP = true →
      (s.nvq.cmds ≠ [] → s.pce.ltr ≠ some 15 → Gives .ltrSend s fun t => t.pce.ltr = some 15 ∧ t.pce.sent = s.pce.sent ++ [(0x10, 15)] ∧
        t.mem = s.mem) ∧
      (s.nvq.cmds = [] → (∀ q : Fin 65, s.bit (NVQ_SQ.EN q.val) = false) → s.pce.ltr ≠ some 3000 → Gives .ltrSend s fun t =>
        t.pce.ltr = some 3000 ∧ t.pce.sent = s.pce.sent ++ [(0x10, 3000)] ∧ t.mem = s.mem))

/-- Requests of the host, MSI-X, Bus Master Enable and power states. While the link is down nothing happens; a configuration
request is answered CRS before CFG_READY, a read with the register, a write changes only writable bits and clears the bits written
1. A memory request of another size is Unsupported; a write of CC is latched. A vector sends its message or sets its pending bit,
and pending ones go out when they may. Clearing Bus Master Enable, or D3hot, stops requests toward the host and setting it resumes
them (R514, R516, R518 to R523, R529, R532, R533). -/
def Obligations.PcieHostRequests : Prop :=
  ∀ s : State, s.power.core = true →
    (s.bit PCE_STATUS.LINK_UP = false → ∀ w r be d ep b2 o n x l v e,
      exec (.pcieConfigRequest w r be d ep) s = .next s ∧ exec (.pcieMemoryRequest b2 w o n x ep l) s = .next s ∧
      exec (.pcieXromRead v n e) s = .next s) ∧
    (s.bit PCE_STATUS.LINK_UP = true → s.get PCE_STATUS.LINK_STATE = 3 →
      (∀ (w : Bool) (r : BitVec 10) (be : BitVec 4) (d : BitVec 32) (ep : Bool),
        (s.bit PCE_CTRL.CFG_READY = false → exec (.pcieConfigRequest w r be d ep) s = .next { s with pce := { s.pce with reply := .crs } }) ∧
        (s.bit PCE_CTRL.CFG_READY = true →
          exec (.pcieConfigRequest false r be d ep) s = .next { s with pce := { s.pce with reply := .data (leBytes 4 (cfgRead r.toNat s)) } } ∧
          (Gives (.pcieConfigRequest true r be d true) s fun t => t.pce.reply = .ur ∧ t.get PCE_INT.POISON_RX = 1 ∧ t.mem = s.mem ∧
            (r.toNat < 65 → r.toNat ≠ 30 → cfgWord r.toNat t = cfgWord r.toNat s)) ∧
          (r.toNat ≠ 1 → r.toNat ≠ 17 → r.toNat ≠ 30 → Gives (.pcieConfigRequest true r be d false) s fun t =>
            t.pce.reply = .done ∧ t.mem = s.mem ∧ t.regs = s.regs ∧
            ∀ b : Fin 32, (cfgWord r.toNat t).testBit b.val =
              (if be.getLsbD (b.val / 8) && (cfgReg r.toNat).rw.testBit b.val && !((cfgReg r.toNat).w1c.testBit b.val && d.getLsbD b.val)
                then d.getLsbD b.val
               else (cfgWord r.toNat s).testBit b.val &&
                !(be.getLsbD (b.val / 8) && (cfgReg r.toNat).w1c.testBit b.val && d.getLsbD b.val))))) ∧
      (∀ (w b2 ep : Bool) (o : BitVec 16) (n : BitVec 13) (x : BitVec 64) (l : List (BitVec 512)),
        (pceMse s = false ∨ pceD3 s = true ∨ pceFlr s = true ∨ (n ≠ 4 ∧ n ≠ 8) → Gives (.pcieMemoryRequest b2 w o n x ep l) s fun t =>
          t.pce.reply = (if w then .none else .ur) ∧ t.get PCE_ERR.UR = min (s.get PCE_ERR.UR + 1) (2 ^ PCE_ERR.UR.len - 1) ∧
          t.nvq = s.nvq ∧ t.mem = s.mem) ∧
        (pceMse s = true → pceD3 s = false → pceFlr s = false →
          (exec (.pcieMemoryRequest false false 0x14 4 x ep l) s =
            .next { s with pce := { s.pce with reply := .data (leBytes 4 s.nvq.cc.toNat) } }) ∧
          (Gives (.pcieMemoryRequest false true 0x14 4 x true l) s fun t => t.nvq = s.nvq ∧ t.get PCE_INT.POISON_RX = 1 ∧ t.mem = s.mem) ∧
          (Gives (.pcieMemoryRequest false true 0x14 4 x false l) s fun t => t.nvq.cc.toNat = x.toNat % 2 ^ 32 &&& 0x00FFFFF1 ∧
            t.get NVQ_CC.CC = x.toNat % 2 ^ 32 &&& 0x00FFFFF1 ∧ (x.toNat % 2 ≠ s.nvq.cc.toNat % 2 → t.get NVQ_INT.CC_EN = 1) ∧
            (bits x.toNat 14 2 ≠ bits s.nvq.cc.toNat 14 2 → t.get NVQ_INT.SHN = 1) ∧ t.mem = s.mem))) ∧
      (∀ (o : BitVec 19) (n : BitVec 13) (err : Bool),
        (pceMse s = false ∨ (cfgWord 12 s).testBit 0 = false → Gives (.pcieXromRead o n err) s fun t => t.pce.reply = .ur ∧ t.mem = s.mem) ∧
        (pceMse s = true → pceD3 s = false → pceFlr s = false → (cfgWord 12 s).testBit 0 = true → o.toNat + n.toNat ≤ 2 ^ 19 →
          (s.bit PCE_XROM.VALID = false → exec (.pcieXromRead o n err) s =
            .next { s with pce := { s.pce with reply := .data (zeros n.toNat) } }) ∧
          (s.bit PCE_XROM.VALID = true → (exec (.pcieXromRead o n false) s =
              .next { s with pce := { s.pce with reply := .data (flashRead (s.get PCE_XROM.BASE * 65536 + o.toNat) n.toNat s) } }) ∧
            (Gives (.pcieXromRead o n true) s fun t => t.pce.reply = .ca ∧ t.get PCE_INT.XROM_ERR = 1 ∧ t.mem = s.mem))))) ∧
    (∀ v : Fin 65,
      (msixOpen v.val s = true → Gives (.msixRaise v) s fun t => t.hostOut = s.hostOut ++ [HostWrite.mk (msixWord (4 * v.val) s + 2 ^ 32 * msixWord (4 * v.val + 1) s)
          (leBytes 4 (msixWord (4 * v.val + 2) s)) false] ∧ t.pce.pba = s.pce.pba ∧ t.mem = s.mem) ∧
      (msixOpen v.val s = false → Gives (.msixRaise v) s fun t => t.hostOut = s.hostOut ∧ v.val ∈ t.pce.pba ∧ (∀ u, u ∈ s.pce.pba → u ∈ t.pce.pba) ∧
        t = { s with pce := t.pce })) ∧
    ((∀ v ∈ s.pce.pba, msixOpen v s = false) → exec .msixPendingSend s = .next s) ∧
    (∀ v, s.pce.pba = [v] → msixOpen v s = true → Gives .msixPendingSend s fun t => t.pce.pba = [] ∧ t.mem = s.mem ∧
      t.hostOut.length = s.hostOut.length + 1) ∧
    (pceBme s = false → exec .pcieBmeClear s = .next s) ∧ (pceBme s = true → exec .pcieBmeSet s = .next s) ∧
    (pceD3 s = true → exec .pcieD3hotEntry s = .next s) ∧ (pceD3 s = false → exec .pcieD0Return s = .next s) ∧
    (pceBme s = true → Gives .pcieBmeClear s fun t => pceBme t = false ∧ t.get PCE_STATUS.BME = 0 ∧ t.get PCE_INT.BME = 1 ∧ t.mem = s.mem ∧
      (pceFlr s = false → pceD3 s = false → t.get DMA_HOST.BME_OFF = 1 ∧ t.get NVQ_STATUS.FETCH_STOP = 1)) ∧
    (pceBme s = false → Gives .pcieBmeSet s fun t => pceBme t = true ∧ t.get PCE_STATUS.BME = 1 ∧ t.get PCE_INT.BME = 1 ∧ t.mem = s.mem ∧
      (pceFlr s = false → pceD3 s = false → t.get DMA_HOST.BME_OFF = 0 ∧ t.get NVQ_STATUS.FETCH_STOP = 0)) ∧
    (pceD3 s = false → Gives .pcieD3hotEntry s fun t => pceD3 t = true ∧ t.get PCE_STATUS.DSTATE = 3 ∧ t.get PCE_INT.DSTATE = 1 ∧ t.mem = s.mem ∧
      (pceFlr s = false → pceBme s = true → t.get DMA_HOST.BME_OFF = 1 ∧ t.get NVQ_STATUS.FETCH_STOP = 1)) ∧
    (pceD3 s = true → Gives .pcieD0Return s fun t => pceD3 t = false ∧ t.get PCE_STATUS.DSTATE = 0 ∧ t.get PCE_INT.DSTATE = 1 ∧ t.mem = s.mem ∧
      (pceFlr s = false → pceBme s = true → t.get DMA_HOST.BME_OFF = 0 ∧ t.get NVQ_STATUS.FETCH_STOP = 0))

/-- The controller's enable and shutdown, and the admin commands. CC.EN brings the controller up on allowed settings and sets CFS
otherwise; its fall discards every command; a shutdown ends in SHST 2. Each admin command that firmware takes is completed with
the status that the spec gives for its operands, or has its effect: queues created and deleted, Abort, events, Identify, features,
log pages, firmware, security, Sanitize and the dictionary commands (R540 to R544, R564 to R576). -/
def Obligations.NvmeAdminCommands : Prop :=
  ∀ s : State, s.power.core = true →
    (s.nvq.cc.toNat % 2 = 0 ∨ s.bit NVQ_CSTS.RDY = true → exec .ccEnRise s = .next s) ∧
    (s.nvq.cc.toNat % 2 = 1 → s.bit NVQ_CSTS.RDY = false →
      (s.nvq.aqa.toNat % 4096 = 0 ∨ 1023 < s.nvq.aqa.toNat / 65536 ∨ bits s.nvq.cc.toNat 16 4 ≠ 6 ∨ bits s.nvq.cc.toNat 4 3 ≠ 6 →
        exec .ccEnRise s = .next (s.set NVQ_CSTS.CFS 1)) ∧
      (s.nvq.cc.toNat = 0x00460061 → s.nvq.aqa.toNat = 0x001F000F → Gives .ccEnRise s fun t => t.get NVQ_CSTS.RDY = 1 ∧ t.get NVQ_CTRL.ENABLE = 1 ∧
        t.get (NVQ_SQ.EN 0) = 1 ∧ t.get (NVQ_SQ.SIZE 0) = 15 ∧ t.get (NVQ_CQ.EN 0) = 1 ∧ t.get (NVQ_CQ.SIZE 0) = 31 ∧ t.get (NVQ_CQ.PHASE 0) = 1 ∧
        t.get (NVQ_SQ_ADDR.PAGE 0) = s.nvq.asq.toNat / 4096 % 2 ^ 40 ∧ t.get (NVQ_SQ_PTR.HEAD 0) = 0 ∧ t.get (NVQ_SQ_PTR.TAIL 0) = 0 ∧ t.mem = s.mem)) ∧
    (s.nvq.cc.toNat % 2 = 1 → exec .ccEnFall s = .next s) ∧
    (s.nvq.cc.toNat % 2 = 0 → Gives .ccEnFall s fun t => t.nvq.cmds = [] ∧ t.nvme.waiting = [] ∧ t.get NVQ_CSTS.RDY = 0 ∧ t.get NVQ_CSTS.SHST = 0 ∧
      ∀ q : Fin 65, t.get (NVQ_SQ.EN q.val) = 0 ∧ t.get (NVQ_CQ.EN q.val) = 0) ∧
    (bits s.nvq.cc.toNat 14 2 ≠ 1 → exec .normalShutdown s = .next s) ∧ (bits s.nvq.cc.toNat 14 2 ≠ 2 → exec .abruptShutdown s = .next s) ∧
    (bits s.nvq.cc.toNat 14 2 = 1 → Gives .normalShutdown s fun t => t.get NVQ_CSTS.SHST = 2 ∧ t.nvme.cached = [] ∧
      ∀ p ∈ s.nvme.active, zoneIsOpen p.1 t = false) ∧
    (bits s.nvq.cc.toNat 14 2 = 2 → Gives .abruptShutdown s fun t => t.get NVQ_CSTS.SHST = 2 ∧ t.zones = s.zones ∧ t.nvme = s.nvme) ∧
    (∀ (sq : Fin 65) (cid : BitVec 16) (c : NvmeCmd),
      let q := c.dw 10 % 65536
      let size := c.dw 10 / 65536
      (Takes true 0x05 sq cid c s → c.prp1 < 2 ^ 52 →
        ((c.dw 11).testBit 0 = false → exec (.nvmeCreateIoCq sq cid) s = .next (nvmeComplete c (nvmeErr 0 0x02) 0 0 s)) ∧
        ((c.dw 11).testBit 0 = true → q = 0 ∨ 64 < q → exec (.nvmeCreateIoCq sq cid) s = .next (nvmeComplete c (nvmeErr 1 0x01) 0 0 s)) ∧
        ((c.dw 11).testBit 0 = true → 1 ≤ q → q ≤ 64 → s.bit (NVQ_CQ.EN q) = false → 1 ≤ size → size ≤ 1023 → c.dw 11 / 65536 ≤ 64 →
          Gives (.nvmeCreateIoCq sq cid) s fun t => t.get (NVQ_CQ.EN q) = 1 ∧ t.get (NVQ_CQ.SIZE q) = size ∧
            t.get (NVQ_CQ.IV q) = c.dw 11 / 65536 ∧ t.get (NVQ_CQ.IEN q) = bits (c.dw 11) 1 1 ∧ t.get (NVQ_CQ_ADDR.PAGE q) = c.prp1 / 4096 % 2 ^ 40)) ∧
      (Takes true 0x01 sq cid c s → c.prp1 < 2 ^ 52 → (c.dw 11).testBit 0 = true → 1 ≤ q → q ≤ 64 → s.bit (NVQ_SQ.EN q) = false →
        (size = 0 ∨ 1023 < size → exec (.nvmeCreateIoSq sq cid) s = .next (nvmeComplete c (nvmeErr 1 0x02) 0 0 s)) ∧
        (1 ≤ size → size ≤ 1023 → c.dw 11 / 65536 = 0 ∨ 64 < c.dw 11 / 65536 →
          exec (.nvmeCreateIoSq sq cid) s = .next (nvmeComplete c (nvmeErr 1 0x00) 0 0 s)) ∧
        (1 ≤ size → size ≤ 1023 → 1 ≤ c.dw 11 / 65536 → c.dw 11 / 65536 ≤ 64 → s.bit (NVQ_CQ.EN (c.dw 11 / 65536)) = true →
          Gives (.nvmeCreateIoSq sq cid) s fun t => t.get (NVQ_SQ.EN q) = 1 ∧ t.get (NVQ_SQ.SIZE q) = size ∧
            t.get (NVQ_SQ.CQID q) = c.dw 11 / 65536 ∧ t.get (NVQ_SQ.RING q) = q % 8 ∧ t.get (NVQ_SQ.QPRIO q) = bits (c.dw 11) 1 2 ∧
            t.get (NVQ_SQ_PTR.HEAD q) = 0 ∧ t.get (NVQ_SQ_PTR.TAIL q) = 0)) ∧
      (Takes true 0x00 sq cid c s →
        (q = 0 ∨ 64 < q → exec (.nvmeDeleteIoSq sq cid) s = .next (nvmeComplete c (nvmeErr 1 0x01) 0 0 s)) ∧
        (1 ≤ q → q ≤ 64 → s.bit (NVQ_SQ.EN q) = true → Gives (.nvmeDeleteIoSq sq cid) s fun t => t.get (NVQ_SQ.EN q) = 0)) ∧
      (Takes true 0x04 sq cid c s →
        (q = 0 ∨ 64 < q → exec (.nvmeDeleteIoCq sq cid) s = .next (nvmeComplete c (nvmeErr 1 0x01) 0 0 s)) ∧
        (1 ≤ q → q ≤ 64 → s.bit (NVQ_CQ.EN q) = true →
          ((∃ k : Fin 65, s.bit (NVQ_SQ.EN k.val) = true ∧ s.get (NVQ_SQ.CQID k.val) = q) →
            exec (.nvmeDeleteIoCq sq cid) s = .next (nvmeComplete c (nvmeErr 1 0x0C) 0 0 s)) ∧
          ((∀ k : Fin 65, s.bit (NVQ_SQ.EN k.val) = false ∨ s.get (NVQ_SQ.CQID k.val) ≠ q) → Gives (.nvmeDeleteIoCq sq cid) s fun t =>
            t.get (NVQ_CQ.EN q) = 0))) ∧
      (Takes true 0x08 sq cid c s → ∀ b : Bool,
        (s.nvq.cmds = [c] → exec (.nvmeAbort sq cid b) s = .next (nvmeComplete c {} 1 0 s)) ∧
        (∀ x, s.nvq.cmds = [c, x] → x ≠ c → x.sq = q → x.cid = size → x.done = false →
          exec (.nvmeAbort sq cid b) s = .next (if b then nvmeComplete c {} 1 0 s else nvmeComplete c {} 0 0 (nvmeComplete x (nvmeErr 0 0x07) 0 0 s)))) ∧
      (Takes true 0x0C sq cid c s → s.nvq.cmds = [c] →
        (s.nvme.events = [] → exec (.nvmeAsyncEventRequest sq cid) s = .next s) ∧
        (∀ e r, s.nvme.events = e :: r → exec (.nvmeAsyncEventRequest sq cid) s =
          .next (nvmeComplete c {} e 0 { s with nvme := { s.nvme with events := r, masked := e % 8 :: s.nvme.masked } }))) ∧
      (Takes true 0x06 sq cid c s → ∀ l,
        (c.dw 10 % 256 = 0x01 → pceMaster s = true → c.prp1 % 4096 = 0 → Gives (.nvmeIdentify sq cid l) s fun t =>
          (t.hostOut.drop s.hostOut.length).head?.map (fun w => (w.addr, w.data.length, leAt w.data 0 2, leAt w.data 516 4, w.poison)) =
            some (c.prp1, 4096, 0x1FD7, 8, false)) ∧
        (c.dw 10 % 256 = 0x01 → pceMaster s = false → exec (.nvmeIdentify sq cid l) s = .next (nvmeComplete c (nvmeErr 0 0x06) 0 0 s)) ∧
        (c.dw 10 % 256 = 0x00 → nsFind c.nsid s = none → c.nsid ≠ 0xFFFFFFFF →
          exec (.nvmeIdentify sq cid l) s = .next (nvmeComplete c (nvmeErr 0 0x0B) 0 0 s)) ∧
        (c.dw 10 % 256 = 0x04 → exec (.nvmeIdentify sq cid l) s = .next (nvmeComplete c (nvmeErr 0 0x02) 0 0 s))) ∧
      (Takes true 0x09 sq cid c s →
        (featureIds.contains (c.dw 10 % 256) = false → exec (.nvmeSetFeatures sq cid) s = .next (nvmeComplete c (nvmeErr 0 0x02) 0 0 s)) ∧
        ((c.dw 10).testBit 31 = false →
          (c.dw 10 % 256 = 0x07 → exec (.nvmeSetFeatures sq cid) s = .next (nvmeComplete c {} 0x003F003F 0 s)) ∧
          (c.dw 10 % 256 = 0x08 → exec (.nvmeSetFeatures sq cid) s =
            .next (nvmeComplete c {} 0 0 ((s.set NVQ_COAL.THR (bits (c.dw 11) 0 8)).set NVQ_COAL.TIME (bits (c.dw 11) 8 8)))) ∧
          (c.dw 10 % 256 = 0x02 → 4 < bits (c.dw 11) 0 5 → exec (.nvmeSetFeatures sq cid) s = .next (nvmeComplete c (nvmeErr 0 0x02) 0 0 s))) ∧
        (c.dw 10 % 256 = 0x08 → (c.dw 10).testBit 31 = true → exec (.nvmeSetFeatures sq cid) s = .next (nvmeComplete c (nvmeErr 1 0x0D) 0 0 s))) ∧
      (Takes true 0x0A sq cid c s →
        (c.dw 10 = 0x08 → exec (.nvmeGetFeatures sq cid) s = .next (nvmeComplete c {} (s.get NVQ_COAL.THR + 256 * s.get NVQ_COAL.TIME) 0 s)) ∧
        (c.dw 10 = 0x307 → exec (.nvmeGetFeatures sq cid) s = .next (nvmeComplete c {} 4 0 s)) ∧
        (c.dw 10 = 0x03 → exec (.nvmeGetFeatures sq cid) s = .next (nvmeComplete c (nvmeErr 0 0x02) 0 0 s))) ∧
      (Takes true 0x02 sq cid c s → ∀ l,
        (logIds.contains (c.dw 10 % 256) = false → exec (.nvmeGetLogPage sq cid l) s = .next (nvmeComplete c (nvmeErr 1 0x09) 0 0 s)) ∧
        (c.dw 10 = 0x0F0081 → c.dw 11 = 0 → c.dw 12 = 0 → c.dw 13 = 0 → pceMaster s = true → c.prp1 % 4096 = 0 → Gives (.nvmeGetLogPage sq cid l) s fun t =>
          (t.hostOut.drop s.hostOut.length).head?.map (fun w => (w.addr, w.data.length, leAt w.data 2 2)) =
            some (c.prp1, 64, if s.nvme.sanitize = 0 then 0 else if sanitizing s then 2 else 1)) ∧
        (c.dw 10 = 0x0F0081 → c.dw 11 = 0 → c.dw 12 = 2 → exec (.nvmeGetLogPage sq cid l) s = .next (nvmeComplete c (nvmeErr 0 0x02) 0 0 s))) ∧
      (Takes true 0x11 sq cid c s → ∀ data ok,
        (4 * (c.dw 10 + 1) % 4096 ≠ 0 → exec (.nvmeFirmwareDownload sq cid data ok) s = .next (nvmeComplete c (nvmeErr 0 0x02) 0 0 s)) ∧
        (c.dw 10 = 1023 → c.dw 11 = 0 → pceMaster s = true →
          exec (.nvmeFirmwareDownload sq cid data false) s = .next (nvmeComplete c { code := 0x04 } 0 0 s) ∧
          Gives (.nvmeFirmwareDownload sq cid data true) s fun t => t.nvme.image.take 4096 = (data ++ zeros 4096).take 4096)) ∧
      (Takes true 0x10 sq cid c s →
        (sanitizing s = true → exec (.nvmeFirmwareCommit sq cid) s = .next (nvmeComplete c (nvmeErr 0 0x1D) 0 0 s)) ∧
        (sanitizing s = false → 2 < bits (c.dw 10) 3 3 → exec (.nvmeFirmwareCommit sq cid) s = .next (nvmeComplete c (nvmeErr 0 0x02) 0 0 s)) ∧
        (∀ d, sanitizing s = false → c.dw 10 = 1 → (flashDir s).1 = some d → exec (.nvmeFirmwareCommit sq cid) s = .next
          (if imageValid fwMagic s.nvme.image s = true ∧ s.boot.svn ≤ leAt s.nvme.image 8 8
            then nvmeComplete c {} 0 0 (flashWrite (slotOfs d 1) (s.nvme.image.take (imageLen s.nvme.image)) s)
            else nvmeComplete c (nvmeErr 1 0x07) 0 0 s))) ∧
      (Takes true 0x81 sq cid c s → pceMaster s = true → ∀ ok, exec (.nvmeSecuritySend sq cid ok) s =
        .next (nvmeComplete c (if 2 < c.dw 10 / 2 ^ 24 then nvmeErr 0 0x02 else if ok then {} else { code := 0x04 }) 0 0 s)) ∧
      (Takes true 0x82 sq cid c s → ∀ r l,
        (2 < c.dw 10 / 2 ^ 24 → exec (.nvmeSecurityReceive sq cid r l) s = .next (nvmeComplete c (nvmeErr 0 0x02) 0 0 s)) ∧
        (c.dw 10 = 0 → c.dw 11 = 16 → pceMaster s = true → c.prp1 % 4096 = 0 → Gives (.nvmeSecurityReceive sq cid r l) s fun t =>
          (t.hostOut.drop s.hostOut.length).head?.map (fun w => (w.addr, w.data)) =
            some (c.prp1, [0, 0, 0, 0, 0, 0, 0, 3, 0, 1, 2, 0, 0, 0, 0, 0]))) ∧
      (Takes true 0x84 sq cid c s →
        (sanitizing s = true → exec (.nvmeSanitize sq cid) s = .next (nvmeComplete c (nvmeErr 0 0x1D) 0 0 s)) ∧
        (sanitizing s = false → c.dw 10 % 8 ≠ 4 → exec (.nvmeSanitize sq cid) s = .next (nvmeComplete c (nvmeErr 0 0x02) 0 0 s)) ∧
        (sanitizing s = false → c.dw 10 % 8 = 4 → Gives (.nvmeSanitize sq cid) s fun t => t.nvme.active = [] ∧ t.nvme.sanitized = c.dw 10 ∧
          s.now < t.nvme.sanitize ∧ t.nvme.sanitize ≤ s.now + 200000000 ∧ (∀ p ∈ t.zones, p.2.state = 1 ∧ p.2.wp = 0) ∧
          ∀ r : Fin 32, t.keys.ranges[r].gen = s.keys.ranges[r].gen + 1)) ∧
      (Takes true 0xC0 sq cid c s → ∀ l,
        let r := dictRead (.host sq) (c.dw 10 % 65536) (bits (c.dw 10) 16 8) (c.dw 11) (c.dw 12) s
        (c.nsid ≠ 0 → exec (.nvmeDictionaryRead sq cid l) s = .next (nvmeComplete c (nvmeErr 0 0x02) 0 0 s)) ∧
        (c.nsid = 0 → r.1.1 ≠ 0 → exec (.nvmeDictionaryRead sq cid l) s = .next (nvmeComplete c (nvmeErr 7 r.1.1) 0 0 r.2)) ∧
        (c.nsid = 0 → r.1.1 = 0 → pceMaster r.2 = true → c.prp1 % 4096 = 0 → 0 < r.1.2.2.2.length → r.1.2.2.2.length ≤ 4096 →
          Gives (.nvmeDictionaryRead sq cid l) s fun t =>
            t.hostOut.take (r.2.hostOut.length + 1) = r.2.hostOut ++ [HostWrite.mk c.prp1 r.1.2.2.2 false])) ∧
      (Takes true 0xC1 sq cid c s → ∀ data : List Byte,
        let r := dictWrite (.host sq) false (c.dw 10 % 65536) (bits (c.dw 10) 16 8) (c.dw 11) data 0 true s
        (c.nsid ≠ 0 → exec (.nvmeDictionaryWrite sq cid data true) s = .next (nvmeComplete c (nvmeErr 0 0x02) 0 0 s)) ∧
        (c.nsid = 0 → pceMaster s = true → data.length = c.dw 12 → c.dw 12 < 0x100001 →
          exec (.nvmeDictionaryWrite sq cid data true) s = .next (nvmeComplete c (if r.1 = 0 then {} else nvmeErr 7 r.1) 0 0 r.2))))

/-- Doorbells, posts and coalescing of the queue engine. A doorbell of a queue that is not enabled, or with a value outside the
queue, is latched as an error and moves nothing; a valid tail doorbell lets the engine fetch: the command enters its ring with the
queue, the new head and the time, and HEAD moves on. A post entry becomes a completion entry in the host's queue with the phase
and the SQ's head, and releases the command; one for a queue that is not enabled sets POST_ERR, and a full queue makes posting
wait (R545 to R550, R578). -/
def Obligations.NvmeQueueEngine : Prop :=
  ∀ s : State, s.power.core = true →
    (∀ (q : Fin 65) (v : BitVec 16) (l : List (BitVec 512)),
      (s.bit NVQ_CTRL.ENABLE = false → exec (.sqTailDoorbell q v l) s = .next s ∧ exec (.cqHeadDoorbell q v) s = .next s) ∧
      (s.bit NVQ_CTRL.ENABLE = true →
        (s.bit (NVQ_SQ.EN q.val) = false ∨ s.get (NVQ_SQ.SIZE q.val) < v.toNat → Gives (.sqTailDoorbell q v l) s fun t =>
          t.get NVQ_STATUS.DB_ERR_Q = q.val ∧ t.get NVQ_INT.DB_ERR = 1 ∧ t.get (NVQ_SQ_PTR.TAIL q.val) = s.get (NVQ_SQ_PTR.TAIL q.val)) ∧
        (s.bit (NVQ_CQ.EN q.val) = false ∨ s.get (NVQ_CQ.SIZE q.val) < v.toNat → Gives (.cqHeadDoorbell q v) s fun t =>
          t.get NVQ_STATUS.DB_ERR_Q = q.val ∧ t.get NVQ_INT.DB_ERR = 1 ∧ (s.nvq.cmds = [] → t.get (NVQ_CQ_PTR.HEAD q.val) = s.get (NVQ_CQ_PTR.HEAD q.val))) ∧
        (s.bit (NVQ_SQ.EN q.val) = true → v.toNat ≤ s.get (NVQ_SQ.SIZE q.val) →
          exec (.sqTailDoorbell q v []) s = .next (s.set (NVQ_SQ_PTR.TAIL q.val) v.toNat)) ∧
        (s.bit (NVQ_CQ.EN q.val) = true → s.get (NVQ_CQ_PTR.HEAD q.val) ≤ v.toNat → v.toNat ≤ s.get (NVQ_CQ_PTR.TAIL q.val) →
          s.get (NVQ_CQ_PTR.TAIL q.val) ≤ s.get (NVQ_CQ.SIZE q.val) → s.nvme.waiting = [] →
          s.get NVQ_POST_PTR.CONS % postEntries s = s.get NVQ_POST_PTR.PROD % postEntries s →
          exec (.cqHeadDoorbell q v) s = .next ((s.set (NVQ_CQ_PTR.HEAD q.val) v.toNat).set NVQ_STATUS.CQ_WAIT 0)))) ∧
    (∀ (v : BitVec 16) (e : BitVec 512), s.bit NVQ_CTRL.ENABLE = true → pceMaster s = true → s.bit (NVQ_SQ.EN 0) = true →
      v.toNat ≤ s.get (NVQ_SQ.SIZE 0) → v.toNat ≠ s.get (NVQ_SQ_PTR.HEAD 0) → crFull (s.get (NVQ_SQ.RING 0)) s = false →
      Gives (.sqTailDoorbell 0 v [e]) s fun t =>
        let r := s.get (NVQ_SQ.RING 0)
        let head := (s.get (NVQ_SQ_PTR.HEAD 0) + 1) % (s.get (NVQ_SQ.SIZE 0) + 1)
        let a := 128 * s.get (NVQ_CR_BASE.BASE r) + 128 * (s.get (NVQ_CR_PTR.PROD r) % crEntries r s)
        t.get (NVQ_SQ_PTR.TAIL 0) = v.toNat ∧ t.get (NVQ_SQ_PTR.HEAD 0) = head ∧
        t.nvq.cmds = s.nvq.cmds ++ [{ sq := 0, cid := bits e.toNat 16 16, raw := leBytes 64 e.toNat }] ∧
        t.get (NVQ_CR_PTR.PROD r) = (s.get (NVQ_CR_PTR.PROD r) % crEntries r s + 1) % crEntries r s ∧
        t.get NVQ_CNT.FETCHED = min (s.get NVQ_CNT.FETCHED + 1) (2 ^ NVQ_CNT.FETCHED.len - 1) ∧
        (accessFail .dma true a 128 s = none → t.readBytes a 64 = leBytes 64 e.toNat ∧ t.readLE (a + 64) 2 = 0 ∧ t.readLE (a + 66) 2 = head % 65536 ∧
          ∀ b, b < a ∨ a + 128 ≤ b → t.readByte b = s.readByte b)) ∧
    (∀ prod : BitVec 12,
      (s.bit NVQ_CTRL.ENABLE = false ∨ pceMaster s = false → s.get NVQ_POST_PTR.CONS % postEntries s ≠ prod.toNat % postEntries s →
        exec (.nvqPost prod) s = .next (s.set NVQ_POST_PTR.PROD prod.toNat)) ∧
      (s.get NVQ_POST_PTR.CONS % postEntries s = prod.toNat % postEntries s →
        exec (.nvqPost prod) s = .next ((s.set NVQ_POST_PTR.PROD prod.toNat).set NVQ_STATUS.CQ_WAIT 0)) ∧
      (let n := postEntries s
       let c := s.get NVQ_POST_PTR.CONS % n
       let a := 32 * s.get NVQ_POST_BASE.BASE + 32 * c
       let q := s.readLE (a + 16) 2
       s.bit NVQ_CTRL.ENABLE = true → pceMaster s = true → (c + 1) % n = prod.toNat % n → c ≠ prod.toNat % n →
        (64 < q ∨ s.bit (NVQ_CQ.EN q) = false → Gives (.nvqPost prod) s fun t => t.get NVQ_INT.POST_ERR = 1 ∧ t.hostOut = s.hostOut ∧
          t.get NVQ_POST_PTR.CONS = (c + 1) % n ∧ t.nvq = s.nvq ∧ t.mem = s.mem) ∧
        (q ≤ 64 → s.bit (NVQ_CQ.EN q) = true → cqFull q s = true → Gives (.nvqPost prod) s fun t => t.get NVQ_STATUS.CQ_WAIT = 1 ∧
          t.get NVQ_STATUS.WAIT_CQ = q ∧ t.get NVQ_POST_PTR.CONS = s.get NVQ_POST_PTR.CONS ∧ t.hostOut = s.hostOut ∧ t.mem = s.mem) ∧
        (∀ d r, q ≤ 64 → s.bit (NVQ_CQ.EN q) = true → cqFull q s = false → s.nvq.cmds = d :: r → d.sq ≤ 64 → d.cid = s.readLE (a + 12) 2 →
          s.get (NVQ_SQ.CQID d.sq) = q → Gives (.nvqPost prod) s fun t =>
          t.hostOut.take (s.hostOut.length + 1) = s.hostOut ++ [HostWrite.mk (4096 * s.get (NVQ_CQ_ADDR.PAGE q) + 16 * s.get (NVQ_CQ_PTR.TAIL q))
            (s.readBytes a 8 ++ leBytes 2 (s.get (NVQ_SQ_PTR.HEAD d.sq)) ++ leBytes 2 d.sq ++ leBytes 2 d.cid ++
              leBytes 2 (s.readLE (a + 14) 2 / 2 * 2 + s.get (NVQ_CQ.PHASE q))) false] ∧
          t.nvq.cmds = r ∧ t.get (NVQ_CQ_PTR.TAIL q) = (s.get (NVQ_CQ_PTR.TAIL q) + 1) % (s.get (NVQ_CQ.SIZE q) + 1) ∧
          t.get (NVQ_CQ.PHASE q) = (if s.get (NVQ_CQ_PTR.TAIL q) < s.get (NVQ_CQ.SIZE q) then s.get (NVQ_CQ.PHASE q) else 1 - s.get (NVQ_CQ.PHASE q)) ∧
          t.get NVQ_POST_PTR.CONS = (c + 1) % n ∧ t.mem = s.mem))) ∧
    (∀ v : Fin 65, (kvFind s.nvq.unannounced v.val = none → exec (.nvqCoalTimeout v) s = .next s) ∧
      (∀ p, kvFind s.nvq.unannounced v.val = some p → Gives (.nvqCoalTimeout v) s fun t => kvFind t.nvq.unannounced v.val = none ∧ t.mem = s.mem ∧
        (msixOpen v.val s = true → t.hostOut.length = s.hostOut.length + 1) ∧
        (msixOpen v.val s = false → v.val ∈ t.pce.pba ∧ t.hostOut = s.hostOut))) ∧
    (Gives .nvqClrCnt s fun t => t.get NVQ_CNT.FETCHED = 0 ∧ t.get NVQ_CNT.POSTED = 0 ∧ OnlyRegs [NVQ_CNT.FETCHED.addr] s t)

/-- Reads, writes, flushes and the zone commands. A command on a namespace that does not exist, a zoned command on the
conventional one, an LBA out of range, a write that is not at the write pointer, that crosses the capacity or that meets a zone
that is shut ends with the status the spec gives. A write or an append that the media take moves the write pointer and opens the
zone; close, finish, open, reset and offline make their transitions and refuse the others; a report and a read send their data to
the host; Flush completes (R542, R552 to R561). -/
def Obligations.NvmeIoCommands : Prop :=
  ∀ (s : State) (sq : Fin 65) (cid : BitVec 16) (c : NvmeCmd),
    (∀ l d o f r, nsFind c.nsid s = none → leAt c.raw 1 1 = 0 →
      (Takes false 0x01 sq cid c s → exec (.nvmeWrite sq cid d o f) s = .next (nvmeComplete c (nvmeErr 0 0x0B) 0 0 s)) ∧
      (Takes false 0x02 sq cid c s → exec (.nvmeRead sq cid l d r) s = .next (nvmeComplete c (nvmeErr 0 0x0B) 0 0 s)) ∧
      (Takes false 0x7D sq cid c s → exec (.zoneAppend sq cid d o f) s = .next (nvmeComplete c (nvmeErr 0 0x0B) 0 0 s)) ∧
      (Takes false 0x7A sq cid c s → exec (.zoneReportZones sq cid l) s = .next (nvmeComplete c (nvmeErr 0 0x0B) 0 0 s)) ∧
      (Takes false 0x79 sq cid c s → ∀ i ∈ [Instr.zoneClose sq cid, Instr.zoneFinish sq cid, Instr.zoneOpen sq cid, Instr.zoneReset sq cid,
        Instr.zoneOffline sq cid, Instr.zoneSetDescriptorExt sq cid], exec i s = .next (nvmeComplete c (nvmeErr 0 0x0B) 0 0 s)) ∧
      (Takes false 0x00 sq cid c s → c.nsid ≠ 0xFFFFFFFF → exec (.nvmeFlush sq cid) s = .next (nvmeComplete c (nvmeErr 0 0x0B) 0 0 s))) ∧
    (∀ e, nsFind c.nsid s = some e → leAt c.raw 1 1 = 0 →
      let z := zoneOf e c.slba
      (nsKind e = 1 →
        (Takes false 0x79 sq cid c s → ∀ i ∈ [Instr.zoneClose sq cid, Instr.zoneReset sq cid, Instr.zoneSetDescriptorExt sq cid],
          exec i s = .next (nvmeComplete c (nvmeErr 0 0x01) 0 0 s)) ∧
        (Takes false 0x00 sq cid c s → s.nvme.cached = [] → Gives (.nvmeFlush sq cid) s fun t => t.nvme.cached = [] ∧ t.zones = s.zones) ∧
        (Takes false 0x01 sq cid c s → c.nlb * lbaBytes e ≤ 2 ^ 20 → c.slba + c.nlb ≤ nsLbas e s → s.nvme.ps ≠ 4 → pceMaster s = true →
          mediaReady true c.nsid c.slba c.nlb s = .go →
          exec (.nvmeWrite sq cid [] true false) s = .next (nvmeComplete c {} 0 0
            (if cacheOn s ∧ c.fua = false then { s with nvme := { s.nvme with cached := s.nvme.cached ++ [(c.slba, c.nlb)] } } else s)))) ∧
      (nsKind e = 2 →
        (Takes false 0x01 sq cid c s → c.nlb * lbaBytes e ≤ 2 ^ 20 → ∀ d o f,
          (nsLbas e s < c.slba + c.nlb → exec (.nvmeWrite sq cid d o f) s = .next (nvmeComplete c (nvmeErr 0 0x80) 0 0 s)) ∧
          (c.slba + c.nlb ≤ nsLbas e s →
            ((s.zone z).state = 0xE → exec (.nvmeWrite sq cid d o f) s = .next (nvmeComplete c (nvmeErr 1 0xB9) 0 0 s)) ∧
            ((s.zone z).state = 0xD → exec (.nvmeWrite sq cid d o f) s = .next (nvmeComplete c (nvmeErr 1 0xBA) 0 0 s)) ∧
            ((s.zone z).state = 0xF → exec (.nvmeWrite sq cid d o f) s = .next (nvmeComplete c (nvmeErr 1 0xBB) 0 0 s)) ∧
            ((s.zone z).state ≤ 4 → c.slba ≠ zoneStart e z + (s.zone z).wp →
              exec (.nvmeWrite sq cid d o f) s = .next (nvmeComplete c (nvmeErr 1 0xBC) 0 0 s)) ∧
            ((s.zone z).state ≤ 4 → c.slba = zoneStart e z + (s.zone z).wp → zoneCap z e s < (s.zone z).wp + c.nlb →
              exec (.nvmeWrite sq cid d o f) s = .next (nvmeComplete c (nvmeErr 1 0xB8) 0 0 s)) ∧
            ((s.zone z).state = 1 → c.slba = zoneStart e z + (s.zone z).wp → (s.zone z).wp + c.nlb < zoneCap z e s → s.nvme.active = [] →
              s.nvme.ps ≠ 4 → mediaReady true c.nsid c.slba c.nlb s = .go → pceMaster s = true →
              Gives (.nvmeWrite sq cid d true false) s fun t => t.zone z = { s.zone z with state := 2, wp := (s.zone z).wp + c.nlb } ∧
                t.nvme.active = [(z, 0)] ∧ t.image = s.image))) ∧
        (Takes false 0x7D sq cid c s → c.nlb * lbaBytes e ≤ 2 ^ 20 → c.slba < nsLbas e s → ∀ d,
          (c.slba % zoneLen e ≠ 0 → exec (.zoneAppend sq cid d true false) s = .next (nvmeComplete c (nvmeErr 0 0x02) 0 0 s)) ∧
          (c.slba % zoneLen e = 0 → (s.zone z).state = 2 → (s.zone z).wp + c.nlb < zoneCap z e s → s.nvme.ps ≠ 4 → pceMaster s = true →
            mediaReady true c.nsid (c.slba + (s.zone z).wp) c.nlb s = .go → Gives (.zoneAppend sq cid d true false) s fun t =>
              t.zone z = { s.zone z with wp := (s.zone z).wp + c.nlb } ∧ t.image = s.image)) ∧
        (Takes false 0x02 sq cid c s → c.nlb * lbaBytes e ≤ 2 ^ 20 → ∀ l d,
          (nsLbas e s < c.slba + c.nlb → exec (.nvmeRead sq cid l d none) s = .next (nvmeComplete c (nvmeErr 0 0x80) 0 0 s)) ∧
          (c.slba + c.nlb ≤ nsLbas e s → c.nlb = 1 → (s.zone z).state = 0xF →
            exec (.nvmeRead sq cid l d none) s = .next (nvmeComplete c (nvmeErr 1 0xBB) 0 0 s)) ∧
          (c.slba + c.nlb ≤ nsLbas e s → c.nlb = 1 → (s.zone z).state ≤ 4 → s.nvme.ps ≠ 4 → pceMaster s = true → c.prp1 % 4096 = 0 →
            lbaBytes e = 4096 → mediaReady false c.nsid c.slba 1 s = .go → (∀ p ∈ d, p.2 = false) → d.length = 4096 →
            Gives (.nvmeRead sq cid l d none) s fun t => t.hostOut.take (s.hostOut.length + 1) = s.hostOut ++
              [HostWrite.mk c.prp1 (if (s.zone z).wp ≤ c.slba % zoneLen e then zeros 4096 else d.map (·.1)) false] ∧ t.zones = s.zones)) ∧
        (Takes false 0x00 sq cid c s → s.nvme.active = [] → exec (.nvmeFlush sq cid) s = .next (nvmeComplete c {} 0 0 s)) ∧
        (Takes false 0x79 sq cid c s → c.slba < nsLbas e s → c.slba % zoneLen e = 0 → (c.dw 13).testBit 8 = false →
          (c.dw 13 % 256 = 0x10 → exec (.zoneSetDescriptorExt sq cid) s = .next (nvmeComplete c (nvmeErr 0 0x02) 0 0 s)) ∧
          (c.dw 13 % 256 = 0x01 →
            ((s.zone z).state = 2 ∨ (s.zone z).state = 3 → Gives (.zoneClose sq cid) s fun t => t.zone z = { s.zone z with state := 4 }) ∧
            ((s.zone z).state = 1 → exec (.zoneClose sq cid) s = .next (nvmeComplete c (nvmeErr 1 0xBF) 0 0 s))) ∧
          (c.dw 13 % 256 = 0x02 → s.nvme.ps ≠ 4 → mediaReady true c.nsid c.slba 1 s = .go → (s.zone z).state ≤ 4 →
            Gives (.zoneFinish sq cid) s fun t => t.zone z = { s.zone z with state := 0xE } ∧ kvFind t.nvme.active z = none) ∧
          (c.dw 13 % 256 = 0x03 → s.nvme.active = [] →
            ((s.zone z).state = 1 ∨ (s.zone z).state = 4 → Gives (.zoneOpen sq cid) s fun t => t.zone z = { s.zone z with state := 3 } ∧
              t.nvme.active = [(z, 0)]) ∧
            ((s.zone z).state = 0xE → exec (.zoneOpen sq cid) s = .next (nvmeComplete c (nvmeErr 1 0xBF) 0 0 s))) ∧
          (c.dw 13 % 256 = 0x04 →
            ((s.zone z).state = 2 ∨ (s.zone z).state = 0xE → Gives (.zoneReset sq cid) s fun t =>
              t.zone z = { state := 1, wp := 0, gen := ((s.zone z).gen + 1) % 65536 } ∧ kvFind t.nvme.active z = none) ∧
            ((s.zone z).state = 0xF → exec (.zoneReset sq cid) s = .next (nvmeComplete c (nvmeErr 1 0xBF) 0 0 s))) ∧
          (c.dw 13 % 256 = 0x05 →
            ((s.zone z).state = 0xD → Gives (.zoneOffline sq cid) s fun t => t.zone z = { s.zone z with state := 0xF }) ∧
            ((s.zone z).state = 2 → exec (.zoneOffline sq cid) s = .next (nvmeComplete c (nvmeErr 1 0xBF) 0 0 s)))) ∧
        (Takes false 0x7A sq cid c s → ∀ l,
          (c.dw 13 % 256 ≠ 0 → exec (.zoneReportZones sq cid l) s = .next (nvmeComplete c (nvmeErr 0 0x02) 0 0 s)) ∧
          (c.dw 13 = 0 → c.dw 12 = 31 → c.slba < zoneLen e → 0 < nsCount e → c.slba < nsLbas e s → pceMaster s = true → c.prp1 % 4096 = 0 →
            Gives (.zoneReportZones sq cid l) s fun t => t.hostOut.take (s.hostOut.length + 1) = s.hostOut ++
              [HostWrite.mk c.prp1 (leBytes 8 (nsCount e) ++ zeros 56 ++ zoneDescriptor e (nsFirst e) s) false] ∧ t.zones = s.zones))))

/-- Joining, the bus, reception, transfers, heartbeats and flood control. A join needs a valid node ID, draws a delay and ends
with a HELLO; errors move the counters and the state, bus-off is left only by recovery. A received frame is dropped, found a
duplicate ID, or has the effect of its function: the shelf controller's HELLO sets the version, PERMIT writes the permit, an EVENT
raises HEARD, requests are answered, a transfer goes on, ends or is aborted. Heartbeats, shelf events and FNI_EVQ put their frames
in the queue under the rules of R581 to R600. -/
def Obligations.FieldNetwork : Prop :=
  ∀ s : State, s.power.retention = true →
    let node := fniNode s
    let open_ := fniOn s = true ∧ fniSilent s = false
    (node ≠ 0 → node ≠ 127 → (Gives .fniEnableJoin s fun t => t.get FNI_CTRL.ENABLE = 1 ∧ t.get FNI_STATUS.STATE = 1 ∧ t.get FNI_STATUS.TEC = 0 ∧
        t.get FNI_STATUS.REC = 0 ∧ t.fni.hellos = s.fni.hellos ++ [none] ∧ t.fni.queue = s.fni.queue ∧ t.mem = s.mem) ∧
      (s.bit FNI_CTRL.ENABLE = true → Gives .fniRestart s fun t => t.get FNI_STATUS.STATE = 1 ∧ t.get FNI_STATUS.DUP_NODE = 0 ∧ t.fni.listen = false ∧
        t.fni.hellos = s.fni.hellos ++ [none] ∧ t.mem = s.mem)) ∧
    (node = 0 ∨ node = 127 → Gives .fniEnableJoin s fun t => t.get FNI_STATUS.BAD_NODE = 1 ∧ t.fni.listen = true ∧ t.raised = s.raised ++ [103] ∧
      t.fni.hellos = s.fni.hellos ∧ t.mem = s.mem) ∧
    (s.bit FNI_CTRL.ENABLE = false → exec .fniRestart s = .next s) ∧
    (Gives .fniClrCnt s fun t => t.get FNI_ERR.BUSOFF = 0 ∧ t.get FNI_ERR.PROTO = 0 ∧ t.get FNI_ERR.RX_DROP = 0 ∧ t.get FNI_ERR.WITHDRAWN = 0 ∧
      t.get FNI_ERR.XFER_ABORT = 0 ∧ OnlyRegs [FNI_ERR.PROTO.addr] s t) ∧
    (s.fni.hellos = [] → exec .ndlHelloDelayExpiry s = .next s) ∧
    (∀ r, s.fni.hellos = none :: r → open_ → Gives .ndlHelloDelayExpiry s fun t => t.fni.hellos = r ∧ t.get FNI_INT.JOINED = 1 ∧
      t.fni.queue = s.fni.queue ++ [(ndlId 3 1 node 0 0, helloBytes false s)] ∧ t.mem = s.mem) ∧
    (fniOn s = false ∨ s.bit FNI_STATUS.SC_SEEN = true → exec .ndlHelloRepeat s = .next s) ∧
    (open_ → s.bit FNI_STATUS.SC_SEEN = false → Gives .ndlHelloRepeat s fun t =>
      t = { s with fni := { s.fni with queue := s.fni.queue ++ [(ndlId 3 1 node 0 0, helloBytes false s)] } }) ∧
    (fniOn s = false → exec .canBusOff s = .next s ∧ ∀ a b, exec (.canErrorDetected a b) s = .next s) ∧
    (fniOn s = true → (Gives .canBusOff s fun t => t.get FNI_STATUS.STATE = 3 ∧ t.get FNI_STATUS.TEC = 255 ∧ t.get FNI_INT.BUSOFF = 1 ∧
        t.raised = s.raised ++ [103] ∧ t.mem = s.mem) ∧
      (Gives (.canErrorDetected true true) s fun t => t.get FNI_ERR.PROTO = min (s.get FNI_ERR.PROTO + 1) (2 ^ FNI_ERR.PROTO.len - 1) ∧
        OnlyRegs [FNI_ERR.PROTO.addr] s t) ∧
      (s.get FNI_STATUS.TEC + 8 < 256 → Gives (.canErrorDetected true false) s fun t => t.get FNI_STATUS.TEC = s.get FNI_STATUS.TEC + 8 ∧
        t.get FNI_STATUS.STATE = (if 128 ≤ s.get FNI_STATUS.TEC + 8 ∨ 128 ≤ s.get FNI_STATUS.REC then 2 else 1) ∧
        OnlyRegs [FNI_STATUS.TEC.addr, FNI_ERR.PROTO.addr] s t) ∧
      (256 ≤ s.get FNI_STATUS.TEC + 8 → Gives (.canErrorDetected true false) s fun t => t.get FNI_STATUS.STATE = 3) ∧
      (∀ b, Gives (.canErrorDetected false b) s fun t =>
        t.get FNI_STATUS.REC = min (s.get FNI_STATUS.REC + (if b then 8 else 1)) (2 ^ FNI_STATUS.REC.len - 1) ∧ t.get FNI_STATUS.TEC = s.get FNI_STATUS.TEC ∧
        OnlyRegs [FNI_STATUS.TEC.addr, FNI_ERR.PROTO.addr] s t)) ∧
    (s.get FNI_STATUS.STATE ≠ 3 ∨ s.bit FNI_CTRL.AUTO_BUSOFF = false → exec .canBusOffRecovery s = .next s) ∧
    (s.get FNI_STATUS.STATE = 3 → s.bit FNI_CTRL.AUTO_BUSOFF = true → s.bit FNI_CTRL.ENABLE = true → s.fni.busOffs.length < 8 →
      Gives .canBusOffRecovery s fun t => t.get FNI_STATUS.STATE = 1 ∧ t.get FNI_STATUS.TEC = 0 ∧ t.get FNI_STATUS.REC = 0 ∧
        OnlyRegs [FNI_STATUS.TEC.addr] s t) ∧
    (∀ q r, s.fni.queue = q :: r → (∀ p ∈ r, q.1 ≤ p.1) → s.fni.episodes = [] → open_ → s.bit SYS_REFCLK.FALLBACK = false → Gives .canFrameSent s fun t =>
      t.fni.queue = r ∧ t.fni.sent = s.fni.sent ++ [q] ∧ t.get FNI_STATUS.TEC = s.get FNI_STATUS.TEC - 1 ∧ t.mem = s.mem ∧
      (ndlFunc q.1 = 3 → t.get FNI_INT.EV_SENT = 1 ∧ t.get FNI_EVQ.BUSY = 0)) ∧
    (s.fni.queue = [] → s.fni.episodes = [] → exec .canFrameSent s = .next s) ∧
    (∀ (a d k : BitVec 7) (p : List Byte),
      (fniOn s = false → ∀ i ∈ [Instr.ndlRxHello a d k p false, Instr.ndlRxPermit a d k p false, Instr.ndlRxEvent a d k p false, Instr.ndlRxDreadReq a d k p false,
        Instr.ndlRxDreadRsp a d k p false, Instr.ndlRxDwriteReq a d k p false, Instr.ndlRxDwriteRsp a d k p false, Instr.ndlRxSeg a d k p false,
        Instr.ndlRxSegAck a d k p false, Instr.ndlRxHeartbeat a d k p false, Instr.ndlRxAbort a d k p false], exec i s = .next s) ∧
      (fniOn s = true →
        (∀ i ∈ [Instr.ndlRxHello a d k p true, Instr.ndlRxPermit a d k p true, Instr.ndlRxEvent a d k p true, Instr.ndlRxDreadReq a d k p true,
          Instr.ndlRxDreadRsp a d k p true, Instr.ndlRxDwriteReq a d k p true, Instr.ndlRxDwriteRsp a d k p true, Instr.ndlRxSeg a d k p true,
          Instr.ndlRxSegAck a d k p true, Instr.ndlRxHeartbeat a d k p true, Instr.ndlRxAbort a d k p true], Gives i s fun t =>
            t.get FNI_INT.RX_DROP = 1 ∧ t.get FNI_ERR.RX_DROP = min (s.get FNI_ERR.RX_DROP + 1) (2 ^ FNI_ERR.RX_DROP.len - 1) ∧ t.fni = s.fni ∧ t.mem = s.mem) ∧
        (a.toNat = node → s.bit FNI_STATUS.BAD_NODE = false → Gives (.ndlRxHeartbeat a d k p false) s fun t => t.get FNI_STATUS.DUP_NODE = 1 ∧
          t.get FNI_INT.DUP_NODE = 1 ∧ t.fni.listen = true ∧ t.raised = s.raised ++ [103] ∧ t.mem = s.mem) ∧
        (a.toNat ≠ node → a ≠ 0 → d.toNat = node → p.length ≤ 64 →
          (∀ i ∈ [Instr.ndlRxHeartbeat a d k p false, Instr.ndlRxDreadRsp a d k p false, Instr.ndlRxDwriteRsp a d k p false], Gives i s fun t =>
            t.get FNI_STATUS.REC = (if 127 < s.get FNI_STATUS.REC then 127 else s.get FNI_STATUS.REC - 1) ∧ OnlyRegs [FNI_STATUS.REC.addr] s t) ∧
          (a = 127 → 12 ≤ p.length → Gives (.ndlRxHello a d k p false) s fun t =>
            let v := if 2 ≤ leAt p 0 2 % 4 then 2 else leAt p 0 2 % 4
            t.get FNI_STATUS.SC_SEEN = 1 ∧ t.get FNI_INT.SC_HELLO = 1 ∧ t.get FNI_STATUS.VERSION = v ∧
            t.get FNI_STATUS.NO_COMMON = (if v = 0 then 1 else 0) ∧ t.mem = s.mem ∧
            t.fni.hellos = s.fni.hellos ++ (if (leAt p 3 1).testBit 0 then [] else [some k.toNat])) ∧
          (a = 127 → 16 ≤ p.length → s.sup.spingate = true → (leAt p 0 16).testBit node = true → s.evrQueue = [] → s.fni.xfers = [] → s.bit SPM_CTRL.ENABLE = false →
            Gives (.ndlRxPermit a d k p false) s fun t => dictStored 0x2020 0 1 t = [1] ∧ t.get FNI_INT.PERMIT = 1) ∧
          (∀ e, 16 ≤ p.length → (leAt p 1 1).testBit 0 = true → s.fni.episodes = [e] → e.cls = leAt p 0 1 → s.fni.queue = [] →
            Gives (.ndlRxEvent a d k p false) s fun t => t.fni.episodes = [{ e with heard := e.heard + 1 }] ∧
              t.fni.heard.head? = some (s.now, leAt p 0 1) ∧ t.mem = s.mem) ∧
          (12 ≤ p.length → fniSilent s = false → s.fni.xfers = [] → leAt p 3 1 = 0 → leAt p 8 4 ≤ 56 →
            let u := fniErrState (s.set FNI_STATUS.REC (if 127 < s.get FNI_STATUS.REC then 127 else s.get FNI_STATUS.REC - 1))
            let r := dictRead (nodeOf a) (leAt p 0 2) (leAt p 2 1) (leAt p 4 4) (leAt p 8 4) u
            let l := leBytes 1 r.1.1 ++ leBytes 1 r.1.2.1 ++ zeros 2 ++ leBytes 4 r.1.2.2.1 ++ r.1.2.2.2
            r.1.2.2.2.length ≤ 56 → Gives (.ndlRxDreadReq a d k p false) s fun t =>
              t.fni.queue = s.fni.queue ++ [(ndlId 4 5 node a.toNat k.toNat, l ++ zeros (canLen l.length - l.length))] ∧ t.mem = s.mem) ∧
          (16 ≤ p.length → fniSilent s = false → s.fni.xfers = [] → leAt p 3 1 = 0 → leAt p 8 4 ≤ 48 → 16 + leAt p 8 4 ≤ p.length →
            crc32c (slice p 16 (leAt p 8 4)) ≠ leAt p 12 4 → Gives (.ndlRxDwriteReq a d k p false) s fun t =>
              t.fni.queue = s.fni.queue ++ [(ndlId 4 7 node a.toNat k.toNat, [0xC7, 0, 0, 0, 0, 0, 0, 0])] ∧ t.dict = s.dict ∧
              t.get FNI_ERR.XFER_ABORT = min (s.get FNI_ERR.XFER_ABORT + 1) (2 ^ FNI_ERR.XFER_ABORT.len - 1) ∧ t.mem = s.mem) ∧
          (s.fni.xfers = [] → ∀ i ∈ [Instr.ndlRxSeg a d k p false, Instr.ndlRxSegAck a d k p false, Instr.ndlRxAbort a d k p false], Gives i s fun t =>
            t.fni = s.fni ∧ t.mem = s.mem) ∧
          (∀ x, s.fni.xfers = [x] → x.src = a.toNat → x.token = k.toNat →
            (1 ≤ p.length → Gives (.ndlRxAbort a d k p false) s fun t => t.fni.xfers = [] ∧ t.dict = s.dict ∧
              t.get FNI_ERR.XFER_ABORT = min (s.get FNI_ERR.XFER_ABORT + 1) (2 ^ FNI_ERR.XFER_ABORT.len - 1) ∧ t.mem = s.mem) ∧
            (3 ≤ p.length → x.write = false → leAt p 2 1 = 0xC7 → Gives (.ndlRxSegAck a d k p false) s fun t => t.fni.xfers = [] ∧ t.mem = s.mem) ∧
            (x.write = true → x.mode = 1 → x.data.length + 62 < x.length → p.length = 64 → leAt p 0 2 = x.next % 65536 → fniSilent s = false →
              Gives (.ndlRxSeg a d k p false) s fun t =>
                t.fni.xfers = [{ x with data := x.data ++ p.drop 2, next := x.next + 1, run := 0 }] ∧ t.dict = s.dict ∧
                t.fni.queue = s.fni.queue ++ [(ndlId 5 9 node a.toNat k.toNat, leBytes 2 (x.next + 1) ++ [0])] ∧ t.mem = s.mem))))) ∧
    (∀ a k : BitVec 7, (s.fni.xfers = [] → exec (.ndlTransferTimeout a k) s = .next s) ∧
      (∀ x, s.fni.xfers = [x] → x.src = a.toNat → x.token = k.toNat → open_ → Gives (.ndlTransferTimeout a k) s fun t => t.fni.xfers = [] ∧
        t.fni.queue = s.fni.queue ++ [(ndlId 4 0x0B node a.toNat k.toNat, [0xC7])] ∧ t.mem = s.mem)) ∧
    (fniBeats s = false → exec .ndlHeartbeatTimer s = .next s ∧ exec .ndlHeartbeatChange s = .next s) ∧
    (fniBeats s = true → fniSilent s = false → (Gives .ndlHeartbeatTimer s fun t => t.fni.beatAt = some s.now ∧ t.fni.beat = beatNow s ∧ t.regs = s.regs ∧
        (t.fni.queue.getLast?.map Prod.fst) = some (ndlId 6 0x0A node 0 0) ∧ t.fni.queue.length = s.fni.queue.length + 1 ∧ t.mem = s.mem) ∧
      (s.fni.beat = beatNow s → exec .ndlHeartbeatChange s = .next s) ∧
      (s.fni.beat ≠ beatNow s → s.fni.beatAt = none → Gives .ndlHeartbeatChange s fun t => t.fni.beatAt = some s.now ∧ t.fni.beat = beatNow s ∧ t.regs = s.regs ∧
        (t.fni.queue.getLast?.map Prod.fst) = some (ndlId 6 0x0A node 0 0) ∧ t.mem = s.mem)) ∧
    (∀ c : Fin 6,
      ((episodeOf (c.val + 1) s).isSome = true → exec (.shelfEventOnset c) s = .next s) ∧
      (s.fni.episodes = [] → (Gives (.shelfEventOnset c) s fun t => t.fni.episodes.map (fun e => (e.cls, e.holdoff, e.payload, e.sent)) =
          [(c.val + 1, true, none, false)] ∧ t.fni.queue = s.fni.queue ∧ t.mem = s.mem) ∧
        exec (.shelfEpisodeEnd c) s = .next s) ∧
      (∀ e, s.fni.episodes = [e] → e.cls = c.val + 1 →
        (e.payload = none → e.heard < fniLimit s → e.counted = false → fniBlocked s = false → Gives (.shelfHoldoffExpiry c) s fun t =>
          t.fni.episodes = [{ e with holdoff := false }] ∧ t.regs = s.regs ∧ t.mem = s.mem) ∧
        (∀ p, e.payload = some p → p.length = 60 → e.heard < fniLimit s → e.counted = false → e.sent = false → fniBlocked s = false →
          Gives (.shelfHoldoffExpiry c) s fun t => t.fni.episodes = [{ e with holdoff := false, payload := none }] ∧ t.mem = s.mem ∧
            t.fni.queue = s.fni.queue ++ [(ndlId 1 3 node 0 0, leBytes 1 e.cls ++ [1] ++ leBytes 1 (min 255 e.heard) ++ [0] ++ p)]) ∧
        (Gives (.shelfEpisodeEnd c) s fun t => t.fni.episodes = [] ∧ t.mem = s.mem ∧ ∀ q ∈ t.fni.queue, isShelf e.cls q = false))) ∧
    (∀ w : BitVec 40, (s.bit FNI_EVQ.BUSY = true → exec (.fniEvqGo w) s = .next s) ∧
      (s.bit FNI_EVQ.BUSY = false → w.toNat.testBit 37 = false → open_ → Gives (.fniEvqGo w) s fun t => t.get FNI_EVQ.BUSY = 1 ∧
        t.fni.queue.length = s.fni.queue.length + 1 ∧ (t.fni.queue.getLast?.map fun q => (q.1, q.2.take 16)) = some (ndlId 5 3 node 0 0,
          leBytes 1 (bits w.toNat 23 8) ++ zeros 3 ++ s.readBytes (0x0020000000 + 64 * bits w.toNat 10 13) 12) ∧ t.mem = s.mem) ∧
      (s.bit FNI_EVQ.BUSY = false → w.toNat.testBit 37 = false → fniOn s = false → Gives (.fniEvqGo w) s fun t => t.get FNI_EVQ.BUSY = 0 ∧
        t.get FNI_INT.EV_WITHDRAWN = 1 ∧ t.fni = s.fni))

/-- Request blocks of the dictionary and the writes of single entries. A request block that cannot be read sets BLK_ERR and DONE;
a master without the block does nothing. A read and a describe put the value or the descriptor into the buffer and STATUS, TYPE
and TOTAL into the block; a refused one only STATUS, and is counted. A write that the checks pass takes effect - a grade, the
permit, a namespace, a severity, the minimum SVN, the recipe key, zeroization - and is counted; one they do not pass changes no
entry (R605 to R613, R642, R644, R646, R651). -/
def Obligations.ObjectDictionary : Prop :=
  ∀ s : State, s.power.retention = true →
    (∀ (m : Master) (c : Fin 3) (a : BitVec 34),
      (odeOrigin m c s = none → exec (.odeRead m c a) s = .next s ∧ exec (.odeDescribe m c a) s = .next s ∧ exec (.odeWrite m c a true) s = .next s) ∧
      (∀ o, odeOrigin m c s = some o →
        (accessFail .dma false (64 * a.toNat) 64 s ≠ none → ∀ i ∈ [Instr.odeRead m c a, Instr.odeDescribe m c a, Instr.odeWrite m c a true], Gives i s fun t =>
          t.get (ODE_REQ.BLK_ERR c.val) = 1 ∧ (t.get ODE_INT.DONE).testBit c.val = true ∧ t.get ODE_INT.REFUSED = 1 ∧ t.mem = s.mem ∧ t.dict = s.dict) ∧
        (∀ buf k k', let x := 64 * a.toNat
          let b := s.readBytes x 64
          let u := (s.set (ODE_REQ.ADDR c.val) a.toNat).set (ODE_REQ.BLK_ERR c.val) 0
          regionOf x s = .mem k → accessFail .dma false x 64 s = none → accessFail .dma true x 64 s = none → (∀ y, s.row y = {} ∧ s.block y = 0) →
          odeMalformed b = false → buf = leAt b 16 5 → buf + 24 ≤ x ∨ x + 64 ≤ buf → regionOf buf s = .mem k' →
          accessFail .dma true buf 24 s = none → accessFail .dma false buf 24 s = none →
          (leAt b 0 1 = 1 → leAt b 12 4 ≤ 24 →
            let r := dictRead o (leAt b 4 2) (leAt b 6 1) (leAt b 8 4) (leAt b 12 4) u
            Gives (.odeRead m c a) s fun t => leNat (t.readBytes (x + 7) 1) = r.1.1 % 256 ∧ (t.get ODE_INT.DONE).testBit c.val = true ∧ t.dict = s.dict ∧
              (r.1.1 = 0 → t.readBytes buf r.1.2.2.2.length = r.1.2.2.2 ∧ t.readLE (x + 21) 1 = r.1.2.1 % 256 ∧ t.readLE (x + 24) 4 = r.1.2.2.1 % 2 ^ 32) ∧
              (r.1.1 ≠ 0 → t.get ODE_INT.REFUSED = 1 ∧ t.readLE (x + 24) 4 = 0) ∧
              ∀ y, (y < x ∨ x + 64 ≤ y) → (y < buf ∨ buf + 24 ≤ y) → t.readByte y = s.readByte y) ∧
          (leAt b 0 1 = 3 →
            let r := dictDescribe o (leAt b 4 2) (leAt b 6 1) u
            Gives (.odeDescribe m c a) s fun t => leNat (t.readBytes (x + 7) 1) = r.1.1 % 256 ∧ (t.get ODE_INT.DONE).testBit c.val = true ∧
              (r.1.1 = 0 → t.readBytes buf 24 = r.1.2.2.2 ∧ t.readLE (x + 24) 4 = 24) ∧ t.dict = s.dict) ∧
          (leAt b 0 1 = 2 → leAt b 4 2 = 0x2001 → leAt b 6 1 = 0 → leAt b 8 4 = 0 → leAt b 12 4 = 4 → (originClass o s).isSome = true →
            let st := (dictWriteStatus ((originClass o s).getD 2) false 0x2001 0 0 (s.readBytes buf 4) s).1
            Gives (.odeWrite m c a true) s fun t => leNat (t.readBytes (x + 7) 1) = st ∧ (t.get ODE_INT.DONE).testBit c.val = true ∧
              (st = 0 → dictStored 0x2001 0 4 t = s.readBytes buf 4) ∧ (st ≠ 0 → t.dict = s.dict ∧ t.get ODE_INT.REFUSED = 1))))) ∧
    (∀ v : Fin 5,
      (s.get SUP_STATUS.STATE = v.val → s.bit SUP_REQ.BUSY = false → exec (.powerStateRequest v) s = .next s) ∧
      (s.get SUP_STATUS.STATE ≠ v.val → s.get SUP_STATUS.STATE < 2 → Gives (.powerStateRequest v) s fun t => t.get SUP_REQ.TARGET = v.val ∧
        t.get SUP_REQ.PEND = 1 ∧ t.get SUP_REQ.SOURCE = 1 ∧ t.get SUP_INT.REQ = 1 ∧ t.get SUP_STATUS.STATE = s.get SUP_STATUS.STATE ∧
        OnlyRegs [SUP_REQ.TARGET.addr, SUP_INT.REQ.addr] s t)) ∧
    (∀ (o : Origin) (k : BitVec 16) (v : BitVec 8) (n : Fin 8) (z : Fin 192) (w : BitVec 256) (key : BitVec 768),
      (originClass o s = none → ∀ i ∈ [Instr.gradeRequestDict o k v, Instr.spinPermitWrite o k v, Instr.namespaceTableWrite o k n w,
        Instr.severityWrite o k z v, Instr.svnMinRaise o k v, Instr.recipeKeyProvision o k key, Instr.zeroizeDict o k v], exec i s = .next s) ∧
      (∀ cls, originClass o s = some cls →
        let st (index sub : Nat) (l : List Byte) : Nat := (dictWriteStatus cls false index sub 0 l s).1
        let one := leBytes 1 v.toNat
        (∀ p ∈ [(Instr.gradeRequestDict o k v, st 0x2010 0 one), (Instr.spinPermitWrite o k v, st 0x2020 0 one),
            (Instr.namespaceTableWrite o k n w, st 0x4020 (n.val + 1) (leBytes 32 w.toNat)), (Instr.severityWrite o k z v, st 0x5010 z.val one),
            (Instr.svnMinRaise o k v, st 0x6012 0 one), (Instr.recipeKeyProvision o k key, st 0x6010 0 (leBytes 96 key.toNat)),
            (Instr.zeroizeDict o k v, st 0x6030 0 one)], p.2 ≠ 0 → Gives p.1 s fun t => t.get ODE_INT.REFUSED = 1 ∧ t.dict = s.dict ∧ t.keys = s.keys ∧
              t.cip = s.cip ∧ t.get ODE_CNT.REFUSED = min (s.get ODE_CNT.REFUSED + 1) (2 ^ ODE_CNT.REFUSED.len - 1) ∧ t.mem = s.mem) ∧
        (st 0x2010 0 one = 0 → Gives (.gradeRequestDict o k v) s fun t => t.get SPM_GRADE.REQ = v.toNat ∧ t.get ODE_INT.ACTION = 1 ∧ t.dict = s.dict) ∧
        (st 0x2020 0 one = 0 → s.power.core = false → Gives (.spinPermitWrite o k v) s fun t => dictStored 0x2020 0 1 t = one ∧ t.get ODE_INT.ACTION = 1 ∧
          (s.sup.spingate = true → v = 1 → t.get FNI_INT.PERMIT = 1) ∧ (cls = 1 → t.get FNI_INT.NET_WRITE = 1) ∧ t.mem = s.mem) ∧
        (st 0x4020 (n.val + 1) (leBytes 32 w.toNat) = 0 → Gives (.namespaceTableWrite o k n w) s fun t =>
          dictStored 0x4020 (n.val + 1) 32 t = leBytes 32 w.toNat ∧ t.nvme.spaces = s.nvme.spaces ∧ t.mem = s.mem) ∧
        (st 0x5010 z.val one = 0 → Gives (.severityWrite o k z v) s fun t => dictStored 0x5010 z.val 1 t = one ∧
          (s.power.core = true → (fltResetSeverity z.val).isSome = true → t.get (FLT_SRC.SEV z.val) = v.toNat) ∧ t.mem = s.mem) ∧
        (st 0x6012 0 one = 0 → Gives (.svnMinRaise o k v) s fun t => t.keys = { s.keys with svnMin := max s.keys.svnMin s.boot.svn } ∧ t.dict = s.dict) ∧
        (st 0x6010 0 (leBytes 96 key.toNat) = 0 → Gives (.recipeKeyProvision o k key) s fun t =>
          t.keys.recipeKey.map List.length = some 96 ∧ t.dict = s.dict ∧ t.mem = s.mem) ∧
        (st 0x6030 0 one = 0 → Gives (.zeroizeDict o k v) s fun t => t.get ODE_INT.ACTION = 1 ∧ t.keys = s.keys ∧
          (v = 1 → (∀ r : Fin 32, t.cip.slots[r] = none) ∧ (∀ r : Fin 16, t.cip.mkeys[r] = none) ∧ t.get CIP_SLOT.LOADED = 0) ∧
          (v = 0 → t.cip = s.cip))))

/-- Self-tests, errors, randomness and the debug unlock. ENABLE and ONDEMAND start the self-tests; a pass makes the cluster READY,
locks the ranges that lock on reset and loads those with no lock enabled; a failing self-test, periodic test or entropy test
empties every slot, sets ERROR with its cause and raises source 102. ZEROIZE empties the slots. CIP_RNG answers 32 bits with bit
32 set while READY. Only the debug port asks for a nonce or a verification; a granted level empties the slots and locks the ranges
whose locks are enabled, a third failure refuses further attempts for 60 s (R616 to R648). -/
def Obligations.CipherCluster : Prop :=
  ∀ s : State, s.power.core = true →
    (Gives .cipEnable s fun t =>
      if s.bit CIP_CTRL.ENABLE = false ∧ s.bit CIP_STATUS.ERROR = false ∧ s.locked CIP_CTRL.ENABLE = false then
        t.get CIP_CTRL.ENABLE = 1 ∧ t.get CIP_STATUS.SELFTEST = 1 ∧ t.get CIP_ST.DONE = 0 ∧ t.locked CIP_CTRL.ENABLE = true ∧
        t.cip = s.cip ∧ t.keys = s.keys
      else t = s) ∧
    (∀ (cause : Fin 12) (core : Fin 8),
      (s.bit CIP_STATUS.SELFTEST = false → exec (.cipSelftestDone cause core) s = .next s) ∧
      (s.bit CIP_STATUS.SELFTEST = true → s.bit CIP_STATUS.ERROR = false → cause ≠ 0 → Gives (.cipSelftestDone cause core) s fun t =>
        t.get CIP_STATUS.ERROR = 1 ∧ t.get CIP_STATUS.READY = 0 ∧ t.get CIP_STATUS.SELFTEST = 0 ∧ t.get CIP_ERR.CAUSE = cause.val ∧
        t.get CIP_ST.FAIL_CODE = cause.val ∧ t.get CIP_ST.FAIL_CORE = core.val ∧ t.get CIP_INT.ERROR = 1 ∧ t.raised = s.raised ++ [102] ∧
        t.cip.slots = .replicate 32 none ∧ t.cip.mkeys = .replicate 16 none ∧ t.get CIP_SLOT.LOADED = 0 ∧ t.keys.retention = none ∧
        t.keys.ranges = s.keys.ranges ∧ t.keys.auths = s.keys.auths) ∧
      (s.bit CIP_STATUS.SELFTEST = true → Gives (.cipSelftestDone 0 core) s fun t =>
        t.get CIP_STATUS.READY = 1 ∧ t.get CIP_STATUS.SELFTEST = 0 ∧ t.get CIP_ST.DONE = 1 ∧ t.get CIP_ST.PASSED = 0x1FF ∧
        t.get CIP_INT.READY = 1 ∧
        (s.cip.retained = true → t.cip.slots = s.cip.slots ∧ t.keys = s.keys) ∧
        (s.cip.retained = false → s.keys.formatted = true → s.keys.retention = none →
          t.keys.auths = s.keys.auths ∧ ∀ r : Fin 32,
            t.keys.ranges[r].readLocked = (s.keys.ranges[r].readLocked || (s.keys.ranges[r].lockOnReset && s.keys.ranges[r].readEnabled)) ∧
            t.keys.ranges[r].writeLocked = (s.keys.ranges[r].writeLocked || (s.keys.ranges[r].lockOnReset && s.keys.ranges[r].writeEnabled)) ∧
            t.keys.ranges[r].mek = s.keys.ranges[r].mek ∧
            t.cip.slots[r] = (if s.keys.ranges[r].default && !s.keys.ranges[r].readEnabled && !s.keys.ranges[r].writeEnabled &&
                s.keys.ranges[r].mek.length == 64 && s.keys.ranges[r].mek.take 32 != s.keys.ranges[r].mek.drop 32
              then some s.keys.ranges[r].mek else s.cip.slots[r])) ∧
        (s.cip.retained = false → s.keys.retention ≠ none → t.keys.retention = none) ∧
        (s.cip.retained = false → s.keys.formatted = false →
          t.keys.formatted = true ∧ ∀ r : Fin 32, t.keys.ranges[r].default = true ∧ t.keys.ranges[r].readEnabled = false))) ∧
    (Gives .cipOndemand s fun t =>
      if s.bit CIP_STATUS.READY = true ∧ s.bit CIP_STATUS.ERROR = false then
        t.get CIP_STATUS.SELFTEST = 1 ∧ t.get CIP_STATUS.READY = 0 ∧ t.get CIP_ST.DONE = 0 ∧ t.cip = s.cip ∧ t.keys = s.keys
      else t = s) ∧
    (s.bit CIP_STATUS.READY = false → ∀ f : Bool, exec (.cipPeriodicTest f) s = .next s) ∧
    (s.bit CIP_STATUS.READY = true → s.bit CIP_STATUS.ERROR = false → s.cip.pstNext < 8 →
      (Gives (.cipPeriodicTest false) s fun t => t.get CIP_STATUS.PST_CORE = s.cip.pstNext ∧ t.cip.pstNext = (s.cip.pstNext + 1) % 8 ∧
        t.get CIP_CNT.PST = min (s.get CIP_CNT.PST + 1) (2 ^ CIP_CNT.PST.len - 1) ∧ t.get CIP_INT.PST_DONE = 1 ∧ t.cip.slots = s.cip.slots ∧
        t.keys = s.keys) ∧
      (Gives (.cipPeriodicTest true) s fun t => t.get CIP_STATUS.ERROR = 1 ∧ t.get CIP_ERR.CAUSE = 0x0A ∧
        t.get CIP_ST.FAIL_CORE = s.cip.pstNext ∧ t.cip.slots = .replicate 32 none ∧ t.raised = s.raised ++ [102])) ∧
    (∀ adaptive : Bool, s.bit CIP_STATUS.ERROR = false → Gives (.entropyHealthFail adaptive) s fun t =>
      t.get CIP_STATUS.ERROR = 1 ∧ t.get CIP_ERR.CAUSE = (if adaptive then 9 else 8) ∧ t.cip.slots = .replicate 32 none ∧
      t.raised = s.raised ++ [102]) ∧
    (Gives .cipZeroize s fun t => t.cip.slots = .replicate 32 none ∧ t.cip.mkeys = .replicate 16 none ∧ t.get CIP_SLOT.LOADED = 0 ∧
      t.keys = s.keys ∧ t.mem = s.mem) ∧
    (Gives .cipClrCnt s fun t => (∀ f ∈ [CIP_CNT.AUTH_FAIL, CIP_CNT.OP_FAIL, CIP_CNT.NONAPPR, CIP_CNT.PST], t.get f = 0) ∧
      OnlyRegs [CIP_CNT.AUTH_FAIL.addr, CIP_CNT.OP_FAIL.addr, CIP_CNT.NONAPPR.addr, CIP_CNT.PST.addr] s t) ∧
    (Gives .cipRngRead s fun t => t.mem = s.mem ∧ t.keys = s.keys ∧ t.cip.slots = s.cip.slots ∧
      if s.bit CIP_STATUS.READY = true then (match t.resp with | .data w => w.toNat / 2 ^ 32 | _ => 0) = 1
        else t.resp = .data 0) ∧
    (∀ (m : Master) (level : BitVec 2), m ≠ .debug → exec (.cipUnlkNonceRequest m level) s = .next s ∧
      ∀ b : BitVec 34, exec (.cipUnlkVerify m b level) s = .next s) ∧
    (∀ b : BitVec 34, ∀ i ∈ [Instr.cipUnlkNonceRequest .debug 0, .cipUnlkVerify .debug b 0], Gives i s fun t =>
      t.get CIP_STATUS.DBG_LEVEL = 0 ∧ t.get CIP_STATUS.APPROVED = 1 ∧ t.cip = s.cip ∧ t.keys = s.keys ∧ t.mem = s.mem) ∧
    (∀ level : BitVec 2, level ≠ 0 → Gives (.cipUnlkNonceRequest .debug level) s fun t =>
      t.get CIP_STATUS.DBG_LEVEL = s.get CIP_STATUS.DBG_LEVEL ∧ t.cip.slots = s.cip.slots ∧ t.keys = s.keys ∧ t.get CIP_INT.UNLK = 1 ∧
      if level ≠ 3 ∧ s.cip.refuse = none ∧ s.bit CIP_STATUS.READY = true then t.get CIP_UNLK.NONCE_VALID = 1
      else t.get CIP_UNLK.FAIL = 1 ∧ t.cip.nonce = s.cip.nonce) ∧
    (∀ (b : BitVec 34) (level : BitVec 2), level ≠ 0 →
      (s.cip.refuse ≠ none ∨ s.bit CIP_STATUS.READY = false → Gives (.cipUnlkVerify .debug b level) s fun t =>
        t.get CIP_UNLK.FAIL = 1 ∧ t.get CIP_STATUS.DBG_LEVEL = s.get CIP_STATUS.DBG_LEVEL ∧ t.cip = s.cip ∧ t.keys = s.keys) ∧
      (s.cip.refuse = none → s.bit CIP_STATUS.READY = true →
        let l := s.readBytes (64 * b.toNat) 192
        let serial := (((kvFind s.dict (dictKey 0x1018 4)).getD []) ++ zeros 16).take 16
        Gives (.cipUnlkVerify .debug b level) s fun t => t.get CIP_UNLK.NONCE_VALID = 0 ∧ t.get CIP_INT.UNLK = 1 ∧
          if s.bit CIP_UNLK.NONCE_VALID = true ∧ level ≠ 3 ∧ sha384 (l.take 96) = Config.dbgKeyHash level.toNat ∧
              ecOnCurve (beNat ((l.take 96).take 48)) (beNat ((l.take 96).drop 48)) = true ∧
              ecdsaVerify (l.take 96) (l.drop 96) (sha384 (s.cip.nonce ++ serial ++ leBytes 1 level.toNat)) = true then
            t.get CIP_STATUS.DBG_LEVEL = level.toNat ∧ t.get CIP_STATUS.APPROVED = (if level = 2 then 0 else 1) ∧
            t.get CIP_UNLK.FAIL = 0 ∧ t.get CIP_STATUS.UNLK_FAILS = 0 ∧ t.cip.slots = .replicate 32 none ∧
            ∀ r : Fin 32, t.keys.ranges[r].readLocked = (s.keys.ranges[r].readLocked || s.keys.ranges[r].readEnabled) ∧
              t.keys.ranges[r].writeLocked = (s.keys.ranges[r].writeLocked || s.keys.ranges[r].writeEnabled)
          else t.get CIP_UNLK.FAIL = 1 ∧ t.get CIP_STATUS.DBG_LEVEL = s.get CIP_STATUS.DBG_LEVEL ∧ t.cip.slots = s.cip.slots ∧ t.keys = s.keys ∧
            t.get CIP_STATUS.UNLK_FAILS = min (s.get CIP_STATUS.UNLK_FAILS + 1) (2 ^ CIP_STATUS.UNLK_FAILS.len - 1) ∧
            (s.get CIP_STATUS.UNLK_FAILS = 2 → t.cip.refuse = some (s.tick.toNat + 6000000000)))) ∧
    (Gives .cipUnlkLockoutEnd s fun t =>
      if (∃ x ∈ s.cip.refuse.toList, x ≤ s.tick.toNat) then t.cip.refuse = none ∧ t.get CIP_STATUS.UNLK_FAILS = 0 ∧ t.keys = s.keys else t = s)

/-- The management operations and their results. On clean memory with translation off: a descriptor waits in HELD until the
cluster is READY and faults in ERROR; a context that names no operation ends with STATUS 0x40; the AES, CMAC, key wrap, SHA-384
and ECDSA operations write their output, OUT, count and STATUS, as the block lengths and tags say; AUTH, SET_CRED, GENKEY, LOCK,
SET_RANGE, MKEY_GEN and MKEY_LOAD change the key store or name their refusal; a key-store operation whose write fails ends with
0x4A. AES, SHA and ECDSA themselves are the standards' functions (R617 to R635). -/
def Obligations.CipherOperations : Prop :=
  ∀ s : State, (∀ x, s.row x = {} ∧ s.block x = 0) → (∀ k : Fin 32, s.bit (DMA_CH_CFG.XLAT_EN k) = false) → ∀ k : Fin 8,
    let ch : Fin 32 := ⟨16 + k.val, by omega⟩
    let ctx := 64 * s.get (CIP_CH_CTX.ADDR k)
    let c := s.readBytes ctx 384
    (∀ p ∈ [(Instr.cipOpAesEcbEncrypt k, 1), (.cipOpAesEcbDecrypt k, 2), (.cipOpAesCbcEncrypt k, 3), (.cipOpAesCbcDecrypt k, 4),
        (.cipOpAesCtr k, 5), (.cipOpAesGcmEncrypt k, 6), (.cipOpAesGcmDecrypt k, 7), (.cipOpCmacGenerate k, 8), (.cipOpCmacVerify k, 9),
        (.cipOpKwpWrap k, 10), (.cipOpKwpUnwrap k, 11), (.cipOpSha384 k, 16), (.cipOpRandomBytes k, 17), (.cipOpEcdsaVerify k, 18),
        (.cipOpAuth k false, 32), (.cipOpSetCred k false, 33), (.cipOpGenkey k false, 34), (.cipOpLock k false, 35),
        (.cipOpSetRange k false, 36), (.cipOpMkeyGen k, 37), (.cipOpMkeyLoad k, 38)],
      (dmaActs ch s = false ∨ s.dma.chan[ch].desc = none → exec p.1 s = .next s) ∧
      (∀ d, dmaActs ch s = true → s.dma.chan[ch].desc = some d → d.xts = false → d.finish = none →
        (s.bit CIP_STATUS.ERROR = true → Gives p.1 s fun t => t.get (DMA_CH_FAULT.KIND ch) = 0x17 ∧ t.get (DMA_CH_STATUS.STATE ch) = 5 ∧
          t.get (DMA_CH_FAULT.SOURCE ch) = 6 ∧ t.mem = s.mem) ∧
        (s.bit CIP_STATUS.ERROR = false → s.bit CIP_STATUS.READY = false → Gives p.1 s fun t =>
          t.get (DMA_CH_STATUS.STATE ch) = 3 ∧ t.get (DMA_CH_INT.HELD ch) = 1 ∧ t.mem = s.mem) ∧
        (s.bit CIP_STATUS.ERROR = false → s.bit CIP_STATUS.READY = true → s.bit CIP_STATUS.SELFTEST = false → d.tail = .fin →
          Room ctx 384 s → Room ctx 112 s →
          (leAt c 0 1 ≠ p.2 → leAt c 0 1 ∈ cipOps → exec p.1 s = .next s) ∧
          (leAt c 0 1 ∉ cipOps ∨ (leAt c 0 1 = p.2 ∧ ctxBad p.2 d.total c = true) → Gives p.1 s fun t =>
            (t.readByte (ctx + 3)).toNat = 0x40 ∧ t.dma.chan[ch].desc = some { d with finish := some (0, 0) } ∧
            (∀ a, a < ctx ∨ ctx + 112 ≤ a → t.readByte a = s.readByte a) ∧ t.keys = s.keys)))) ∧
    (∀ d e op, CipReady k op ctx d e s →
      let m := s.readBytes e.addr e.len
      let auths := s.keys.auths
      let i := leAt c 2 1
      (∀ p ∈ [(Instr.cipOpAesEcbEncrypt k, 1), (.cipOpAesEcbDecrypt k, 2), (.cipOpAesCbcEncrypt k, 3), (.cipOpAesCbcDecrypt k, 4),
          (.cipOpAesCtr k, 5), (.cipOpAesGcmEncrypt k, 6), (.cipOpAesGcmDecrypt k, 7), (.cipOpCmacGenerate k, 8),
          (.cipOpCmacVerify k, 9), (.cipOpKwpWrap k, 10), (.cipOpKwpUnwrap k, 11), (.cipOpSha384 k, 16), (.cipOpEcdsaVerify k, 18)],
        op = p.2 → leAt c 1 1 = 0 →
        let r := cipTable op c m
        Room d.localAddr r.output.length s → (d.localAddr + r.output.length ≤ ctx ∨ ctx + 112 ≤ d.localAddr) →
        Gives p.1 s fun t => Served k ctx d r s t ∧ t.keys = s.keys ∧ t.cip = s.cip) ∧
      (op = 17 → Room d.localAddr m.length s → (d.localAddr + m.length ≤ ctx ∨ ctx + 112 ≤ d.localAddr) →
        Gives (.cipOpRandomBytes k) s fun t => (t.readByte (ctx + 3)).toNat = 0 ∧ t.readBytes (ctx + 12) 4 = leBytes 4 m.length ∧
          t.keys = s.keys ∧ t.cip.slots = s.cip.slots) ∧
      (∀ p ∈ [(Instr.cipOpAuth k true, 32), (.cipOpSetCred k true, 33), (.cipOpGenkey k true, 34), (.cipOpLock k true, 35),
          (.cipOpSetRange k true, 36)],
        op = p.2 → Gives p.1 s fun t => Served k ctx d { status := 0x4A } s t ∧ t.keys = s.keys ∧ t.cip = s.cip) ∧
      (∀ a : Fin 38, i = a.val → op = 32 → Gives (.cipOpAuth k false) s fun t => t.keys.ranges = s.keys.ranges ∧
        if 32 < m.length then Served k ctx d { status := 0x48 } s t ∧ t.keys = s.keys
        else if a.val ∈ s.cip.lockedOut then Served k ctx d { status := 0x47 } s t ∧ t.keys = s.keys ∧ t.get CIP_INT.AUTH_FAIL = 1
        else if auths[a].enabled = false then Served k ctx d { status := 0x46 } s t ∧ t.keys = s.keys
        else if credVerifier auths[a].salt m = auths[a].verifier then
          Served k ctx d {} s t ∧ t.keys.auths = auths.set a { auths[a] with tries := 0 } ∧ a.val ∈ t.cip.authed
        else t.keys.auths = auths.set a { auths[a] with tries := auths[a].tries + 1 } ∧ t.cip.authed = s.cip.authed ∧
          if auths[a].limit ≠ 0 ∧ auths[a].limit ≤ auths[a].tries + 1 then
            Served k ctx d { status := 0x47 } s t ∧ a.val ∈ t.cip.lockedOut
          else Served k ctx d { status := 0x46 } s t) ∧
      (∀ a : Fin 38, i = a.val → op = 33 → Gives (.cipOpSetCred k false) s fun t => t.keys.ranges = s.keys.ranges ∧
        if 32 < m.length then Served k ctx d { status := 0x48 } s t ∧ t.keys = s.keys
        else if a.val ∈ s.cip.authed ∨ 0 ∈ s.cip.authed ∨ 2 ∈ s.cip.authed ∨ (a.val ≤ 1 ∧ s.get CIP_STATUS.DBG_LEVEL = 2) then
          Served k ctx d {} s t ∧ t.keys.auths[a].enabled = true ∧ t.keys.auths[a].tries = 0 ∧
          t.keys.auths[a].verifier = credVerifier t.keys.auths[a].salt m
        else Served k ctx d { status := 0x49 } s t ∧ t.keys = s.keys) ∧
      (∀ r : Fin 32, i = r.val →
        (op = 34 → Gives (.cipOpGenkey k false) s fun t => Served k ctx d {} s t ∧ t.keys.ranges[r].gen = s.keys.ranges[r].gen + 1 ∧
          t.keys.auths = auths ∧ t.get CIP_INT.KEYCHG = 1 ∧ (∀ j : Fin 32, j ≠ r → t.keys.ranges[j] = s.keys.ranges[j]) ∧
          t.cip.slots[r] = (if s.keys.ranges[r].locked false = true ∧ s.keys.ranges[r].locked true = true then none else some t.keys.ranges[r].mek)) ∧
        (op = 35 → Gives (.cipOpLock k false) s fun t =>
          if m.length = 8 then
            Served k ctx d {} s t ∧ t.keys.auths = auths ∧ (∀ j : Fin 32, j ≠ r → t.keys.ranges[j] = s.keys.ranges[j]) ∧
            (t.keys.ranges[r].readEnabled, t.keys.ranges[r].writeEnabled, t.keys.ranges[r].readLocked, t.keys.ranges[r].writeLocked,
              t.keys.ranges[r].lockOnReset) = ((Config.lockRecord m).1, (Config.lockRecord m).2.1, (Config.lockRecord m).2.2.1,
              (Config.lockRecord m).2.2.2.1, (Config.lockRecord m).2.2.2.2.1) ∧
            t.keys.ranges[r].mek = s.keys.ranges[r].mek ∧
            (t.keys.ranges[r].locked false = true → t.keys.ranges[r].locked true = true → t.cip.slots[r] = none)
          else Served k ctx d { status := 0x48 } s t ∧ t.keys = s.keys) ∧
        (op = 36 → Gives (.cipOpSetRange k false) s fun t =>
          if m.length ≠ 24 then Served k ctx d { status := 0x48 } s t ∧ t.keys = s.keys
          else (Served k ctx d { status := 0x40 } s t ∧ t.keys = s.keys) ∨
            (Served k ctx d {} s t ∧ t.keys.ranges = s.keys.ranges.set r { s.keys.ranges[r] with geometry := m }))) ∧
      (∀ j : Fin 16, i = j.val →
        (op = 37 → Room d.localAddr 40 s → (d.localAddr + 40 ≤ ctx ∨ ctx + 112 ≤ d.localAddr) → Gives (.cipOpMkeyGen k) s fun t =>
          (t.readByte (ctx + 3)).toNat = 0 ∧ t.keys = s.keys ∧ t.cip.slots = s.cip.slots ∧
          ∃ key ∈ t.cip.mkeys[j].toList, t.readBytes d.localAddr 40 = kwpWrap mgmtKey key) ∧
        (op = 38 → Gives (.cipOpMkeyLoad k) s fun t => t.keys = s.keys ∧ t.cip.slots = s.cip.slots ∧
          if m.length ≠ 40 then Served k ctx d { status := 0x48 } s t ∧ t.cip = s.cip
          else if (∃ p ∈ (kwpUnwrap mgmtKey m).toList, p.length = 32) then Served k ctx d {} s t ∧ t.cip.mkeys[j] = kwpUnwrap mgmtKey m
          else Served k ctx d { status := 0x43 } s t ∧ t.cip = s.cip)))

/-- Classification, severities, roots, the fault state and ALIVE. A raised source without an open root is a primary: counted, LAST
written, and by its severity active, on its line, in the fault state, in the safe state, or due a reset; with an open root it is
counted as a secondary only. A level source falls with its condition; a source closes WINDOW ticks after its last classification;
the fault state ends by LEAVE or after QUIET with no such condition present. A severity-5 reset clears SYS_ALIVE.EN. ALIVE toggles
on multiples of 50,000 ticks (R649 to R662, R671 to R675). -/
def Obligations.FaultCollector : Prop :=
  ∀ s : State, s.power.retention = true →
    (s.power.core = true → ∀ k : Fin 192,
      let v := s.get (FLT_SRC.SEV k.val)
      let free := (List.range 192).all fun j => j == k.val || !s.bit (FLT_SRC.OPEN j) || !(s.get (FLT_DEP.DEP j (k.val / 40))).testBit (k.val % 40)
      (k.val ∉ s.raised → exec (.faultClassify k) s = .next s) ∧
      (k.val ∈ s.raised → fltResetSeverity k.val = none → exec (.faultClassify k) s = .next { s with raised := s.raised.erase k.val }) ∧
      (k.val ∈ s.raised → fltResetSeverity k.val ≠ none → (k.val ∈ fltLevelSources → s.bit (FLT_SRC.OPEN k.val) = true) →
        k.val ∈ fltLevelSources → Gives (.faultClassify k) s fun t => t.get (FLT_SRC.COND k.val) = 1 ∧
          t.get (FLT_SRC.COUNT k.val) = s.get (FLT_SRC.COUNT k.val) ∧ t.evrQueue = s.evrQueue ∧ t.raised = s.raised.erase k.val) ∧
      (k.val ∈ s.raised → fltResetSeverity k.val ≠ none → (k.val ∈ fltLevelSources → s.bit (FLT_SRC.OPEN k.val) = false) →
        (free = true → Gives (.faultClassify k) s fun t =>
          t.get (FLT_SRC.OPEN k.val) = 1 ∧ t.get (FLT_SRC.COUNT k.val) = min (s.get (FLT_SRC.COUNT k.val) + 1) 65535 ∧
          t.get (FLT_SRC.SEC_COUNT k.val) = s.get (FLT_SRC.SEC_COUNT k.val) ∧
          t.get FLT_CNT.PRIMARY = min (s.get FLT_CNT.PRIMARY + 1) 0xFFFFF ∧
          t.get FLT_LAST.VALID = 1 ∧ t.get FLT_LAST.SEV = v ∧ t.get FLT_LAST.SOURCE = k.val ∧ t.get FLT_LAST_TICK.TICK = s.now % 2 ^ 40 ∧
          (k.val ∈ fltLevelSources → t.get (FLT_SRC.COND k.val) = 1) ∧
          fltActive k.val t = (fltActive k.val s || decide (1 ≤ v)) ∧
          (2 ≤ v → t.get (FLT_LINECNT.COUNT (s.get (FLT_SRC.LINE k.val))) = (s.get (FLT_LINECNT.COUNT (s.get (FLT_SRC.LINE k.val))) + 1) % 65536 ∧
            80 + s.get (FLT_SRC.LINE k.val) ∈ t.pulses) ∧
          (v < 2 → t.pulses = s.pulses) ∧ (v < 3 → t.get FLT_STATUS.FAULT = s.get FLT_STATUS.FAULT) ∧
          (3 ≤ v → t.get FLT_STATUS.FAULT = 1 ∧ t.get FLT_STATUS.QUIET_LEFT = s.get FLT_CFG.QUIET ∧ t.get FLT_FIRST.VALID = 1 ∧
            (s.bit FLT_FIRST.VALID = false → t.get FLT_FIRST.SOURCE = k.val ∧ t.get FLT_FIRST.SEV = v)) ∧
          (4 ≤ v → t.get FLT_STATUS.SAFE = 1 ∧ t.get CLE_STATUS.SAFE = 1 ∧
            (∀ n : Fin 2, s.unitOn n.val = true → t.get (ADL_STATUS.PARKED n.val) = 1)) ∧
          (v < 4 → t.get FLT_STATUS.SAFE = s.get FLT_STATUS.SAFE) ∧
          t.flt.reset5 = (if 5 ≤ v then some (k.val, s.now) else s.flt.reset5)) ∧
        (free = false → Gives (.faultClassify k) s fun t =>
          t.get (FLT_SRC.OPEN k.val) = 1 ∧ t.get (FLT_SRC.COUNT k.val) = s.get (FLT_SRC.COUNT k.val) ∧
          t.get (FLT_SRC.SEC_COUNT k.val) = min (s.get (FLT_SRC.SEC_COUNT k.val) + 1) 4095 ∧
          t.get FLT_CNT.SECONDARY = min (s.get FLT_CNT.SECONDARY + 1) 0xFFFFF ∧ t.get FLT_CNT.PRIMARY = s.get FLT_CNT.PRIMARY ∧
          t.get FLT_STATUS.FAULT = s.get FLT_STATUS.FAULT ∧ fltActive k.val t = fltActive k.val s ∧ t.pulses = s.pulses)) ∧
      (Gives (.faultConditionFall k) s fun t =>
        if s.bit (FLT_SRC.COND k.val) = true ∧ fltCondition k.val s = false then
          t.get (FLT_SRC.COND k.val) = 0 ∧ t.get (FLT_SRC.OPEN k.val) = s.get (FLT_SRC.OPEN k.val) ∧ kvFind t.flt.last k.val = some s.now
        else t = s) ∧
      (Gives (.faultWindowExpiry k) s fun t =>
        if s.bit (FLT_SRC.OPEN k.val) = true ∧ fltActive k.val s = false ∧ s.bit (FLT_SRC.COND k.val) = false ∧
            (kvFind s.flt.last k.val).getD 0 + max 1 (s.get FLT_CFG.WINDOW) ≤ s.now then
          t.get (FLT_SRC.OPEN k.val) = 0 ∧ kvFind t.flt.roots k.val = none ∧ t.mem = s.mem ∧
          (∀ r, kvFind s.flt.roots k.val = some r → r.total ≠ 0 → s.evrQueue.length < 32 →
            t.evrQueue = s.evrQueue ++ [{ ty := 0x015, payload := leBytes 1 k.val ++ leBytes 3 0 ++ leBytes 4 r.total }])
        else t = s)) ∧
    (s.power.core = true →
      (Gives .faultQuietExpiry s fun t =>
        if s.bit FLT_STATUS.FAULT = true ∧ fltHeld s = false ∧ s.flt.quiet + s.get FLT_CFG.QUIET * 100000 ≤ s.now then
          ∀ f ∈ [FLT_STATUS.FAULT, FLT_STATUS.SAFE, FLT_STATUS.HIGHEST, FLT_FIRST.VALID, CLE_STATUS.SAFE], t.get f = 0
        else t = s) ∧
      (Gives .fltLeave s fun t =>
        if s.bit FLT_STATUS.FAULT = true ∧ fltHeld s = false then
          ∀ f ∈ [FLT_STATUS.FAULT, FLT_STATUS.SAFE, FLT_STATUS.HIGHEST, FLT_FIRST.VALID, CLE_STATUS.SAFE], t.get f = 0
        else t = s) ∧
      (Gives .fltClrCnt s fun t => t.get FLT_CNT.PRIMARY = 0 ∧ t.get FLT_CNT.SECONDARY = 0 ∧ t = { s with regs := t.regs } ∧
        ∀ k : Fin 192, t.get (FLT_SRC.COUNT k.val) = 0 ∧ t.get (FLT_SRC.SEC_COUNT k.val) = 0 ∧
          t.get (FLT_SRC.OPEN k.val) = s.get (FLT_SRC.OPEN k.val) ∧ t.get (FLT_SRC.SEV k.val) = s.get (FLT_SRC.SEV k.val)) ∧
      (∀ (m : Master) (w : BitVec 40), Gives (.fltInject m w) s fun t => t.get FLT_INJECT.SOURCE = w.toNat % 256 ∧
        (fltResetSeverity (w.toNat % 256) = none → OnlyRegs [FLT_INJECT.SOURCE.addr] s t) ∧
        (fltResetSeverity (w.toNat % 256) ≠ none → t.get (FLT_SRC.OPEN (w.toNat % 256)) = 1)) ∧
      (Gives .fltSeverityLoad s fun t => t.get FLT_STATUS.LOADED = 1 ∧ t.get FLT_CFG.QUIET = dictNat 0x5011 0 1000 s % 65536 ∧
        (∀ k : Fin 192, fltResetSeverity k.val ≠ none → t.get (FLT_SRC.SEV k.val) = dictSeverity k.val s % 8) ∧
        (s.bit SYS_REFCLK.FALLBACK = true → t.get (FLT_SRC.COND 0) = 1) ∧
        (s.bit CIP_STATUS.ERROR = true → t.get (FLT_SRC.COND 102) = 1)) ∧
      (s.flt.reset5 = none → exec .severity5Reset s = .next s) ∧
      (∀ k n, s.flt.reset5 = some (k, n) → s.evrQueue.length < 32 → Gives .severity5Reset s fun t => t.get SYS_ALIVE.EN = 0 ∧
        t.flt.reset5 = none ∧ t.get FLT_STATUS.FAULT = 0 ∧ t.cip.slots = .replicate 32 none ∧ t.keys = s.keys ∧ t.power = s.power ∧
        t.evrQueue = s.evrQueue ++ [{ ty := 0x001, payload := leBytes 1 2 ++ leBytes 1 k ++ leBytes 2 0 }])) ∧
    (∀ k : Fin 192,
      (s.power.core = true ∨ k.val ∉ s.raised ∨ keptSource k.val = false → exec (.coreOffFaultLog k) s = .next s) ∧
      (s.power.core = false → k.val ∈ s.raised → keptSource k.val = true → s.evrQueue.length < 32 → Gives (.coreOffFaultLog k) s fun t =>
        t.raised = s.raised.erase k.val ∧ t.mem = s.mem ∧
        t.evrQueue = s.evrQueue ++ [EvRec.mk 0x010 1 0 0 (leBytes 1 k.val ++ leBytes 1 (dictSeverity k.val s) ++
          leBytes 1 (boolNat (k.val ∈ fltLevelSources)) ++ leBytes 1 (unitOfSource k.val) ++ leBytes 8 s.now)])) ∧
    (Gives .aliveToggle s fun t =>
      if s.now % 50000 ≠ 0 then t = s
      else if s.bit SYS_ALIVE.EN = false ∨ s.bit SYS_ALIVE.FORCE_STOP = true ∨ (s.power.core = true ∧ s.bit FLT_STATUS.FAULT = true) then
        t.get SYS_ALIVE.LEVEL = 0 ∧ t.get SYS_ALIVE.TOGGLING = 0 ∧ OnlyRegs [SYS_ALIVE.LEVEL.addr] s t
      else if s.power.core = true then
        t.get SYS_ALIVE.TOGGLING = 1 ∧ OnlyRegs [SYS_ALIVE.LEVEL.addr] s t ∧
        t.get SYS_ALIVE.LEVEL = (if s.bit SYS_ALIVE.TOGGLING = true then 1 - s.get SYS_ALIVE.LEVEL else 1)
      else OnlyRegs [SYS_ALIVE.LEVEL.addr] s t)

/-- Writing, repeating and posting records, the mirror and the operating seconds. EVR writes the record at the head of its queue
at the write offset with the next SEQ and its CRC, moves the offset on, and changes no other byte; a repeat of the last record
raises REPEAT in place. A master posts through its own slot a record of type 0x800 or more with 4 to 1024 payload bytes; another
one sets ERR. MIRROR_DUE is set by level or by age; CLR_CNT clears the counts; a second of ticks adds to the operating seconds
(R663 to R670, R674). -/
def Obligations.EventRecorder : Prop :=
  ∀ s : State, s.power.retention = true →
    (s.evrQueue = [] → exec .evrRecordWrite s = .next s) ∧
    (∀ r q, s.evrQueue = r :: q → (∀ p ∈ s.evr.last.toList, r.repeats p.2 = false) →
      s.get EVR_STATUS.NEXT_OFS + r.size ≤ ringSize → evrUnmirrored s + r.size ≤ ringSize → (∀ x, s.row x = {} ∧ s.block x = 0) →
      Gives .evrRecordWrite s fun t => t.evrQueue = q ∧ t.get EVR_SEQ.SEQ = (s.get EVR_SEQ.SEQ + 1) % 65536 ∧
        t.get EVR_SEQ.RECORDS = min (s.get EVR_SEQ.RECORDS + 1) (2 ^ 24 - 1) ∧ t.get EVR_INT.RECORD = 1 ∧
        t.get EVR_STATUS.NEXT_OFS = (s.get EVR_STATUS.NEXT_OFS + r.size) % ringSize ∧
        t.readBytes (ringBase + s.get EVR_STATUS.NEXT_OFS) r.size = evrSeal (evrBody r ((s.get EVR_SEQ.SEQ + 1) % 65536) s) ∧
        (∀ a, a < ringBase + s.get EVR_STATUS.NEXT_OFS ∨ ringBase + s.get EVR_STATUS.NEXT_OFS + r.size ≤ a → t.readByte a = s.readByte a) ∧
        t.evr.last = some (s.get EVR_STATUS.NEXT_OFS, r)) ∧
    (∀ r q o p, s.evrQueue = r :: q → s.evr.last = some (o, p) → r.repeats p = true → Gives .evrRecordWrite s fun t =>
      t.evrQueue = q ∧ t.get EVR_STATUS.NEXT_OFS = s.get EVR_STATUS.NEXT_OFS ∧ t.evr = s.evr ∧
      t.get EVR_SEQ.SEQ = (s.get EVR_SEQ.SEQ + 1) % 65536 ∧ t.get EVR_SEQ.RECORDS = s.get EVR_SEQ.RECORDS ∧
      leAt (t.readBytes (ringBase + o) 24) 16 2 = min (leAt (s.readBytes (ringBase + o) 24) 16 2 + 1) 0xFFFF ∧
      (∀ a, a < ringBase + o ∨ ringBase + o + p.size ≤ a → t.readByte a = s.readByte a)) ∧
    (∀ (m : Master) (c : Fin 6) (w : BitVec 40),
      (evrPoster m c.val s = false ∨ s.bit (EVR_POSTB.BUSY c.val) = true → exec (.evrPost m c w) s = .next s) ∧
      (evrPoster m c.val s = true → s.bit (EVR_POSTB.BUSY c.val) = false → Gives (.evrPost m c w) s fun t => t.mem = s.mem ∧
        let ty := w.toNat % 4096
        let len := w.toNat / 4096 % 2048
        if 0x800 ≤ ty ∧ 4 ≤ len ∧ len ≤ 1024 ∧ evrReach (s.get (EVR_POSTA.ADDR c.val)) len s = true then
          t.get (EVR_POSTB.ERR c.val) = 0 ∧ t.evrQueue = s.evrQueue ++ [EvRec.mk ty (w.toNat / 2 ^ 26 % 16) (originOf m s) 0
            (s.readBytes (s.get (EVR_POSTA.ADDR c.val)) len)]
        else t.get (EVR_POSTB.ERR c.val) = 1 ∧ t.get EVR_INT.POST_ERR = 1 ∧ t.evrQueue = s.evrQueue)) ∧
    (∀ n : Fin 5, ∀ c : Fin 6, evrPoster (if h : n.val < 4 then .y ⟨n.val, h⟩ else .yp) c.val s = decide (c.val = n.val)) ∧
    (Gives .evrMirrorDue s fun t =>
      if 4096 * max 1 (s.get EVR_MIRROR_LVL.LEVEL) ≤ evrUnmirrored s ∨
          (s.get EVR_MIRROR.AGE ≠ 0 ∧ s.evr.doneAt + s.get EVR_MIRROR.AGE * 100000000 ≤ s.now) then
        t.get EVR_INT.MIRROR_DUE = 1 ∧ OnlyRegs [EVR_INT.MIRROR_DUE.addr] s t
      else t = s) ∧
    (Gives .evrClrCnt s fun t => t.get EVR_CNT.DROPPED = 0 ∧ t.get EVR_CNT.MIRROR_LOST = 0 ∧ t.get EVR_CNT.REPAIRED = 0 ∧
      OnlyRegs [EVR_CNT.DROPPED.addr] s t) ∧
    exec .opSecondsTick s = .next { s with opSeconds := (s.opSeconds + 1) % 2 ^ 40 }

/-- GO and its refusals, entries, exits and WAKE. A GO that may not run names its refusal in REFUSE and changes no state; Active
and Idle switch at once; Standby and Pantry-only switch the core domain off, Pantry-only the DRAM supplies too; Deep Off waits for
EVR and the dictionary and then switches the retention domain off. An exit raises PWR_EN_CORE, and when its rails hold the core
domain is released and STATE takes the target; one that times out returns to its source state. An accepted WAKE edge is counted
and begins an exit where the state and EN allow (R676 to R689, R697). -/
def Obligations.PowerTransitions : Prop :=
  (∀ (target : BitVec 3) (s : State), s.power.retention = true → s.sup.wakeLater = false →
    let t := target.toNat
    let st := s.get SUP_STATUS.STATE
    let code := if 4 < t ∨ st = t ∨ (st = 3 ∧ t = 2) ∨ st = 4 then 1
      else if s.bit SUP_REQ.BUSY = true then 7
      else if t < 2 then 0
      else if s.get SPM_STATUS.MODE ≠ 0 ∧ s.get SPM_STATUS.MODE ≠ 8 ∧ s.bit SPM_CTRL.ENABLE = true then 2
      else if (∃ n : Fin 2, s.bit (ADL_STATUS.LINK_UP n.val) = true ∧ s.get (ADL_STATUS.COMP_STATE n.val) ≠ 0) then 3
      else if t = 2 ∧ s.bit DRC_SR.STATE = false then 4
      else if (∃ k : Fin 32, s.dma.chan[k].st = 2 ∨ s.dma.chan[k].st = 3) then 5
      else if s.get SUP_STATUS.WARN_NOW ≠ 0 then 6 else 0
    let own := s.bit SUP_REQ.PEND = false ∨ s.get SUP_REQ.TARGET ≠ t
    Gives (.supReqGo target) s fun u => u.get SUP_REQ.TARGET = t ∧
      if code ≠ 0 then
        u.get SUP_REQ.REFUSE = code ∧ u.get SUP_INT.REFUSED = 1 ∧ u.get SUP_STATUS.STATE = st ∧ u.power = s.power ∧ u.mem = s.mem ∧
        u.sup = s.sup ∧ u.cip = s.cip
      else if t < 2 ∧ st < 2 then
        u.get SUP_STATUS.STATE = t ∧ u.get SUP_INT.DONE = 1 ∧ u.get SUP_REQ.BUSY = 0 ∧ u.get SUP_REQ.PEND = 0 ∧ u.power = s.power ∧
        u.mem = s.mem ∧ u.sup = s.sup
      else if t < 2 then
        u.get SUP_STATUS.STATE = st ∧ u.get SUP_REQ.BUSY = 1 ∧ u.get SUP_REQ.PEND = 0 ∧ u.power = s.power ∧ u.mem = s.mem ∧
        (own → u.sup.exit = some (st, t, 2)) ∧ (¬ own → u.sup.exit = some (st, t, s.get SUP_REQ.SOURCE - 1))
      else u.get SUP_REQ.PEND = 0 ∧ (s.sup.pwrCore = true → u.power.core = false ∧ u.sup.pwrCore = false ∧ u.get SUP_STATUS.CORE_ON = 0) ∧
        u.power.retention = true ∧ (t = 2 → u.get SUP_STATUS.DRAM_ON = s.get SUP_STATUS.DRAM_ON) ∧ (3 ≤ t → u.get SUP_STATUS.DRAM_ON = 0) ∧
        if t = 4 then u.sup.deepOff ≠ none ∧ u.get SUP_REQ.BUSY = 1 ∧ u.get SUP_STATUS.STATE = st
        else u.get SUP_STATUS.STATE = t ∧ u.get SUP_INT.DONE = 1 ∧ u.get SUP_REQ.BUSY = 0 ∧ u.sup.exit = s.sup.exit) ∧
  (∀ (busy : Bool) (s : State), s.power.retention = true → s.sup.wakeLater = false →
    (s.sup.deepOff = none ∨ s.evrQueue ≠ [] ∨ s.bit EVR_STATUS.BUSY = true ∨ busy = true → exec (.deepOffRetentionOff busy) s = .next s) ∧
    (s.evrQueue = [] → s.bit EVR_STATUS.BUSY = false → ∀ cause, s.sup.deepOff = some cause → Gives (.deepOffRetentionOff false) s fun u =>
      u.power.retention = false ∧ u.power.io = false ∧ u.power.alwaysOn = s.power.alwaysOn ∧ u.get SUP_STATUS.STATE = 4 ∧
      u.get SUP_REQ.BUSY = 0 ∧ u.tick = 0 ∧ u.keys.retention = none ∧ u.sup.deepOff = none ∧
      (∀ a, 0x0020000000 ≤ a → a < 0x0020080000 → u.readByte a = 0) ∧
      (∀ a, a < 0x0020000000 ∨ 0x0020080000 ≤ a → u.readByte a = s.readByte a))) ∧
  (∀ s : State, s.power.alwaysOn = true → s.sup.wakeLater = false → s.bit SUP_REQ.PEND = false →
    (s.sup.exit = none ∨ s.sup.raised = true → exec .lowStateExit s = .next s) ∧
    (s.sup.exit ≠ none → s.sup.raised = false → Gives .lowStateExit s fun u => u.get SUP_STATUS.DRAM_ON = 1 ∧ u.sup.raised = true ∧
      u.sup.pwrCore = true ∧ u.sup.exit = s.sup.exit ∧ u.power = s.power ∧ OnlyRegs [SUP_STATUS.DRAM_ON.addr] { s with sup := u.sup } u) ∧
    (s.sup.exit = none ∨ s.sup.raised = false → exec .exitRailsReady s = .next s) ∧
    (∀ src target cause, s.sup.exit = some (src, target, cause) → s.sup.raised = true → target < 2 →
      (s.sup.exitReset = 1 ∨ s.sup.testEn = true ∨ s.get SUP_STATUS.RESET_NOW ≠ 0 ∨ (src = 4 ∧ s.bit SYS_STRAP.VALID = false) →
        Gives .exitRailsReady s fun u => u.power = s.power ∧ u.sup.ready = true ∧ u.regs = s.regs) ∧
      (s.sup.exitReset ≠ 1 → s.sup.testEn = false → s.get SUP_STATUS.RESET_NOW = 0 → (src ≠ 4 ∨ s.bit SYS_STRAP.VALID = true) →
        Gives .exitRailsReady s fun u => u.power.core = true ∧ u.get SUP_STATUS.CORE_ON = 1 ∧ u.get SUP_STATUS.STATE = target ∧
          u.get SUP_STATUS.LAST_CAUSE = cause % 8 ∧ u.get SUP_INT.DONE = 1 ∧ u.get SUP_REQ.BUSY = 0 ∧ u.sup.exit = none ∧ u.mem = s.mem) ∧
      (s.sup.ready = false → ∀ a b : Bool, Gives (.exitSupplyTimeout a b) s fun u => u.get SUP_STATUS.STATE = src % 8 ∧
        u.get SUP_STATUS.DRAM_ON = (if src = 2 then 1 else 0) ∧ u.sup.exit = none ∧ u.sup.pwrCore = false ∧ u.get SUP_REQ.BUSY = 0 ∧
        u.get SUP_REQ.REFUSE = 6 ∧ u.get SUP_INT.REFUSED = 1 ∧ u.power = s.power ∧ u.mem = s.mem)) ∧
    (s.sup.exit = none ∨ s.sup.raised = false ∨ s.sup.ready = true → ∀ a b : Bool, exec (.exitSupplyTimeout a b) s = .next s) ∧
    (s.bit SUP_WAKE.LEVEL = true → exec .wakeEdge s = .next s) ∧
    (s.bit SUP_WAKE.LEVEL = false → Gives .wakeEdge s fun u => u.get SUP_INT.WAKE = 1 ∧ u.get SUP_WAKE.LEVEL = 1 ∧ u.get SUP_WAKE.HELD = 1 ∧
      u.get SUP_WAKE.HOURS = 0 ∧ u.get SUP_CNT.WAKES = min (s.get SUP_CNT.WAKES + 1) 1023 ∧ u.get SUP_STATUS.STATE = s.get SUP_STATUS.STATE ∧
      (s.sup.exit = none → s.sup.vauxLow = false → s.sup.deepOff ≠ none → u.sup.wakeLater = true ∧ u.sup.exit = none) ∧
      (s.sup.exit = none → s.sup.vauxLow = false → s.sup.deepOff = none → s.power.retention = true →
        (2 ≤ s.get SUP_STATUS.STATE → s.get SUP_STATUS.STATE ≤ 3 → s.bit SUP_WAKE.EN = true →
          u.sup.exit = some (s.get SUP_STATUS.STATE, if s.get SUP_WAKE.TARGET = 0 then 0 else 1, 1) ∧ u.get SUP_REQ.BUSY = 1) ∧
        (s.get SUP_STATUS.STATE < 2 ∨ (s.get SUP_STATUS.STATE < 4 ∧ s.bit SUP_WAKE.EN = false) → u.sup = s.sup))) ∧
    (Gives .wakeFilteredFall s fun u => u.get SUP_WAKE.LEVEL = 0 ∧ u.get SUP_WAKE.HELD = 0 ∧ OnlyRegs [SUP_WAKE.LEVEL.addr] s u) ∧
    (s.power.retention = true → Gives .wakeHeldHour s fun u =>
      if s.bit SUP_WAKE.HELD = true then u.get SUP_WAKE.HOURS = min (s.get SUP_WAKE.HOURS + 1) 65535 ∧ u.get SUP_INT.WAKE_HELD = 1 ∧
        u.power = s.power ∧ u.mem = s.mem
      else u = s))

/-- Warnings, reset thresholds, VAUX, the straps and TEST_EN. A watched and armed rail below its warning level is reported,
counted and raises its source; its clear level withdraws it. A reset threshold in Active or Idle holds the core domain in reset
until every rail has cleared; VAUX takes the retention domain too and the start that follows is into Idle. The power-on level of
VAUX puts SUP's registers at reset. TEST_EN holds the core domain while it is high. The straps are latched once. CLR_CNT and
CLR_MIN clear what they name (R690 to R698, R730, R738). -/
def Obligations.SupplySupervision : Prop :=
  ∀ s : State, s.power.alwaysOn = true →
    (∀ (r : Fin 5) (mv : BitVec 16),
      (supWatched r.val false s = false ∨ r.val ∈ s.sup.unarmedWarn ∨ (s.get SUP_STATUS.WARN_NOW).testBit r.val = true →
        exec (.railWarning r mv) s = .next s) ∧
      (supWatched r.val false s = true → r.val ∉ s.sup.unarmedWarn → (s.get SUP_STATUS.WARN_NOW).testBit r.val = false →
        Gives (.railWarning r mv) s fun t => t.get SUP_STATUS.WARN_NOW = s.get SUP_STATUS.WARN_NOW ||| 2 ^ r.val ∧
          t.get SUP_INT.WARN = s.get SUP_INT.WARN ||| 2 ^ r.val ∧ t.get SUP_CNT.WARNS = min (s.get SUP_CNT.WARNS + 1) 0xFFFFF ∧
          t.get (SUP_RAIL.MV r.val) = mv.toNat ∧ t.get (SUP_RAIL.MIN_MV r.val) = min (s.get (SUP_RAIL.MIN_MV r.val)) mv.toNat ∧
          8 + 2 * r.val ∈ t.raised ∧ t.power = s.power) ∧
      (supWatched r.val false s = true → r.val ∈ s.sup.unarmedWarn → Gives (.railWarningClear r mv) s fun t =>
        r.val ∉ t.sup.unarmedWarn ∧ t.get (SUP_RAIL.MV r.val) = mv.toNat ∧ t.get SUP_STATUS.WARN_NOW = s.get SUP_STATUS.WARN_NOW) ∧
      (supWatched r.val false s = true → r.val ∉ s.sup.unarmedWarn → (s.get SUP_STATUS.WARN_NOW).testBit r.val = true →
        Gives (.railWarningClear r mv) s fun t => t.get SUP_STATUS.WARN_NOW = s.get SUP_STATUS.WARN_NOW - 2 ^ r.val ∧
          t.get SUP_INT.CLEAR = s.get SUP_INT.CLEAR ||| 2 ^ r.val ∧ t.power = s.power ∧ t.mem = s.mem) ∧
      (supWatched r.val false s = false → exec (.railWarningClear r mv) s = .next s)) ∧
    (∀ (r : Fin 4) (mv : BitVec 16),
      (supWatched r.val true s = false ∨ r.val ∈ s.sup.unarmedReset ∨ (s.get SUP_STATUS.RESET_NOW).testBit r.val = true →
        exec (.railResetThreshold r mv) s = .next s) ∧
      (supWatched r.val true s = true → r.val ∉ s.sup.unarmedReset → (s.get SUP_STATUS.RESET_NOW).testBit r.val = false →
        Gives (.railResetThreshold r mv) s fun t => t.get SUP_STATUS.RESET_NOW = s.get SUP_STATUS.RESET_NOW ||| 2 ^ r.val ∧
          t.get SUP_INT.RST = s.get SUP_INT.RST ||| 2 ^ r.val ∧ t.get SUP_CNT.RESETS = min (s.get SUP_CNT.RESETS + 1) 1023 ∧
          t.power.retention = s.power.retention ∧
          (s.sup.exit = none → s.get SUP_STATUS.STATE < 2 → t.power.core = false ∧ t.sup.hold = true ∧ t.get SUP_STATUS.CORE_ON = 0 ∧
            t.cip.slots = .replicate 32 none) ∧
          (s.sup.exit ≠ none → t.sup.exitReset = 1 ∧ t.power = s.power))) ∧
    (∀ (r : Fin 4) (mv : BitVec 16), Gives (.railResetClear ⟨r.val, Nat.lt_trans r.isLt (by decide)⟩ mv) s fun t =>
      if r.val ∈ s.sup.unarmedReset then r.val ∉ t.sup.unarmedReset ∧ t.regs = s.regs
      else (t.get SUP_STATUS.RESET_NOW).testBit r.val = false ∧ t.get (SUP_RAIL.MV r.val) = mv.toNat ∧ t.power = s.power ∧ t.sup = s.sup) ∧
    (∀ mv : BitVec 16,
      (s.sup.vauxLow = true → exec (.vauxReset mv) s = .next s) ∧
      (s.sup.vauxLow = false → exec (.railResetClear 4 mv) s = .next s) ∧
      (s.sup.vauxLow = false → Gives (.vauxReset mv) s fun t => t.power.core = false ∧ t.power.retention = false ∧ t.power.io = false ∧
        t.power.alwaysOn = true ∧ t.get SUP_STATUS.STATE = 4 ∧ t.get SUP_STATUS.LAST_CAUSE = 3 ∧ t.sup.vauxLow = true ∧ t.sup.exit = none ∧
        t.keys.retention = none ∧ t.tick = 0 ∧ (∀ a, 0x0020000000 ≤ a → a < 0x0020080000 → t.readByte a = 0) ∧
        (∀ a, 0x0030000000 ≤ a → a < 0x0030400000 → t.readByte a = s.readByte a)) ∧
      (s.sup.vauxLow = true → s.power.retention = false → Gives (.railResetClear 4 mv) s fun t => t.power.retention = true ∧ t.power.io = true ∧
        t.sup.vauxLow = false ∧ t.sup.exit = some (4, 1, s.sup.coldCause) ∧ (t.get SUP_STATUS.RESET_NOW).testBit 4 = false ∧
        t.get SUP_REQ.BUSY = 1 ∧ t.powerCycles = (s.powerCycles + 1) % 2 ^ 32)) ∧
    (s.get SUP_STATUS.RESET_NOW ≠ 0 ∨ s.sup.testEn = true → exec .railResetRelease s = .next s) ∧
    (s.get SUP_STATUS.RESET_NOW = 0 → s.sup.testEn = false → s.sup.exit = none → s.sup.hold = true → s.get SUP_STATUS.STATE < 2 →
      s.sup.pwrCore = true → s.power.core = false → Gives .railResetRelease s fun t => t.power.core = true ∧ t.sup.hold = false ∧
        t.get SUP_STATUS.STATE = 1 ∧ t.get SUP_STATUS.CORE_ON = 1 ∧ t.mem = s.mem) ∧
    (s.sup.testEn = true → exec .testEnRise s = .next s) ∧
    (s.sup.testEn = false → Gives .testEnRise s fun t => t.sup.testEn = true ∧ t.power.core = false ∧ (s.power.core = true → t.sup.hold = true)) ∧
    (s.sup.testEn = false → exec .testEnFall s = .next s) ∧
    (s.sup.testEn = true → s.sup.exit = none → s.sup.hold = true → s.get SUP_STATUS.RESET_NOW = 0 → s.get SUP_STATUS.STATE < 2 →
      s.sup.pwrCore = true → s.power.core = false → Gives .testEnFall s fun t => t.sup.testEn = false ∧ t.power.core = true ∧
        t.sup.hold = false ∧ t.get SUP_STATUS.STATE = 1) ∧
    (Gives .vauxPowerOnLevelFall s fun t => t.power.alwaysOn = false ∧ t.power.retention = false ∧ t.power.core = false ∧ t.regs = [] ∧
      t.sup.testEn = s.sup.testEn ∧ t.sup.vauxLow = true ∧ (∀ a, 0x0030000000 ≤ a → a < 0x0030400000 → t.readByte a = s.readByte a)) ∧
    (exec .vauxPowerOn s = .next s) ∧
    (Gives .vauxPowerOn { s with power := { s.power with alwaysOn := false } } fun t => t.power.alwaysOn = true ∧ t.power.retention = false ∧
      t.power.core = false ∧ t.regs = [] ∧ t.sup.strapped = false) ∧
    (∀ (slot : BitVec 7) (g : Bool), Gives (.strapLatch slot g) s fun t =>
      if s.sup.strapped = true then t = s
      else t = { s with sup := { s.sup with slot := slot.toNat, spingate := g, strapped := true } }) ∧
    (∀ pins : BitVec 5, s.power.retention = true →
      (s.bit SYS_STRAP.VALID = true ∨ s.power.io = false → exec (.gpioStrapSample pins) s = .next s) ∧
      (s.bit SYS_STRAP.VALID = false → s.power.io = true → Gives (.gpioStrapSample pins) s fun t => t.get SYS_STRAP.VALID = 1 ∧
        t.get SYS_STRAP.DRAM_SIZE = pins.toNat % 4 ∧ t.get SYS_STRAP.DRAM_RANKS = pins.toNat / 4 % 2 ∧
        t.get SYS_STRAP.DRAM_RATE = pins.toNat / 8 ∧ (s.sup.exit = none → OnlyRegs [SYS_STRAP.VALID.addr] s t))) ∧
    (s.power.retention = true →
      (Gives .supClrCnt s fun t => t.get SUP_CNT.WAKES = 0 ∧ t.get SUP_CNT.RESETS = 0 ∧ t.get SUP_CNT.WARNS = 0 ∧
        OnlyRegs [SUP_CNT.WAKES.addr] s t) ∧
      (∀ r : Fin 5, Gives (.supRailClrMin r) s fun t => t.get (SUP_RAIL.MIN_MV r.val) = 0xFFFF ∧
        t.get (SUP_RAIL.MV r.val) = s.get (SUP_RAIL.MV r.val) ∧ OnlyRegs [(SUP_RAIL.MIN_MV r.val).addr] s t))

/-- The boot ROM, the flash services and BOOT_OK. The boot ROM runs on a released Y0 at its reset vector only; it fills main SRAM,
enables the link, the cipher and the DRAM controller, and with no flash directory and no kept image it stays in the recovery loop.
FLASH_READ and FLASH_WRITE move the bytes named in g1 to g3 and answer 0x00; FLASH_WRITE changes only those bytes of the flash.
BOOT_OK sets TRIES of the boot record to 0 and leaves its other fields (R699, R701, R704, R705, R708). -/
def Obligations.BootAndFlash : Prop :=
  ∀ s : State, s.power.core = true →
    (∀ (lanes : BitVec 4) (cause : Fin 12) (core : Fin 8),
      (coreHeldBit 0 s = true ∨ s.cores[(0 : Fin 5)].pc ≠ 0 ∨ s.cores[(0 : Fin 5)].halted = true →
        exec (.bootRomStart lanes cause core) s = .next s) ∧
      (coreHeldBit 0 s = false → s.cores[(0 : Fin 5)].pc = 0 → s.cores[(0 : Fin 5)].halted = false → s.boot.flash = [] → s.boot.started = none →
        Gives (.bootRomStart lanes cause core) s fun t => t.boot.recovery = true ∧ t.boot.flash = [] ∧ t.get MEM_INT.INIT_DONE = 1 ∧
          t.get PCE_CTRL.LTSSM_EN = 1 ∧ t.get DRC_CTRL.ENABLE = 1 ∧ t.cores[(0 : Fin 5)].pc = 0 ∧ t.power = s.power ∧
          (∀ a, 0x0010000000 ≤ a → a < 0x0010800000 → t.readByte a = 0) ∧
          (s.bit SYS_PSCRUB.COLD = true → t.get SYS_PSCRUB.COLD = 0 ∧ ∀ a, 0x0020000000 ≤ a → a < 0x0020080000 → t.readByte a = 0))) ∧
    (∀ c : Fin 4, coreHeldBit (coreOfY c) s = false → s.cores[coreOfY c].halted = false →
      let ofs := (s.cores[coreOfY c].regs[1]).toNat
      let n := (s.cores[coreOfY c].regs[2]).toNat
      let a := (s.cores[coreOfY c].regs[3]).toNat
      (ofs + n ≤ flashSize → accessFail (.y c) true a n s = none → Gives (.flashRead c) s fun t =>
        t.cores[coreOfY c].regs[1] = 0 ∧ t.cores[coreOfY c].regs[2] = 0xFFFF ∧ t.cores[coreOfY c].regs[3] = 0 ∧ t.boot = s.boot ∧
        t.readBytes a n = (List.range n).map (fun i => (kvFind s.boot.flash (ofs + i)).getD 0xFF) ∧
        (∀ b, b < a ∨ a + n ≤ b → t.readByte b = s.readByte b)) ∧
      (ofs + n ≤ flashSize → accessFail (.y c) false a n s = none → Gives (.flashWrite c) s fun t =>
        t.cores[coreOfY c].regs[1] = 0 ∧ t.cores[coreOfY c].regs[2] = 0xFFFF ∧ t.cores[coreOfY c].regs[3] = 0 ∧ t.mem = s.mem ∧
        ∀ b, (kvFind t.boot.flash b).getD 0xFF = if ofs ≤ b ∧ b < ofs + n then s.readByte (a + (b - ofs)) else (kvFind s.boot.flash b).getD 0xFF) ∧
      (s.power.retention = true → (∀ k ∈ [0, 1], leAt (recCopy recBoot k s) 52 4 + 1 < 2 ^ 32) → Gives (.bootOk c) s fun t =>
        t.cores[coreOfY c].regs[1] = 0 ∧ bootRecord t = (0 : Byte) :: (bootRecord s).drop 1 ∧ t.boot = s.boot))

/-- What reset leaves. At reset no command waits, every register reads its table's reset value and none is locked, memory lists
nothing, no fault is raised, no record waits, no slot holds a key, the link is down, Y0's PC is at the reset vector and every core
is in supervisor mode with its MMU off; and the invariant holds. That every domain is powered there, general registers and
unlisted memory read 0, and the tick is 0 are the model's choices (assumptions 1 and 4). -/
def Obligations.ResetState : Prop :=
  State.reset.pending = [] ∧ State.reset.regs = [] ∧ State.reset.locks = [] ∧ (∀ a, State.reset.readByte a = 0) ∧ State.reset.mem = [] ∧
  State.reset.raised = [] ∧ State.reset.evrQueue = [] ∧ State.reset.cip.slots = .replicate 32 none ∧
  (∀ f : Fld, State.reset.get f = bits f.rst.toNat f.lo f.len) ∧
  (∀ c : Fin 5, State.reset.cores[c].supervisor = true ∧ State.reset.cores[c].mmuOn = false ∧ State.reset.cores[c].reserved = none ∧
    State.reset.cores[c].stores = [] ∧ State.reset.cores[c].halted = false) ∧
  State.reset.cores[(0 : Fin 5)].pc = 0 ∧ Inv State.reset

/-- Every step keeps the form of memory and of the registers. From every state whose memory is in its canonical form and whose
register list has each address once in order, whatever command is at the front of the queue and also on an empty queue, a step
answers a next state with the same form: equal memories stay equal data, and no command stops the machine. -/
def Obligations.StepKeepsInv : Prop :=
  ∀ s : State, Inv s → ∃ t, step s = .next t ∧ Inv t
end

