-- ==== Sys2Proof/Laws/Dispatch.lean ====
section
/-! SUPPORT. The meaning that each command has, one equation for each arm of the dispatch, and what a step does with the queue. -/

namespace Sys2Proof.Machine

@[simp] theorem exec_registerWrite (m : Master) (full : Bool) (a : BitVec 40) (w : BitVec 40) (s : State) : exec (.registerWrite m full a w) s = execRegisterWrite m full a w s := rfl
@[simp] theorem exec_sysTickLRead (s : State) : exec (.sysTickLRead) s = execSysTickLRead s := rfl
@[simp] theorem exec_stepmonClearMin (s : State) : exec (.stepmonClearMin) s = execStepmonClearMin s := rfl
@[simp] theorem exec_refPllLockLoss (xtal : Bool) (s : State) : exec (.refPllLockLoss xtal) s = execRefPllLockLoss xtal s := rfl
@[simp] theorem exec_refPllRelock (s : State) : exec (.refPllRelock) s = execRefPllRelock s := rfl
@[simp] theorem exec_releaseComparatorMatch (k : Fin 3) (s : State) : exec (.releaseComparatorMatch k) s = execReleaseComparatorMatch k s := rfl
@[simp] theorem exec_freeRunPeriodStart (s : State) : exec (.freeRunPeriodStart) s = execFreeRunPeriodStart s := rfl
@[simp] theorem exec_parityJournalWrite (n : Fin 2) (bank : Fin 2) (s : State) : exec (.parityJournalWrite n bank) s = execParityJournalWrite n bank s := rfl
@[simp] theorem exec_manifestCommit (done : Fin 4) (torn : Bool) (s : State) : exec (.manifestCommit done torn) s = execManifestCommit done torn s := rfl
@[simp] theorem exec_rcpImageStage (ofs : BitVec 32) (data : List Byte) (origin : BitVec 8) (s : State) : exec (.rcpImageStage ofs data origin) s = execRcpImageStage ofs data origin s := rfl
@[simp] theorem exec_rcpReqCheckOnly (origin : BitVec 8) (s : State) : exec (.rcpReqCheckOnly origin) s = execRcpReqCheckOnly origin s := rfl
@[simp] theorem exec_rcpReqCheckCommit (origin : BitVec 8) (s : State) : exec (.rcpReqCheckCommit origin) s = execRcpReqCheckCommit origin s := rfl
@[simp] theorem exec_rcpReqForce (origin : BitVec 8) (s : State) : exec (.rcpReqForce origin) s = execRcpReqForce origin s := rfl
@[simp] theorem exec_rcpCheck (c : Fin 4) (s : State) : exec (.rcpCheck c) s = execRcpCheck c s := rfl
@[simp] theorem exec_rcpInstall (c : Fin 4) (s : State) : exec (.rcpInstall c) s = execRcpInstall c s := rfl
@[simp] theorem exec_rcpActivate (c : Fin 4) (s : State) : exec (.rcpActivate c) s = execRcpActivate c s := rfl
@[simp] theorem exec_pslNegotiate (n : Fin 2) (peer cap0 cap1 : BitVec 16) (s : State) : exec (.pslNegotiate n peer cap0 cap1) s = execPslNegotiate n peer cap0 cap1 s := rfl
@[simp] theorem exec_pslHelloTimeout (n : Fin 2) (s : State) : exec (.pslHelloTimeout n) s = execPslHelloTimeout n s := rfl
@[simp] theorem exec_pslKeepalive (n : Fin 2) (s : State) : exec (.pslKeepalive n) s = execPslKeepalive n s := rfl
@[simp] theorem exec_pslStatusTimeout (n : Fin 2) (s : State) : exec (.pslStatusTimeout n) s = execPslStatusTimeout n s := rfl
@[simp] theorem exec_pslTimedFrameMatch (n : Fin 2) (s : State) : exec (.pslTimedFrameMatch n) s = execPslTimedFrameMatch n s := rfl
@[simp] theorem exec_pslEchoMiss (n : Fin 2) (s : State) : exec (.pslEchoMiss n) s = execPslEchoMiss n s := rfl
@[simp] theorem exec_pslRxEcho (n : Fin 2) (full : Bool) (arg : BitVec 8) (data : BitVec 16) (s : State) : exec (.pslRxEcho n full arg data) s = execPslRxEcho n full arg data s := rfl
@[simp] theorem exec_pslRxFault (n : Fin 2) (full : Bool) (code : BitVec 8) (data : BitVec 16) (s : State) : exec (.pslRxFault n full code data) s = execPslRxFault n full code data s := rfl
@[simp] theorem exec_pslRxHello (n : Fin 2) (full : Bool) (data : BitVec 16) (s : State) : exec (.pslRxHello n full data) s = execPslRxHello n full data s := rfl
@[simp] theorem exec_pslRxCap (n : Fin 2) (full : Bool) (arg : BitVec 8) (data : BitVec 16) (s : State) : exec (.pslRxCap n full arg data) s = execPslRxCap n full arg data s := rfl
@[simp] theorem exec_pslRxAck (n : Fin 2) (full : Bool) (arg : BitVec 8) (data : BitVec 16) (s : State) : exec (.pslRxAck n full arg data) s = execPslRxAck n full arg data s := rfl
@[simp] theorem exec_pslRxRegData (n : Fin 2) (full : Bool) (arg : BitVec 8) (data : BitVec 16) (s : State) : exec (.pslRxRegData n full arg data) s = execPslRxRegData n full arg data s := rfl
@[simp] theorem exec_pslRxStatus (n : Fin 2) (full : Bool) (data : BitVec 16) (s : State) : exec (.pslRxStatus n full data) s = execPslRxStatus n full data s := rfl
@[simp] theorem exec_pslRxNak (n : Fin 2) (full : Bool) (arg : BitVec 8) (data : BitVec 16) (s : State) : exec (.pslRxNak n full arg data) s = execPslRxNak n full arg data s := rfl
@[simp] theorem exec_pslRxDiscard (n : Fin 2) (gapOnly : Bool) (s : State) : exec (.pslRxDiscard n gapOnly) s = execPslRxDiscard n gapOnly s := rfl
@[simp] theorem exec_pslCmdNop (n : Fin 2) (arg : BitVec 8) (data : BitVec 16) (s : State) : exec (.pslCmdNop n arg data) s = execPslCmdNop n arg data s := rfl
@[simp] theorem exec_pslCmdCapRd (n : Fin 2) (arg : BitVec 8) (data : BitVec 16) (s : State) : exec (.pslCmdCapRd n arg data) s = execPslCmdCapRd n arg data s := rfl
@[simp] theorem exec_pslCmdRegWr (n : Fin 2) (arg : BitVec 8) (data : BitVec 16) (s : State) : exec (.pslCmdRegWr n arg data) s = execPslCmdRegWr n arg data s := rfl
@[simp] theorem exec_pslCmdRegRd (n : Fin 2) (arg : BitVec 8) (data : BitVec 16) (s : State) : exec (.pslCmdRegRd n arg data) s = execPslCmdRegRd n arg data s := rfl
@[simp] theorem exec_pslCmdStatusRq (n : Fin 2) (arg : BitVec 8) (data : BitVec 16) (s : State) : exec (.pslCmdStatusRq n arg data) s = execPslCmdStatusRq n arg data s := rfl
@[simp] theorem exec_pslCmdTimeout (n : Fin 2) (s : State) : exec (.pslCmdTimeout n) s = execPslCmdTimeout n s := rfl
@[simp] theorem exec_pslCtrlNegotiate (n : Fin 2) (rst : Bool) (s : State) : exec (.pslCtrlNegotiate n rst) s = execPslCtrlNegotiate n rst s := rfl
@[simp] theorem exec_pslCtrlClrErr (n : Fin 2) (s : State) : exec (.pslCtrlClrErr n) s = execPslCtrlClrErr n s := rfl
@[simp] theorem exec_dcCalAdcOffset (c : Fin 4) (s : State) : exec (.dcCalAdcOffset c) s = execDcCalAdcOffset c s := rfl
@[simp] theorem exec_dcCalGain (c : Fin 4) (s : State) : exec (.dcCalGain c) s = execDcCalGain c s := rfl
@[simp] theorem exec_dcCalAsymmetry (c : Fin 4) (s : State) : exec (.dcCalAsymmetry c) s = execDcCalAsymmetry c s := rfl
@[simp] theorem exec_dcCalDone (c : Fin 4) (va vb vc : BitVec 16) (temp : BitVec 8) (s : State) : exec (.dcCalDone c va vb vc temp) s = execDcCalDone c va vb vc temp s := rfl
@[simp] theorem exec_dcRingRel (c : Fin 4) (mask : BitVec 4) (s : State) : exec (.dcRingRel c mask) s = execDcRingRel c mask s := rfl
@[simp] theorem exec_dcClrCnt (c : Fin 4) (s : State) : exec (.dcClrCnt c) s = execDcClrCnt c s := rfl
@[simp] theorem exec_defectFreezeStart (c : Fin 4) (sample : BitVec 32) (asperity : Bool) (s : State) : exec (.defectFreezeStart c sample asperity) s = execDefectFreezeStart c sample asperity s := rfl
@[simp] theorem exec_defectFreezeEnd (c : Fin 4) (ended : BitVec 32) (s : State) : exec (.defectFreezeEnd c ended) s = execDefectFreezeEnd c ended s := rfl
@[simp] theorem exec_ringRecordStart (c : Fin 4) (frag : BitVec 40) (member groupK : BitVec 6) (pieces : List Piece) (s : State) : exec (.ringRecordStart c frag member groupK pieces) s = execRingRecordStart c frag member groupK pieces s := rfl
@[simp] theorem exec_ringRecordEnd (c : Fin 4) (samples : BitVec 32) (data : List Byte) (s : State) : exec (.ringRecordEnd c samples data) s = execRingRecordEnd c samples data s := rfl
@[simp] theorem exec_ringWriteOverrun (c : Fin 4) (s : State) : exec (.ringWriteOverrun c) s = execRingWriteOverrun c s := rfl
@[simp] theorem exec_syncMarkSearch (c : Fin 4) (plan : BitVec 32) (primary secondary : List (Nat × Nat)) (freq : BitVec 16) (phase : BitVec 6) (s : State) : exec (.syncMarkSearch c plan primary secondary freq phase) s = execSyncMarkSearch c plan primary secondary freq phase s := rfl
@[simp] theorem exec_fragmentIntakeStart (c : Fin 4) (fifoDrop : Bool) (s : State) : exec (.fragmentIntakeStart c fifoDrop) s = execFragmentIntakeStart c fifoDrop s := rfl
@[simp] theorem exec_fragmentDelivery (c : Fin 4) (d : Decoded) (s : State) : exec (.fragmentDelivery c d) s = execFragmentDelivery c d s := rfl
@[simp] theorem exec_gsrWrite (c : Fin 4) (bank : Fin 2) (s : State) : exec (.gsrWrite c bank) s = execGsrWrite c bank s := rfl
@[simp] theorem exec_detGsrNextWrite (c : Fin 4) (addr : BitVec 40) (s : State) : exec (.detGsrNextWrite c addr) s = execDetGsrNextWrite c addr s := rfl
@[simp] theorem exec_detClrStats (c : Fin 4) (s : State) : exec (.detClrStats c) s = execDetClrStats c s := rfl
@[simp] theorem exec_detBbTailWrite (c : Fin 4) (tail : BitVec 10) (s : State) : exec (.detBbTailWrite c tail) s = execDetBbTailWrite c tail s := rfl
@[simp] theorem exec_bbDecode (c : Fin 4) (d : Decoded) (plan : BitVec 32) (primary secondary : List (Nat × Nat)) (dmaError : Bool) (s : State) : exec (.bbDecode c d plan primary secondary dmaError) s = execBbDecode c d plan primary secondary dmaError s := rfl
@[simp] theorem exec_bbFold (c : Fin 4) (dmaError : Bool) (s : State) : exec (.bbFold c dmaError) s = execBbFold c dmaError s := rfl
@[simp] theorem exec_bbErase (c : Fin 4) (dmaError : Bool) (s : State) : exec (.bbErase c dmaError) s = execBbErase c dmaError s := rfl
@[simp] theorem exec_wpStagingDone (n : Fin 2) (kind : StageKind) (frag : BitVec 40) (member groupK : BitVec 6) (s : State) : exec (.wpStagingDone n kind frag member groupK) s = execWpStagingDone n kind frag member groupK s := rfl
@[simp] theorem exec_wpBankHandover (n : Fin 2) (frag : BitVec 40) (lead : BitVec 64) (s : State) : exec (.wpBankHandover n frag lead) s = execWpBankHandover n frag lead s := rfl
@[simp] theorem exec_shkTrip (s : State) : exec (.shkTrip) s = execShkTrip s := rfl
@[simp] theorem exec_shkHoldEnd (s : State) : exec (.shkHoldEnd) s = execShkHoldEnd s := rfl
@[simp] theorem exec_wpFirmwareInhibit (n : Fin 2) (s : State) : exec (.wpFirmwareInhibit n) s = execWpFirmwareInhibit n s := rfl
@[simp] theorem exec_wpClrCnt (n : Fin 2) (s : State) : exec (.wpClrCnt n) s = execWpClrCnt n s := rfl
@[simp] theorem exec_verifyResult (n : Fin 2) (count : BitVec 12) (primary secondary : Bool) (s : State) : exec (.verifyResult n count primary secondary) s = execVerifyResult n count primary secondary s := rfl
@[simp] theorem exec_slotRecordWrite (n : Fin 2) (s : State) : exec (.slotRecordWrite n) s = execSlotRecordWrite n s := rfl
@[simp] theorem exec_wpCalStart (n : Fin 2) (zone : BitVec 20) (s : State) : exec (.wpCalStart n zone) s = execWpCalStart n zone s := rfl
@[simp] theorem exec_wpCalTrialEnd (n : Fin 2) (metric : BitVec 16) (captured : BitVec 7) (temp : BitVec 8) (s : State) : exec (.wpCalTrialEnd n metric captured temp) s = execWpCalTrialEnd n metric captured temp s := rfl
@[simp] theorem exec_samEvent (v : Fin 4) (found : List SamHit) (index : BitVec 10) (violation : Bool) (s : State) : exec (.samEvent v found index violation) s = execSamEvent v found index violation s := rfl
@[simp] theorem exec_missedWedge (v : Fin 4) (s : State) : exec (.missedWedge v) s = execMissedWedge v s := rfl
@[simp] theorem exec_positionRecordLatch (v : Fin 4) (gray : BitVec 24) (erased : List Nat) (s1 s2 s3 s4 : List Nat) (s : State) : exec (.positionRecordLatch v gray erased s1 s2 s3 s4) s = execPositionRecordLatch v gray erased s1 s2 s3 s4 s := rfl
@[simp] theorem exec_svdForceSearch (v : Fin 4) (s : State) : exec (.svdForceSearch v) s = execSvdForceSearch v s := rfl
@[simp] theorem exec_svdClrCnt (v : Fin 4) (s : State) : exec (.svdClrCnt v) s = execSvdClrCnt v s := rfl
@[simp] theorem exec_svdSamLRead (v : Fin 4) (s : State) : exec (.svdSamLRead v) s = execSvdSamLRead v s := rfl
@[simp] theorem exec_cleFrameStart (ends : Vector Nat 3) (bad : List (Fin 3)) (s : State) : exec (.cleFrameStart ends bad) s = execCleFrameStart ends bad s := rfl
@[simp] theorem exec_cleFrameStartLimit (ends : Vector Nat 3) (bad : List (Fin 3)) (s : State) : exec (.cleFrameStartLimit ends bad) s = execCleFrameStartLimit ends bad s := rfl
@[simp] theorem exec_cleOpLoad (d : Fin 8) (space : Fin 4) (index : BitVec 8) (cond : Fin 3) (flag : BitVec 6) (s : State) : exec (.cleOpLoad d space index cond flag) s = execCleOpLoad d space index cond flag s := rfl
@[simp] theorem exec_cleOpStore (d : Fin 8) (port : Bool) (index : BitVec 8) (s : State) : exec (.cleOpStore d port index) s = execCleOpStore d port index s := rfl
@[simp] theorem exec_cleOpAdd (d : Fin 8) (space : Fin 4) (index : BitVec 8) (s : State) : exec (.cleOpAdd d space index) s = execCleOpAdd d space index s := rfl
@[simp] theorem exec_cleOpSub (d : Fin 8) (space : Fin 4) (index : BitVec 8) (s : State) : exec (.cleOpSub d space index) s = execCleOpSub d space index s := rfl
@[simp] theorem exec_cleOpMac (d : Fin 8) (space : Fin 3) (index cidx : BitVec 8) (s : State) : exec (.cleOpMac d space index cidx) s = execCleOpMac d space index cidx s := rfl
@[simp] theorem exec_cleOpShift (d : Fin 8) (aux : BitVec 6) (s : State) : exec (.cleOpShift d aux) s = execCleOpShift d aux s := rfl
@[simp] theorem exec_cleOpSat (d : Fin 8) (width : Fin 41) (s : State) : exec (.cleOpSat d width) s = execCleOpSat d width s := rfl
@[simp] theorem exec_cleOpLimit (d : Fin 8) (cidx : BitVec 8) (s : State) : exec (.cleOpLimit d cidx) s = execCleOpLimit d cidx s := rfl
@[simp] theorem exec_cleActCmdWrite (a : Fin 2) (w : BitVec 40) (s : State) : exec (.cleActCmdWrite a w) s = execCleActCmdWrite a w s := rfl
@[simp] theorem exec_cleSpmCmdWrite (w : BitVec 40) (s : State) : exec (.cleSpmCmdWrite w) s = execCleSpmCmdWrite w s := rfl
@[simp] theorem exec_cleBankCheck (s : State) : exec (.cleBankCheck) s = execCleBankCheck s := rfl
@[simp] theorem exec_cleBankCheckDone (s : State) : exec (.cleBankCheckDone) s = execCleBankCheckDone s := rfl
@[simp] theorem exec_cleBankSwitchReq (s : State) : exec (.cleBankSwitchReq) s = execCleBankSwitchReq s := rfl
@[simp] theorem exec_bankSwitch (s : State) : exec (.bankSwitch) s = execBankSwitch s := rfl
@[simp] theorem exec_cleClrSticky (s : State) : exec (.cleClrSticky) s = execCleClrSticky s := rfl
@[simp] theorem exec_adlNegotiate (n : Fin 2) (peer : BitVec 16) (s : State) : exec (.adlNegotiate n peer) s = execAdlNegotiate n peer s := rfl
@[simp] theorem exec_adlHelloTimeout (n : Fin 2) (s : State) : exec (.adlHelloTimeout n) s = execAdlHelloTimeout n s := rfl
@[simp] theorem exec_adlKeepalive (n : Fin 2) (s : State) : exec (.adlKeepalive n) s = execAdlKeepalive n s := rfl
@[simp] theorem exec_adlReportMiss (n : Fin 2) (cmd : Bool) (s : State) : exec (.adlReportMiss n cmd) s = execAdlReportMiss n cmd s := rfl
@[simp] theorem exec_adlRxReport (n : Fin 2) (seq : BitVec 4) (ivcm : BitVec 16) (vvcm : BitVec 12) (st : BitVec 2) (fault : BitVec 6) (s : State) : exec (.adlRxReport n seq ivcm vvcm st fault) s = execAdlRxReport n seq ivcm vvcm st fault s := rfl
@[simp] theorem exec_adlRxFault (n : Fin 2) (code : BitVec 6) (head : BitVec 4) (s : State) : exec (.adlRxFault n code head) s = execAdlRxFault n code head s := rfl
@[simp] theorem exec_adlRxHello (n : Fin 2) (peer : BitVec 16) (s : State) : exec (.adlRxHello n peer) s = execAdlRxHello n peer s := rfl
@[simp] theorem exec_adlRxConfigData (n : Fin 2) (addr : BitVec 8) (value : BitVec 16) (s : State) : exec (.adlRxConfigData n addr value) s = execAdlRxConfigData n addr value s := rfl
@[simp] theorem exec_adlRxNak (n : Fin 2) (refused : BitVec 4) (s : State) : exec (.adlRxNak n refused) s = execAdlRxNak n refused s := rfl
@[simp] theorem exec_adlCmdConfig (n : Fin 2) (addr : BitVec 8) (data : BitVec 16) (s : State) : exec (.adlCmdConfig n addr data) s = execAdlCmdConfig n addr data s := rfl
@[simp] theorem exec_adlCmdArm (n : Fin 2) (s : State) : exec (.adlCmdArm n) s = execAdlCmdArm n s := rfl
@[simp] theorem exec_adlCmdRetract (n : Fin 2) (reason : BitVec 8) (s : State) : exec (.adlCmdRetract n reason) s = execAdlCmdRetract n reason s := rfl
@[simp] theorem exec_adlCmdStatusRq (n : Fin 2) (s : State) : exec (.adlCmdStatusRq n) s = execAdlCmdStatusRq n s := rfl
@[simp] theorem exec_adlCmdConfigRd (n : Fin 2) (addr : BitVec 8) (s : State) : exec (.adlCmdConfigRd n addr) s = execAdlCmdConfigRd n addr s := rfl
@[simp] theorem exec_adlRspTimeout (n : Fin 2) (s : State) : exec (.adlRspTimeout n) s = execAdlRspTimeout n s := rfl
@[simp] theorem exec_adlPark (n : Fin 2) (s : State) : exec (.adlPark n) s = execAdlPark n s := rfl
@[simp] theorem exec_adlUnpark (n : Fin 2) (s : State) : exec (.adlUnpark n) s = execAdlUnpark n s := rfl
@[simp] theorem exec_adlCtrlNegotiate (n : Fin 2) (s : State) : exec (.adlCtrlNegotiate n) s = execAdlCtrlNegotiate n s := rfl
@[simp] theorem exec_adlClrErr (n : Fin 2) (s : State) : exec (.adlClrErr n) s = execAdlClrErr n s := rfl
@[simp] theorem exec_spmRun (s : State) : exec (.spmRun) s = execSpmRun s := rfl
@[simp] theorem exec_spmStop (s : State) : exec (.spmStop) s = execSpmStop s := rfl
@[simp] theorem exec_spmCoast (s : State) : exec (.spmCoast) s = execSpmCoast s := rfl
@[simp] theorem exec_spmSampleSet (a b c : BitVec 12) (timely : Bool) (s : State) : exec (.spmSampleSet a b c timely) s = execSpmSampleSet a b c timely s := rfl
@[simp] theorem exec_spmOutputApply (s : State) : exec (.spmOutputApply) s = execSpmOutputApply s := rfl
@[simp] theorem exec_bemfZeroCrossing (code : Fin 6) (t : BitVec 64) (s : State) : exec (.bemfZeroCrossing code t) s = execBemfZeroCrossing code t s := rfl
@[simp] theorem exec_spmStopWaitExpiry (s : State) : exec (.spmStopWaitExpiry) s = execSpmStopWaitExpiry s := rfl
@[simp] theorem exec_spmIps (m : Vector (BitVec 12) 6) (s : State) : exec (.spmIps m) s = execSpmIps m s := rfl
@[simp] theorem exec_spmAngleOffsetWrite (v : BitVec 16) (s : State) : exec (.spmAngleOffsetWrite v) s = execSpmAngleOffsetWrite v s := rfl
@[simp] theorem exec_spmGradeReqWrite (v : BitVec 2) (s : State) : exec (.spmGradeReqWrite v) s = execSpmGradeReqWrite v s := rfl
@[simp] theorem exec_gradeChangeStart (s : State) : exec (.gradeChangeStart) s = execGradeChangeStart s := rfl
@[simp] theorem exec_gradeChangeDone (s : State) : exec (.gradeChangeDone) s = execGradeChangeDone s := rfl
@[simp] theorem exec_gradeChangeOvertime (s : State) : exec (.gradeChangeOvertime) s = execGradeChangeOvertime s := rfl
@[simp] theorem exec_demandSample (s : State) : exec (.demandSample) s = execDemandSample s := rfl
@[simp] theorem exec_spmCalStart (s : State) : exec (.spmCalStart) s = execSpmCalStart s := rfl
@[simp] theorem exec_spmCalDone (sa sb sc : Int) (pa pb pc : Nat) (temp : BitVec 8) (s : State) : exec (.spmCalDone sa sb sc pa pb pc temp) s = execSpmCalDone sa sb sc pa pb pc temp s := rfl
@[simp] theorem exec_spmGateFault (s : State) : exec (.spmGateFault) s = execSpmGateFault s := rfl
@[simp] theorem exec_spmClrCnt (s : State) : exec (.spmClrCnt) s = execSpmClrCnt s := rfl
@[simp] theorem exec_v12OvCrossing (mv : BitVec 16) (s : State) : exec (.v12OvCrossing mv) s = execV12OvCrossing mv s := rfl
@[simp] theorem exec_fmsRun (n : Fin 2) (start : BitVec 12) (s : State) : exec (.fmsRun n start) s = execFmsRun n start s := rfl
@[simp] theorem exec_fmsHalt (n : Fin 2) (s : State) : exec (.fmsHalt n) s = execFmsHalt n s := rfl
@[simp] theorem exec_fmsAttn (n : Fin 2) (s : State) : exec (.fmsAttn n) s = execFmsAttn n s := rfl
@[simp] theorem exec_controlStoreWrite (n : Fin 2) (w : BitVec 12) (q : Fin 4) (v : BitVec 32) (s : State) : exec (.controlStoreWrite n w q v) s = execControlStoreWrite n w q v s := rfl
@[simp] theorem exec_controlStoreRead (n : Fin 2) (w : BitVec 12) (q : Fin 4) (s : State) : exec (.controlStoreRead n w q) s = execControlStoreRead n w q s := rfl
@[simp] theorem exec_microwordFetch (n : Fin 2) (s : State) : exec (.microwordFetch n) s = execMicrowordFetch n s := rfl
@[simp] theorem exec_microwordWaitTimeout (n : Fin 2) (s : State) : exec (.microwordWaitTimeout n) s = execMicrowordWaitTimeout n s := rfl
@[simp] theorem exec_mwNop (n : Fin 2) (s : State) : exec (.mwNop n) s = execMwNop n s := rfl
@[simp] theorem exec_mwWr (n : Fin 2) (s : State) : exec (.mwWr n) s = execMwWr n s := rfl
@[simp] theorem exec_mwRd (n : Fin 2) (s : State) : exec (.mwRd n) s = execMwRd n s := rfl
@[simp] theorem exec_mwSegOpen (n : Fin 2) (s : State) : exec (.mwSegOpen n) s = execMwSegOpen n s := rfl
@[simp] theorem exec_mwSegStep (n : Fin 2) (s : State) : exec (.mwSegStep n) s = execMwSegStep n s := rfl
@[simp] theorem exec_mwSegAbort (n : Fin 2) (s : State) : exec (.mwSegAbort n) s = execMwSegAbort n s := rfl
@[simp] theorem exec_mwCopy (n : Fin 2) (s : State) : exec (.mwCopy n) s = execMwCopy n s := rfl
@[simp] theorem exec_mwPost (n : Fin 2) (s : State) : exec (.mwPost n) s = execMwPost n s := rfl
@[simp] theorem exec_mwFlag (n : Fin 2) (s : State) : exec (.mwFlag n) s = execMwFlag n s := rfl
@[simp] theorem exec_mwLdlc (n : Fin 2) (s : State) : exec (.mwLdlc n) s = execMwLdlc n s := rfl
@[simp] theorem exec_mwEvt (n : Fin 2) (s : State) : exec (.mwEvt n) s = execMwEvt n s := rfl
@[simp] theorem exec_mwRewrite (n : Fin 2) (s : State) : exec (.mwRewrite n) s = execMwRewrite n s := rfl
@[simp] theorem exec_fmsIrqTake (n : Fin 2) (s : State) : exec (.fmsIrqTake n) s = execFmsIrqTake n s := rfl
@[simp] theorem exec_fmsCopyDone (n : Fin 2) (s : State) : exec (.fmsCopyDone n) s = execFmsCopyDone n s := rfl
@[simp] theorem exec_trackProgramEnd (n : Fin 2) (done : BitVec 12) (s : State) : exec (.trackProgramEnd n done) s = execTrackProgramEnd n done s := rfl
@[simp] theorem exec_memInitGo (w : BitVec 40) (s : State) : exec (.memInitGo w) s = execMemInitGo w s := rfl
@[simp] theorem exec_memInitDone (s : State) : exec (.memInitDone) s = execMemInitDone s := rfl
@[simp] theorem exec_memClrCnt (s : State) : exec (.memClrCnt) s = execMemClrCnt s := rfl
@[simp] theorem exec_protectedRowRead (req : Fin 5) (a : BitVec 40) (upset : BitVec 576) (s : State) : exec (.protectedRowRead req a upset) s = execProtectedRowRead req a upset s := rfl
@[simp] theorem exec_partialWriteRmw (req : Fin 5) (poison : Bool) (a : BitVec 40) (data : List Byte) (s : State) : exec (.partialWriteRmw req poison a data) s = execPartialWriteRmw req poison a data s := rfl
@[simp] theorem exec_scrubGroup (k : Fin 3) (upset : BitVec 584) (s : State) : exec (.scrubGroup k upset) s = execScrubGroup k upset s := rfl
@[simp] theorem exec_retentionScrubLap (pantry larder : BitVec 20) (upsets : List (BitVec 40 × BitVec 73)) (s : State) : exec (.retentionScrubLap pantry larder upsets) s = execRetentionScrubLap pantry larder upsets s := rfl
@[simp] theorem exec_drcPhyEnable (on : Bool) (s : State) : exec (.drcPhyEnable on) s = execDrcPhyEnable on s := rfl
@[simp] theorem exec_drcBringup (s : State) : exec (.drcBringup) s = execDrcBringup s := rfl
@[simp] theorem exec_drcRetainedBringup (s : State) : exec (.drcRetainedBringup) s = execDrcRetainedBringup s := rfl
@[simp] theorem exec_drcBringupEnd (lanes : BitVec 4) (s : State) : exec (.drcBringupEnd lanes) s = execDrcBringupEnd lanes s := rfl
@[simp] theorem exec_drcDevLost (s : State) : exec (.drcDevLost) s = execDrcDevLost s := rfl
@[simp] theorem exec_drcPllPhyLoss (phy : Bool) (s : State) : exec (.drcPllPhyLoss phy) s = execDrcPllPhyLoss phy s := rfl
@[simp] theorem exec_drcInitGo (s : State) : exec (.drcInitGo) s = execDrcInitGo s := rfl
@[simp] theorem exec_drcInitDone (s : State) : exec (.drcInitDone) s = execDrcInitDone s := rfl
@[simp] theorem exec_drcSrEnter (s : State) : exec (.drcSrEnter) s = execDrcSrEnter s := rfl
@[simp] theorem exec_drcSrEntryDone (s : State) : exec (.drcSrEntryDone) s = execDrcSrEntryDone s := rfl
@[simp] theorem exec_drcSrExit (s : State) : exec (.drcSrExit) s = execDrcSrExit s := rfl
@[simp] theorem exec_drcMrwRead (w : BitVec 40) (value : BitVec 8) (s : State) : exec (.drcMrwRead w value) s = execDrcMrwRead w value s := rfl
@[simp] theorem exec_drcMrwWrite (w : BitVec 40) (s : State) : exec (.drcMrwWrite w) s = execDrcMrwWrite w s := rfl
@[simp] theorem exec_drcClrCnt (s : State) : exec (.drcClrCnt) s = execDrcClrCnt s := rfl
@[simp] theorem exec_aluAdd (c : Fin 5) (rd rs1 rs2 : Fin 32) (z : BitVec 11) (s : State) : exec (.aluAdd c rd rs1 rs2 z) s = execAluAdd c rd rs1 rs2 z s := rfl
@[simp] theorem exec_aluSub (c : Fin 5) (rd rs1 rs2 : Fin 32) (z : BitVec 11) (s : State) : exec (.aluSub c rd rs1 rs2 z) s = execAluSub c rd rs1 rs2 z s := rfl
@[simp] theorem exec_aluAnd (c : Fin 5) (rd rs1 rs2 : Fin 32) (z : BitVec 11) (s : State) : exec (.aluAnd c rd rs1 rs2 z) s = execAluAnd c rd rs1 rs2 z s := rfl
@[simp] theorem exec_aluOr (c : Fin 5) (rd rs1 rs2 : Fin 32) (z : BitVec 11) (s : State) : exec (.aluOr c rd rs1 rs2 z) s = execAluOr c rd rs1 rs2 z s := rfl
@[simp] theorem exec_aluXor (c : Fin 5) (rd rs1 rs2 : Fin 32) (z : BitVec 11) (s : State) : exec (.aluXor c rd rs1 rs2 z) s = execAluXor c rd rs1 rs2 z s := rfl
@[simp] theorem exec_aluSll (c : Fin 5) (rd rs1 rs2 : Fin 32) (z : BitVec 11) (s : State) : exec (.aluSll c rd rs1 rs2 z) s = execAluSll c rd rs1 rs2 z s := rfl
@[simp] theorem exec_aluSrl (c : Fin 5) (rd rs1 rs2 : Fin 32) (z : BitVec 11) (s : State) : exec (.aluSrl c rd rs1 rs2 z) s = execAluSrl c rd rs1 rs2 z s := rfl
@[simp] theorem exec_aluSra (c : Fin 5) (rd rs1 rs2 : Fin 32) (z : BitVec 11) (s : State) : exec (.aluSra c rd rs1 rs2 z) s = execAluSra c rd rs1 rs2 z s := rfl
@[simp] theorem exec_aluSlt (c : Fin 5) (rd rs1 rs2 : Fin 32) (z : BitVec 11) (s : State) : exec (.aluSlt c rd rs1 rs2 z) s = execAluSlt c rd rs1 rs2 z s := rfl
@[simp] theorem exec_aluSltu (c : Fin 5) (rd rs1 rs2 : Fin 32) (z : BitVec 11) (s : State) : exec (.aluSltu c rd rs1 rs2 z) s = execAluSltu c rd rs1 rs2 z s := rfl
@[simp] theorem exec_aluMul (c : Fin 5) (rd rs1 rs2 : Fin 32) (z : BitVec 11) (s : State) : exec (.aluMul c rd rs1 rs2 z) s = execAluMul c rd rs1 rs2 z s := rfl
@[simp] theorem exec_aluMulh (c : Fin 5) (rd rs1 rs2 : Fin 32) (z : BitVec 11) (s : State) : exec (.aluMulh c rd rs1 rs2 z) s = execAluMulh c rd rs1 rs2 z s := rfl
@[simp] theorem exec_aluMulhu (c : Fin 5) (rd rs1 rs2 : Fin 32) (z : BitVec 11) (s : State) : exec (.aluMulhu c rd rs1 rs2 z) s = execAluMulhu c rd rs1 rs2 z s := rfl
@[simp] theorem exec_aluDiv (c : Fin 5) (rd rs1 rs2 : Fin 32) (z : BitVec 11) (s : State) : exec (.aluDiv c rd rs1 rs2 z) s = execAluDiv c rd rs1 rs2 z s := rfl
@[simp] theorem exec_aluDivu (c : Fin 5) (rd rs1 rs2 : Fin 32) (z : BitVec 11) (s : State) : exec (.aluDivu c rd rs1 rs2 z) s = execAluDivu c rd rs1 rs2 z s := rfl
@[simp] theorem exec_aluRem (c : Fin 5) (rd rs1 rs2 : Fin 32) (z : BitVec 11) (s : State) : exec (.aluRem c rd rs1 rs2 z) s = execAluRem c rd rs1 rs2 z s := rfl
@[simp] theorem exec_aluRemu (c : Fin 5) (rd rs1 rs2 : Fin 32) (z : BitVec 11) (s : State) : exec (.aluRemu c rd rs1 rs2 z) s = execAluRemu c rd rs1 rs2 z s := rfl
@[simp] theorem exec_addi (c : Fin 5) (rd rs1 : Fin 32) (imm : BitVec 24) (s : State) : exec (.addi c rd rs1 imm) s = execAddi c rd rs1 imm s := rfl
@[simp] theorem exec_andi (c : Fin 5) (rd rs1 : Fin 32) (imm : BitVec 24) (s : State) : exec (.andi c rd rs1 imm) s = execAndi c rd rs1 imm s := rfl
@[simp] theorem exec_ori (c : Fin 5) (rd rs1 : Fin 32) (imm : BitVec 24) (s : State) : exec (.ori c rd rs1 imm) s = execOri c rd rs1 imm s := rfl
@[simp] theorem exec_xori (c : Fin 5) (rd rs1 : Fin 32) (imm : BitVec 24) (s : State) : exec (.xori c rd rs1 imm) s = execXori c rd rs1 imm s := rfl
@[simp] theorem exec_slti (c : Fin 5) (rd rs1 : Fin 32) (imm : BitVec 24) (s : State) : exec (.slti c rd rs1 imm) s = execSlti c rd rs1 imm s := rfl
@[simp] theorem exec_sltiu (c : Fin 5) (rd rs1 : Fin 32) (imm : BitVec 24) (s : State) : exec (.sltiu c rd rs1 imm) s = execSltiu c rd rs1 imm s := rfl
@[simp] theorem exec_slli (c : Fin 5) (rd rs1 : Fin 32) (imm : BitVec 24) (s : State) : exec (.slli c rd rs1 imm) s = execSlli c rd rs1 imm s := rfl
@[simp] theorem exec_srli (c : Fin 5) (rd rs1 : Fin 32) (imm : BitVec 24) (s : State) : exec (.srli c rd rs1 imm) s = execSrli c rd rs1 imm s := rfl
@[simp] theorem exec_srai (c : Fin 5) (rd rs1 : Fin 32) (imm : BitVec 24) (s : State) : exec (.srai c rd rs1 imm) s = execSrai c rd rs1 imm s := rfl
@[simp] theorem exec_lui (c : Fin 5) (rd rs1 : Fin 32) (imm : BitVec 24) (s : State) : exec (.lui c rd rs1 imm) s = execLui c rd rs1 imm s := rfl
@[simp] theorem exec_addpc (c : Fin 5) (rd : Fin 32) (imm : BitVec 29) (s : State) : exec (.addpc c rd imm) s = execAddpc c rd imm s := rfl
@[simp] theorem exec_lb (c : Fin 5) (rd rs1 : Fin 32) (imm : BitVec 24) (s : State) : exec (.lb c rd rs1 imm) s = execLb c rd rs1 imm s := rfl
@[simp] theorem exec_lbu (c : Fin 5) (rd rs1 : Fin 32) (imm : BitVec 24) (s : State) : exec (.lbu c rd rs1 imm) s = execLbu c rd rs1 imm s := rfl
@[simp] theorem exec_lh (c : Fin 5) (rd rs1 : Fin 32) (imm : BitVec 24) (s : State) : exec (.lh c rd rs1 imm) s = execLh c rd rs1 imm s := rfl
@[simp] theorem exec_lhu (c : Fin 5) (rd rs1 : Fin 32) (imm : BitVec 24) (s : State) : exec (.lhu c rd rs1 imm) s = execLhu c rd rs1 imm s := rfl
@[simp] theorem exec_lw (c : Fin 5) (rd rs1 : Fin 32) (imm : BitVec 24) (s : State) : exec (.lw c rd rs1 imm) s = execLw c rd rs1 imm s := rfl
@[simp] theorem exec_lwu (c : Fin 5) (rd rs1 : Fin 32) (imm : BitVec 24) (s : State) : exec (.lwu c rd rs1 imm) s = execLwu c rd rs1 imm s := rfl
@[simp] theorem exec_lx (c : Fin 5) (rd rs1 : Fin 32) (imm : BitVec 24) (s : State) : exec (.lx c rd rs1 imm) s = execLx c rd rs1 imm s := rfl
@[simp] theorem exec_sb (c : Fin 5) (rs2 rs1 : Fin 32) (imm : BitVec 24) (s : State) : exec (.sb c rs2 rs1 imm) s = execSb c rs2 rs1 imm s := rfl
@[simp] theorem exec_sh (c : Fin 5) (rs2 rs1 : Fin 32) (imm : BitVec 24) (s : State) : exec (.sh c rs2 rs1 imm) s = execSh c rs2 rs1 imm s := rfl
@[simp] theorem exec_sw (c : Fin 5) (rs2 rs1 : Fin 32) (imm : BitVec 24) (s : State) : exec (.sw c rs2 rs1 imm) s = execSw c rs2 rs1 imm s := rfl
@[simp] theorem exec_sx (c : Fin 5) (rs2 rs1 : Fin 32) (imm : BitVec 24) (s : State) : exec (.sx c rs2 rs1 imm) s = execSx c rs2 rs1 imm s := rfl
@[simp] theorem exec_lr (c : Fin 5) (rd rs1 : Fin 32) (imm : BitVec 24) (s : State) : exec (.lr c rd rs1 imm) s = execLr c rd rs1 imm s := rfl
@[simp] theorem exec_sc (c : Fin 5) (rd rs1 rs2 : Fin 32) (z : BitVec 19) (s : State) : exec (.sc c rd rs1 rs2 z) s = execSc c rd rs1 rs2 z s := rfl
@[simp] theorem exec_beq (c : Fin 5) (rs1 rs2 : Fin 32) (imm : BitVec 24) (s : State) : exec (.beq c rs1 rs2 imm) s = execBeq c rs1 rs2 imm s := rfl
@[simp] theorem exec_bne (c : Fin 5) (rs1 rs2 : Fin 32) (imm : BitVec 24) (s : State) : exec (.bne c rs1 rs2 imm) s = execBne c rs1 rs2 imm s := rfl
@[simp] theorem exec_blt (c : Fin 5) (rs1 rs2 : Fin 32) (imm : BitVec 24) (s : State) : exec (.blt c rs1 rs2 imm) s = execBlt c rs1 rs2 imm s := rfl
@[simp] theorem exec_bge (c : Fin 5) (rs1 rs2 : Fin 32) (imm : BitVec 24) (s : State) : exec (.bge c rs1 rs2 imm) s = execBge c rs1 rs2 imm s := rfl
@[simp] theorem exec_bltu (c : Fin 5) (rs1 rs2 : Fin 32) (imm : BitVec 24) (s : State) : exec (.bltu c rs1 rs2 imm) s = execBltu c rs1 rs2 imm s := rfl
@[simp] theorem exec_bgeu (c : Fin 5) (rs1 rs2 : Fin 32) (imm : BitVec 24) (s : State) : exec (.bgeu c rs1 rs2 imm) s = execBgeu c rs1 rs2 imm s := rfl
@[simp] theorem exec_jal (c : Fin 5) (rd : Fin 32) (imm : BitVec 29) (s : State) : exec (.jal c rd imm) s = execJal c rd imm s := rfl
@[simp] theorem exec_jalr (c : Fin 5) (rd rs1 : Fin 32) (imm : BitVec 24) (s : State) : exec (.jalr c rd rs1 imm) s = execJalr c rd rs1 imm s := rfl
@[simp] theorem exec_syscall (c : Fin 5) (rd rs1 rs2 : Fin 32) (z : BitVec 11) (s : State) : exec (.syscall c rd rs1 rs2 z) s = execSyscall c rd rs1 rs2 z s := rfl
@[simp] theorem exec_brk (c : Fin 5) (rd rs1 rs2 : Fin 32) (z : BitVec 11) (s : State) : exec (.brk c rd rs1 rs2 z) s = execBrk c rd rs1 rs2 z s := rfl
@[simp] theorem exec_rfe (c : Fin 5) (rd rs1 rs2 : Fin 32) (z : BitVec 11) (s : State) : exec (.rfe c rd rs1 rs2 z) s = execRfe c rd rs1 rs2 z s := rfl
@[simp] theorem exec_wfi (c : Fin 5) (rd rs1 rs2 : Fin 32) (z : BitVec 11) (s : State) : exec (.wfi c rd rs1 rs2 z) s = execWfi c rd rs1 rs2 z s := rfl
@[simp] theorem exec_fence (c : Fin 5) (rd rs1 rs2 : Fin 32) (z : BitVec 11) (s : State) : exec (.fence c rd rs1 rs2 z) s = execFence c rd rs1 rs2 z s := rfl
@[simp] theorem exec_ifence (c : Fin 5) (rd rs1 rs2 : Fin 32) (z : BitVec 11) (s : State) : exec (.ifence c rd rs1 rs2 z) s = execIfence c rd rs1 rs2 z s := rfl
@[simp] theorem exec_tlbinv (c : Fin 5) (rd rs1 rs2 : Fin 32) (z : BitVec 11) (s : State) : exec (.tlbinv c rd rs1 rs2 z) s = execTlbinv c rd rs1 rs2 z s := rfl
@[simp] theorem exec_tlbinva (c : Fin 5) (rd rs1 rs2 : Fin 32) (z : BitVec 11) (s : State) : exec (.tlbinva c rd rs1 rs2 z) s = execTlbinva c rd rs1 rs2 z s := rfl
@[simp] theorem exec_mfc (c : Fin 5) (rd rs1 : Fin 32) (imm : BitVec 24) (s : State) : exec (.mfc c rd rs1 imm) s = execMfc c rd rs1 imm s := rfl
@[simp] theorem exec_mtc (c : Fin 5) (rd rs1 : Fin 32) (imm : BitVec 24) (s : State) : exec (.mtc c rd rs1 imm) s = execMtc c rd rs1 imm s := rfl
@[simp] theorem exec_l1dInv (c : Fin 5) (rs1 : Fin 32) (imm : BitVec 24) (s : State) : exec (.l1dInv c rs1 imm) s = execL1dInv c rs1 imm s := rfl
@[simp] theorem exec_l1iInv (c : Fin 5) (rs1 : Fin 32) (imm : BitVec 24) (s : State) : exec (.l1iInv c rs1 imm) s = execL1iInv c rs1 imm s := rfl
@[simp] theorem exec_l2Clean (c : Fin 5) (rs1 : Fin 32) (imm : BitVec 24) (s : State) : exec (.l2Clean c rs1 imm) s = execL2Clean c rs1 imm s := rfl
@[simp] theorem exec_l2Inv (c : Fin 5) (rs1 : Fin 32) (imm : BitVec 24) (s : State) : exec (.l2Inv c rs1 imm) s = execL2Inv c rs1 imm s := rfl
@[simp] theorem exec_l2Flush (c : Fin 5) (rs1 : Fin 32) (imm : BitVec 24) (s : State) : exec (.l2Flush c rs1 imm) s = execL2Flush c rs1 imm s := rfl
@[simp] theorem exec_l1iInva (c : Fin 5) (rs1 : Fin 32) (imm : BitVec 24) (s : State) : exec (.l1iInva c rs1 imm) s = execL1iInva c rs1 imm s := rfl
@[simp] theorem exec_l1dInva (c : Fin 5) (rs1 : Fin 32) (imm : BitVec 24) (s : State) : exec (.l1dInva c rs1 imm) s = execL1dInva c rs1 imm s := rfl
@[simp] theorem exec_l2FlushSw (c : Fin 5) (rs1 : Fin 32) (imm : BitVec 24) (s : State) : exec (.l2FlushSw c rs1 imm) s = execL2FlushSw c rs1 imm s := rfl
@[simp] theorem exec_vcFlush (c : Fin 5) (rs1 : Fin 32) (imm : BitVec 24) (s : State) : exec (.vcFlush c rs1 imm) s = execVcFlush c rs1 imm s := rfl
@[simp] theorem exec_coreInterruptTake (c : Fin 5) (s : State) : exec (.coreInterruptTake c) s = execCoreInterruptTake c s := rfl
@[simp] theorem exec_l2RefillDone (k : Fin 8) (s : State) : exec (.l2RefillDone k) s = execL2RefillDone k s := rfl
@[simp] theorem exec_l2BlockingWrite (v : Bool) (s : State) : exec (.l2BlockingWrite v) s = execL2BlockingWrite v s := rfl
@[simp] theorem exec_coreRun (n : Fin 4) (s : State) : exec (.coreRun n) s = execCoreRun n s := rfl
@[simp] theorem exec_coreReset (n : Fin 4) (s : State) : exec (.coreReset n) s = execCoreReset n s := rfl
@[simp] theorem exec_ypRun (start : BitVec 27) (s : State) : exec (.ypRun start) s = execYpRun start s := rfl
@[simp] theorem exec_ypReset (s : State) : exec (.ypReset) s = execYpReset s := rfl
@[simp] theorem exec_eggKick (c : Fin 5) (v : BitVec 8) (s : State) : exec (.eggKick c v) s = execEggKick c v s := rfl
@[simp] theorem exec_eggTimerExpiry (c : Fin 5) (s : State) : exec (.eggTimerExpiry c) s = execEggTimerExpiry c s := rfl
@[simp] theorem exec_cpxClrCnt (s : State) : exec (.cpxClrCnt) s = execCpxClrCnt s := rfl
@[simp] theorem exec_intcLineEvent (k : Fin 256) (attention : Bool) (s : State) : exec (.intcLineEvent k attention) s = execIntcLineEvent k attention s := rfl
@[simp] theorem exec_intcSwiGo (src : BitVec 8) (s : State) : exec (.intcSwiGo src) s = execIntcSwiGo src s := rfl
@[simp] theorem exec_intcTargetWrite (k : Fin 256) (t : BitVec 3) (s : State) : exec (.intcTargetWrite k t) s = execIntcTargetWrite k t s := rfl
@[simp] theorem exec_intcPendWrite (t : Fin 5) (r : Fin 8) (w : BitVec 32) (s : State) : exec (.intcPendWrite t r w) s = execIntcPendWrite t r w s := rfl
@[simp] theorem exec_dmaTailWrite (k : Fin 32) (tail : BitVec 12) (s : State) : exec (.dmaTailWrite k tail) s = execDmaTailWrite k tail s := rfl
@[simp] theorem exec_dmaDescriptorFetch (k : Fin 32) (s : State) : exec (.dmaDescriptorFetch k) s = execDmaDescriptorFetch k s := rfl
@[simp] theorem exec_dmaBurst (cls : Fin 4) (s : State) : exec (.dmaBurst cls) s = execDmaBurst cls s := rfl
@[simp] theorem exec_dmaDescriptorComplete (k : Fin 32) (s : State) : exec (.dmaDescriptorComplete k) s = execDmaDescriptorComplete k s := rfl
@[simp] theorem exec_dmaStreamOut (k : Fin 8) (n : Fin 2) (frag : BitVec 40) (s : State) : exec (.dmaStreamOut k n frag) s = execDmaStreamOut k n frag s := rfl
@[simp] theorem exec_dmaStreamIn (k : Fin 8) (c : Fin 4) (s : State) : exec (.dmaStreamIn k c) s = execDmaStreamIn k c s := rfl
@[simp] theorem exec_dmaInternalTransfer (k : Fin 8) (unit : Fin 3) (s : State) : exec (.dmaInternalTransfer k unit) s = execDmaInternalTransfer k unit s := rfl
@[simp] theorem exec_dmaAccessTimeout (k : Fin 32) (source : Fin 3) (s : State) : exec (.dmaAccessTimeout k source) s = execDmaAccessTimeout k source s := rfl
@[simp] theorem exec_dmaResume (k : Fin 32) (s : State) : exec (.dmaResume k) s = execDmaResume k s := rfl
@[simp] theorem exec_dmaSkip (k : Fin 32) (s : State) : exec (.dmaSkip k) s = execDmaSkip k s := rfl
@[simp] theorem exec_dmaChannelReset (k : Fin 32) (s : State) : exec (.dmaChannelReset k) s = execDmaChannelReset k s := rfl
@[simp] theorem exec_dmaPause (k : Fin 32) (v : Bool) (s : State) : exec (.dmaPause k v) s = execDmaPause k v s := rfl
@[simp] theorem exec_dmaChannelEnable (k : Fin 32) (v : Bool) (s : State) : exec (.dmaChannelEnable k v) s = execDmaChannelEnable k v s := rfl
@[simp] theorem exec_dmaEngineEnable (v : Bool) (s : State) : exec (.dmaEngineEnable v) s = execDmaEngineEnable v s := rfl
@[simp] theorem exec_dmaCipherReady (k : Fin 32) (s : State) : exec (.dmaCipherReady k) s = execDmaCipherReady k s := rfl
@[simp] theorem exec_dmaXlatInv (scope : BitVec 2) (asid : BitVec 8) (vpn : BitVec 28) (s : State) : exec (.dmaXlatInv scope asid vpn) s = execDmaXlatInv scope asid vpn s := rfl
@[simp] theorem exec_dmaClrCnt (s : State) : exec (.dmaClrCnt) s = execDmaClrCnt s := rfl
@[simp] theorem exec_pcieLinkTraining (perst : Bool) (width : Fin 2) (speed : Fin 5) (s : State) : exec (.pcieLinkTraining perst width speed) s = execPcieLinkTraining perst width speed s := rfl
@[simp] theorem exec_pcieLinkDown (s : State) : exec (.pcieLinkDown) s = execPcieLinkDown s := rfl
@[simp] theorem exec_pcieConfigRequest (write : Bool) (reg : BitVec 10) (be : BitVec 4) (data : BitVec 32) (ep : Bool) (s : State) : exec (.pcieConfigRequest write reg be data ep) s = execPcieConfigRequest write reg be data ep s := rfl
@[simp] theorem exec_pcieMemoryRequest (bar2 : Bool) (write : Bool) (ofs : BitVec 16) (n : BitVec 13) (data : BitVec 64) (ep : Bool) (entries : List (BitVec 512)) (s : State) : exec (.pcieMemoryRequest bar2 write ofs n data ep entries) s = execPcieMemoryRequest bar2 write ofs n data ep entries s := rfl
@[simp] theorem exec_pcieXromRead (ofs : BitVec 19) (n : BitVec 13) (err : Bool) (s : State) : exec (.pcieXromRead ofs n err) s = execPcieXromRead ofs n err s := rfl
@[simp] theorem exec_msixRaise (v : Fin 65) (s : State) : exec (.msixRaise v) s = execMsixRaise v s := rfl
@[simp] theorem exec_msixPendingSend (s : State) : exec (.msixPendingSend) s = execMsixPendingSend s := rfl
@[simp] theorem exec_pcieBmeClear (s : State) : exec (.pcieBmeClear) s = execPcieBmeClear s := rfl
@[simp] theorem exec_pcieBmeSet (s : State) : exec (.pcieBmeSet) s = execPcieBmeSet s := rfl
@[simp] theorem exec_pcieD3hotEntry (s : State) : exec (.pcieD3hotEntry) s = execPcieD3hotEntry s := rfl
@[simp] theorem exec_pcieD0Return (s : State) : exec (.pcieD0Return) s = execPcieD0Return s := rfl
@[simp] theorem exec_aspmL0sEntry (s : State) : exec (.aspmL0sEntry) s = execAspmL0sEntry s := rfl
@[simp] theorem exec_aspmL1Entry (s : State) : exec (.aspmL1Entry) s = execAspmL1Entry s := rfl
@[simp] theorem exec_aspmExit (s : State) : exec (.aspmExit) s = execAspmExit s := rfl
@[simp] theorem exec_ltrSend (s : State) : exec (.ltrSend) s = execLtrSend s := rfl
@[simp] theorem exec_pcieCompletionRx (k : Fin 8) (status : Fin 3) (data : List Byte) (ep : Bool) (old : Bool) (s : State) : exec (.pcieCompletionRx k status data ep old) s = execPcieCompletionRx k status data ep old s := rfl
@[simp] theorem exec_pcieCompletionTimeout (k : Fin 8) (s : State) : exec (.pcieCompletionTimeout k) s = execPcieCompletionTimeout k s := rfl
@[simp] theorem exec_pcieAerError (k : AerKind) (hdr : BitVec 128) (s : State) : exec (.pcieAerError k hdr) s = execPcieAerError k hdr s := rfl
@[simp] theorem exec_pcieFlrInitiate (s : State) : exec (.pcieFlrInitiate) s = execPcieFlrInitiate s := rfl
@[simp] theorem exec_pceFlrComplete (s : State) : exec (.pceFlrComplete) s = execPceFlrComplete s := rfl
@[simp] theorem exec_pcieFlrForced (s : State) : exec (.pcieFlrForced) s = execPcieFlrForced s := rfl
@[simp] theorem exec_pcieHotReset (perst : Bool) (s : State) : exec (.pcieHotReset perst) s = execPcieHotReset perst s := rfl
@[simp] theorem exec_pceClrCnt (s : State) : exec (.pceClrCnt) s = execPceClrCnt s := rfl
@[simp] theorem exec_sqTailDoorbell (q : Fin 65) (v : BitVec 16) (entries : List (BitVec 512)) (s : State) : exec (.sqTailDoorbell q v entries) s = execSqTailDoorbell q v entries s := rfl
@[simp] theorem exec_cqHeadDoorbell (q : Fin 65) (v : BitVec 16) (s : State) : exec (.cqHeadDoorbell q v) s = execCqHeadDoorbell q v s := rfl
@[simp] theorem exec_nvqPost (prod : BitVec 12) (s : State) : exec (.nvqPost prod) s = execNvqPost prod s := rfl
@[simp] theorem exec_nvqCoalTimeout (v : Fin 65) (s : State) : exec (.nvqCoalTimeout v) s = execNvqCoalTimeout v s := rfl
@[simp] theorem exec_nvqClrCnt (s : State) : exec (.nvqClrCnt) s = execNvqClrCnt s := rfl
@[simp] theorem exec_ccEnRise (s : State) : exec (.ccEnRise) s = execCcEnRise s := rfl
@[simp] theorem exec_ccEnFall (s : State) : exec (.ccEnFall) s = execCcEnFall s := rfl
@[simp] theorem exec_normalShutdown (s : State) : exec (.normalShutdown) s = execNormalShutdown s := rfl
@[simp] theorem exec_abruptShutdown (s : State) : exec (.abruptShutdown) s = execAbruptShutdown s := rfl
@[simp] theorem exec_nvmeDeleteIoSq (sq : Fin 65) (cid : BitVec 16) (s : State) : exec (.nvmeDeleteIoSq sq cid) s = execNvmeDeleteIoSq sq cid s := rfl
@[simp] theorem exec_nvmeCreateIoSq (sq : Fin 65) (cid : BitVec 16) (s : State) : exec (.nvmeCreateIoSq sq cid) s = execNvmeCreateIoSq sq cid s := rfl
@[simp] theorem exec_nvmeGetLogPage (sq : Fin 65) (cid : BitVec 16) (list : List (BitVec 64)) (s : State) : exec (.nvmeGetLogPage sq cid list) s = execNvmeGetLogPage sq cid list s := rfl
@[simp] theorem exec_nvmeDeleteIoCq (sq : Fin 65) (cid : BitVec 16) (s : State) : exec (.nvmeDeleteIoCq sq cid) s = execNvmeDeleteIoCq sq cid s := rfl
@[simp] theorem exec_nvmeCreateIoCq (sq : Fin 65) (cid : BitVec 16) (s : State) : exec (.nvmeCreateIoCq sq cid) s = execNvmeCreateIoCq sq cid s := rfl
@[simp] theorem exec_nvmeIdentify (sq : Fin 65) (cid : BitVec 16) (list : List (BitVec 64)) (s : State) : exec (.nvmeIdentify sq cid list) s = execNvmeIdentify sq cid list s := rfl
@[simp] theorem exec_nvmeAbort (sq : Fin 65) (cid : BitVec 16) (started : Bool) (s : State) : exec (.nvmeAbort sq cid started) s = execNvmeAbort sq cid started s := rfl
@[simp] theorem exec_nvmeSetFeatures (sq : Fin 65) (cid : BitVec 16) (s : State) : exec (.nvmeSetFeatures sq cid) s = execNvmeSetFeatures sq cid s := rfl
@[simp] theorem exec_nvmeGetFeatures (sq : Fin 65) (cid : BitVec 16) (s : State) : exec (.nvmeGetFeatures sq cid) s = execNvmeGetFeatures sq cid s := rfl
@[simp] theorem exec_nvmeAsyncEventRequest (sq : Fin 65) (cid : BitVec 16) (s : State) : exec (.nvmeAsyncEventRequest sq cid) s = execNvmeAsyncEventRequest sq cid s := rfl
@[simp] theorem exec_nvmeFirmwareCommit (sq : Fin 65) (cid : BitVec 16) (s : State) : exec (.nvmeFirmwareCommit sq cid) s = execNvmeFirmwareCommit sq cid s := rfl
@[simp] theorem exec_nvmeFirmwareDownload (sq : Fin 65) (cid : BitVec 16) (data : List Byte) (ok : Bool) (s : State) : exec (.nvmeFirmwareDownload sq cid data ok) s = execNvmeFirmwareDownload sq cid data ok s := rfl
@[simp] theorem exec_nvmeSecuritySend (sq : Fin 65) (cid : BitVec 16) (ok : Bool) (s : State) : exec (.nvmeSecuritySend sq cid ok) s = execNvmeSecuritySend sq cid ok s := rfl
@[simp] theorem exec_nvmeSecurityReceive (sq : Fin 65) (cid : BitVec 16) (response : List Byte) (list : List (BitVec 64)) (s : State) : exec (.nvmeSecurityReceive sq cid response list) s = execNvmeSecurityReceive sq cid response list s := rfl
@[simp] theorem exec_nvmeSanitize (sq : Fin 65) (cid : BitVec 16) (s : State) : exec (.nvmeSanitize sq cid) s = execNvmeSanitize sq cid s := rfl
@[simp] theorem exec_nvmeDictionaryRead (sq : Fin 65) (cid : BitVec 16) (list : List (BitVec 64)) (s : State) : exec (.nvmeDictionaryRead sq cid list) s = execNvmeDictionaryRead sq cid list s := rfl
@[simp] theorem exec_nvmeDictionaryWrite (sq : Fin 65) (cid : BitVec 16) (data : List Byte) (ok : Bool) (s : State) : exec (.nvmeDictionaryWrite sq cid data ok) s = execNvmeDictionaryWrite sq cid data ok s := rfl
@[simp] theorem exec_nvmeFlush (sq : Fin 65) (cid : BitVec 16) (s : State) : exec (.nvmeFlush sq cid) s = execNvmeFlush sq cid s := rfl
@[simp] theorem exec_nvmeWrite (sq : Fin 65) (cid : BitVec 16) (data : List (Byte × Bool)) (ok : Bool) (fault : Bool) (s : State) : exec (.nvmeWrite sq cid data ok fault) s = execNvmeWrite sq cid data ok fault s := rfl
@[simp] theorem exec_nvmeRead (sq : Fin 65) (cid : BitVec 16) (list : List (BitVec 64)) (data : List (Byte × Bool)) (lost : Option (BitVec 64 × Fin 28)) (s : State) : exec (.nvmeRead sq cid list data lost) s = execNvmeRead sq cid list data lost s := rfl
@[simp] theorem exec_zoneClose (sq : Fin 65) (cid : BitVec 16) (s : State) : exec (.zoneClose sq cid) s = execZoneClose sq cid s := rfl
@[simp] theorem exec_zoneFinish (sq : Fin 65) (cid : BitVec 16) (s : State) : exec (.zoneFinish sq cid) s = execZoneFinish sq cid s := rfl
@[simp] theorem exec_zoneOpen (sq : Fin 65) (cid : BitVec 16) (s : State) : exec (.zoneOpen sq cid) s = execZoneOpen sq cid s := rfl
@[simp] theorem exec_zoneReset (sq : Fin 65) (cid : BitVec 16) (s : State) : exec (.zoneReset sq cid) s = execZoneReset sq cid s := rfl
@[simp] theorem exec_zoneOffline (sq : Fin 65) (cid : BitVec 16) (s : State) : exec (.zoneOffline sq cid) s = execZoneOffline sq cid s := rfl
@[simp] theorem exec_zoneSetDescriptorExt (sq : Fin 65) (cid : BitVec 16) (s : State) : exec (.zoneSetDescriptorExt sq cid) s = execZoneSetDescriptorExt sq cid s := rfl
@[simp] theorem exec_zoneReportZones (sq : Fin 65) (cid : BitVec 16) (list : List (BitVec 64)) (s : State) : exec (.zoneReportZones sq cid list) s = execZoneReportZones sq cid list s := rfl
@[simp] theorem exec_zoneAppend (sq : Fin 65) (cid : BitVec 16) (data : List (Byte × Bool)) (ok : Bool) (fault : Bool) (s : State) : exec (.zoneAppend sq cid data ok fault) s = execZoneAppend sq cid data ok fault s := rfl
@[simp] theorem exec_fniEnableJoin (s : State) : exec (.fniEnableJoin) s = execFniEnableJoin s := rfl
@[simp] theorem exec_fniRestart (s : State) : exec (.fniRestart) s = execFniRestart s := rfl
@[simp] theorem exec_fniClrCnt (s : State) : exec (.fniClrCnt) s = execFniClrCnt s := rfl
@[simp] theorem exec_ndlHelloDelayExpiry (s : State) : exec (.ndlHelloDelayExpiry) s = execNdlHelloDelayExpiry s := rfl
@[simp] theorem exec_ndlHelloRepeat (s : State) : exec (.ndlHelloRepeat) s = execNdlHelloRepeat s := rfl
@[simp] theorem exec_canBusOff (s : State) : exec (.canBusOff) s = execCanBusOff s := rfl
@[simp] theorem exec_canBusOffRecovery (s : State) : exec (.canBusOffRecovery) s = execCanBusOffRecovery s := rfl
@[simp] theorem exec_ndlRxHello (src : BitVec 7) (dst : BitVec 7) (token : BitVec 7) (payload : List Byte) (full : Bool) (s : State) : exec (.ndlRxHello src dst token payload full) s = execNdlRxHello src dst token payload full s := rfl
@[simp] theorem exec_ndlRxPermit (src : BitVec 7) (dst : BitVec 7) (token : BitVec 7) (payload : List Byte) (full : Bool) (s : State) : exec (.ndlRxPermit src dst token payload full) s = execNdlRxPermit src dst token payload full s := rfl
@[simp] theorem exec_ndlRxEvent (src : BitVec 7) (dst : BitVec 7) (token : BitVec 7) (payload : List Byte) (full : Bool) (s : State) : exec (.ndlRxEvent src dst token payload full) s = execNdlRxEvent src dst token payload full s := rfl
@[simp] theorem exec_ndlRxDreadReq (src : BitVec 7) (dst : BitVec 7) (token : BitVec 7) (payload : List Byte) (full : Bool) (s : State) : exec (.ndlRxDreadReq src dst token payload full) s = execNdlRxDreadReq src dst token payload full s := rfl
@[simp] theorem exec_ndlRxDreadRsp (src : BitVec 7) (dst : BitVec 7) (token : BitVec 7) (payload : List Byte) (full : Bool) (s : State) : exec (.ndlRxDreadRsp src dst token payload full) s = execNdlRxDreadRsp src dst token payload full s := rfl
@[simp] theorem exec_ndlRxDwriteReq (src : BitVec 7) (dst : BitVec 7) (token : BitVec 7) (payload : List Byte) (full : Bool) (s : State) : exec (.ndlRxDwriteReq src dst token payload full) s = execNdlRxDwriteReq src dst token payload full s := rfl
@[simp] theorem exec_ndlRxDwriteRsp (src : BitVec 7) (dst : BitVec 7) (token : BitVec 7) (payload : List Byte) (full : Bool) (s : State) : exec (.ndlRxDwriteRsp src dst token payload full) s = execNdlRxDwriteRsp src dst token payload full s := rfl
@[simp] theorem exec_ndlRxSeg (src : BitVec 7) (dst : BitVec 7) (token : BitVec 7) (payload : List Byte) (full : Bool) (s : State) : exec (.ndlRxSeg src dst token payload full) s = execNdlRxSeg src dst token payload full s := rfl
@[simp] theorem exec_ndlRxSegAck (src : BitVec 7) (dst : BitVec 7) (token : BitVec 7) (payload : List Byte) (full : Bool) (s : State) : exec (.ndlRxSegAck src dst token payload full) s = execNdlRxSegAck src dst token payload full s := rfl
@[simp] theorem exec_ndlRxHeartbeat (src : BitVec 7) (dst : BitVec 7) (token : BitVec 7) (payload : List Byte) (full : Bool) (s : State) : exec (.ndlRxHeartbeat src dst token payload full) s = execNdlRxHeartbeat src dst token payload full s := rfl
@[simp] theorem exec_ndlRxAbort (src : BitVec 7) (dst : BitVec 7) (token : BitVec 7) (payload : List Byte) (full : Bool) (s : State) : exec (.ndlRxAbort src dst token payload full) s = execNdlRxAbort src dst token payload full s := rfl
@[simp] theorem exec_ndlTransferTimeout (src : BitVec 7) (token : BitVec 7) (s : State) : exec (.ndlTransferTimeout src token) s = execNdlTransferTimeout src token s := rfl
@[simp] theorem exec_ndlHeartbeatTimer (s : State) : exec (.ndlHeartbeatTimer) s = execNdlHeartbeatTimer s := rfl
@[simp] theorem exec_ndlHeartbeatChange (s : State) : exec (.ndlHeartbeatChange) s = execNdlHeartbeatChange s := rfl
@[simp] theorem exec_shelfEventOnset (cls : Fin 6) (s : State) : exec (.shelfEventOnset cls) s = execShelfEventOnset cls s := rfl
@[simp] theorem exec_shelfHoldoffExpiry (cls : Fin 6) (s : State) : exec (.shelfHoldoffExpiry cls) s = execShelfHoldoffExpiry cls s := rfl
@[simp] theorem exec_shelfEpisodeEnd (cls : Fin 6) (s : State) : exec (.shelfEpisodeEnd cls) s = execShelfEpisodeEnd cls s := rfl
@[simp] theorem exec_fniEvqGo (w : BitVec 40) (s : State) : exec (.fniEvqGo w) s = execFniEvqGo w s := rfl
@[simp] theorem exec_odeRead (m : Master) (c : Fin 3) (addr : BitVec 34) (s : State) : exec (.odeRead m c addr) s = execOdeRead m c addr s := rfl
@[simp] theorem exec_odeWrite (m : Master) (c : Fin 3) (addr : BitVec 34) (mram : Bool) (s : State) : exec (.odeWrite m c addr mram) s = execOdeWrite m c addr mram s := rfl
@[simp] theorem exec_odeDescribe (m : Master) (c : Fin 3) (addr : BitVec 34) (s : State) : exec (.odeDescribe m c addr) s = execOdeDescribe m c addr s := rfl
@[simp] theorem exec_powerStateRequest (t : Fin 5) (s : State) : exec (.powerStateRequest t) s = execPowerStateRequest t s := rfl
@[simp] theorem exec_gradeRequestDict (o : Origin) (task : BitVec 16) (v : BitVec 8) (s : State) : exec (.gradeRequestDict o task v) s = execGradeRequestDict o task v s := rfl
@[simp] theorem exec_spinPermitWrite (o : Origin) (task : BitVec 16) (v : BitVec 8) (s : State) : exec (.spinPermitWrite o task v) s = execSpinPermitWrite o task v s := rfl
@[simp] theorem exec_namespaceTableWrite (o : Origin) (task : BitVec 16) (n : Fin 8) (v : BitVec 256) (s : State) : exec (.namespaceTableWrite o task n v) s = execNamespaceTableWrite o task n v s := rfl
@[simp] theorem exec_severityWrite (o : Origin) (task : BitVec 16) (k : Fin 192) (v : BitVec 8) (s : State) : exec (.severityWrite o task k v) s = execSeverityWrite o task k v s := rfl
@[simp] theorem exec_svnMinRaise (o : Origin) (task : BitVec 16) (v : BitVec 8) (s : State) : exec (.svnMinRaise o task v) s = execSvnMinRaise o task v s := rfl
@[simp] theorem exec_recipeKeyProvision (o : Origin) (task : BitVec 16) (key : BitVec 768) (s : State) : exec (.recipeKeyProvision o task key) s = execRecipeKeyProvision o task key s := rfl
@[simp] theorem exec_zeroizeDict (o : Origin) (task : BitVec 16) (v : BitVec 8) (s : State) : exec (.zeroizeDict o task v) s = execZeroizeDict o task v s := rfl
@[simp] theorem exec_cipEnable (s : State) : exec (.cipEnable) s = execCipEnable s := rfl
@[simp] theorem exec_cipSelftestDone (cause : Fin 12) (core : Fin 8) (s : State) : exec (.cipSelftestDone cause core) s = execCipSelftestDone cause core s := rfl
@[simp] theorem exec_cipOndemand (s : State) : exec (.cipOndemand) s = execCipOndemand s := rfl
@[simp] theorem exec_cipPeriodicTest (fail : Bool) (s : State) : exec (.cipPeriodicTest fail) s = execCipPeriodicTest fail s := rfl
@[simp] theorem exec_cipZeroize (s : State) : exec (.cipZeroize) s = execCipZeroize s := rfl
@[simp] theorem exec_cipClrCnt (s : State) : exec (.cipClrCnt) s = execCipClrCnt s := rfl
@[simp] theorem exec_entropyHealthFail (adaptive : Bool) (s : State) : exec (.entropyHealthFail adaptive) s = execEntropyHealthFail adaptive s := rfl
@[simp] theorem exec_cipRngRead (s : State) : exec (.cipRngRead) s = execCipRngRead s := rfl
@[simp] theorem exec_cipOpAesEcbEncrypt (k : Fin 8) (s : State) : exec (.cipOpAesEcbEncrypt k) s = execCipOpAesEcbEncrypt k s := rfl
@[simp] theorem exec_cipOpAesEcbDecrypt (k : Fin 8) (s : State) : exec (.cipOpAesEcbDecrypt k) s = execCipOpAesEcbDecrypt k s := rfl
@[simp] theorem exec_cipOpAesCbcEncrypt (k : Fin 8) (s : State) : exec (.cipOpAesCbcEncrypt k) s = execCipOpAesCbcEncrypt k s := rfl
@[simp] theorem exec_cipOpAesCbcDecrypt (k : Fin 8) (s : State) : exec (.cipOpAesCbcDecrypt k) s = execCipOpAesCbcDecrypt k s := rfl
@[simp] theorem exec_cipOpAesCtr (k : Fin 8) (s : State) : exec (.cipOpAesCtr k) s = execCipOpAesCtr k s := rfl
@[simp] theorem exec_cipOpAesGcmEncrypt (k : Fin 8) (s : State) : exec (.cipOpAesGcmEncrypt k) s = execCipOpAesGcmEncrypt k s := rfl
@[simp] theorem exec_cipOpAesGcmDecrypt (k : Fin 8) (s : State) : exec (.cipOpAesGcmDecrypt k) s = execCipOpAesGcmDecrypt k s := rfl
@[simp] theorem exec_cipOpCmacGenerate (k : Fin 8) (s : State) : exec (.cipOpCmacGenerate k) s = execCipOpCmacGenerate k s := rfl
@[simp] theorem exec_cipOpCmacVerify (k : Fin 8) (s : State) : exec (.cipOpCmacVerify k) s = execCipOpCmacVerify k s := rfl
@[simp] theorem exec_cipOpKwpWrap (k : Fin 8) (s : State) : exec (.cipOpKwpWrap k) s = execCipOpKwpWrap k s := rfl
@[simp] theorem exec_cipOpKwpUnwrap (k : Fin 8) (s : State) : exec (.cipOpKwpUnwrap k) s = execCipOpKwpUnwrap k s := rfl
@[simp] theorem exec_cipOpSha384 (k : Fin 8) (s : State) : exec (.cipOpSha384 k) s = execCipOpSha384 k s := rfl
@[simp] theorem exec_cipOpRandomBytes (k : Fin 8) (s : State) : exec (.cipOpRandomBytes k) s = execCipOpRandomBytes k s := rfl
@[simp] theorem exec_cipOpEcdsaVerify (k : Fin 8) (s : State) : exec (.cipOpEcdsaVerify k) s = execCipOpEcdsaVerify k s := rfl
@[simp] theorem exec_cipOpAuth (k : Fin 8) (fail : Bool) (s : State) : exec (.cipOpAuth k fail) s = execCipOpAuth k fail s := rfl
@[simp] theorem exec_cipOpSetCred (k : Fin 8) (fail : Bool) (s : State) : exec (.cipOpSetCred k fail) s = execCipOpSetCred k fail s := rfl
@[simp] theorem exec_cipOpGenkey (k : Fin 8) (fail : Bool) (s : State) : exec (.cipOpGenkey k fail) s = execCipOpGenkey k fail s := rfl
@[simp] theorem exec_cipOpLock (k : Fin 8) (fail : Bool) (s : State) : exec (.cipOpLock k fail) s = execCipOpLock k fail s := rfl
@[simp] theorem exec_cipOpSetRange (k : Fin 8) (fail : Bool) (s : State) : exec (.cipOpSetRange k fail) s = execCipOpSetRange k fail s := rfl
@[simp] theorem exec_cipOpMkeyGen (k : Fin 8) (s : State) : exec (.cipOpMkeyGen k) s = execCipOpMkeyGen k s := rfl
@[simp] theorem exec_cipOpMkeyLoad (k : Fin 8) (s : State) : exec (.cipOpMkeyLoad k) s = execCipOpMkeyLoad k s := rfl
@[simp] theorem exec_cipUnlkNonceRequest (m : Master) (level : BitVec 2) (s : State) : exec (.cipUnlkNonceRequest m level) s = execCipUnlkNonceRequest m level s := rfl
@[simp] theorem exec_cipUnlkVerify (m : Master) (block : BitVec 34) (level : BitVec 2) (s : State) : exec (.cipUnlkVerify m block level) s = execCipUnlkVerify m block level s := rfl
@[simp] theorem exec_cipUnlkLockoutEnd (s : State) : exec (.cipUnlkLockoutEnd) s = execCipUnlkLockoutEnd s := rfl
@[simp] theorem exec_faultClassify (k : Fin 192) (s : State) : exec (.faultClassify k) s = execFaultClassify k s := rfl
@[simp] theorem exec_severity5Reset (s : State) : exec (.severity5Reset) s = execSeverity5Reset s := rfl
@[simp] theorem exec_faultConditionFall (k : Fin 192) (s : State) : exec (.faultConditionFall k) s = execFaultConditionFall k s := rfl
@[simp] theorem exec_faultWindowExpiry (k : Fin 192) (s : State) : exec (.faultWindowExpiry k) s = execFaultWindowExpiry k s := rfl
@[simp] theorem exec_faultQuietExpiry (s : State) : exec (.faultQuietExpiry) s = execFaultQuietExpiry s := rfl
@[simp] theorem exec_fltLeave (s : State) : exec (.fltLeave) s = execFltLeave s := rfl
@[simp] theorem exec_fltClrCnt (s : State) : exec (.fltClrCnt) s = execFltClrCnt s := rfl
@[simp] theorem exec_fltInject (m : Master) (w : BitVec 40) (s : State) : exec (.fltInject m w) s = execFltInject m w s := rfl
@[simp] theorem exec_fltSeverityLoad (s : State) : exec (.fltSeverityLoad) s = execFltSeverityLoad s := rfl
@[simp] theorem exec_coreOffFaultLog (k : Fin 192) (s : State) : exec (.coreOffFaultLog k) s = execCoreOffFaultLog k s := rfl
@[simp] theorem exec_aliveToggle (s : State) : exec (.aliveToggle) s = execAliveToggle s := rfl
@[simp] theorem exec_evrRecordWrite (s : State) : exec (.evrRecordWrite) s = execEvrRecordWrite s := rfl
@[simp] theorem exec_evrPost (m : Master) (c : Fin 6) (w : BitVec 40) (s : State) : exec (.evrPost m c w) s = execEvrPost m c w s := rfl
@[simp] theorem exec_evrMirrorDue (s : State) : exec (.evrMirrorDue) s = execEvrMirrorDue s := rfl
@[simp] theorem exec_evrClrCnt (s : State) : exec (.evrClrCnt) s = execEvrClrCnt s := rfl
@[simp] theorem exec_opSecondsTick (s : State) : exec (.opSecondsTick) s = execOpSecondsTick s := rfl
@[simp] theorem exec_supReqGo (target : BitVec 3) (s : State) : exec (.supReqGo target) s = execSupReqGo target s := rfl
@[simp] theorem exec_deepOffRetentionOff (odePersisting : Bool) (s : State) : exec (.deepOffRetentionOff odePersisting) s = execDeepOffRetentionOff odePersisting s := rfl
@[simp] theorem exec_lowStateExit (s : State) : exec (.lowStateExit) s = execLowStateExit s := rfl
@[simp] theorem exec_exitRailsReady (s : State) : exec (.exitRailsReady) s = execExitRailsReady s := rfl
@[simp] theorem exec_exitSupplyTimeout (vcore : Bool) (vio18 : Bool) (s : State) : exec (.exitSupplyTimeout vcore vio18) s = execExitSupplyTimeout vcore vio18 s := rfl
@[simp] theorem exec_wakeEdge (s : State) : exec (.wakeEdge) s = execWakeEdge s := rfl
@[simp] theorem exec_wakeHeldHour (s : State) : exec (.wakeHeldHour) s = execWakeHeldHour s := rfl
@[simp] theorem exec_railWarning (r : Fin 5) (mv : BitVec 16) (s : State) : exec (.railWarning r mv) s = execRailWarning r mv s := rfl
@[simp] theorem exec_railWarningClear (r : Fin 5) (mv : BitVec 16) (s : State) : exec (.railWarningClear r mv) s = execRailWarningClear r mv s := rfl
@[simp] theorem exec_railResetThreshold (r : Fin 4) (mv : BitVec 16) (s : State) : exec (.railResetThreshold r mv) s = execRailResetThreshold r mv s := rfl
@[simp] theorem exec_railResetRelease (s : State) : exec (.railResetRelease) s = execRailResetRelease s := rfl
@[simp] theorem exec_vauxReset (mv : BitVec 16) (s : State) : exec (.vauxReset mv) s = execVauxReset mv s := rfl
@[simp] theorem exec_vauxPowerOn (s : State) : exec (.vauxPowerOn) s = execVauxPowerOn s := rfl
@[simp] theorem exec_supClrCnt (s : State) : exec (.supClrCnt) s = execSupClrCnt s := rfl
@[simp] theorem exec_supRailClrMin (r : Fin 5) (s : State) : exec (.supRailClrMin r) s = execSupRailClrMin r s := rfl
@[simp] theorem exec_strapLatch (slot : BitVec 7) (spingate : Bool) (s : State) : exec (.strapLatch slot spingate) s = execStrapLatch slot spingate s := rfl
@[simp] theorem exec_gpioStrapSample (pins : BitVec 5) (s : State) : exec (.gpioStrapSample pins) s = execGpioStrapSample pins s := rfl
@[simp] theorem exec_testEnRise (s : State) : exec (.testEnRise) s = execTestEnRise s := rfl
@[simp] theorem exec_testEnFall (s : State) : exec (.testEnFall) s = execTestEnFall s := rfl
@[simp] theorem exec_gpioSet (mask : BitVec 16) (s : State) : exec (.gpioSet mask) s = execGpioSet mask s := rfl
@[simp] theorem exec_gpioClr (mask : BitVec 16) (s : State) : exec (.gpioClr mask) s = execGpioClr mask s := rfl
@[simp] theorem exec_bootRomStart (lanes : BitVec 4) (cause : Fin 12) (core : Fin 8) (s : State) : exec (.bootRomStart lanes cause core) s = execBootRomStart lanes cause core s := rfl
@[simp] theorem exec_flashRead (c : Fin 4) (s : State) : exec (.flashRead c) s = execFlashRead c s := rfl
@[simp] theorem exec_flashWrite (c : Fin 4) (s : State) : exec (.flashWrite c) s = execFlashWrite c s := rfl
@[simp] theorem exec_manSelect (c : Fin 4) (s : State) : exec (.manSelect c) s = execManSelect c s := rfl
@[simp] theorem exec_bootOk (c : Fin 4) (s : State) : exec (.bootOk c) s = execBootOk c s := rfl
@[simp] theorem exec_rebind (c : Fin 4) (media : List (Nat × List Byte)) (s : State) : exec (.rebind c media) s = execRebind c media s := rfl
@[simp] theorem exec_manifestSelection (c0 : Option (List Byte)) (c1 : Option (List Byte)) (c2 : Option (List Byte)) (i0 : Option (List Byte)) (i1 : Option (List Byte)) (i2 : Option (List Byte)) (s : State) : exec (.manifestSelection c0 c1 c2 i0 i1 i2) s = execManifestSelection c0 c1 c2 i0 i1 i2 s := rfl
@[simp] theorem exec_adlRxDiscard (n : Fin 2) (s : State) : exec (.adlRxDiscard n) s = execAdlRxDiscard n s := rfl
@[simp] theorem exec_slotEnd (n : Fin 2) (s : State) : exec (.slotEnd n) s = execSlotEnd n s := rfl
@[simp] theorem exec_journalDone (n : Fin 2) (s : State) : exec (.journalDone n) s = execJournalDone n s := rfl
@[simp] theorem exec_drcPllLocked (s : State) : exec (.drcPllLocked) s = execDrcPllLocked s := rfl
@[simp] theorem exec_railResetClear (r : Fin 5) (mv : BitVec 16) (s : State) : exec (.railResetClear r mv) s = execRailResetClear r mv s := rfl
@[simp] theorem exec_vauxPowerOnLevelFall (s : State) : exec (.vauxPowerOnLevelFall) s = execVauxPowerOnLevelFall s := rfl
@[simp] theorem exec_wakeFilteredFall (s : State) : exec (.wakeFilteredFall) s = execWakeFilteredFall s := rfl
@[simp] theorem exec_canErrorDetected (tx : Bool) (alt : Bool) (s : State) : exec (.canErrorDetected tx alt) s = execCanErrorDetected tx alt s := rfl
@[simp] theorem exec_canFrameSent (s : State) : exec (.canFrameSent) s = execCanFrameSent s := rfl

@[simp] theorem step_cons (s : State) (c : Instr) (r : List Instr) : step { s with pending := c :: r } = exec c { s with pending := r } := rfl

@[simp] theorem step_nil (s : State) : step { s with pending := [] } = .next (idleTick { s with pending := [] }) := rfl

/-- A command gives what holds of the next state that it names. -/
theorem gives_of {i : Instr} {s t : State} {P : State → Prop} (h : exec i s = .next t) (p : P t) : Gives i s P := ⟨t, h, p⟩

end Sys2Proof.Machine
end

