-- ==== Sys2Proof/Laws/Ops.lean ====
section
/-! SUPPORT. What the named operations over State do: keyed lists, registers and fields, memory bytes and their canonical form. -/

namespace Sys2Proof.Machine

/-! ### Keyed lists -/

theorem kvFind_kvInsert_self {α : Type} (l : List (Nat × α)) (k : Nat) (v : α) : kvFind (kvInsert l k v) k = some v := by
  induction l with
  | nil => simp [kvInsert, kvFind]
  | cons p r ih =>
    obtain ⟨j, u⟩ := p
    unfold kvInsert
    split
    · simp [kvFind]
    · split
      · simp [kvFind]
      · simp only [kvFind]; rw [if_neg (by omega)]; exact ih

theorem kvFind_kvInsert_other {α : Type} (l : List (Nat × α)) {k j : Nat} (v : α) (h : j ≠ k) :
    kvFind (kvInsert l k v) j = kvFind l j := by
  induction l with
  | nil => simp [kvInsert, kvFind, Ne.symm h]
  | cons p r ih =>
    obtain ⟨i, u⟩ := p
    unfold kvInsert
    split
    · simp [kvFind, Ne.symm h]
    · split
      · subst_vars; simp [kvFind, Ne.symm h]
      · simp only [kvFind, ih]

theorem kvFind_kvErase_self {α : Type} (l : List (Nat × α)) (k : Nat) : kvFind (kvErase l k) k = none := by
  induction l with
  | nil => rfl
  | cons p r ih =>
    obtain ⟨j, u⟩ := p
    unfold kvErase
    split
    · exact ih
    · simp only [kvFind]; rw [if_neg ‹_›]; exact ih

theorem kvFind_kvErase_other {α : Type} (l : List (Nat × α)) {k j : Nat} (h : j ≠ k) : kvFind (kvErase l k) j = kvFind l j := by
  induction l with
  | nil => rfl
  | cons p r ih =>
    obtain ⟨i, u⟩ := p
    unfold kvErase
    split
    · subst_vars; simp [kvFind, Ne.symm h, ih]
    · simp only [kvFind, ih]

/-! ### Registers and fields -/

@[simp] theorem regWord_setRegWord_self (s : State) (a : Nat) (r v : BitVec 40) : (s.setRegWord a r v).regWord a r = v := by
  unfold State.setRegWord State.regWord
  by_cases h : v = r
  · simp [h, kvFind_kvErase_self]
  · simp [h, kvFind_kvInsert_self]

theorem regWord_setRegWord_other (s : State) {a b : Nat} (r q v : BitVec 40) (h : b ≠ a) :
    (s.setRegWord a r v).regWord b q = s.regWord b q := by
  unfold State.setRegWord State.regWord
  by_cases e : v = r
  · simp [e, kvFind_kvErase_other _ h]
  · simp [e, kvFind_kvInsert_other _ _ h]

/-- Bits of a number below a width that `setBits` writes at one place, read at the same place. -/
theorem bits_setBits_self (n lo len v : Nat) : bits (setBits n lo len v) lo len = v % 2 ^ len := by
  unfold bits setBits
  have hp : 0 < 2 ^ lo := by positivity
  rw [Nat.shiftRight_eq_div_pow, Nat.shiftRight_eq_div_pow]
  have e : n % 2 ^ lo + v % 2 ^ len * 2 ^ lo + n / 2 ^ (lo + len) * 2 ^ (lo + len) =
      n % 2 ^ lo + 2 ^ lo * (v % 2 ^ len + n / 2 ^ (lo + len) * 2 ^ len) := by rw [pow_add]; ring
  rw [e, Nat.add_mul_div_left _ _ hp, Nat.div_eq_of_lt (Nat.mod_lt _ hp), Nat.zero_add, Nat.add_mul_mod_self_right,
    Nat.mod_mod]

theorem setBits_testBit (n lo len v i : Nat) :
    (setBits n lo len v).testBit i =
      if i < lo then n.testBit i else if i < lo + len then v.testBit (i - lo) else n.testBit i := by
  unfold setBits
  have h1 : n % 2 ^ lo < 2 ^ lo := Nat.mod_lt _ (by positivity)
  have h2 : v % 2 ^ len < 2 ^ len := Nat.mod_lt _ (by positivity)
  have e : n % 2 ^ lo + v % 2 ^ len * 2 ^ lo + n >>> (lo + len) * 2 ^ (lo + len) =
      2 ^ lo * (2 ^ len * (n >>> (lo + len)) + v % 2 ^ len) + n % 2 ^ lo := by rw [pow_add]; ring
  rw [e, Nat.testBit_two_pow_mul_add _ h1, Nat.testBit_two_pow_mul_add _ h2]
  by_cases a : i < lo
  · simp [a, Nat.testBit_mod_two_pow]
  · simp only [a, if_false]
    by_cases b : i < lo + len
    · have : i - lo < len := by omega
      simp [b, this, Nat.testBit_mod_two_pow]
    · have : ¬ i - lo < len := by omega
      simp only [b, this, if_false, Nat.testBit_shiftRight]
      congr 1; omega

theorem setBits_lt {n lo len v w : Nat} (hn : n < 2 ^ w) (hf : lo + len ≤ w) : setBits n lo len v < 2 ^ w := by
  apply Nat.lt_pow_two_of_testBit
  intro i hi
  rw [setBits_testBit, if_neg (by omega), if_neg (by omega)]
  exact Nat.testBit_lt_two_pow (lt_of_lt_of_le hn (Nat.pow_le_pow_right (by decide) hi))

theorem bits_setBits_other (n lo len v a k : Nat) (h : a + k ≤ lo ∨ lo + len ≤ a) : bits (setBits n lo len v) a k = bits n a k := by
  unfold bits
  apply Nat.eq_of_testBit_eq
  intro i
  simp only [Nat.testBit_mod_two_pow, Nat.testBit_shiftRight]
  by_cases b : i < k
  · simp only [b, decide_true, Bool.true_and, setBits_testBit]
    rcases h with h | h
    · rw [if_pos (by omega)]
    · rw [if_neg (by omega), if_neg (by omega)]
  · simp [b]

theorem regWord_set_self (s : State) (f : Fld) (v : Nat) (h : f.lo + f.len ≤ 40) :
    ((s.set f v).regWord f.addr f.rst).toNat = setBits (s.regWord f.addr f.rst).toNat f.lo f.len v := by
  unfold State.set
  rw [regWord_setRegWord_self, BitVec.toNat_ofNat]
  exact Nat.mod_eq_of_lt (setBits_lt (BitVec.isLt _) h)

/-- A field reads back what was written to it, modulo its width. -/
theorem get_set_self (s : State) (f : Fld) (v : Nat) (h : f.lo + f.len ≤ 40 := by decide) : (s.set f v).get f = v % 2 ^ f.len := by
  unfold State.get
  rw [regWord_set_self s f v h, bits_setBits_self]

/-- A field of another register keeps its value. -/
theorem get_set_reg (s : State) (f g : Fld) (v : Nat) (h : g.addr ≠ f.addr) : (s.set f v).get g = s.get g := by
  unfold State.get State.set
  rw [regWord_setRegWord_other _ _ _ _ h]

/-- Another field of the same register keeps its value. -/
theorem get_set_field (s : State) (f g : Fld) (v : Nat) (ha : g.addr = f.addr) (hr : g.rst = f.rst) (hf : f.lo + f.len ≤ 40)
    (hd : g.lo + g.len ≤ f.lo ∨ f.lo + f.len ≤ g.lo) : (s.set f v).get g = s.get g := by
  unfold State.get
  rw [ha, hr, regWord_set_self s f v hf, bits_setBits_other _ _ _ _ _ _ hd]

/-- Two fields do not share a bit. -/
def apart (f g : Fld) : Bool :=
  g.addr != f.addr || (g.rst == f.rst && decide (f.lo + f.len ≤ 40) && (decide (g.lo + g.len ≤ f.lo) || decide (f.lo + f.len ≤ g.lo)))

/-- A field keeps its value when a field apart from it is written. -/
theorem get_set_apart (s : State) (f g : Fld) (v : Nat) (h : apart f g = true) : (s.set f v).get g = s.get g := by
  by_cases a : g.addr = f.addr
  · simp only [apart, a, bne_self_eq_false, Bool.false_or, Bool.and_eq_true, Bool.or_eq_true, decide_eq_true_eq, beq_iff_eq] at h
    exact get_set_field s f g v a h.1.1 h.1.2 h.2
  · exact get_set_reg s f g v a

theorem get_lt (s : State) (f : Fld) : s.get f < 2 ^ f.len := by
  unfold State.get bits; exact Nat.mod_lt _ (by positivity)

/-! ### Memory -/

@[simp] theorem readByte_writeByte_self (s : State) (a : Nat) (b : Byte) : (s.writeByte a b).readByte a = b := by
  unfold State.writeByte State.readByte
  by_cases h : b = 0
  · simp [h, kvFind_kvErase_self]
  · show (kvFind (if b = 0 then _ else _) a).getD 0 = b
    rw [if_neg h, kvFind_kvInsert_self]; rfl

theorem readByte_writeByte_other (s : State) {a c : Nat} (b : Byte) (h : c ≠ a) : (s.writeByte a b).readByte c = s.readByte c := by
  unfold State.writeByte State.readByte
  by_cases e : b = 0
  · simp [e, kvFind_kvErase_other _ h]
  · show (kvFind (if b = 0 then _ else _) c).getD 0 = _
    rw [if_neg e, kvFind_kvInsert_other _ _ h]

/-- A store of a list of bytes leaves every other byte. -/
theorem readByte_writeRaw_other (s : State) (a c : Nat) (l : List Byte) (h : c < a ∨ a + l.length ≤ c) :
    (s.writeRaw a l).readByte c = s.readByte c := by
  induction l generalizing s a with
  | nil => rfl
  | cons b r ih =>
    simp only [State.writeRaw]
    simp only [List.length_cons] at h
    rw [ih _ _ (by omega), readByte_writeByte_other _ _ (by omega)]

/-- A store of a list of bytes puts each in its place. -/
theorem readByte_writeRaw_at (s : State) (a : Nat) (l : List Byte) (i : Nat) (h : i < l.length) :
    (s.writeRaw a l).readByte (a + i) = l[i] := by
  induction l generalizing s a i with
  | nil => simp at h
  | cons b r ih =>
    simp only [State.writeRaw]
    cases i with
    | zero => rw [readByte_writeRaw_other _ _ _ _ (by omega)]; simp
    | succ k =>
      have e : a + (k + 1) = a + 1 + k := by omega
      rw [e, ih _ _ _ (by simpa using h)]; rfl

/-! ### The canonical forms -/

theorem keysRise_cons {α : Type} (p : Nat × α) (l : List (Nat × α)) :
    keysRise (p :: l) = true ↔ (∀ q ∈ l, p.1 < q.1) ∧ keysRise l = true := by
  induction l generalizing p with
  | nil => simp [keysRise]
  | cons q r ih =>
    constructor
    · intro h
      simp only [keysRise, Bool.and_eq_true, decide_eq_true_eq] at h
      refine ⟨?_, h.2⟩
      intro x hx
      rcases List.mem_cons.1 hx with rfl | hx
      · exact h.1
      · exact lt_trans h.1 (((ih q).1 h.2).1 x hx)
    · intro h
      simp only [keysRise, Bool.and_eq_true, decide_eq_true_eq]
      exact ⟨h.1 q (List.mem_cons_self ..), h.2⟩

theorem mem_kvInsert {α : Type} {l : List (Nat × α)} {k : Nat} {v : α} {q : Nat × α} (h : q ∈ kvInsert l k v) :
    q = (k, v) ∨ q ∈ l := by
  induction l with
  | nil => simpa [kvInsert] using h
  | cons p r ih =>
    obtain ⟨j, u⟩ := p
    unfold kvInsert at h
    split at h
    · simpa using h
    · split at h
      · rcases List.mem_cons.1 h with h | h
        · exact .inl h
        · exact .inr (List.mem_cons_of_mem _ h)
      · rcases List.mem_cons.1 h with h | h
        · exact .inr (h ▸ List.mem_cons_self ..)
        · rcases ih h with h | h
          · exact .inl h
          · exact .inr (List.mem_cons_of_mem _ h)

theorem mem_kvErase {α : Type} {l : List (Nat × α)} {k : Nat} {q : Nat × α} (h : q ∈ kvErase l k) : q ∈ l := by
  induction l with
  | nil => simpa [kvErase] using h
  | cons p r ih =>
    obtain ⟨j, u⟩ := p
    unfold kvErase at h
    split at h
    · exact List.mem_cons_of_mem _ (ih h)
    · rcases List.mem_cons.1 h with h | h
      · exact h ▸ List.mem_cons_self ..
      · exact List.mem_cons_of_mem _ (ih h)

theorem keysRise_kvInsert {α : Type} {l : List (Nat × α)} (k : Nat) (v : α) (h : keysRise l = true) :
    keysRise (kvInsert l k v) = true := by
  induction l with
  | nil => rfl
  | cons p r ih =>
    obtain ⟨j, u⟩ := p
    have hp := (keysRise_cons _ _).1 h
    unfold kvInsert
    split
    · refine (keysRise_cons _ _).2 ⟨fun q hq => ?_, h⟩
      rcases List.mem_cons.1 hq with rfl | hq
      · assumption
      · exact lt_trans ‹_› (hp.1 q hq)
    · split
      · subst_vars; exact (keysRise_cons _ _).2 ⟨hp.1, hp.2⟩
      · refine (keysRise_cons _ _).2 ⟨fun q hq => ?_, ih hp.2⟩
        rcases mem_kvInsert hq with rfl | hq
        · show j < k; omega
        · exact hp.1 q hq

theorem keysRise_kvErase {α : Type} {l : List (Nat × α)} (k : Nat) (h : keysRise l = true) : keysRise (kvErase l k) = true := by
  induction l with
  | nil => rfl
  | cons p r ih =>
    obtain ⟨j, u⟩ := p
    have hp := (keysRise_cons _ _).1 h
    unfold kvErase
    split
    · exact ih hp.2
    · exact (keysRise_cons _ _).2 ⟨fun q hq => hp.1 q (mem_kvErase hq), ih hp.2⟩

theorem keysRise_filter {α : Type} {l : List (Nat × α)} (p : Nat × α → Bool) (h : keysRise l = true) : keysRise (l.filter p) = true := by
  induction l with
  | nil => rfl
  | cons q r ih =>
    have hq := (keysRise_cons _ _).1 h
    rw [List.filter_cons]
    split
    · exact (keysRise_cons _ _).2 ⟨fun x hx => hq.1 x (List.mem_of_mem_filter hx), ih hq.2⟩
    · exact ih hq.2

theorem memoryWf_iff (m : List Host.Cell) : Memory.wf m = true ↔ keysRise m = true ∧ ∀ c ∈ m, c.2 ≠ 0 := by
  simp [Memory.wf, Bool.and_eq_true, List.all_eq_true]

/-- Writing one byte keeps the canonical form of memory. -/
theorem writeByte_wf (s : State) (a : Addr) (b : Byte) (h : Memory.wf s.mem = true) : Memory.wf (s.writeByte a b).mem = true := by
  rw [memoryWf_iff] at h ⊢
  unfold State.writeByte
  by_cases e : b = 0
  · simp only [e, if_true]
    exact ⟨keysRise_kvErase _ h.1, fun c hc => h.2 c (mem_kvErase hc)⟩
  · simp only [e, if_false]
    refine ⟨keysRise_kvInsert _ _ h.1, fun c hc => ?_⟩
    rcases mem_kvInsert hc with rfl | hc
    · exact e
    · exact h.2 c hc

/-- Writing a list of bytes keeps the canonical form of memory. -/
theorem writeRaw_wf (s : State) (a : Addr) (l : List Byte) (h : Memory.wf s.mem = true) : Memory.wf (s.writeRaw a l).mem = true := by
  induction l generalizing s a with
  | nil => exact h
  | cons b r ih => exact ih _ _ (writeByte_wf s a b h)

/-- A unit's own write keeps the canonical form of memory. -/
theorem writeBytes_wf (s : State) (a : Addr) (l : List Byte) (h : Memory.wf s.mem = true) : Memory.wf (s.writeBytes a l).mem = true :=
  writeRaw_wf s a l h

/-- Dropping a range of addresses keeps the canonical form of memory. -/
theorem filter_wf (m : List Host.Cell) (p : Host.Cell → Bool) (h : Memory.wf m = true) : Memory.wf (m.filter p) = true := by
  rw [memoryWf_iff] at h ⊢
  exact ⟨keysRise_filter p h.1, fun c hc => h.2 c (List.mem_of_mem_filter hc)⟩

/-- Writing a register keeps the order of the register list. -/
theorem setRegWord_rise (s : State) (a : Nat) (r v : BitVec 40) (h : keysRise s.regs = true) :
    keysRise (s.setRegWord a r v).regs = true := by
  unfold State.setRegWord
  split
  · exact keysRise_kvErase _ h
  · exact keysRise_kvInsert _ _ h

/-- Writing a field keeps the order of the register list. -/
theorem set_rise (s : State) (f : Fld) (v : Nat) (h : keysRise s.regs = true) : keysRise (s.set f v).regs = true :=
  setRegWord_rise s _ _ _ h

end Sys2Proof.Machine
end

