-- ==== Sys2Proof/Laws/State.lean ====
section
/-! SUPPORT. What each update of State leaves: one lemma for each field that the update does not change. -/

namespace Sys2Proof.Machine

@[simp] theorem set_pending (s : State) (f : Fld) (v : Nat) : (s.set f v).pending = s.pending := rfl
@[simp] theorem set_variant1408 (s : State) (f : Fld) (v : Nat) : (s.set f v).variant1408 = s.variant1408 := rfl
@[simp] theorem set_power (s : State) (f : Fld) (v : Nat) : (s.set f v).power = s.power := rfl
@[simp] theorem set_tick (s : State) (f : Fld) (v : Nat) : (s.set f v).tick = s.tick := rfl
@[simp] theorem set_free (s : State) (f : Fld) (v : Nat) : (s.set f v).free = s.free := rfl
@[simp] theorem set_mem (s : State) (f : Fld) (v : Nat) : (s.set f v).mem = s.mem := rfl
@[simp] theorem set_resp (s : State) (f : Fld) (v : Nat) : (s.set f v).resp = s.resp := rfl
@[simp] theorem set_raised (s : State) (f : Fld) (v : Nat) : (s.set f v).raised = s.raised := rfl
@[simp] theorem set_pulses (s : State) (f : Fld) (v : Nat) : (s.set f v).pulses = s.pulses := rfl
@[simp] theorem set_evrQueue (s : State) (f : Fld) (v : Nat) : (s.set f v).evrQueue = s.evrQueue := rfl
@[simp] theorem set_opSeconds (s : State) (f : Fld) (v : Nat) : (s.set f v).opSeconds = s.opSeconds := rfl
@[simp] theorem set_psl (s : State) (f : Fld) (v : Nat) : (s.set f v).psl = s.psl := rfl
@[simp] theorem set_dc (s : State) (f : Fld) (v : Nat) : (s.set f v).dc = s.dc := rfl
@[simp] theorem set_wp (s : State) (f : Fld) (v : Nat) : (s.set f v).wp = s.wp := rfl
@[simp] theorem set_fms (s : State) (f : Fld) (v : Nat) : (s.set f v).fms = s.fms := rfl
@[simp] theorem set_svd (s : State) (f : Fld) (v : Nat) : (s.set f v).svd = s.svd := rfl
@[simp] theorem set_adl (s : State) (f : Fld) (v : Nat) : (s.set f v).adl = s.adl := rfl
@[simp] theorem set_cle (s : State) (f : Fld) (v : Nat) : (s.set f v).cle = s.cle := rfl
@[simp] theorem set_spm (s : State) (f : Fld) (v : Nat) : (s.set f v).spm = s.spm := rfl
@[simp] theorem set_memu (s : State) (f : Fld) (v : Nat) : (s.set f v).memu = s.memu := rfl
@[simp] theorem set_evr (s : State) (f : Fld) (v : Nat) : (s.set f v).evr = s.evr := rfl
@[simp] theorem set_flt (s : State) (f : Fld) (v : Nat) : (s.set f v).flt = s.flt := rfl
@[simp] theorem set_dma (s : State) (f : Fld) (v : Nat) : (s.set f v).dma = s.dma := rfl
@[simp] theorem set_cip (s : State) (f : Fld) (v : Nat) : (s.set f v).cip = s.cip := rfl
@[simp] theorem set_keys (s : State) (f : Fld) (v : Nat) : (s.set f v).keys = s.keys := rfl
@[simp] theorem set_sup (s : State) (f : Fld) (v : Nat) : (s.set f v).sup = s.sup := rfl
@[simp] theorem set_cores (s : State) (f : Fld) (v : Nat) : (s.set f v).cores = s.cores := rfl
@[simp] theorem set_l2 (s : State) (f : Fld) (v : Nat) : (s.set f v).l2 = s.l2 := rfl
@[simp] theorem set_hostOut (s : State) (f : Fld) (v : Nat) : (s.set f v).hostOut = s.hostOut := rfl
@[simp] theorem set_powerCycles (s : State) (f : Fld) (v : Nat) : (s.set f v).powerCycles = s.powerCycles := rfl
@[simp] theorem set_dieTemp (s : State) (f : Fld) (v : Nat) : (s.set f v).dieTemp = s.dieTemp := rfl
@[simp] theorem set_manifest (s : State) (f : Fld) (v : Nat) : (s.set f v).manifest = s.manifest := rfl
@[simp] theorem set_dict (s : State) (f : Fld) (v : Nat) : (s.set f v).dict = s.dict := rfl
@[simp] theorem set_locks (s : State) (f : Fld) (v : Nat) : (s.set f v).locks = s.locks := rfl
@[simp] theorem set_image (s : State) (f : Fld) (v : Nat) : (s.set f v).image = s.image := rfl
@[simp] theorem set_rcp (s : State) (f : Fld) (v : Nat) : (s.set f v).rcp = s.rcp := rfl
@[simp] theorem set_man (s : State) (f : Fld) (v : Nat) : (s.set f v).man = s.man := rfl
@[simp] theorem set_boot (s : State) (f : Fld) (v : Nat) : (s.set f v).boot = s.boot := rfl
@[simp] theorem set_pce (s : State) (f : Fld) (v : Nat) : (s.set f v).pce = s.pce := rfl
@[simp] theorem set_nvq (s : State) (f : Fld) (v : Nat) : (s.set f v).nvq = s.nvq := rfl
@[simp] theorem set_nvme (s : State) (f : Fld) (v : Nat) : (s.set f v).nvme = s.nvme := rfl
@[simp] theorem set_fni (s : State) (f : Fld) (v : Nat) : (s.set f v).fni = s.fni := rfl
@[simp] theorem set_journal (s : State) (f : Fld) (v : Nat) : (s.set f v).journal = s.journal := rfl
@[simp] theorem set_zones (s : State) (f : Fld) (v : Nat) : (s.set f v).zones = s.zones := rfl

@[simp] theorem setRegWord_pending (s : State) (a : Nat) (r v : BitVec 40) : (s.setRegWord a r v).pending = s.pending := rfl
@[simp] theorem setRegWord_variant1408 (s : State) (a : Nat) (r v : BitVec 40) : (s.setRegWord a r v).variant1408 = s.variant1408 := rfl
@[simp] theorem setRegWord_power (s : State) (a : Nat) (r v : BitVec 40) : (s.setRegWord a r v).power = s.power := rfl
@[simp] theorem setRegWord_tick (s : State) (a : Nat) (r v : BitVec 40) : (s.setRegWord a r v).tick = s.tick := rfl
@[simp] theorem setRegWord_free (s : State) (a : Nat) (r v : BitVec 40) : (s.setRegWord a r v).free = s.free := rfl
@[simp] theorem setRegWord_mem (s : State) (a : Nat) (r v : BitVec 40) : (s.setRegWord a r v).mem = s.mem := rfl
@[simp] theorem setRegWord_resp (s : State) (a : Nat) (r v : BitVec 40) : (s.setRegWord a r v).resp = s.resp := rfl
@[simp] theorem setRegWord_raised (s : State) (a : Nat) (r v : BitVec 40) : (s.setRegWord a r v).raised = s.raised := rfl
@[simp] theorem setRegWord_pulses (s : State) (a : Nat) (r v : BitVec 40) : (s.setRegWord a r v).pulses = s.pulses := rfl
@[simp] theorem setRegWord_evrQueue (s : State) (a : Nat) (r v : BitVec 40) : (s.setRegWord a r v).evrQueue = s.evrQueue := rfl
@[simp] theorem setRegWord_opSeconds (s : State) (a : Nat) (r v : BitVec 40) : (s.setRegWord a r v).opSeconds = s.opSeconds := rfl
@[simp] theorem setRegWord_psl (s : State) (a : Nat) (r v : BitVec 40) : (s.setRegWord a r v).psl = s.psl := rfl
@[simp] theorem setRegWord_dc (s : State) (a : Nat) (r v : BitVec 40) : (s.setRegWord a r v).dc = s.dc := rfl
@[simp] theorem setRegWord_wp (s : State) (a : Nat) (r v : BitVec 40) : (s.setRegWord a r v).wp = s.wp := rfl
@[simp] theorem setRegWord_fms (s : State) (a : Nat) (r v : BitVec 40) : (s.setRegWord a r v).fms = s.fms := rfl
@[simp] theorem setRegWord_svd (s : State) (a : Nat) (r v : BitVec 40) : (s.setRegWord a r v).svd = s.svd := rfl
@[simp] theorem setRegWord_adl (s : State) (a : Nat) (r v : BitVec 40) : (s.setRegWord a r v).adl = s.adl := rfl
@[simp] theorem setRegWord_cle (s : State) (a : Nat) (r v : BitVec 40) : (s.setRegWord a r v).cle = s.cle := rfl
@[simp] theorem setRegWord_spm (s : State) (a : Nat) (r v : BitVec 40) : (s.setRegWord a r v).spm = s.spm := rfl
@[simp] theorem setRegWord_memu (s : State) (a : Nat) (r v : BitVec 40) : (s.setRegWord a r v).memu = s.memu := rfl
@[simp] theorem setRegWord_evr (s : State) (a : Nat) (r v : BitVec 40) : (s.setRegWord a r v).evr = s.evr := rfl
@[simp] theorem setRegWord_flt (s : State) (a : Nat) (r v : BitVec 40) : (s.setRegWord a r v).flt = s.flt := rfl
@[simp] theorem setRegWord_dma (s : State) (a : Nat) (r v : BitVec 40) : (s.setRegWord a r v).dma = s.dma := rfl
@[simp] theorem setRegWord_cip (s : State) (a : Nat) (r v : BitVec 40) : (s.setRegWord a r v).cip = s.cip := rfl
@[simp] theorem setRegWord_keys (s : State) (a : Nat) (r v : BitVec 40) : (s.setRegWord a r v).keys = s.keys := rfl
@[simp] theorem setRegWord_sup (s : State) (a : Nat) (r v : BitVec 40) : (s.setRegWord a r v).sup = s.sup := rfl
@[simp] theorem setRegWord_cores (s : State) (a : Nat) (r v : BitVec 40) : (s.setRegWord a r v).cores = s.cores := rfl
@[simp] theorem setRegWord_l2 (s : State) (a : Nat) (r v : BitVec 40) : (s.setRegWord a r v).l2 = s.l2 := rfl
@[simp] theorem setRegWord_hostOut (s : State) (a : Nat) (r v : BitVec 40) : (s.setRegWord a r v).hostOut = s.hostOut := rfl
@[simp] theorem setRegWord_powerCycles (s : State) (a : Nat) (r v : BitVec 40) : (s.setRegWord a r v).powerCycles = s.powerCycles := rfl
@[simp] theorem setRegWord_dieTemp (s : State) (a : Nat) (r v : BitVec 40) : (s.setRegWord a r v).dieTemp = s.dieTemp := rfl
@[simp] theorem setRegWord_manifest (s : State) (a : Nat) (r v : BitVec 40) : (s.setRegWord a r v).manifest = s.manifest := rfl
@[simp] theorem setRegWord_dict (s : State) (a : Nat) (r v : BitVec 40) : (s.setRegWord a r v).dict = s.dict := rfl
@[simp] theorem setRegWord_locks (s : State) (a : Nat) (r v : BitVec 40) : (s.setRegWord a r v).locks = s.locks := rfl
@[simp] theorem setRegWord_image (s : State) (a : Nat) (r v : BitVec 40) : (s.setRegWord a r v).image = s.image := rfl
@[simp] theorem setRegWord_rcp (s : State) (a : Nat) (r v : BitVec 40) : (s.setRegWord a r v).rcp = s.rcp := rfl
@[simp] theorem setRegWord_man (s : State) (a : Nat) (r v : BitVec 40) : (s.setRegWord a r v).man = s.man := rfl
@[simp] theorem setRegWord_boot (s : State) (a : Nat) (r v : BitVec 40) : (s.setRegWord a r v).boot = s.boot := rfl
@[simp] theorem setRegWord_pce (s : State) (a : Nat) (r v : BitVec 40) : (s.setRegWord a r v).pce = s.pce := rfl
@[simp] theorem setRegWord_nvq (s : State) (a : Nat) (r v : BitVec 40) : (s.setRegWord a r v).nvq = s.nvq := rfl
@[simp] theorem setRegWord_nvme (s : State) (a : Nat) (r v : BitVec 40) : (s.setRegWord a r v).nvme = s.nvme := rfl
@[simp] theorem setRegWord_fni (s : State) (a : Nat) (r v : BitVec 40) : (s.setRegWord a r v).fni = s.fni := rfl
@[simp] theorem setRegWord_journal (s : State) (a : Nat) (r v : BitVec 40) : (s.setRegWord a r v).journal = s.journal := rfl
@[simp] theorem setRegWord_zones (s : State) (a : Nat) (r v : BitVec 40) : (s.setRegWord a r v).zones = s.zones := rfl

@[simp] theorem bump_pending (s : State) (f : Fld) (k : Nat) : (s.bump f k).pending = s.pending := rfl
@[simp] theorem bump_variant1408 (s : State) (f : Fld) (k : Nat) : (s.bump f k).variant1408 = s.variant1408 := rfl
@[simp] theorem bump_power (s : State) (f : Fld) (k : Nat) : (s.bump f k).power = s.power := rfl
@[simp] theorem bump_tick (s : State) (f : Fld) (k : Nat) : (s.bump f k).tick = s.tick := rfl
@[simp] theorem bump_free (s : State) (f : Fld) (k : Nat) : (s.bump f k).free = s.free := rfl
@[simp] theorem bump_mem (s : State) (f : Fld) (k : Nat) : (s.bump f k).mem = s.mem := rfl
@[simp] theorem bump_resp (s : State) (f : Fld) (k : Nat) : (s.bump f k).resp = s.resp := rfl
@[simp] theorem bump_raised (s : State) (f : Fld) (k : Nat) : (s.bump f k).raised = s.raised := rfl
@[simp] theorem bump_pulses (s : State) (f : Fld) (k : Nat) : (s.bump f k).pulses = s.pulses := rfl
@[simp] theorem bump_evrQueue (s : State) (f : Fld) (k : Nat) : (s.bump f k).evrQueue = s.evrQueue := rfl
@[simp] theorem bump_opSeconds (s : State) (f : Fld) (k : Nat) : (s.bump f k).opSeconds = s.opSeconds := rfl
@[simp] theorem bump_psl (s : State) (f : Fld) (k : Nat) : (s.bump f k).psl = s.psl := rfl
@[simp] theorem bump_dc (s : State) (f : Fld) (k : Nat) : (s.bump f k).dc = s.dc := rfl
@[simp] theorem bump_wp (s : State) (f : Fld) (k : Nat) : (s.bump f k).wp = s.wp := rfl
@[simp] theorem bump_fms (s : State) (f : Fld) (k : Nat) : (s.bump f k).fms = s.fms := rfl
@[simp] theorem bump_svd (s : State) (f : Fld) (k : Nat) : (s.bump f k).svd = s.svd := rfl
@[simp] theorem bump_adl (s : State) (f : Fld) (k : Nat) : (s.bump f k).adl = s.adl := rfl
@[simp] theorem bump_cle (s : State) (f : Fld) (k : Nat) : (s.bump f k).cle = s.cle := rfl
@[simp] theorem bump_spm (s : State) (f : Fld) (k : Nat) : (s.bump f k).spm = s.spm := rfl
@[simp] theorem bump_memu (s : State) (f : Fld) (k : Nat) : (s.bump f k).memu = s.memu := rfl
@[simp] theorem bump_evr (s : State) (f : Fld) (k : Nat) : (s.bump f k).evr = s.evr := rfl
@[simp] theorem bump_flt (s : State) (f : Fld) (k : Nat) : (s.bump f k).flt = s.flt := rfl
@[simp] theorem bump_dma (s : State) (f : Fld) (k : Nat) : (s.bump f k).dma = s.dma := rfl
@[simp] theorem bump_cip (s : State) (f : Fld) (k : Nat) : (s.bump f k).cip = s.cip := rfl
@[simp] theorem bump_keys (s : State) (f : Fld) (k : Nat) : (s.bump f k).keys = s.keys := rfl
@[simp] theorem bump_sup (s : State) (f : Fld) (k : Nat) : (s.bump f k).sup = s.sup := rfl
@[simp] theorem bump_cores (s : State) (f : Fld) (k : Nat) : (s.bump f k).cores = s.cores := rfl
@[simp] theorem bump_l2 (s : State) (f : Fld) (k : Nat) : (s.bump f k).l2 = s.l2 := rfl
@[simp] theorem bump_hostOut (s : State) (f : Fld) (k : Nat) : (s.bump f k).hostOut = s.hostOut := rfl
@[simp] theorem bump_powerCycles (s : State) (f : Fld) (k : Nat) : (s.bump f k).powerCycles = s.powerCycles := rfl
@[simp] theorem bump_dieTemp (s : State) (f : Fld) (k : Nat) : (s.bump f k).dieTemp = s.dieTemp := rfl
@[simp] theorem bump_manifest (s : State) (f : Fld) (k : Nat) : (s.bump f k).manifest = s.manifest := rfl
@[simp] theorem bump_dict (s : State) (f : Fld) (k : Nat) : (s.bump f k).dict = s.dict := rfl
@[simp] theorem bump_locks (s : State) (f : Fld) (k : Nat) : (s.bump f k).locks = s.locks := rfl
@[simp] theorem bump_image (s : State) (f : Fld) (k : Nat) : (s.bump f k).image = s.image := rfl
@[simp] theorem bump_rcp (s : State) (f : Fld) (k : Nat) : (s.bump f k).rcp = s.rcp := rfl
@[simp] theorem bump_man (s : State) (f : Fld) (k : Nat) : (s.bump f k).man = s.man := rfl
@[simp] theorem bump_boot (s : State) (f : Fld) (k : Nat) : (s.bump f k).boot = s.boot := rfl
@[simp] theorem bump_pce (s : State) (f : Fld) (k : Nat) : (s.bump f k).pce = s.pce := rfl
@[simp] theorem bump_nvq (s : State) (f : Fld) (k : Nat) : (s.bump f k).nvq = s.nvq := rfl
@[simp] theorem bump_nvme (s : State) (f : Fld) (k : Nat) : (s.bump f k).nvme = s.nvme := rfl
@[simp] theorem bump_fni (s : State) (f : Fld) (k : Nat) : (s.bump f k).fni = s.fni := rfl
@[simp] theorem bump_journal (s : State) (f : Fld) (k : Nat) : (s.bump f k).journal = s.journal := rfl
@[simp] theorem bump_zones (s : State) (f : Fld) (k : Nat) : (s.bump f k).zones = s.zones := rfl

@[simp] theorem wrapUp_pending (s : State) (f : Fld) (k : Nat) : (s.wrapUp f k).pending = s.pending := rfl
@[simp] theorem wrapUp_variant1408 (s : State) (f : Fld) (k : Nat) : (s.wrapUp f k).variant1408 = s.variant1408 := rfl
@[simp] theorem wrapUp_power (s : State) (f : Fld) (k : Nat) : (s.wrapUp f k).power = s.power := rfl
@[simp] theorem wrapUp_tick (s : State) (f : Fld) (k : Nat) : (s.wrapUp f k).tick = s.tick := rfl
@[simp] theorem wrapUp_free (s : State) (f : Fld) (k : Nat) : (s.wrapUp f k).free = s.free := rfl
@[simp] theorem wrapUp_mem (s : State) (f : Fld) (k : Nat) : (s.wrapUp f k).mem = s.mem := rfl
@[simp] theorem wrapUp_resp (s : State) (f : Fld) (k : Nat) : (s.wrapUp f k).resp = s.resp := rfl
@[simp] theorem wrapUp_raised (s : State) (f : Fld) (k : Nat) : (s.wrapUp f k).raised = s.raised := rfl
@[simp] theorem wrapUp_pulses (s : State) (f : Fld) (k : Nat) : (s.wrapUp f k).pulses = s.pulses := rfl
@[simp] theorem wrapUp_evrQueue (s : State) (f : Fld) (k : Nat) : (s.wrapUp f k).evrQueue = s.evrQueue := rfl
@[simp] theorem wrapUp_opSeconds (s : State) (f : Fld) (k : Nat) : (s.wrapUp f k).opSeconds = s.opSeconds := rfl
@[simp] theorem wrapUp_psl (s : State) (f : Fld) (k : Nat) : (s.wrapUp f k).psl = s.psl := rfl
@[simp] theorem wrapUp_dc (s : State) (f : Fld) (k : Nat) : (s.wrapUp f k).dc = s.dc := rfl
@[simp] theorem wrapUp_wp (s : State) (f : Fld) (k : Nat) : (s.wrapUp f k).wp = s.wp := rfl
@[simp] theorem wrapUp_fms (s : State) (f : Fld) (k : Nat) : (s.wrapUp f k).fms = s.fms := rfl
@[simp] theorem wrapUp_svd (s : State) (f : Fld) (k : Nat) : (s.wrapUp f k).svd = s.svd := rfl
@[simp] theorem wrapUp_adl (s : State) (f : Fld) (k : Nat) : (s.wrapUp f k).adl = s.adl := rfl
@[simp] theorem wrapUp_cle (s : State) (f : Fld) (k : Nat) : (s.wrapUp f k).cle = s.cle := rfl
@[simp] theorem wrapUp_spm (s : State) (f : Fld) (k : Nat) : (s.wrapUp f k).spm = s.spm := rfl
@[simp] theorem wrapUp_memu (s : State) (f : Fld) (k : Nat) : (s.wrapUp f k).memu = s.memu := rfl
@[simp] theorem wrapUp_evr (s : State) (f : Fld) (k : Nat) : (s.wrapUp f k).evr = s.evr := rfl
@[simp] theorem wrapUp_flt (s : State) (f : Fld) (k : Nat) : (s.wrapUp f k).flt = s.flt := rfl
@[simp] theorem wrapUp_dma (s : State) (f : Fld) (k : Nat) : (s.wrapUp f k).dma = s.dma := rfl
@[simp] theorem wrapUp_cip (s : State) (f : Fld) (k : Nat) : (s.wrapUp f k).cip = s.cip := rfl
@[simp] theorem wrapUp_keys (s : State) (f : Fld) (k : Nat) : (s.wrapUp f k).keys = s.keys := rfl
@[simp] theorem wrapUp_sup (s : State) (f : Fld) (k : Nat) : (s.wrapUp f k).sup = s.sup := rfl
@[simp] theorem wrapUp_cores (s : State) (f : Fld) (k : Nat) : (s.wrapUp f k).cores = s.cores := rfl
@[simp] theorem wrapUp_l2 (s : State) (f : Fld) (k : Nat) : (s.wrapUp f k).l2 = s.l2 := rfl
@[simp] theorem wrapUp_hostOut (s : State) (f : Fld) (k : Nat) : (s.wrapUp f k).hostOut = s.hostOut := rfl
@[simp] theorem wrapUp_powerCycles (s : State) (f : Fld) (k : Nat) : (s.wrapUp f k).powerCycles = s.powerCycles := rfl
@[simp] theorem wrapUp_dieTemp (s : State) (f : Fld) (k : Nat) : (s.wrapUp f k).dieTemp = s.dieTemp := rfl
@[simp] theorem wrapUp_manifest (s : State) (f : Fld) (k : Nat) : (s.wrapUp f k).manifest = s.manifest := rfl
@[simp] theorem wrapUp_dict (s : State) (f : Fld) (k : Nat) : (s.wrapUp f k).dict = s.dict := rfl
@[simp] theorem wrapUp_locks (s : State) (f : Fld) (k : Nat) : (s.wrapUp f k).locks = s.locks := rfl
@[simp] theorem wrapUp_image (s : State) (f : Fld) (k : Nat) : (s.wrapUp f k).image = s.image := rfl
@[simp] theorem wrapUp_rcp (s : State) (f : Fld) (k : Nat) : (s.wrapUp f k).rcp = s.rcp := rfl
@[simp] theorem wrapUp_man (s : State) (f : Fld) (k : Nat) : (s.wrapUp f k).man = s.man := rfl
@[simp] theorem wrapUp_boot (s : State) (f : Fld) (k : Nat) : (s.wrapUp f k).boot = s.boot := rfl
@[simp] theorem wrapUp_pce (s : State) (f : Fld) (k : Nat) : (s.wrapUp f k).pce = s.pce := rfl
@[simp] theorem wrapUp_nvq (s : State) (f : Fld) (k : Nat) : (s.wrapUp f k).nvq = s.nvq := rfl
@[simp] theorem wrapUp_nvme (s : State) (f : Fld) (k : Nat) : (s.wrapUp f k).nvme = s.nvme := rfl
@[simp] theorem wrapUp_fni (s : State) (f : Fld) (k : Nat) : (s.wrapUp f k).fni = s.fni := rfl
@[simp] theorem wrapUp_journal (s : State) (f : Fld) (k : Nat) : (s.wrapUp f k).journal = s.journal := rfl
@[simp] theorem wrapUp_zones (s : State) (f : Fld) (k : Nat) : (s.wrapUp f k).zones = s.zones := rfl

@[simp] theorem raise_pending (s : State) (k : Nat) : (s.raise k).pending = s.pending := rfl
@[simp] theorem raise_variant1408 (s : State) (k : Nat) : (s.raise k).variant1408 = s.variant1408 := rfl
@[simp] theorem raise_power (s : State) (k : Nat) : (s.raise k).power = s.power := rfl
@[simp] theorem raise_tick (s : State) (k : Nat) : (s.raise k).tick = s.tick := rfl
@[simp] theorem raise_free (s : State) (k : Nat) : (s.raise k).free = s.free := rfl
@[simp] theorem raise_regs (s : State) (k : Nat) : (s.raise k).regs = s.regs := rfl
@[simp] theorem raise_mem (s : State) (k : Nat) : (s.raise k).mem = s.mem := rfl
@[simp] theorem raise_resp (s : State) (k : Nat) : (s.raise k).resp = s.resp := rfl
@[simp] theorem raise_pulses (s : State) (k : Nat) : (s.raise k).pulses = s.pulses := rfl
@[simp] theorem raise_evrQueue (s : State) (k : Nat) : (s.raise k).evrQueue = s.evrQueue := rfl
@[simp] theorem raise_opSeconds (s : State) (k : Nat) : (s.raise k).opSeconds = s.opSeconds := rfl
@[simp] theorem raise_psl (s : State) (k : Nat) : (s.raise k).psl = s.psl := rfl
@[simp] theorem raise_dc (s : State) (k : Nat) : (s.raise k).dc = s.dc := rfl
@[simp] theorem raise_wp (s : State) (k : Nat) : (s.raise k).wp = s.wp := rfl
@[simp] theorem raise_fms (s : State) (k : Nat) : (s.raise k).fms = s.fms := rfl
@[simp] theorem raise_svd (s : State) (k : Nat) : (s.raise k).svd = s.svd := rfl
@[simp] theorem raise_adl (s : State) (k : Nat) : (s.raise k).adl = s.adl := rfl
@[simp] theorem raise_cle (s : State) (k : Nat) : (s.raise k).cle = s.cle := rfl
@[simp] theorem raise_spm (s : State) (k : Nat) : (s.raise k).spm = s.spm := rfl
@[simp] theorem raise_memu (s : State) (k : Nat) : (s.raise k).memu = s.memu := rfl
@[simp] theorem raise_evr (s : State) (k : Nat) : (s.raise k).evr = s.evr := rfl
@[simp] theorem raise_flt (s : State) (k : Nat) : (s.raise k).flt = s.flt := rfl
@[simp] theorem raise_dma (s : State) (k : Nat) : (s.raise k).dma = s.dma := rfl
@[simp] theorem raise_cip (s : State) (k : Nat) : (s.raise k).cip = s.cip := rfl
@[simp] theorem raise_keys (s : State) (k : Nat) : (s.raise k).keys = s.keys := rfl
@[simp] theorem raise_sup (s : State) (k : Nat) : (s.raise k).sup = s.sup := rfl
@[simp] theorem raise_cores (s : State) (k : Nat) : (s.raise k).cores = s.cores := rfl
@[simp] theorem raise_l2 (s : State) (k : Nat) : (s.raise k).l2 = s.l2 := rfl
@[simp] theorem raise_hostOut (s : State) (k : Nat) : (s.raise k).hostOut = s.hostOut := rfl
@[simp] theorem raise_powerCycles (s : State) (k : Nat) : (s.raise k).powerCycles = s.powerCycles := rfl
@[simp] theorem raise_dieTemp (s : State) (k : Nat) : (s.raise k).dieTemp = s.dieTemp := rfl
@[simp] theorem raise_manifest (s : State) (k : Nat) : (s.raise k).manifest = s.manifest := rfl
@[simp] theorem raise_dict (s : State) (k : Nat) : (s.raise k).dict = s.dict := rfl
@[simp] theorem raise_locks (s : State) (k : Nat) : (s.raise k).locks = s.locks := rfl
@[simp] theorem raise_image (s : State) (k : Nat) : (s.raise k).image = s.image := rfl
@[simp] theorem raise_rcp (s : State) (k : Nat) : (s.raise k).rcp = s.rcp := rfl
@[simp] theorem raise_man (s : State) (k : Nat) : (s.raise k).man = s.man := rfl
@[simp] theorem raise_boot (s : State) (k : Nat) : (s.raise k).boot = s.boot := rfl
@[simp] theorem raise_pce (s : State) (k : Nat) : (s.raise k).pce = s.pce := rfl
@[simp] theorem raise_nvq (s : State) (k : Nat) : (s.raise k).nvq = s.nvq := rfl
@[simp] theorem raise_nvme (s : State) (k : Nat) : (s.raise k).nvme = s.nvme := rfl
@[simp] theorem raise_fni (s : State) (k : Nat) : (s.raise k).fni = s.fni := rfl
@[simp] theorem raise_journal (s : State) (k : Nat) : (s.raise k).journal = s.journal := rfl
@[simp] theorem raise_zones (s : State) (k : Nat) : (s.raise k).zones = s.zones := rfl

@[simp] theorem pulse_pending (s : State) (k : Nat) : (s.pulse k).pending = s.pending := rfl
@[simp] theorem pulse_variant1408 (s : State) (k : Nat) : (s.pulse k).variant1408 = s.variant1408 := rfl
@[simp] theorem pulse_power (s : State) (k : Nat) : (s.pulse k).power = s.power := rfl
@[simp] theorem pulse_tick (s : State) (k : Nat) : (s.pulse k).tick = s.tick := rfl
@[simp] theorem pulse_free (s : State) (k : Nat) : (s.pulse k).free = s.free := rfl
@[simp] theorem pulse_regs (s : State) (k : Nat) : (s.pulse k).regs = s.regs := rfl
@[simp] theorem pulse_mem (s : State) (k : Nat) : (s.pulse k).mem = s.mem := rfl
@[simp] theorem pulse_resp (s : State) (k : Nat) : (s.pulse k).resp = s.resp := rfl
@[simp] theorem pulse_raised (s : State) (k : Nat) : (s.pulse k).raised = s.raised := rfl
@[simp] theorem pulse_evrQueue (s : State) (k : Nat) : (s.pulse k).evrQueue = s.evrQueue := rfl
@[simp] theorem pulse_opSeconds (s : State) (k : Nat) : (s.pulse k).opSeconds = s.opSeconds := rfl
@[simp] theorem pulse_psl (s : State) (k : Nat) : (s.pulse k).psl = s.psl := rfl
@[simp] theorem pulse_dc (s : State) (k : Nat) : (s.pulse k).dc = s.dc := rfl
@[simp] theorem pulse_wp (s : State) (k : Nat) : (s.pulse k).wp = s.wp := rfl
@[simp] theorem pulse_fms (s : State) (k : Nat) : (s.pulse k).fms = s.fms := rfl
@[simp] theorem pulse_svd (s : State) (k : Nat) : (s.pulse k).svd = s.svd := rfl
@[simp] theorem pulse_adl (s : State) (k : Nat) : (s.pulse k).adl = s.adl := rfl
@[simp] theorem pulse_cle (s : State) (k : Nat) : (s.pulse k).cle = s.cle := rfl
@[simp] theorem pulse_spm (s : State) (k : Nat) : (s.pulse k).spm = s.spm := rfl
@[simp] theorem pulse_memu (s : State) (k : Nat) : (s.pulse k).memu = s.memu := rfl
@[simp] theorem pulse_evr (s : State) (k : Nat) : (s.pulse k).evr = s.evr := rfl
@[simp] theorem pulse_flt (s : State) (k : Nat) : (s.pulse k).flt = s.flt := rfl
@[simp] theorem pulse_dma (s : State) (k : Nat) : (s.pulse k).dma = s.dma := rfl
@[simp] theorem pulse_cip (s : State) (k : Nat) : (s.pulse k).cip = s.cip := rfl
@[simp] theorem pulse_keys (s : State) (k : Nat) : (s.pulse k).keys = s.keys := rfl
@[simp] theorem pulse_sup (s : State) (k : Nat) : (s.pulse k).sup = s.sup := rfl
@[simp] theorem pulse_cores (s : State) (k : Nat) : (s.pulse k).cores = s.cores := rfl
@[simp] theorem pulse_l2 (s : State) (k : Nat) : (s.pulse k).l2 = s.l2 := rfl
@[simp] theorem pulse_hostOut (s : State) (k : Nat) : (s.pulse k).hostOut = s.hostOut := rfl
@[simp] theorem pulse_powerCycles (s : State) (k : Nat) : (s.pulse k).powerCycles = s.powerCycles := rfl
@[simp] theorem pulse_dieTemp (s : State) (k : Nat) : (s.pulse k).dieTemp = s.dieTemp := rfl
@[simp] theorem pulse_manifest (s : State) (k : Nat) : (s.pulse k).manifest = s.manifest := rfl
@[simp] theorem pulse_dict (s : State) (k : Nat) : (s.pulse k).dict = s.dict := rfl
@[simp] theorem pulse_locks (s : State) (k : Nat) : (s.pulse k).locks = s.locks := rfl
@[simp] theorem pulse_image (s : State) (k : Nat) : (s.pulse k).image = s.image := rfl
@[simp] theorem pulse_rcp (s : State) (k : Nat) : (s.pulse k).rcp = s.rcp := rfl
@[simp] theorem pulse_man (s : State) (k : Nat) : (s.pulse k).man = s.man := rfl
@[simp] theorem pulse_boot (s : State) (k : Nat) : (s.pulse k).boot = s.boot := rfl
@[simp] theorem pulse_pce (s : State) (k : Nat) : (s.pulse k).pce = s.pce := rfl
@[simp] theorem pulse_nvq (s : State) (k : Nat) : (s.pulse k).nvq = s.nvq := rfl
@[simp] theorem pulse_nvme (s : State) (k : Nat) : (s.pulse k).nvme = s.nvme := rfl
@[simp] theorem pulse_fni (s : State) (k : Nat) : (s.pulse k).fni = s.fni := rfl
@[simp] theorem pulse_journal (s : State) (k : Nat) : (s.pulse k).journal = s.journal := rfl
@[simp] theorem pulse_zones (s : State) (k : Nat) : (s.pulse k).zones = s.zones := rfl

@[simp] theorem writeByte_pending (s : State) (a : Nat) (b : Byte) : (s.writeByte a b).pending = s.pending := rfl
@[simp] theorem writeByte_variant1408 (s : State) (a : Nat) (b : Byte) : (s.writeByte a b).variant1408 = s.variant1408 := rfl
@[simp] theorem writeByte_power (s : State) (a : Nat) (b : Byte) : (s.writeByte a b).power = s.power := rfl
@[simp] theorem writeByte_tick (s : State) (a : Nat) (b : Byte) : (s.writeByte a b).tick = s.tick := rfl
@[simp] theorem writeByte_free (s : State) (a : Nat) (b : Byte) : (s.writeByte a b).free = s.free := rfl
@[simp] theorem writeByte_regs (s : State) (a : Nat) (b : Byte) : (s.writeByte a b).regs = s.regs := rfl
@[simp] theorem writeByte_resp (s : State) (a : Nat) (b : Byte) : (s.writeByte a b).resp = s.resp := rfl
@[simp] theorem writeByte_raised (s : State) (a : Nat) (b : Byte) : (s.writeByte a b).raised = s.raised := rfl
@[simp] theorem writeByte_pulses (s : State) (a : Nat) (b : Byte) : (s.writeByte a b).pulses = s.pulses := rfl
@[simp] theorem writeByte_evrQueue (s : State) (a : Nat) (b : Byte) : (s.writeByte a b).evrQueue = s.evrQueue := rfl
@[simp] theorem writeByte_opSeconds (s : State) (a : Nat) (b : Byte) : (s.writeByte a b).opSeconds = s.opSeconds := rfl
@[simp] theorem writeByte_psl (s : State) (a : Nat) (b : Byte) : (s.writeByte a b).psl = s.psl := rfl
@[simp] theorem writeByte_dc (s : State) (a : Nat) (b : Byte) : (s.writeByte a b).dc = s.dc := rfl
@[simp] theorem writeByte_wp (s : State) (a : Nat) (b : Byte) : (s.writeByte a b).wp = s.wp := rfl
@[simp] theorem writeByte_fms (s : State) (a : Nat) (b : Byte) : (s.writeByte a b).fms = s.fms := rfl
@[simp] theorem writeByte_svd (s : State) (a : Nat) (b : Byte) : (s.writeByte a b).svd = s.svd := rfl
@[simp] theorem writeByte_adl (s : State) (a : Nat) (b : Byte) : (s.writeByte a b).adl = s.adl := rfl
@[simp] theorem writeByte_cle (s : State) (a : Nat) (b : Byte) : (s.writeByte a b).cle = s.cle := rfl
@[simp] theorem writeByte_spm (s : State) (a : Nat) (b : Byte) : (s.writeByte a b).spm = s.spm := rfl
@[simp] theorem writeByte_memu (s : State) (a : Nat) (b : Byte) : (s.writeByte a b).memu = s.memu := rfl
@[simp] theorem writeByte_evr (s : State) (a : Nat) (b : Byte) : (s.writeByte a b).evr = s.evr := rfl
@[simp] theorem writeByte_flt (s : State) (a : Nat) (b : Byte) : (s.writeByte a b).flt = s.flt := rfl
@[simp] theorem writeByte_dma (s : State) (a : Nat) (b : Byte) : (s.writeByte a b).dma = s.dma := rfl
@[simp] theorem writeByte_cip (s : State) (a : Nat) (b : Byte) : (s.writeByte a b).cip = s.cip := rfl
@[simp] theorem writeByte_keys (s : State) (a : Nat) (b : Byte) : (s.writeByte a b).keys = s.keys := rfl
@[simp] theorem writeByte_sup (s : State) (a : Nat) (b : Byte) : (s.writeByte a b).sup = s.sup := rfl
@[simp] theorem writeByte_cores (s : State) (a : Nat) (b : Byte) : (s.writeByte a b).cores = s.cores := rfl
@[simp] theorem writeByte_l2 (s : State) (a : Nat) (b : Byte) : (s.writeByte a b).l2 = s.l2 := rfl
@[simp] theorem writeByte_hostOut (s : State) (a : Nat) (b : Byte) : (s.writeByte a b).hostOut = s.hostOut := rfl
@[simp] theorem writeByte_powerCycles (s : State) (a : Nat) (b : Byte) : (s.writeByte a b).powerCycles = s.powerCycles := rfl
@[simp] theorem writeByte_dieTemp (s : State) (a : Nat) (b : Byte) : (s.writeByte a b).dieTemp = s.dieTemp := rfl
@[simp] theorem writeByte_manifest (s : State) (a : Nat) (b : Byte) : (s.writeByte a b).manifest = s.manifest := rfl
@[simp] theorem writeByte_dict (s : State) (a : Nat) (b : Byte) : (s.writeByte a b).dict = s.dict := rfl
@[simp] theorem writeByte_locks (s : State) (a : Nat) (b : Byte) : (s.writeByte a b).locks = s.locks := rfl
@[simp] theorem writeByte_image (s : State) (a : Nat) (b : Byte) : (s.writeByte a b).image = s.image := rfl
@[simp] theorem writeByte_rcp (s : State) (a : Nat) (b : Byte) : (s.writeByte a b).rcp = s.rcp := rfl
@[simp] theorem writeByte_man (s : State) (a : Nat) (b : Byte) : (s.writeByte a b).man = s.man := rfl
@[simp] theorem writeByte_boot (s : State) (a : Nat) (b : Byte) : (s.writeByte a b).boot = s.boot := rfl
@[simp] theorem writeByte_pce (s : State) (a : Nat) (b : Byte) : (s.writeByte a b).pce = s.pce := rfl
@[simp] theorem writeByte_nvq (s : State) (a : Nat) (b : Byte) : (s.writeByte a b).nvq = s.nvq := rfl
@[simp] theorem writeByte_nvme (s : State) (a : Nat) (b : Byte) : (s.writeByte a b).nvme = s.nvme := rfl
@[simp] theorem writeByte_fni (s : State) (a : Nat) (b : Byte) : (s.writeByte a b).fni = s.fni := rfl
@[simp] theorem writeByte_journal (s : State) (a : Nat) (b : Byte) : (s.writeByte a b).journal = s.journal := rfl
@[simp] theorem writeByte_zones (s : State) (a : Nat) (b : Byte) : (s.writeByte a b).zones = s.zones := rfl

@[simp] theorem clearMarks_pending (s : State) (a n : Nat) : (s.clearMarks a n).pending = s.pending := rfl
@[simp] theorem clearMarks_variant1408 (s : State) (a n : Nat) : (s.clearMarks a n).variant1408 = s.variant1408 := rfl
@[simp] theorem clearMarks_power (s : State) (a n : Nat) : (s.clearMarks a n).power = s.power := rfl
@[simp] theorem clearMarks_tick (s : State) (a n : Nat) : (s.clearMarks a n).tick = s.tick := rfl
@[simp] theorem clearMarks_free (s : State) (a n : Nat) : (s.clearMarks a n).free = s.free := rfl
@[simp] theorem clearMarks_regs (s : State) (a n : Nat) : (s.clearMarks a n).regs = s.regs := rfl
@[simp] theorem clearMarks_mem (s : State) (a n : Nat) : (s.clearMarks a n).mem = s.mem := rfl
@[simp] theorem clearMarks_resp (s : State) (a n : Nat) : (s.clearMarks a n).resp = s.resp := rfl
@[simp] theorem clearMarks_raised (s : State) (a n : Nat) : (s.clearMarks a n).raised = s.raised := rfl
@[simp] theorem clearMarks_pulses (s : State) (a n : Nat) : (s.clearMarks a n).pulses = s.pulses := rfl
@[simp] theorem clearMarks_evrQueue (s : State) (a n : Nat) : (s.clearMarks a n).evrQueue = s.evrQueue := rfl
@[simp] theorem clearMarks_opSeconds (s : State) (a n : Nat) : (s.clearMarks a n).opSeconds = s.opSeconds := rfl
@[simp] theorem clearMarks_psl (s : State) (a n : Nat) : (s.clearMarks a n).psl = s.psl := rfl
@[simp] theorem clearMarks_dc (s : State) (a n : Nat) : (s.clearMarks a n).dc = s.dc := rfl
@[simp] theorem clearMarks_wp (s : State) (a n : Nat) : (s.clearMarks a n).wp = s.wp := rfl
@[simp] theorem clearMarks_fms (s : State) (a n : Nat) : (s.clearMarks a n).fms = s.fms := rfl
@[simp] theorem clearMarks_svd (s : State) (a n : Nat) : (s.clearMarks a n).svd = s.svd := rfl
@[simp] theorem clearMarks_adl (s : State) (a n : Nat) : (s.clearMarks a n).adl = s.adl := rfl
@[simp] theorem clearMarks_cle (s : State) (a n : Nat) : (s.clearMarks a n).cle = s.cle := rfl
@[simp] theorem clearMarks_spm (s : State) (a n : Nat) : (s.clearMarks a n).spm = s.spm := rfl
@[simp] theorem clearMarks_evr (s : State) (a n : Nat) : (s.clearMarks a n).evr = s.evr := rfl
@[simp] theorem clearMarks_flt (s : State) (a n : Nat) : (s.clearMarks a n).flt = s.flt := rfl
@[simp] theorem clearMarks_dma (s : State) (a n : Nat) : (s.clearMarks a n).dma = s.dma := rfl
@[simp] theorem clearMarks_cip (s : State) (a n : Nat) : (s.clearMarks a n).cip = s.cip := rfl
@[simp] theorem clearMarks_keys (s : State) (a n : Nat) : (s.clearMarks a n).keys = s.keys := rfl
@[simp] theorem clearMarks_sup (s : State) (a n : Nat) : (s.clearMarks a n).sup = s.sup := rfl
@[simp] theorem clearMarks_cores (s : State) (a n : Nat) : (s.clearMarks a n).cores = s.cores := rfl
@[simp] theorem clearMarks_l2 (s : State) (a n : Nat) : (s.clearMarks a n).l2 = s.l2 := rfl
@[simp] theorem clearMarks_hostOut (s : State) (a n : Nat) : (s.clearMarks a n).hostOut = s.hostOut := rfl
@[simp] theorem clearMarks_powerCycles (s : State) (a n : Nat) : (s.clearMarks a n).powerCycles = s.powerCycles := rfl
@[simp] theorem clearMarks_dieTemp (s : State) (a n : Nat) : (s.clearMarks a n).dieTemp = s.dieTemp := rfl
@[simp] theorem clearMarks_manifest (s : State) (a n : Nat) : (s.clearMarks a n).manifest = s.manifest := rfl
@[simp] theorem clearMarks_dict (s : State) (a n : Nat) : (s.clearMarks a n).dict = s.dict := rfl
@[simp] theorem clearMarks_locks (s : State) (a n : Nat) : (s.clearMarks a n).locks = s.locks := rfl
@[simp] theorem clearMarks_image (s : State) (a n : Nat) : (s.clearMarks a n).image = s.image := rfl
@[simp] theorem clearMarks_rcp (s : State) (a n : Nat) : (s.clearMarks a n).rcp = s.rcp := rfl
@[simp] theorem clearMarks_man (s : State) (a n : Nat) : (s.clearMarks a n).man = s.man := rfl
@[simp] theorem clearMarks_boot (s : State) (a n : Nat) : (s.clearMarks a n).boot = s.boot := rfl
@[simp] theorem clearMarks_pce (s : State) (a n : Nat) : (s.clearMarks a n).pce = s.pce := rfl
@[simp] theorem clearMarks_nvq (s : State) (a n : Nat) : (s.clearMarks a n).nvq = s.nvq := rfl
@[simp] theorem clearMarks_nvme (s : State) (a n : Nat) : (s.clearMarks a n).nvme = s.nvme := rfl
@[simp] theorem clearMarks_fni (s : State) (a n : Nat) : (s.clearMarks a n).fni = s.fni := rfl
@[simp] theorem clearMarks_journal (s : State) (a n : Nat) : (s.clearMarks a n).journal = s.journal := rfl
@[simp] theorem clearMarks_zones (s : State) (a n : Nat) : (s.clearMarks a n).zones = s.zones := rfl

@[simp] theorem modPsl_pending (s : State) (n : Fin 2) (g : PslLink → PslLink) : (s.modPsl n g).pending = s.pending := rfl
@[simp] theorem modPsl_variant1408 (s : State) (n : Fin 2) (g : PslLink → PslLink) : (s.modPsl n g).variant1408 = s.variant1408 := rfl
@[simp] theorem modPsl_power (s : State) (n : Fin 2) (g : PslLink → PslLink) : (s.modPsl n g).power = s.power := rfl
@[simp] theorem modPsl_tick (s : State) (n : Fin 2) (g : PslLink → PslLink) : (s.modPsl n g).tick = s.tick := rfl
@[simp] theorem modPsl_free (s : State) (n : Fin 2) (g : PslLink → PslLink) : (s.modPsl n g).free = s.free := rfl
@[simp] theorem modPsl_regs (s : State) (n : Fin 2) (g : PslLink → PslLink) : (s.modPsl n g).regs = s.regs := rfl
@[simp] theorem modPsl_mem (s : State) (n : Fin 2) (g : PslLink → PslLink) : (s.modPsl n g).mem = s.mem := rfl
@[simp] theorem modPsl_resp (s : State) (n : Fin 2) (g : PslLink → PslLink) : (s.modPsl n g).resp = s.resp := rfl
@[simp] theorem modPsl_raised (s : State) (n : Fin 2) (g : PslLink → PslLink) : (s.modPsl n g).raised = s.raised := rfl
@[simp] theorem modPsl_pulses (s : State) (n : Fin 2) (g : PslLink → PslLink) : (s.modPsl n g).pulses = s.pulses := rfl
@[simp] theorem modPsl_evrQueue (s : State) (n : Fin 2) (g : PslLink → PslLink) : (s.modPsl n g).evrQueue = s.evrQueue := rfl
@[simp] theorem modPsl_opSeconds (s : State) (n : Fin 2) (g : PslLink → PslLink) : (s.modPsl n g).opSeconds = s.opSeconds := rfl
@[simp] theorem modPsl_dc (s : State) (n : Fin 2) (g : PslLink → PslLink) : (s.modPsl n g).dc = s.dc := rfl
@[simp] theorem modPsl_wp (s : State) (n : Fin 2) (g : PslLink → PslLink) : (s.modPsl n g).wp = s.wp := rfl
@[simp] theorem modPsl_fms (s : State) (n : Fin 2) (g : PslLink → PslLink) : (s.modPsl n g).fms = s.fms := rfl
@[simp] theorem modPsl_svd (s : State) (n : Fin 2) (g : PslLink → PslLink) : (s.modPsl n g).svd = s.svd := rfl
@[simp] theorem modPsl_adl (s : State) (n : Fin 2) (g : PslLink → PslLink) : (s.modPsl n g).adl = s.adl := rfl
@[simp] theorem modPsl_cle (s : State) (n : Fin 2) (g : PslLink → PslLink) : (s.modPsl n g).cle = s.cle := rfl
@[simp] theorem modPsl_spm (s : State) (n : Fin 2) (g : PslLink → PslLink) : (s.modPsl n g).spm = s.spm := rfl
@[simp] theorem modPsl_memu (s : State) (n : Fin 2) (g : PslLink → PslLink) : (s.modPsl n g).memu = s.memu := rfl
@[simp] theorem modPsl_evr (s : State) (n : Fin 2) (g : PslLink → PslLink) : (s.modPsl n g).evr = s.evr := rfl
@[simp] theorem modPsl_flt (s : State) (n : Fin 2) (g : PslLink → PslLink) : (s.modPsl n g).flt = s.flt := rfl
@[simp] theorem modPsl_dma (s : State) (n : Fin 2) (g : PslLink → PslLink) : (s.modPsl n g).dma = s.dma := rfl
@[simp] theorem modPsl_cip (s : State) (n : Fin 2) (g : PslLink → PslLink) : (s.modPsl n g).cip = s.cip := rfl
@[simp] theorem modPsl_keys (s : State) (n : Fin 2) (g : PslLink → PslLink) : (s.modPsl n g).keys = s.keys := rfl
@[simp] theorem modPsl_sup (s : State) (n : Fin 2) (g : PslLink → PslLink) : (s.modPsl n g).sup = s.sup := rfl
@[simp] theorem modPsl_cores (s : State) (n : Fin 2) (g : PslLink → PslLink) : (s.modPsl n g).cores = s.cores := rfl
@[simp] theorem modPsl_l2 (s : State) (n : Fin 2) (g : PslLink → PslLink) : (s.modPsl n g).l2 = s.l2 := rfl
@[simp] theorem modPsl_hostOut (s : State) (n : Fin 2) (g : PslLink → PslLink) : (s.modPsl n g).hostOut = s.hostOut := rfl
@[simp] theorem modPsl_powerCycles (s : State) (n : Fin 2) (g : PslLink → PslLink) : (s.modPsl n g).powerCycles = s.powerCycles := rfl
@[simp] theorem modPsl_dieTemp (s : State) (n : Fin 2) (g : PslLink → PslLink) : (s.modPsl n g).dieTemp = s.dieTemp := rfl
@[simp] theorem modPsl_manifest (s : State) (n : Fin 2) (g : PslLink → PslLink) : (s.modPsl n g).manifest = s.manifest := rfl
@[simp] theorem modPsl_dict (s : State) (n : Fin 2) (g : PslLink → PslLink) : (s.modPsl n g).dict = s.dict := rfl
@[simp] theorem modPsl_locks (s : State) (n : Fin 2) (g : PslLink → PslLink) : (s.modPsl n g).locks = s.locks := rfl
@[simp] theorem modPsl_image (s : State) (n : Fin 2) (g : PslLink → PslLink) : (s.modPsl n g).image = s.image := rfl
@[simp] theorem modPsl_rcp (s : State) (n : Fin 2) (g : PslLink → PslLink) : (s.modPsl n g).rcp = s.rcp := rfl
@[simp] theorem modPsl_man (s : State) (n : Fin 2) (g : PslLink → PslLink) : (s.modPsl n g).man = s.man := rfl
@[simp] theorem modPsl_boot (s : State) (n : Fin 2) (g : PslLink → PslLink) : (s.modPsl n g).boot = s.boot := rfl
@[simp] theorem modPsl_pce (s : State) (n : Fin 2) (g : PslLink → PslLink) : (s.modPsl n g).pce = s.pce := rfl
@[simp] theorem modPsl_nvq (s : State) (n : Fin 2) (g : PslLink → PslLink) : (s.modPsl n g).nvq = s.nvq := rfl
@[simp] theorem modPsl_nvme (s : State) (n : Fin 2) (g : PslLink → PslLink) : (s.modPsl n g).nvme = s.nvme := rfl
@[simp] theorem modPsl_fni (s : State) (n : Fin 2) (g : PslLink → PslLink) : (s.modPsl n g).fni = s.fni := rfl
@[simp] theorem modPsl_journal (s : State) (n : Fin 2) (g : PslLink → PslLink) : (s.modPsl n g).journal = s.journal := rfl
@[simp] theorem modPsl_zones (s : State) (n : Fin 2) (g : PslLink → PslLink) : (s.modPsl n g).zones = s.zones := rfl

@[simp] theorem modDc_pending (s : State) (n : Fin 4) (g : DcChan → DcChan) : (s.modDc n g).pending = s.pending := rfl
@[simp] theorem modDc_variant1408 (s : State) (n : Fin 4) (g : DcChan → DcChan) : (s.modDc n g).variant1408 = s.variant1408 := rfl
@[simp] theorem modDc_power (s : State) (n : Fin 4) (g : DcChan → DcChan) : (s.modDc n g).power = s.power := rfl
@[simp] theorem modDc_tick (s : State) (n : Fin 4) (g : DcChan → DcChan) : (s.modDc n g).tick = s.tick := rfl
@[simp] theorem modDc_free (s : State) (n : Fin 4) (g : DcChan → DcChan) : (s.modDc n g).free = s.free := rfl
@[simp] theorem modDc_regs (s : State) (n : Fin 4) (g : DcChan → DcChan) : (s.modDc n g).regs = s.regs := rfl
@[simp] theorem modDc_mem (s : State) (n : Fin 4) (g : DcChan → DcChan) : (s.modDc n g).mem = s.mem := rfl
@[simp] theorem modDc_resp (s : State) (n : Fin 4) (g : DcChan → DcChan) : (s.modDc n g).resp = s.resp := rfl
@[simp] theorem modDc_raised (s : State) (n : Fin 4) (g : DcChan → DcChan) : (s.modDc n g).raised = s.raised := rfl
@[simp] theorem modDc_pulses (s : State) (n : Fin 4) (g : DcChan → DcChan) : (s.modDc n g).pulses = s.pulses := rfl
@[simp] theorem modDc_evrQueue (s : State) (n : Fin 4) (g : DcChan → DcChan) : (s.modDc n g).evrQueue = s.evrQueue := rfl
@[simp] theorem modDc_opSeconds (s : State) (n : Fin 4) (g : DcChan → DcChan) : (s.modDc n g).opSeconds = s.opSeconds := rfl
@[simp] theorem modDc_psl (s : State) (n : Fin 4) (g : DcChan → DcChan) : (s.modDc n g).psl = s.psl := rfl
@[simp] theorem modDc_wp (s : State) (n : Fin 4) (g : DcChan → DcChan) : (s.modDc n g).wp = s.wp := rfl
@[simp] theorem modDc_fms (s : State) (n : Fin 4) (g : DcChan → DcChan) : (s.modDc n g).fms = s.fms := rfl
@[simp] theorem modDc_svd (s : State) (n : Fin 4) (g : DcChan → DcChan) : (s.modDc n g).svd = s.svd := rfl
@[simp] theorem modDc_adl (s : State) (n : Fin 4) (g : DcChan → DcChan) : (s.modDc n g).adl = s.adl := rfl
@[simp] theorem modDc_cle (s : State) (n : Fin 4) (g : DcChan → DcChan) : (s.modDc n g).cle = s.cle := rfl
@[simp] theorem modDc_spm (s : State) (n : Fin 4) (g : DcChan → DcChan) : (s.modDc n g).spm = s.spm := rfl
@[simp] theorem modDc_memu (s : State) (n : Fin 4) (g : DcChan → DcChan) : (s.modDc n g).memu = s.memu := rfl
@[simp] theorem modDc_evr (s : State) (n : Fin 4) (g : DcChan → DcChan) : (s.modDc n g).evr = s.evr := rfl
@[simp] theorem modDc_flt (s : State) (n : Fin 4) (g : DcChan → DcChan) : (s.modDc n g).flt = s.flt := rfl
@[simp] theorem modDc_dma (s : State) (n : Fin 4) (g : DcChan → DcChan) : (s.modDc n g).dma = s.dma := rfl
@[simp] theorem modDc_cip (s : State) (n : Fin 4) (g : DcChan → DcChan) : (s.modDc n g).cip = s.cip := rfl
@[simp] theorem modDc_keys (s : State) (n : Fin 4) (g : DcChan → DcChan) : (s.modDc n g).keys = s.keys := rfl
@[simp] theorem modDc_sup (s : State) (n : Fin 4) (g : DcChan → DcChan) : (s.modDc n g).sup = s.sup := rfl
@[simp] theorem modDc_cores (s : State) (n : Fin 4) (g : DcChan → DcChan) : (s.modDc n g).cores = s.cores := rfl
@[simp] theorem modDc_l2 (s : State) (n : Fin 4) (g : DcChan → DcChan) : (s.modDc n g).l2 = s.l2 := rfl
@[simp] theorem modDc_hostOut (s : State) (n : Fin 4) (g : DcChan → DcChan) : (s.modDc n g).hostOut = s.hostOut := rfl
@[simp] theorem modDc_powerCycles (s : State) (n : Fin 4) (g : DcChan → DcChan) : (s.modDc n g).powerCycles = s.powerCycles := rfl
@[simp] theorem modDc_dieTemp (s : State) (n : Fin 4) (g : DcChan → DcChan) : (s.modDc n g).dieTemp = s.dieTemp := rfl
@[simp] theorem modDc_manifest (s : State) (n : Fin 4) (g : DcChan → DcChan) : (s.modDc n g).manifest = s.manifest := rfl
@[simp] theorem modDc_dict (s : State) (n : Fin 4) (g : DcChan → DcChan) : (s.modDc n g).dict = s.dict := rfl
@[simp] theorem modDc_locks (s : State) (n : Fin 4) (g : DcChan → DcChan) : (s.modDc n g).locks = s.locks := rfl
@[simp] theorem modDc_image (s : State) (n : Fin 4) (g : DcChan → DcChan) : (s.modDc n g).image = s.image := rfl
@[simp] theorem modDc_rcp (s : State) (n : Fin 4) (g : DcChan → DcChan) : (s.modDc n g).rcp = s.rcp := rfl
@[simp] theorem modDc_man (s : State) (n : Fin 4) (g : DcChan → DcChan) : (s.modDc n g).man = s.man := rfl
@[simp] theorem modDc_boot (s : State) (n : Fin 4) (g : DcChan → DcChan) : (s.modDc n g).boot = s.boot := rfl
@[simp] theorem modDc_pce (s : State) (n : Fin 4) (g : DcChan → DcChan) : (s.modDc n g).pce = s.pce := rfl
@[simp] theorem modDc_nvq (s : State) (n : Fin 4) (g : DcChan → DcChan) : (s.modDc n g).nvq = s.nvq := rfl
@[simp] theorem modDc_nvme (s : State) (n : Fin 4) (g : DcChan → DcChan) : (s.modDc n g).nvme = s.nvme := rfl
@[simp] theorem modDc_fni (s : State) (n : Fin 4) (g : DcChan → DcChan) : (s.modDc n g).fni = s.fni := rfl
@[simp] theorem modDc_journal (s : State) (n : Fin 4) (g : DcChan → DcChan) : (s.modDc n g).journal = s.journal := rfl
@[simp] theorem modDc_zones (s : State) (n : Fin 4) (g : DcChan → DcChan) : (s.modDc n g).zones = s.zones := rfl

@[simp] theorem modWp_pending (s : State) (n : Fin 2) (g : WpPath → WpPath) : (s.modWp n g).pending = s.pending := rfl
@[simp] theorem modWp_variant1408 (s : State) (n : Fin 2) (g : WpPath → WpPath) : (s.modWp n g).variant1408 = s.variant1408 := rfl
@[simp] theorem modWp_power (s : State) (n : Fin 2) (g : WpPath → WpPath) : (s.modWp n g).power = s.power := rfl
@[simp] theorem modWp_tick (s : State) (n : Fin 2) (g : WpPath → WpPath) : (s.modWp n g).tick = s.tick := rfl
@[simp] theorem modWp_free (s : State) (n : Fin 2) (g : WpPath → WpPath) : (s.modWp n g).free = s.free := rfl
@[simp] theorem modWp_regs (s : State) (n : Fin 2) (g : WpPath → WpPath) : (s.modWp n g).regs = s.regs := rfl
@[simp] theorem modWp_mem (s : State) (n : Fin 2) (g : WpPath → WpPath) : (s.modWp n g).mem = s.mem := rfl
@[simp] theorem modWp_resp (s : State) (n : Fin 2) (g : WpPath → WpPath) : (s.modWp n g).resp = s.resp := rfl
@[simp] theorem modWp_raised (s : State) (n : Fin 2) (g : WpPath → WpPath) : (s.modWp n g).raised = s.raised := rfl
@[simp] theorem modWp_pulses (s : State) (n : Fin 2) (g : WpPath → WpPath) : (s.modWp n g).pulses = s.pulses := rfl
@[simp] theorem modWp_evrQueue (s : State) (n : Fin 2) (g : WpPath → WpPath) : (s.modWp n g).evrQueue = s.evrQueue := rfl
@[simp] theorem modWp_opSeconds (s : State) (n : Fin 2) (g : WpPath → WpPath) : (s.modWp n g).opSeconds = s.opSeconds := rfl
@[simp] theorem modWp_psl (s : State) (n : Fin 2) (g : WpPath → WpPath) : (s.modWp n g).psl = s.psl := rfl
@[simp] theorem modWp_dc (s : State) (n : Fin 2) (g : WpPath → WpPath) : (s.modWp n g).dc = s.dc := rfl
@[simp] theorem modWp_fms (s : State) (n : Fin 2) (g : WpPath → WpPath) : (s.modWp n g).fms = s.fms := rfl
@[simp] theorem modWp_svd (s : State) (n : Fin 2) (g : WpPath → WpPath) : (s.modWp n g).svd = s.svd := rfl
@[simp] theorem modWp_adl (s : State) (n : Fin 2) (g : WpPath → WpPath) : (s.modWp n g).adl = s.adl := rfl
@[simp] theorem modWp_cle (s : State) (n : Fin 2) (g : WpPath → WpPath) : (s.modWp n g).cle = s.cle := rfl
@[simp] theorem modWp_spm (s : State) (n : Fin 2) (g : WpPath → WpPath) : (s.modWp n g).spm = s.spm := rfl
@[simp] theorem modWp_memu (s : State) (n : Fin 2) (g : WpPath → WpPath) : (s.modWp n g).memu = s.memu := rfl
@[simp] theorem modWp_evr (s : State) (n : Fin 2) (g : WpPath → WpPath) : (s.modWp n g).evr = s.evr := rfl
@[simp] theorem modWp_flt (s : State) (n : Fin 2) (g : WpPath → WpPath) : (s.modWp n g).flt = s.flt := rfl
@[simp] theorem modWp_dma (s : State) (n : Fin 2) (g : WpPath → WpPath) : (s.modWp n g).dma = s.dma := rfl
@[simp] theorem modWp_cip (s : State) (n : Fin 2) (g : WpPath → WpPath) : (s.modWp n g).cip = s.cip := rfl
@[simp] theorem modWp_keys (s : State) (n : Fin 2) (g : WpPath → WpPath) : (s.modWp n g).keys = s.keys := rfl
@[simp] theorem modWp_sup (s : State) (n : Fin 2) (g : WpPath → WpPath) : (s.modWp n g).sup = s.sup := rfl
@[simp] theorem modWp_cores (s : State) (n : Fin 2) (g : WpPath → WpPath) : (s.modWp n g).cores = s.cores := rfl
@[simp] theorem modWp_l2 (s : State) (n : Fin 2) (g : WpPath → WpPath) : (s.modWp n g).l2 = s.l2 := rfl
@[simp] theorem modWp_hostOut (s : State) (n : Fin 2) (g : WpPath → WpPath) : (s.modWp n g).hostOut = s.hostOut := rfl
@[simp] theorem modWp_powerCycles (s : State) (n : Fin 2) (g : WpPath → WpPath) : (s.modWp n g).powerCycles = s.powerCycles := rfl
@[simp] theorem modWp_dieTemp (s : State) (n : Fin 2) (g : WpPath → WpPath) : (s.modWp n g).dieTemp = s.dieTemp := rfl
@[simp] theorem modWp_manifest (s : State) (n : Fin 2) (g : WpPath → WpPath) : (s.modWp n g).manifest = s.manifest := rfl
@[simp] theorem modWp_dict (s : State) (n : Fin 2) (g : WpPath → WpPath) : (s.modWp n g).dict = s.dict := rfl
@[simp] theorem modWp_locks (s : State) (n : Fin 2) (g : WpPath → WpPath) : (s.modWp n g).locks = s.locks := rfl
@[simp] theorem modWp_image (s : State) (n : Fin 2) (g : WpPath → WpPath) : (s.modWp n g).image = s.image := rfl
@[simp] theorem modWp_rcp (s : State) (n : Fin 2) (g : WpPath → WpPath) : (s.modWp n g).rcp = s.rcp := rfl
@[simp] theorem modWp_man (s : State) (n : Fin 2) (g : WpPath → WpPath) : (s.modWp n g).man = s.man := rfl
@[simp] theorem modWp_boot (s : State) (n : Fin 2) (g : WpPath → WpPath) : (s.modWp n g).boot = s.boot := rfl
@[simp] theorem modWp_pce (s : State) (n : Fin 2) (g : WpPath → WpPath) : (s.modWp n g).pce = s.pce := rfl
@[simp] theorem modWp_nvq (s : State) (n : Fin 2) (g : WpPath → WpPath) : (s.modWp n g).nvq = s.nvq := rfl
@[simp] theorem modWp_nvme (s : State) (n : Fin 2) (g : WpPath → WpPath) : (s.modWp n g).nvme = s.nvme := rfl
@[simp] theorem modWp_fni (s : State) (n : Fin 2) (g : WpPath → WpPath) : (s.modWp n g).fni = s.fni := rfl
@[simp] theorem modWp_journal (s : State) (n : Fin 2) (g : WpPath → WpPath) : (s.modWp n g).journal = s.journal := rfl
@[simp] theorem modWp_zones (s : State) (n : Fin 2) (g : WpPath → WpPath) : (s.modWp n g).zones = s.zones := rfl

@[simp] theorem modFms_pending (s : State) (n : Fin 2) (g : FmsSeq → FmsSeq) : (s.modFms n g).pending = s.pending := rfl
@[simp] theorem modFms_variant1408 (s : State) (n : Fin 2) (g : FmsSeq → FmsSeq) : (s.modFms n g).variant1408 = s.variant1408 := rfl
@[simp] theorem modFms_power (s : State) (n : Fin 2) (g : FmsSeq → FmsSeq) : (s.modFms n g).power = s.power := rfl
@[simp] theorem modFms_tick (s : State) (n : Fin 2) (g : FmsSeq → FmsSeq) : (s.modFms n g).tick = s.tick := rfl
@[simp] theorem modFms_free (s : State) (n : Fin 2) (g : FmsSeq → FmsSeq) : (s.modFms n g).free = s.free := rfl
@[simp] theorem modFms_regs (s : State) (n : Fin 2) (g : FmsSeq → FmsSeq) : (s.modFms n g).regs = s.regs := rfl
@[simp] theorem modFms_mem (s : State) (n : Fin 2) (g : FmsSeq → FmsSeq) : (s.modFms n g).mem = s.mem := rfl
@[simp] theorem modFms_resp (s : State) (n : Fin 2) (g : FmsSeq → FmsSeq) : (s.modFms n g).resp = s.resp := rfl
@[simp] theorem modFms_raised (s : State) (n : Fin 2) (g : FmsSeq → FmsSeq) : (s.modFms n g).raised = s.raised := rfl
@[simp] theorem modFms_pulses (s : State) (n : Fin 2) (g : FmsSeq → FmsSeq) : (s.modFms n g).pulses = s.pulses := rfl
@[simp] theorem modFms_evrQueue (s : State) (n : Fin 2) (g : FmsSeq → FmsSeq) : (s.modFms n g).evrQueue = s.evrQueue := rfl
@[simp] theorem modFms_opSeconds (s : State) (n : Fin 2) (g : FmsSeq → FmsSeq) : (s.modFms n g).opSeconds = s.opSeconds := rfl
@[simp] theorem modFms_psl (s : State) (n : Fin 2) (g : FmsSeq → FmsSeq) : (s.modFms n g).psl = s.psl := rfl
@[simp] theorem modFms_dc (s : State) (n : Fin 2) (g : FmsSeq → FmsSeq) : (s.modFms n g).dc = s.dc := rfl
@[simp] theorem modFms_wp (s : State) (n : Fin 2) (g : FmsSeq → FmsSeq) : (s.modFms n g).wp = s.wp := rfl
@[simp] theorem modFms_svd (s : State) (n : Fin 2) (g : FmsSeq → FmsSeq) : (s.modFms n g).svd = s.svd := rfl
@[simp] theorem modFms_adl (s : State) (n : Fin 2) (g : FmsSeq → FmsSeq) : (s.modFms n g).adl = s.adl := rfl
@[simp] theorem modFms_cle (s : State) (n : Fin 2) (g : FmsSeq → FmsSeq) : (s.modFms n g).cle = s.cle := rfl
@[simp] theorem modFms_spm (s : State) (n : Fin 2) (g : FmsSeq → FmsSeq) : (s.modFms n g).spm = s.spm := rfl
@[simp] theorem modFms_memu (s : State) (n : Fin 2) (g : FmsSeq → FmsSeq) : (s.modFms n g).memu = s.memu := rfl
@[simp] theorem modFms_evr (s : State) (n : Fin 2) (g : FmsSeq → FmsSeq) : (s.modFms n g).evr = s.evr := rfl
@[simp] theorem modFms_flt (s : State) (n : Fin 2) (g : FmsSeq → FmsSeq) : (s.modFms n g).flt = s.flt := rfl
@[simp] theorem modFms_dma (s : State) (n : Fin 2) (g : FmsSeq → FmsSeq) : (s.modFms n g).dma = s.dma := rfl
@[simp] theorem modFms_cip (s : State) (n : Fin 2) (g : FmsSeq → FmsSeq) : (s.modFms n g).cip = s.cip := rfl
@[simp] theorem modFms_keys (s : State) (n : Fin 2) (g : FmsSeq → FmsSeq) : (s.modFms n g).keys = s.keys := rfl
@[simp] theorem modFms_sup (s : State) (n : Fin 2) (g : FmsSeq → FmsSeq) : (s.modFms n g).sup = s.sup := rfl
@[simp] theorem modFms_cores (s : State) (n : Fin 2) (g : FmsSeq → FmsSeq) : (s.modFms n g).cores = s.cores := rfl
@[simp] theorem modFms_l2 (s : State) (n : Fin 2) (g : FmsSeq → FmsSeq) : (s.modFms n g).l2 = s.l2 := rfl
@[simp] theorem modFms_hostOut (s : State) (n : Fin 2) (g : FmsSeq → FmsSeq) : (s.modFms n g).hostOut = s.hostOut := rfl
@[simp] theorem modFms_powerCycles (s : State) (n : Fin 2) (g : FmsSeq → FmsSeq) : (s.modFms n g).powerCycles = s.powerCycles := rfl
@[simp] theorem modFms_dieTemp (s : State) (n : Fin 2) (g : FmsSeq → FmsSeq) : (s.modFms n g).dieTemp = s.dieTemp := rfl
@[simp] theorem modFms_manifest (s : State) (n : Fin 2) (g : FmsSeq → FmsSeq) : (s.modFms n g).manifest = s.manifest := rfl
@[simp] theorem modFms_dict (s : State) (n : Fin 2) (g : FmsSeq → FmsSeq) : (s.modFms n g).dict = s.dict := rfl
@[simp] theorem modFms_locks (s : State) (n : Fin 2) (g : FmsSeq → FmsSeq) : (s.modFms n g).locks = s.locks := rfl
@[simp] theorem modFms_image (s : State) (n : Fin 2) (g : FmsSeq → FmsSeq) : (s.modFms n g).image = s.image := rfl
@[simp] theorem modFms_rcp (s : State) (n : Fin 2) (g : FmsSeq → FmsSeq) : (s.modFms n g).rcp = s.rcp := rfl
@[simp] theorem modFms_man (s : State) (n : Fin 2) (g : FmsSeq → FmsSeq) : (s.modFms n g).man = s.man := rfl
@[simp] theorem modFms_boot (s : State) (n : Fin 2) (g : FmsSeq → FmsSeq) : (s.modFms n g).boot = s.boot := rfl
@[simp] theorem modFms_pce (s : State) (n : Fin 2) (g : FmsSeq → FmsSeq) : (s.modFms n g).pce = s.pce := rfl
@[simp] theorem modFms_nvq (s : State) (n : Fin 2) (g : FmsSeq → FmsSeq) : (s.modFms n g).nvq = s.nvq := rfl
@[simp] theorem modFms_nvme (s : State) (n : Fin 2) (g : FmsSeq → FmsSeq) : (s.modFms n g).nvme = s.nvme := rfl
@[simp] theorem modFms_fni (s : State) (n : Fin 2) (g : FmsSeq → FmsSeq) : (s.modFms n g).fni = s.fni := rfl
@[simp] theorem modFms_journal (s : State) (n : Fin 2) (g : FmsSeq → FmsSeq) : (s.modFms n g).journal = s.journal := rfl
@[simp] theorem modFms_zones (s : State) (n : Fin 2) (g : FmsSeq → FmsSeq) : (s.modFms n g).zones = s.zones := rfl

@[simp] theorem modSvd_pending (s : State) (n : Fin 4) (g : SvdDemod → SvdDemod) : (s.modSvd n g).pending = s.pending := rfl
@[simp] theorem modSvd_variant1408 (s : State) (n : Fin 4) (g : SvdDemod → SvdDemod) : (s.modSvd n g).variant1408 = s.variant1408 := rfl
@[simp] theorem modSvd_power (s : State) (n : Fin 4) (g : SvdDemod → SvdDemod) : (s.modSvd n g).power = s.power := rfl
@[simp] theorem modSvd_tick (s : State) (n : Fin 4) (g : SvdDemod → SvdDemod) : (s.modSvd n g).tick = s.tick := rfl
@[simp] theorem modSvd_free (s : State) (n : Fin 4) (g : SvdDemod → SvdDemod) : (s.modSvd n g).free = s.free := rfl
@[simp] theorem modSvd_regs (s : State) (n : Fin 4) (g : SvdDemod → SvdDemod) : (s.modSvd n g).regs = s.regs := rfl
@[simp] theorem modSvd_mem (s : State) (n : Fin 4) (g : SvdDemod → SvdDemod) : (s.modSvd n g).mem = s.mem := rfl
@[simp] theorem modSvd_resp (s : State) (n : Fin 4) (g : SvdDemod → SvdDemod) : (s.modSvd n g).resp = s.resp := rfl
@[simp] theorem modSvd_raised (s : State) (n : Fin 4) (g : SvdDemod → SvdDemod) : (s.modSvd n g).raised = s.raised := rfl
@[simp] theorem modSvd_pulses (s : State) (n : Fin 4) (g : SvdDemod → SvdDemod) : (s.modSvd n g).pulses = s.pulses := rfl
@[simp] theorem modSvd_evrQueue (s : State) (n : Fin 4) (g : SvdDemod → SvdDemod) : (s.modSvd n g).evrQueue = s.evrQueue := rfl
@[simp] theorem modSvd_opSeconds (s : State) (n : Fin 4) (g : SvdDemod → SvdDemod) : (s.modSvd n g).opSeconds = s.opSeconds := rfl
@[simp] theorem modSvd_psl (s : State) (n : Fin 4) (g : SvdDemod → SvdDemod) : (s.modSvd n g).psl = s.psl := rfl
@[simp] theorem modSvd_dc (s : State) (n : Fin 4) (g : SvdDemod → SvdDemod) : (s.modSvd n g).dc = s.dc := rfl
@[simp] theorem modSvd_wp (s : State) (n : Fin 4) (g : SvdDemod → SvdDemod) : (s.modSvd n g).wp = s.wp := rfl
@[simp] theorem modSvd_fms (s : State) (n : Fin 4) (g : SvdDemod → SvdDemod) : (s.modSvd n g).fms = s.fms := rfl
@[simp] theorem modSvd_adl (s : State) (n : Fin 4) (g : SvdDemod → SvdDemod) : (s.modSvd n g).adl = s.adl := rfl
@[simp] theorem modSvd_cle (s : State) (n : Fin 4) (g : SvdDemod → SvdDemod) : (s.modSvd n g).cle = s.cle := rfl
@[simp] theorem modSvd_spm (s : State) (n : Fin 4) (g : SvdDemod → SvdDemod) : (s.modSvd n g).spm = s.spm := rfl
@[simp] theorem modSvd_memu (s : State) (n : Fin 4) (g : SvdDemod → SvdDemod) : (s.modSvd n g).memu = s.memu := rfl
@[simp] theorem modSvd_evr (s : State) (n : Fin 4) (g : SvdDemod → SvdDemod) : (s.modSvd n g).evr = s.evr := rfl
@[simp] theorem modSvd_flt (s : State) (n : Fin 4) (g : SvdDemod → SvdDemod) : (s.modSvd n g).flt = s.flt := rfl
@[simp] theorem modSvd_dma (s : State) (n : Fin 4) (g : SvdDemod → SvdDemod) : (s.modSvd n g).dma = s.dma := rfl
@[simp] theorem modSvd_cip (s : State) (n : Fin 4) (g : SvdDemod → SvdDemod) : (s.modSvd n g).cip = s.cip := rfl
@[simp] theorem modSvd_keys (s : State) (n : Fin 4) (g : SvdDemod → SvdDemod) : (s.modSvd n g).keys = s.keys := rfl
@[simp] theorem modSvd_sup (s : State) (n : Fin 4) (g : SvdDemod → SvdDemod) : (s.modSvd n g).sup = s.sup := rfl
@[simp] theorem modSvd_cores (s : State) (n : Fin 4) (g : SvdDemod → SvdDemod) : (s.modSvd n g).cores = s.cores := rfl
@[simp] theorem modSvd_l2 (s : State) (n : Fin 4) (g : SvdDemod → SvdDemod) : (s.modSvd n g).l2 = s.l2 := rfl
@[simp] theorem modSvd_hostOut (s : State) (n : Fin 4) (g : SvdDemod → SvdDemod) : (s.modSvd n g).hostOut = s.hostOut := rfl
@[simp] theorem modSvd_powerCycles (s : State) (n : Fin 4) (g : SvdDemod → SvdDemod) : (s.modSvd n g).powerCycles = s.powerCycles := rfl
@[simp] theorem modSvd_dieTemp (s : State) (n : Fin 4) (g : SvdDemod → SvdDemod) : (s.modSvd n g).dieTemp = s.dieTemp := rfl
@[simp] theorem modSvd_manifest (s : State) (n : Fin 4) (g : SvdDemod → SvdDemod) : (s.modSvd n g).manifest = s.manifest := rfl
@[simp] theorem modSvd_dict (s : State) (n : Fin 4) (g : SvdDemod → SvdDemod) : (s.modSvd n g).dict = s.dict := rfl
@[simp] theorem modSvd_locks (s : State) (n : Fin 4) (g : SvdDemod → SvdDemod) : (s.modSvd n g).locks = s.locks := rfl
@[simp] theorem modSvd_image (s : State) (n : Fin 4) (g : SvdDemod → SvdDemod) : (s.modSvd n g).image = s.image := rfl
@[simp] theorem modSvd_rcp (s : State) (n : Fin 4) (g : SvdDemod → SvdDemod) : (s.modSvd n g).rcp = s.rcp := rfl
@[simp] theorem modSvd_man (s : State) (n : Fin 4) (g : SvdDemod → SvdDemod) : (s.modSvd n g).man = s.man := rfl
@[simp] theorem modSvd_boot (s : State) (n : Fin 4) (g : SvdDemod → SvdDemod) : (s.modSvd n g).boot = s.boot := rfl
@[simp] theorem modSvd_pce (s : State) (n : Fin 4) (g : SvdDemod → SvdDemod) : (s.modSvd n g).pce = s.pce := rfl
@[simp] theorem modSvd_nvq (s : State) (n : Fin 4) (g : SvdDemod → SvdDemod) : (s.modSvd n g).nvq = s.nvq := rfl
@[simp] theorem modSvd_nvme (s : State) (n : Fin 4) (g : SvdDemod → SvdDemod) : (s.modSvd n g).nvme = s.nvme := rfl
@[simp] theorem modSvd_fni (s : State) (n : Fin 4) (g : SvdDemod → SvdDemod) : (s.modSvd n g).fni = s.fni := rfl
@[simp] theorem modSvd_journal (s : State) (n : Fin 4) (g : SvdDemod → SvdDemod) : (s.modSvd n g).journal = s.journal := rfl
@[simp] theorem modSvd_zones (s : State) (n : Fin 4) (g : SvdDemod → SvdDemod) : (s.modSvd n g).zones = s.zones := rfl

@[simp] theorem modAdl_pending (s : State) (n : Fin 2) (g : AdlLink → AdlLink) : (s.modAdl n g).pending = s.pending := rfl
@[simp] theorem modAdl_variant1408 (s : State) (n : Fin 2) (g : AdlLink → AdlLink) : (s.modAdl n g).variant1408 = s.variant1408 := rfl
@[simp] theorem modAdl_power (s : State) (n : Fin 2) (g : AdlLink → AdlLink) : (s.modAdl n g).power = s.power := rfl
@[simp] theorem modAdl_tick (s : State) (n : Fin 2) (g : AdlLink → AdlLink) : (s.modAdl n g).tick = s.tick := rfl
@[simp] theorem modAdl_free (s : State) (n : Fin 2) (g : AdlLink → AdlLink) : (s.modAdl n g).free = s.free := rfl
@[simp] theorem modAdl_regs (s : State) (n : Fin 2) (g : AdlLink → AdlLink) : (s.modAdl n g).regs = s.regs := rfl
@[simp] theorem modAdl_mem (s : State) (n : Fin 2) (g : AdlLink → AdlLink) : (s.modAdl n g).mem = s.mem := rfl
@[simp] theorem modAdl_resp (s : State) (n : Fin 2) (g : AdlLink → AdlLink) : (s.modAdl n g).resp = s.resp := rfl
@[simp] theorem modAdl_raised (s : State) (n : Fin 2) (g : AdlLink → AdlLink) : (s.modAdl n g).raised = s.raised := rfl
@[simp] theorem modAdl_pulses (s : State) (n : Fin 2) (g : AdlLink → AdlLink) : (s.modAdl n g).pulses = s.pulses := rfl
@[simp] theorem modAdl_evrQueue (s : State) (n : Fin 2) (g : AdlLink → AdlLink) : (s.modAdl n g).evrQueue = s.evrQueue := rfl
@[simp] theorem modAdl_opSeconds (s : State) (n : Fin 2) (g : AdlLink → AdlLink) : (s.modAdl n g).opSeconds = s.opSeconds := rfl
@[simp] theorem modAdl_psl (s : State) (n : Fin 2) (g : AdlLink → AdlLink) : (s.modAdl n g).psl = s.psl := rfl
@[simp] theorem modAdl_dc (s : State) (n : Fin 2) (g : AdlLink → AdlLink) : (s.modAdl n g).dc = s.dc := rfl
@[simp] theorem modAdl_wp (s : State) (n : Fin 2) (g : AdlLink → AdlLink) : (s.modAdl n g).wp = s.wp := rfl
@[simp] theorem modAdl_fms (s : State) (n : Fin 2) (g : AdlLink → AdlLink) : (s.modAdl n g).fms = s.fms := rfl
@[simp] theorem modAdl_svd (s : State) (n : Fin 2) (g : AdlLink → AdlLink) : (s.modAdl n g).svd = s.svd := rfl
@[simp] theorem modAdl_cle (s : State) (n : Fin 2) (g : AdlLink → AdlLink) : (s.modAdl n g).cle = s.cle := rfl
@[simp] theorem modAdl_spm (s : State) (n : Fin 2) (g : AdlLink → AdlLink) : (s.modAdl n g).spm = s.spm := rfl
@[simp] theorem modAdl_memu (s : State) (n : Fin 2) (g : AdlLink → AdlLink) : (s.modAdl n g).memu = s.memu := rfl
@[simp] theorem modAdl_evr (s : State) (n : Fin 2) (g : AdlLink → AdlLink) : (s.modAdl n g).evr = s.evr := rfl
@[simp] theorem modAdl_flt (s : State) (n : Fin 2) (g : AdlLink → AdlLink) : (s.modAdl n g).flt = s.flt := rfl
@[simp] theorem modAdl_dma (s : State) (n : Fin 2) (g : AdlLink → AdlLink) : (s.modAdl n g).dma = s.dma := rfl
@[simp] theorem modAdl_cip (s : State) (n : Fin 2) (g : AdlLink → AdlLink) : (s.modAdl n g).cip = s.cip := rfl
@[simp] theorem modAdl_keys (s : State) (n : Fin 2) (g : AdlLink → AdlLink) : (s.modAdl n g).keys = s.keys := rfl
@[simp] theorem modAdl_sup (s : State) (n : Fin 2) (g : AdlLink → AdlLink) : (s.modAdl n g).sup = s.sup := rfl
@[simp] theorem modAdl_cores (s : State) (n : Fin 2) (g : AdlLink → AdlLink) : (s.modAdl n g).cores = s.cores := rfl
@[simp] theorem modAdl_l2 (s : State) (n : Fin 2) (g : AdlLink → AdlLink) : (s.modAdl n g).l2 = s.l2 := rfl
@[simp] theorem modAdl_hostOut (s : State) (n : Fin 2) (g : AdlLink → AdlLink) : (s.modAdl n g).hostOut = s.hostOut := rfl
@[simp] theorem modAdl_powerCycles (s : State) (n : Fin 2) (g : AdlLink → AdlLink) : (s.modAdl n g).powerCycles = s.powerCycles := rfl
@[simp] theorem modAdl_dieTemp (s : State) (n : Fin 2) (g : AdlLink → AdlLink) : (s.modAdl n g).dieTemp = s.dieTemp := rfl
@[simp] theorem modAdl_manifest (s : State) (n : Fin 2) (g : AdlLink → AdlLink) : (s.modAdl n g).manifest = s.manifest := rfl
@[simp] theorem modAdl_dict (s : State) (n : Fin 2) (g : AdlLink → AdlLink) : (s.modAdl n g).dict = s.dict := rfl
@[simp] theorem modAdl_locks (s : State) (n : Fin 2) (g : AdlLink → AdlLink) : (s.modAdl n g).locks = s.locks := rfl
@[simp] theorem modAdl_image (s : State) (n : Fin 2) (g : AdlLink → AdlLink) : (s.modAdl n g).image = s.image := rfl
@[simp] theorem modAdl_rcp (s : State) (n : Fin 2) (g : AdlLink → AdlLink) : (s.modAdl n g).rcp = s.rcp := rfl
@[simp] theorem modAdl_man (s : State) (n : Fin 2) (g : AdlLink → AdlLink) : (s.modAdl n g).man = s.man := rfl
@[simp] theorem modAdl_boot (s : State) (n : Fin 2) (g : AdlLink → AdlLink) : (s.modAdl n g).boot = s.boot := rfl
@[simp] theorem modAdl_pce (s : State) (n : Fin 2) (g : AdlLink → AdlLink) : (s.modAdl n g).pce = s.pce := rfl
@[simp] theorem modAdl_nvq (s : State) (n : Fin 2) (g : AdlLink → AdlLink) : (s.modAdl n g).nvq = s.nvq := rfl
@[simp] theorem modAdl_nvme (s : State) (n : Fin 2) (g : AdlLink → AdlLink) : (s.modAdl n g).nvme = s.nvme := rfl
@[simp] theorem modAdl_fni (s : State) (n : Fin 2) (g : AdlLink → AdlLink) : (s.modAdl n g).fni = s.fni := rfl
@[simp] theorem modAdl_journal (s : State) (n : Fin 2) (g : AdlLink → AdlLink) : (s.modAdl n g).journal = s.journal := rfl
@[simp] theorem modAdl_zones (s : State) (n : Fin 2) (g : AdlLink → AdlLink) : (s.modAdl n g).zones = s.zones := rfl

@[simp] theorem modCle_pending (s : State) (g : CleEngine → CleEngine) : (s.modCle g).pending = s.pending := rfl
@[simp] theorem modCle_variant1408 (s : State) (g : CleEngine → CleEngine) : (s.modCle g).variant1408 = s.variant1408 := rfl
@[simp] theorem modCle_power (s : State) (g : CleEngine → CleEngine) : (s.modCle g).power = s.power := rfl
@[simp] theorem modCle_tick (s : State) (g : CleEngine → CleEngine) : (s.modCle g).tick = s.tick := rfl
@[simp] theorem modCle_free (s : State) (g : CleEngine → CleEngine) : (s.modCle g).free = s.free := rfl
@[simp] theorem modCle_regs (s : State) (g : CleEngine → CleEngine) : (s.modCle g).regs = s.regs := rfl
@[simp] theorem modCle_mem (s : State) (g : CleEngine → CleEngine) : (s.modCle g).mem = s.mem := rfl
@[simp] theorem modCle_resp (s : State) (g : CleEngine → CleEngine) : (s.modCle g).resp = s.resp := rfl
@[simp] theorem modCle_raised (s : State) (g : CleEngine → CleEngine) : (s.modCle g).raised = s.raised := rfl
@[simp] theorem modCle_pulses (s : State) (g : CleEngine → CleEngine) : (s.modCle g).pulses = s.pulses := rfl
@[simp] theorem modCle_evrQueue (s : State) (g : CleEngine → CleEngine) : (s.modCle g).evrQueue = s.evrQueue := rfl
@[simp] theorem modCle_opSeconds (s : State) (g : CleEngine → CleEngine) : (s.modCle g).opSeconds = s.opSeconds := rfl
@[simp] theorem modCle_psl (s : State) (g : CleEngine → CleEngine) : (s.modCle g).psl = s.psl := rfl
@[simp] theorem modCle_dc (s : State) (g : CleEngine → CleEngine) : (s.modCle g).dc = s.dc := rfl
@[simp] theorem modCle_wp (s : State) (g : CleEngine → CleEngine) : (s.modCle g).wp = s.wp := rfl
@[simp] theorem modCle_fms (s : State) (g : CleEngine → CleEngine) : (s.modCle g).fms = s.fms := rfl
@[simp] theorem modCle_svd (s : State) (g : CleEngine → CleEngine) : (s.modCle g).svd = s.svd := rfl
@[simp] theorem modCle_adl (s : State) (g : CleEngine → CleEngine) : (s.modCle g).adl = s.adl := rfl
@[simp] theorem modCle_spm (s : State) (g : CleEngine → CleEngine) : (s.modCle g).spm = s.spm := rfl
@[simp] theorem modCle_memu (s : State) (g : CleEngine → CleEngine) : (s.modCle g).memu = s.memu := rfl
@[simp] theorem modCle_evr (s : State) (g : CleEngine → CleEngine) : (s.modCle g).evr = s.evr := rfl
@[simp] theorem modCle_flt (s : State) (g : CleEngine → CleEngine) : (s.modCle g).flt = s.flt := rfl
@[simp] theorem modCle_dma (s : State) (g : CleEngine → CleEngine) : (s.modCle g).dma = s.dma := rfl
@[simp] theorem modCle_cip (s : State) (g : CleEngine → CleEngine) : (s.modCle g).cip = s.cip := rfl
@[simp] theorem modCle_keys (s : State) (g : CleEngine → CleEngine) : (s.modCle g).keys = s.keys := rfl
@[simp] theorem modCle_sup (s : State) (g : CleEngine → CleEngine) : (s.modCle g).sup = s.sup := rfl
@[simp] theorem modCle_cores (s : State) (g : CleEngine → CleEngine) : (s.modCle g).cores = s.cores := rfl
@[simp] theorem modCle_l2 (s : State) (g : CleEngine → CleEngine) : (s.modCle g).l2 = s.l2 := rfl
@[simp] theorem modCle_hostOut (s : State) (g : CleEngine → CleEngine) : (s.modCle g).hostOut = s.hostOut := rfl
@[simp] theorem modCle_powerCycles (s : State) (g : CleEngine → CleEngine) : (s.modCle g).powerCycles = s.powerCycles := rfl
@[simp] theorem modCle_dieTemp (s : State) (g : CleEngine → CleEngine) : (s.modCle g).dieTemp = s.dieTemp := rfl
@[simp] theorem modCle_manifest (s : State) (g : CleEngine → CleEngine) : (s.modCle g).manifest = s.manifest := rfl
@[simp] theorem modCle_dict (s : State) (g : CleEngine → CleEngine) : (s.modCle g).dict = s.dict := rfl
@[simp] theorem modCle_locks (s : State) (g : CleEngine → CleEngine) : (s.modCle g).locks = s.locks := rfl
@[simp] theorem modCle_image (s : State) (g : CleEngine → CleEngine) : (s.modCle g).image = s.image := rfl
@[simp] theorem modCle_rcp (s : State) (g : CleEngine → CleEngine) : (s.modCle g).rcp = s.rcp := rfl
@[simp] theorem modCle_man (s : State) (g : CleEngine → CleEngine) : (s.modCle g).man = s.man := rfl
@[simp] theorem modCle_boot (s : State) (g : CleEngine → CleEngine) : (s.modCle g).boot = s.boot := rfl
@[simp] theorem modCle_pce (s : State) (g : CleEngine → CleEngine) : (s.modCle g).pce = s.pce := rfl
@[simp] theorem modCle_nvq (s : State) (g : CleEngine → CleEngine) : (s.modCle g).nvq = s.nvq := rfl
@[simp] theorem modCle_nvme (s : State) (g : CleEngine → CleEngine) : (s.modCle g).nvme = s.nvme := rfl
@[simp] theorem modCle_fni (s : State) (g : CleEngine → CleEngine) : (s.modCle g).fni = s.fni := rfl
@[simp] theorem modCle_journal (s : State) (g : CleEngine → CleEngine) : (s.modCle g).journal = s.journal := rfl
@[simp] theorem modCle_zones (s : State) (g : CleEngine → CleEngine) : (s.modCle g).zones = s.zones := rfl

@[simp] theorem modSpm_pending (s : State) (g : SpmDrive → SpmDrive) : (s.modSpm g).pending = s.pending := rfl
@[simp] theorem modSpm_variant1408 (s : State) (g : SpmDrive → SpmDrive) : (s.modSpm g).variant1408 = s.variant1408 := rfl
@[simp] theorem modSpm_power (s : State) (g : SpmDrive → SpmDrive) : (s.modSpm g).power = s.power := rfl
@[simp] theorem modSpm_tick (s : State) (g : SpmDrive → SpmDrive) : (s.modSpm g).tick = s.tick := rfl
@[simp] theorem modSpm_free (s : State) (g : SpmDrive → SpmDrive) : (s.modSpm g).free = s.free := rfl
@[simp] theorem modSpm_regs (s : State) (g : SpmDrive → SpmDrive) : (s.modSpm g).regs = s.regs := rfl
@[simp] theorem modSpm_mem (s : State) (g : SpmDrive → SpmDrive) : (s.modSpm g).mem = s.mem := rfl
@[simp] theorem modSpm_resp (s : State) (g : SpmDrive → SpmDrive) : (s.modSpm g).resp = s.resp := rfl
@[simp] theorem modSpm_raised (s : State) (g : SpmDrive → SpmDrive) : (s.modSpm g).raised = s.raised := rfl
@[simp] theorem modSpm_pulses (s : State) (g : SpmDrive → SpmDrive) : (s.modSpm g).pulses = s.pulses := rfl
@[simp] theorem modSpm_evrQueue (s : State) (g : SpmDrive → SpmDrive) : (s.modSpm g).evrQueue = s.evrQueue := rfl
@[simp] theorem modSpm_opSeconds (s : State) (g : SpmDrive → SpmDrive) : (s.modSpm g).opSeconds = s.opSeconds := rfl
@[simp] theorem modSpm_psl (s : State) (g : SpmDrive → SpmDrive) : (s.modSpm g).psl = s.psl := rfl
@[simp] theorem modSpm_dc (s : State) (g : SpmDrive → SpmDrive) : (s.modSpm g).dc = s.dc := rfl
@[simp] theorem modSpm_wp (s : State) (g : SpmDrive → SpmDrive) : (s.modSpm g).wp = s.wp := rfl
@[simp] theorem modSpm_fms (s : State) (g : SpmDrive → SpmDrive) : (s.modSpm g).fms = s.fms := rfl
@[simp] theorem modSpm_svd (s : State) (g : SpmDrive → SpmDrive) : (s.modSpm g).svd = s.svd := rfl
@[simp] theorem modSpm_adl (s : State) (g : SpmDrive → SpmDrive) : (s.modSpm g).adl = s.adl := rfl
@[simp] theorem modSpm_cle (s : State) (g : SpmDrive → SpmDrive) : (s.modSpm g).cle = s.cle := rfl
@[simp] theorem modSpm_memu (s : State) (g : SpmDrive → SpmDrive) : (s.modSpm g).memu = s.memu := rfl
@[simp] theorem modSpm_evr (s : State) (g : SpmDrive → SpmDrive) : (s.modSpm g).evr = s.evr := rfl
@[simp] theorem modSpm_flt (s : State) (g : SpmDrive → SpmDrive) : (s.modSpm g).flt = s.flt := rfl
@[simp] theorem modSpm_dma (s : State) (g : SpmDrive → SpmDrive) : (s.modSpm g).dma = s.dma := rfl
@[simp] theorem modSpm_cip (s : State) (g : SpmDrive → SpmDrive) : (s.modSpm g).cip = s.cip := rfl
@[simp] theorem modSpm_keys (s : State) (g : SpmDrive → SpmDrive) : (s.modSpm g).keys = s.keys := rfl
@[simp] theorem modSpm_sup (s : State) (g : SpmDrive → SpmDrive) : (s.modSpm g).sup = s.sup := rfl
@[simp] theorem modSpm_cores (s : State) (g : SpmDrive → SpmDrive) : (s.modSpm g).cores = s.cores := rfl
@[simp] theorem modSpm_l2 (s : State) (g : SpmDrive → SpmDrive) : (s.modSpm g).l2 = s.l2 := rfl
@[simp] theorem modSpm_hostOut (s : State) (g : SpmDrive → SpmDrive) : (s.modSpm g).hostOut = s.hostOut := rfl
@[simp] theorem modSpm_powerCycles (s : State) (g : SpmDrive → SpmDrive) : (s.modSpm g).powerCycles = s.powerCycles := rfl
@[simp] theorem modSpm_dieTemp (s : State) (g : SpmDrive → SpmDrive) : (s.modSpm g).dieTemp = s.dieTemp := rfl
@[simp] theorem modSpm_manifest (s : State) (g : SpmDrive → SpmDrive) : (s.modSpm g).manifest = s.manifest := rfl
@[simp] theorem modSpm_dict (s : State) (g : SpmDrive → SpmDrive) : (s.modSpm g).dict = s.dict := rfl
@[simp] theorem modSpm_locks (s : State) (g : SpmDrive → SpmDrive) : (s.modSpm g).locks = s.locks := rfl
@[simp] theorem modSpm_image (s : State) (g : SpmDrive → SpmDrive) : (s.modSpm g).image = s.image := rfl
@[simp] theorem modSpm_rcp (s : State) (g : SpmDrive → SpmDrive) : (s.modSpm g).rcp = s.rcp := rfl
@[simp] theorem modSpm_man (s : State) (g : SpmDrive → SpmDrive) : (s.modSpm g).man = s.man := rfl
@[simp] theorem modSpm_boot (s : State) (g : SpmDrive → SpmDrive) : (s.modSpm g).boot = s.boot := rfl
@[simp] theorem modSpm_pce (s : State) (g : SpmDrive → SpmDrive) : (s.modSpm g).pce = s.pce := rfl
@[simp] theorem modSpm_nvq (s : State) (g : SpmDrive → SpmDrive) : (s.modSpm g).nvq = s.nvq := rfl
@[simp] theorem modSpm_nvme (s : State) (g : SpmDrive → SpmDrive) : (s.modSpm g).nvme = s.nvme := rfl
@[simp] theorem modSpm_fni (s : State) (g : SpmDrive → SpmDrive) : (s.modSpm g).fni = s.fni := rfl
@[simp] theorem modSpm_journal (s : State) (g : SpmDrive → SpmDrive) : (s.modSpm g).journal = s.journal := rfl
@[simp] theorem modSpm_zones (s : State) (g : SpmDrive → SpmDrive) : (s.modSpm g).zones = s.zones := rfl

@[simp] theorem modMem_pending (s : State) (g : MemUnits → MemUnits) : (s.modMem g).pending = s.pending := rfl
@[simp] theorem modMem_variant1408 (s : State) (g : MemUnits → MemUnits) : (s.modMem g).variant1408 = s.variant1408 := rfl
@[simp] theorem modMem_power (s : State) (g : MemUnits → MemUnits) : (s.modMem g).power = s.power := rfl
@[simp] theorem modMem_tick (s : State) (g : MemUnits → MemUnits) : (s.modMem g).tick = s.tick := rfl
@[simp] theorem modMem_free (s : State) (g : MemUnits → MemUnits) : (s.modMem g).free = s.free := rfl
@[simp] theorem modMem_regs (s : State) (g : MemUnits → MemUnits) : (s.modMem g).regs = s.regs := rfl
@[simp] theorem modMem_mem (s : State) (g : MemUnits → MemUnits) : (s.modMem g).mem = s.mem := rfl
@[simp] theorem modMem_resp (s : State) (g : MemUnits → MemUnits) : (s.modMem g).resp = s.resp := rfl
@[simp] theorem modMem_raised (s : State) (g : MemUnits → MemUnits) : (s.modMem g).raised = s.raised := rfl
@[simp] theorem modMem_pulses (s : State) (g : MemUnits → MemUnits) : (s.modMem g).pulses = s.pulses := rfl
@[simp] theorem modMem_evrQueue (s : State) (g : MemUnits → MemUnits) : (s.modMem g).evrQueue = s.evrQueue := rfl
@[simp] theorem modMem_opSeconds (s : State) (g : MemUnits → MemUnits) : (s.modMem g).opSeconds = s.opSeconds := rfl
@[simp] theorem modMem_psl (s : State) (g : MemUnits → MemUnits) : (s.modMem g).psl = s.psl := rfl
@[simp] theorem modMem_dc (s : State) (g : MemUnits → MemUnits) : (s.modMem g).dc = s.dc := rfl
@[simp] theorem modMem_wp (s : State) (g : MemUnits → MemUnits) : (s.modMem g).wp = s.wp := rfl
@[simp] theorem modMem_fms (s : State) (g : MemUnits → MemUnits) : (s.modMem g).fms = s.fms := rfl
@[simp] theorem modMem_svd (s : State) (g : MemUnits → MemUnits) : (s.modMem g).svd = s.svd := rfl
@[simp] theorem modMem_adl (s : State) (g : MemUnits → MemUnits) : (s.modMem g).adl = s.adl := rfl
@[simp] theorem modMem_cle (s : State) (g : MemUnits → MemUnits) : (s.modMem g).cle = s.cle := rfl
@[simp] theorem modMem_spm (s : State) (g : MemUnits → MemUnits) : (s.modMem g).spm = s.spm := rfl
@[simp] theorem modMem_evr (s : State) (g : MemUnits → MemUnits) : (s.modMem g).evr = s.evr := rfl
@[simp] theorem modMem_flt (s : State) (g : MemUnits → MemUnits) : (s.modMem g).flt = s.flt := rfl
@[simp] theorem modMem_dma (s : State) (g : MemUnits → MemUnits) : (s.modMem g).dma = s.dma := rfl
@[simp] theorem modMem_cip (s : State) (g : MemUnits → MemUnits) : (s.modMem g).cip = s.cip := rfl
@[simp] theorem modMem_keys (s : State) (g : MemUnits → MemUnits) : (s.modMem g).keys = s.keys := rfl
@[simp] theorem modMem_sup (s : State) (g : MemUnits → MemUnits) : (s.modMem g).sup = s.sup := rfl
@[simp] theorem modMem_cores (s : State) (g : MemUnits → MemUnits) : (s.modMem g).cores = s.cores := rfl
@[simp] theorem modMem_l2 (s : State) (g : MemUnits → MemUnits) : (s.modMem g).l2 = s.l2 := rfl
@[simp] theorem modMem_hostOut (s : State) (g : MemUnits → MemUnits) : (s.modMem g).hostOut = s.hostOut := rfl
@[simp] theorem modMem_powerCycles (s : State) (g : MemUnits → MemUnits) : (s.modMem g).powerCycles = s.powerCycles := rfl
@[simp] theorem modMem_dieTemp (s : State) (g : MemUnits → MemUnits) : (s.modMem g).dieTemp = s.dieTemp := rfl
@[simp] theorem modMem_manifest (s : State) (g : MemUnits → MemUnits) : (s.modMem g).manifest = s.manifest := rfl
@[simp] theorem modMem_dict (s : State) (g : MemUnits → MemUnits) : (s.modMem g).dict = s.dict := rfl
@[simp] theorem modMem_locks (s : State) (g : MemUnits → MemUnits) : (s.modMem g).locks = s.locks := rfl
@[simp] theorem modMem_image (s : State) (g : MemUnits → MemUnits) : (s.modMem g).image = s.image := rfl
@[simp] theorem modMem_rcp (s : State) (g : MemUnits → MemUnits) : (s.modMem g).rcp = s.rcp := rfl
@[simp] theorem modMem_man (s : State) (g : MemUnits → MemUnits) : (s.modMem g).man = s.man := rfl
@[simp] theorem modMem_boot (s : State) (g : MemUnits → MemUnits) : (s.modMem g).boot = s.boot := rfl
@[simp] theorem modMem_pce (s : State) (g : MemUnits → MemUnits) : (s.modMem g).pce = s.pce := rfl
@[simp] theorem modMem_nvq (s : State) (g : MemUnits → MemUnits) : (s.modMem g).nvq = s.nvq := rfl
@[simp] theorem modMem_nvme (s : State) (g : MemUnits → MemUnits) : (s.modMem g).nvme = s.nvme := rfl
@[simp] theorem modMem_fni (s : State) (g : MemUnits → MemUnits) : (s.modMem g).fni = s.fni := rfl
@[simp] theorem modMem_journal (s : State) (g : MemUnits → MemUnits) : (s.modMem g).journal = s.journal := rfl
@[simp] theorem modMem_zones (s : State) (g : MemUnits → MemUnits) : (s.modMem g).zones = s.zones := rfl

@[simp] theorem modDma_pending (s : State) (g : DmaUnit → DmaUnit) : (s.modDma g).pending = s.pending := rfl
@[simp] theorem modDma_variant1408 (s : State) (g : DmaUnit → DmaUnit) : (s.modDma g).variant1408 = s.variant1408 := rfl
@[simp] theorem modDma_power (s : State) (g : DmaUnit → DmaUnit) : (s.modDma g).power = s.power := rfl
@[simp] theorem modDma_tick (s : State) (g : DmaUnit → DmaUnit) : (s.modDma g).tick = s.tick := rfl
@[simp] theorem modDma_free (s : State) (g : DmaUnit → DmaUnit) : (s.modDma g).free = s.free := rfl
@[simp] theorem modDma_regs (s : State) (g : DmaUnit → DmaUnit) : (s.modDma g).regs = s.regs := rfl
@[simp] theorem modDma_mem (s : State) (g : DmaUnit → DmaUnit) : (s.modDma g).mem = s.mem := rfl
@[simp] theorem modDma_resp (s : State) (g : DmaUnit → DmaUnit) : (s.modDma g).resp = s.resp := rfl
@[simp] theorem modDma_raised (s : State) (g : DmaUnit → DmaUnit) : (s.modDma g).raised = s.raised := rfl
@[simp] theorem modDma_pulses (s : State) (g : DmaUnit → DmaUnit) : (s.modDma g).pulses = s.pulses := rfl
@[simp] theorem modDma_evrQueue (s : State) (g : DmaUnit → DmaUnit) : (s.modDma g).evrQueue = s.evrQueue := rfl
@[simp] theorem modDma_opSeconds (s : State) (g : DmaUnit → DmaUnit) : (s.modDma g).opSeconds = s.opSeconds := rfl
@[simp] theorem modDma_psl (s : State) (g : DmaUnit → DmaUnit) : (s.modDma g).psl = s.psl := rfl
@[simp] theorem modDma_dc (s : State) (g : DmaUnit → DmaUnit) : (s.modDma g).dc = s.dc := rfl
@[simp] theorem modDma_wp (s : State) (g : DmaUnit → DmaUnit) : (s.modDma g).wp = s.wp := rfl
@[simp] theorem modDma_fms (s : State) (g : DmaUnit → DmaUnit) : (s.modDma g).fms = s.fms := rfl
@[simp] theorem modDma_svd (s : State) (g : DmaUnit → DmaUnit) : (s.modDma g).svd = s.svd := rfl
@[simp] theorem modDma_adl (s : State) (g : DmaUnit → DmaUnit) : (s.modDma g).adl = s.adl := rfl
@[simp] theorem modDma_cle (s : State) (g : DmaUnit → DmaUnit) : (s.modDma g).cle = s.cle := rfl
@[simp] theorem modDma_spm (s : State) (g : DmaUnit → DmaUnit) : (s.modDma g).spm = s.spm := rfl
@[simp] theorem modDma_memu (s : State) (g : DmaUnit → DmaUnit) : (s.modDma g).memu = s.memu := rfl
@[simp] theorem modDma_evr (s : State) (g : DmaUnit → DmaUnit) : (s.modDma g).evr = s.evr := rfl
@[simp] theorem modDma_flt (s : State) (g : DmaUnit → DmaUnit) : (s.modDma g).flt = s.flt := rfl
@[simp] theorem modDma_cip (s : State) (g : DmaUnit → DmaUnit) : (s.modDma g).cip = s.cip := rfl
@[simp] theorem modDma_keys (s : State) (g : DmaUnit → DmaUnit) : (s.modDma g).keys = s.keys := rfl
@[simp] theorem modDma_sup (s : State) (g : DmaUnit → DmaUnit) : (s.modDma g).sup = s.sup := rfl
@[simp] theorem modDma_cores (s : State) (g : DmaUnit → DmaUnit) : (s.modDma g).cores = s.cores := rfl
@[simp] theorem modDma_l2 (s : State) (g : DmaUnit → DmaUnit) : (s.modDma g).l2 = s.l2 := rfl
@[simp] theorem modDma_hostOut (s : State) (g : DmaUnit → DmaUnit) : (s.modDma g).hostOut = s.hostOut := rfl
@[simp] theorem modDma_powerCycles (s : State) (g : DmaUnit → DmaUnit) : (s.modDma g).powerCycles = s.powerCycles := rfl
@[simp] theorem modDma_dieTemp (s : State) (g : DmaUnit → DmaUnit) : (s.modDma g).dieTemp = s.dieTemp := rfl
@[simp] theorem modDma_manifest (s : State) (g : DmaUnit → DmaUnit) : (s.modDma g).manifest = s.manifest := rfl
@[simp] theorem modDma_dict (s : State) (g : DmaUnit → DmaUnit) : (s.modDma g).dict = s.dict := rfl
@[simp] theorem modDma_locks (s : State) (g : DmaUnit → DmaUnit) : (s.modDma g).locks = s.locks := rfl
@[simp] theorem modDma_image (s : State) (g : DmaUnit → DmaUnit) : (s.modDma g).image = s.image := rfl
@[simp] theorem modDma_rcp (s : State) (g : DmaUnit → DmaUnit) : (s.modDma g).rcp = s.rcp := rfl
@[simp] theorem modDma_man (s : State) (g : DmaUnit → DmaUnit) : (s.modDma g).man = s.man := rfl
@[simp] theorem modDma_boot (s : State) (g : DmaUnit → DmaUnit) : (s.modDma g).boot = s.boot := rfl
@[simp] theorem modDma_pce (s : State) (g : DmaUnit → DmaUnit) : (s.modDma g).pce = s.pce := rfl
@[simp] theorem modDma_nvq (s : State) (g : DmaUnit → DmaUnit) : (s.modDma g).nvq = s.nvq := rfl
@[simp] theorem modDma_nvme (s : State) (g : DmaUnit → DmaUnit) : (s.modDma g).nvme = s.nvme := rfl
@[simp] theorem modDma_fni (s : State) (g : DmaUnit → DmaUnit) : (s.modDma g).fni = s.fni := rfl
@[simp] theorem modDma_journal (s : State) (g : DmaUnit → DmaUnit) : (s.modDma g).journal = s.journal := rfl
@[simp] theorem modDma_zones (s : State) (g : DmaUnit → DmaUnit) : (s.modDma g).zones = s.zones := rfl

@[simp] theorem modCh_pending (s : State) (k : Fin 32) (g : DmaChan → DmaChan) : (s.modCh k g).pending = s.pending := rfl
@[simp] theorem modCh_variant1408 (s : State) (k : Fin 32) (g : DmaChan → DmaChan) : (s.modCh k g).variant1408 = s.variant1408 := rfl
@[simp] theorem modCh_power (s : State) (k : Fin 32) (g : DmaChan → DmaChan) : (s.modCh k g).power = s.power := rfl
@[simp] theorem modCh_tick (s : State) (k : Fin 32) (g : DmaChan → DmaChan) : (s.modCh k g).tick = s.tick := rfl
@[simp] theorem modCh_free (s : State) (k : Fin 32) (g : DmaChan → DmaChan) : (s.modCh k g).free = s.free := rfl
@[simp] theorem modCh_regs (s : State) (k : Fin 32) (g : DmaChan → DmaChan) : (s.modCh k g).regs = s.regs := rfl
@[simp] theorem modCh_mem (s : State) (k : Fin 32) (g : DmaChan → DmaChan) : (s.modCh k g).mem = s.mem := rfl
@[simp] theorem modCh_resp (s : State) (k : Fin 32) (g : DmaChan → DmaChan) : (s.modCh k g).resp = s.resp := rfl
@[simp] theorem modCh_raised (s : State) (k : Fin 32) (g : DmaChan → DmaChan) : (s.modCh k g).raised = s.raised := rfl
@[simp] theorem modCh_pulses (s : State) (k : Fin 32) (g : DmaChan → DmaChan) : (s.modCh k g).pulses = s.pulses := rfl
@[simp] theorem modCh_evrQueue (s : State) (k : Fin 32) (g : DmaChan → DmaChan) : (s.modCh k g).evrQueue = s.evrQueue := rfl
@[simp] theorem modCh_opSeconds (s : State) (k : Fin 32) (g : DmaChan → DmaChan) : (s.modCh k g).opSeconds = s.opSeconds := rfl
@[simp] theorem modCh_psl (s : State) (k : Fin 32) (g : DmaChan → DmaChan) : (s.modCh k g).psl = s.psl := rfl
@[simp] theorem modCh_dc (s : State) (k : Fin 32) (g : DmaChan → DmaChan) : (s.modCh k g).dc = s.dc := rfl
@[simp] theorem modCh_wp (s : State) (k : Fin 32) (g : DmaChan → DmaChan) : (s.modCh k g).wp = s.wp := rfl
@[simp] theorem modCh_fms (s : State) (k : Fin 32) (g : DmaChan → DmaChan) : (s.modCh k g).fms = s.fms := rfl
@[simp] theorem modCh_svd (s : State) (k : Fin 32) (g : DmaChan → DmaChan) : (s.modCh k g).svd = s.svd := rfl
@[simp] theorem modCh_adl (s : State) (k : Fin 32) (g : DmaChan → DmaChan) : (s.modCh k g).adl = s.adl := rfl
@[simp] theorem modCh_cle (s : State) (k : Fin 32) (g : DmaChan → DmaChan) : (s.modCh k g).cle = s.cle := rfl
@[simp] theorem modCh_spm (s : State) (k : Fin 32) (g : DmaChan → DmaChan) : (s.modCh k g).spm = s.spm := rfl
@[simp] theorem modCh_memu (s : State) (k : Fin 32) (g : DmaChan → DmaChan) : (s.modCh k g).memu = s.memu := rfl
@[simp] theorem modCh_evr (s : State) (k : Fin 32) (g : DmaChan → DmaChan) : (s.modCh k g).evr = s.evr := rfl
@[simp] theorem modCh_flt (s : State) (k : Fin 32) (g : DmaChan → DmaChan) : (s.modCh k g).flt = s.flt := rfl
@[simp] theorem modCh_cip (s : State) (k : Fin 32) (g : DmaChan → DmaChan) : (s.modCh k g).cip = s.cip := rfl
@[simp] theorem modCh_keys (s : State) (k : Fin 32) (g : DmaChan → DmaChan) : (s.modCh k g).keys = s.keys := rfl
@[simp] theorem modCh_sup (s : State) (k : Fin 32) (g : DmaChan → DmaChan) : (s.modCh k g).sup = s.sup := rfl
@[simp] theorem modCh_cores (s : State) (k : Fin 32) (g : DmaChan → DmaChan) : (s.modCh k g).cores = s.cores := rfl
@[simp] theorem modCh_l2 (s : State) (k : Fin 32) (g : DmaChan → DmaChan) : (s.modCh k g).l2 = s.l2 := rfl
@[simp] theorem modCh_hostOut (s : State) (k : Fin 32) (g : DmaChan → DmaChan) : (s.modCh k g).hostOut = s.hostOut := rfl
@[simp] theorem modCh_powerCycles (s : State) (k : Fin 32) (g : DmaChan → DmaChan) : (s.modCh k g).powerCycles = s.powerCycles := rfl
@[simp] theorem modCh_dieTemp (s : State) (k : Fin 32) (g : DmaChan → DmaChan) : (s.modCh k g).dieTemp = s.dieTemp := rfl
@[simp] theorem modCh_manifest (s : State) (k : Fin 32) (g : DmaChan → DmaChan) : (s.modCh k g).manifest = s.manifest := rfl
@[simp] theorem modCh_dict (s : State) (k : Fin 32) (g : DmaChan → DmaChan) : (s.modCh k g).dict = s.dict := rfl
@[simp] theorem modCh_locks (s : State) (k : Fin 32) (g : DmaChan → DmaChan) : (s.modCh k g).locks = s.locks := rfl
@[simp] theorem modCh_image (s : State) (k : Fin 32) (g : DmaChan → DmaChan) : (s.modCh k g).image = s.image := rfl
@[simp] theorem modCh_rcp (s : State) (k : Fin 32) (g : DmaChan → DmaChan) : (s.modCh k g).rcp = s.rcp := rfl
@[simp] theorem modCh_man (s : State) (k : Fin 32) (g : DmaChan → DmaChan) : (s.modCh k g).man = s.man := rfl
@[simp] theorem modCh_boot (s : State) (k : Fin 32) (g : DmaChan → DmaChan) : (s.modCh k g).boot = s.boot := rfl
@[simp] theorem modCh_pce (s : State) (k : Fin 32) (g : DmaChan → DmaChan) : (s.modCh k g).pce = s.pce := rfl
@[simp] theorem modCh_nvq (s : State) (k : Fin 32) (g : DmaChan → DmaChan) : (s.modCh k g).nvq = s.nvq := rfl
@[simp] theorem modCh_nvme (s : State) (k : Fin 32) (g : DmaChan → DmaChan) : (s.modCh k g).nvme = s.nvme := rfl
@[simp] theorem modCh_fni (s : State) (k : Fin 32) (g : DmaChan → DmaChan) : (s.modCh k g).fni = s.fni := rfl
@[simp] theorem modCh_journal (s : State) (k : Fin 32) (g : DmaChan → DmaChan) : (s.modCh k g).journal = s.journal := rfl
@[simp] theorem modCh_zones (s : State) (k : Fin 32) (g : DmaChan → DmaChan) : (s.modCh k g).zones = s.zones := rfl

@[simp] theorem modFlt_pending (s : State) (g : FltUnit → FltUnit) : (s.modFlt g).pending = s.pending := rfl
@[simp] theorem modFlt_variant1408 (s : State) (g : FltUnit → FltUnit) : (s.modFlt g).variant1408 = s.variant1408 := rfl
@[simp] theorem modFlt_power (s : State) (g : FltUnit → FltUnit) : (s.modFlt g).power = s.power := rfl
@[simp] theorem modFlt_tick (s : State) (g : FltUnit → FltUnit) : (s.modFlt g).tick = s.tick := rfl
@[simp] theorem modFlt_free (s : State) (g : FltUnit → FltUnit) : (s.modFlt g).free = s.free := rfl
@[simp] theorem modFlt_regs (s : State) (g : FltUnit → FltUnit) : (s.modFlt g).regs = s.regs := rfl
@[simp] theorem modFlt_mem (s : State) (g : FltUnit → FltUnit) : (s.modFlt g).mem = s.mem := rfl
@[simp] theorem modFlt_resp (s : State) (g : FltUnit → FltUnit) : (s.modFlt g).resp = s.resp := rfl
@[simp] theorem modFlt_raised (s : State) (g : FltUnit → FltUnit) : (s.modFlt g).raised = s.raised := rfl
@[simp] theorem modFlt_pulses (s : State) (g : FltUnit → FltUnit) : (s.modFlt g).pulses = s.pulses := rfl
@[simp] theorem modFlt_evrQueue (s : State) (g : FltUnit → FltUnit) : (s.modFlt g).evrQueue = s.evrQueue := rfl
@[simp] theorem modFlt_opSeconds (s : State) (g : FltUnit → FltUnit) : (s.modFlt g).opSeconds = s.opSeconds := rfl
@[simp] theorem modFlt_psl (s : State) (g : FltUnit → FltUnit) : (s.modFlt g).psl = s.psl := rfl
@[simp] theorem modFlt_dc (s : State) (g : FltUnit → FltUnit) : (s.modFlt g).dc = s.dc := rfl
@[simp] theorem modFlt_wp (s : State) (g : FltUnit → FltUnit) : (s.modFlt g).wp = s.wp := rfl
@[simp] theorem modFlt_fms (s : State) (g : FltUnit → FltUnit) : (s.modFlt g).fms = s.fms := rfl
@[simp] theorem modFlt_svd (s : State) (g : FltUnit → FltUnit) : (s.modFlt g).svd = s.svd := rfl
@[simp] theorem modFlt_adl (s : State) (g : FltUnit → FltUnit) : (s.modFlt g).adl = s.adl := rfl
@[simp] theorem modFlt_cle (s : State) (g : FltUnit → FltUnit) : (s.modFlt g).cle = s.cle := rfl
@[simp] theorem modFlt_spm (s : State) (g : FltUnit → FltUnit) : (s.modFlt g).spm = s.spm := rfl
@[simp] theorem modFlt_memu (s : State) (g : FltUnit → FltUnit) : (s.modFlt g).memu = s.memu := rfl
@[simp] theorem modFlt_evr (s : State) (g : FltUnit → FltUnit) : (s.modFlt g).evr = s.evr := rfl
@[simp] theorem modFlt_dma (s : State) (g : FltUnit → FltUnit) : (s.modFlt g).dma = s.dma := rfl
@[simp] theorem modFlt_cip (s : State) (g : FltUnit → FltUnit) : (s.modFlt g).cip = s.cip := rfl
@[simp] theorem modFlt_keys (s : State) (g : FltUnit → FltUnit) : (s.modFlt g).keys = s.keys := rfl
@[simp] theorem modFlt_sup (s : State) (g : FltUnit → FltUnit) : (s.modFlt g).sup = s.sup := rfl
@[simp] theorem modFlt_cores (s : State) (g : FltUnit → FltUnit) : (s.modFlt g).cores = s.cores := rfl
@[simp] theorem modFlt_l2 (s : State) (g : FltUnit → FltUnit) : (s.modFlt g).l2 = s.l2 := rfl
@[simp] theorem modFlt_hostOut (s : State) (g : FltUnit → FltUnit) : (s.modFlt g).hostOut = s.hostOut := rfl
@[simp] theorem modFlt_powerCycles (s : State) (g : FltUnit → FltUnit) : (s.modFlt g).powerCycles = s.powerCycles := rfl
@[simp] theorem modFlt_dieTemp (s : State) (g : FltUnit → FltUnit) : (s.modFlt g).dieTemp = s.dieTemp := rfl
@[simp] theorem modFlt_manifest (s : State) (g : FltUnit → FltUnit) : (s.modFlt g).manifest = s.manifest := rfl
@[simp] theorem modFlt_dict (s : State) (g : FltUnit → FltUnit) : (s.modFlt g).dict = s.dict := rfl
@[simp] theorem modFlt_locks (s : State) (g : FltUnit → FltUnit) : (s.modFlt g).locks = s.locks := rfl
@[simp] theorem modFlt_image (s : State) (g : FltUnit → FltUnit) : (s.modFlt g).image = s.image := rfl
@[simp] theorem modFlt_rcp (s : State) (g : FltUnit → FltUnit) : (s.modFlt g).rcp = s.rcp := rfl
@[simp] theorem modFlt_man (s : State) (g : FltUnit → FltUnit) : (s.modFlt g).man = s.man := rfl
@[simp] theorem modFlt_boot (s : State) (g : FltUnit → FltUnit) : (s.modFlt g).boot = s.boot := rfl
@[simp] theorem modFlt_pce (s : State) (g : FltUnit → FltUnit) : (s.modFlt g).pce = s.pce := rfl
@[simp] theorem modFlt_nvq (s : State) (g : FltUnit → FltUnit) : (s.modFlt g).nvq = s.nvq := rfl
@[simp] theorem modFlt_nvme (s : State) (g : FltUnit → FltUnit) : (s.modFlt g).nvme = s.nvme := rfl
@[simp] theorem modFlt_fni (s : State) (g : FltUnit → FltUnit) : (s.modFlt g).fni = s.fni := rfl
@[simp] theorem modFlt_journal (s : State) (g : FltUnit → FltUnit) : (s.modFlt g).journal = s.journal := rfl
@[simp] theorem modFlt_zones (s : State) (g : FltUnit → FltUnit) : (s.modFlt g).zones = s.zones := rfl

@[simp] theorem modCip_pending (s : State) (g : CipUnit → CipUnit) : (s.modCip g).pending = s.pending := rfl
@[simp] theorem modCip_variant1408 (s : State) (g : CipUnit → CipUnit) : (s.modCip g).variant1408 = s.variant1408 := rfl
@[simp] theorem modCip_power (s : State) (g : CipUnit → CipUnit) : (s.modCip g).power = s.power := rfl
@[simp] theorem modCip_tick (s : State) (g : CipUnit → CipUnit) : (s.modCip g).tick = s.tick := rfl
@[simp] theorem modCip_free (s : State) (g : CipUnit → CipUnit) : (s.modCip g).free = s.free := rfl
@[simp] theorem modCip_regs (s : State) (g : CipUnit → CipUnit) : (s.modCip g).regs = s.regs := rfl
@[simp] theorem modCip_mem (s : State) (g : CipUnit → CipUnit) : (s.modCip g).mem = s.mem := rfl
@[simp] theorem modCip_resp (s : State) (g : CipUnit → CipUnit) : (s.modCip g).resp = s.resp := rfl
@[simp] theorem modCip_raised (s : State) (g : CipUnit → CipUnit) : (s.modCip g).raised = s.raised := rfl
@[simp] theorem modCip_pulses (s : State) (g : CipUnit → CipUnit) : (s.modCip g).pulses = s.pulses := rfl
@[simp] theorem modCip_evrQueue (s : State) (g : CipUnit → CipUnit) : (s.modCip g).evrQueue = s.evrQueue := rfl
@[simp] theorem modCip_opSeconds (s : State) (g : CipUnit → CipUnit) : (s.modCip g).opSeconds = s.opSeconds := rfl
@[simp] theorem modCip_psl (s : State) (g : CipUnit → CipUnit) : (s.modCip g).psl = s.psl := rfl
@[simp] theorem modCip_dc (s : State) (g : CipUnit → CipUnit) : (s.modCip g).dc = s.dc := rfl
@[simp] theorem modCip_wp (s : State) (g : CipUnit → CipUnit) : (s.modCip g).wp = s.wp := rfl
@[simp] theorem modCip_fms (s : State) (g : CipUnit → CipUnit) : (s.modCip g).fms = s.fms := rfl
@[simp] theorem modCip_svd (s : State) (g : CipUnit → CipUnit) : (s.modCip g).svd = s.svd := rfl
@[simp] theorem modCip_adl (s : State) (g : CipUnit → CipUnit) : (s.modCip g).adl = s.adl := rfl
@[simp] theorem modCip_cle (s : State) (g : CipUnit → CipUnit) : (s.modCip g).cle = s.cle := rfl
@[simp] theorem modCip_spm (s : State) (g : CipUnit → CipUnit) : (s.modCip g).spm = s.spm := rfl
@[simp] theorem modCip_memu (s : State) (g : CipUnit → CipUnit) : (s.modCip g).memu = s.memu := rfl
@[simp] theorem modCip_evr (s : State) (g : CipUnit → CipUnit) : (s.modCip g).evr = s.evr := rfl
@[simp] theorem modCip_flt (s : State) (g : CipUnit → CipUnit) : (s.modCip g).flt = s.flt := rfl
@[simp] theorem modCip_dma (s : State) (g : CipUnit → CipUnit) : (s.modCip g).dma = s.dma := rfl
@[simp] theorem modCip_keys (s : State) (g : CipUnit → CipUnit) : (s.modCip g).keys = s.keys := rfl
@[simp] theorem modCip_sup (s : State) (g : CipUnit → CipUnit) : (s.modCip g).sup = s.sup := rfl
@[simp] theorem modCip_cores (s : State) (g : CipUnit → CipUnit) : (s.modCip g).cores = s.cores := rfl
@[simp] theorem modCip_l2 (s : State) (g : CipUnit → CipUnit) : (s.modCip g).l2 = s.l2 := rfl
@[simp] theorem modCip_hostOut (s : State) (g : CipUnit → CipUnit) : (s.modCip g).hostOut = s.hostOut := rfl
@[simp] theorem modCip_powerCycles (s : State) (g : CipUnit → CipUnit) : (s.modCip g).powerCycles = s.powerCycles := rfl
@[simp] theorem modCip_dieTemp (s : State) (g : CipUnit → CipUnit) : (s.modCip g).dieTemp = s.dieTemp := rfl
@[simp] theorem modCip_manifest (s : State) (g : CipUnit → CipUnit) : (s.modCip g).manifest = s.manifest := rfl
@[simp] theorem modCip_dict (s : State) (g : CipUnit → CipUnit) : (s.modCip g).dict = s.dict := rfl
@[simp] theorem modCip_locks (s : State) (g : CipUnit → CipUnit) : (s.modCip g).locks = s.locks := rfl
@[simp] theorem modCip_image (s : State) (g : CipUnit → CipUnit) : (s.modCip g).image = s.image := rfl
@[simp] theorem modCip_rcp (s : State) (g : CipUnit → CipUnit) : (s.modCip g).rcp = s.rcp := rfl
@[simp] theorem modCip_man (s : State) (g : CipUnit → CipUnit) : (s.modCip g).man = s.man := rfl
@[simp] theorem modCip_boot (s : State) (g : CipUnit → CipUnit) : (s.modCip g).boot = s.boot := rfl
@[simp] theorem modCip_pce (s : State) (g : CipUnit → CipUnit) : (s.modCip g).pce = s.pce := rfl
@[simp] theorem modCip_nvq (s : State) (g : CipUnit → CipUnit) : (s.modCip g).nvq = s.nvq := rfl
@[simp] theorem modCip_nvme (s : State) (g : CipUnit → CipUnit) : (s.modCip g).nvme = s.nvme := rfl
@[simp] theorem modCip_fni (s : State) (g : CipUnit → CipUnit) : (s.modCip g).fni = s.fni := rfl
@[simp] theorem modCip_journal (s : State) (g : CipUnit → CipUnit) : (s.modCip g).journal = s.journal := rfl
@[simp] theorem modCip_zones (s : State) (g : CipUnit → CipUnit) : (s.modCip g).zones = s.zones := rfl

@[simp] theorem modKeys_pending (s : State) (g : KeyStore → KeyStore) : (s.modKeys g).pending = s.pending := rfl
@[simp] theorem modKeys_variant1408 (s : State) (g : KeyStore → KeyStore) : (s.modKeys g).variant1408 = s.variant1408 := rfl
@[simp] theorem modKeys_power (s : State) (g : KeyStore → KeyStore) : (s.modKeys g).power = s.power := rfl
@[simp] theorem modKeys_tick (s : State) (g : KeyStore → KeyStore) : (s.modKeys g).tick = s.tick := rfl
@[simp] theorem modKeys_free (s : State) (g : KeyStore → KeyStore) : (s.modKeys g).free = s.free := rfl
@[simp] theorem modKeys_regs (s : State) (g : KeyStore → KeyStore) : (s.modKeys g).regs = s.regs := rfl
@[simp] theorem modKeys_mem (s : State) (g : KeyStore → KeyStore) : (s.modKeys g).mem = s.mem := rfl
@[simp] theorem modKeys_resp (s : State) (g : KeyStore → KeyStore) : (s.modKeys g).resp = s.resp := rfl
@[simp] theorem modKeys_raised (s : State) (g : KeyStore → KeyStore) : (s.modKeys g).raised = s.raised := rfl
@[simp] theorem modKeys_pulses (s : State) (g : KeyStore → KeyStore) : (s.modKeys g).pulses = s.pulses := rfl
@[simp] theorem modKeys_evrQueue (s : State) (g : KeyStore → KeyStore) : (s.modKeys g).evrQueue = s.evrQueue := rfl
@[simp] theorem modKeys_opSeconds (s : State) (g : KeyStore → KeyStore) : (s.modKeys g).opSeconds = s.opSeconds := rfl
@[simp] theorem modKeys_psl (s : State) (g : KeyStore → KeyStore) : (s.modKeys g).psl = s.psl := rfl
@[simp] theorem modKeys_dc (s : State) (g : KeyStore → KeyStore) : (s.modKeys g).dc = s.dc := rfl
@[simp] theorem modKeys_wp (s : State) (g : KeyStore → KeyStore) : (s.modKeys g).wp = s.wp := rfl
@[simp] theorem modKeys_fms (s : State) (g : KeyStore → KeyStore) : (s.modKeys g).fms = s.fms := rfl
@[simp] theorem modKeys_svd (s : State) (g : KeyStore → KeyStore) : (s.modKeys g).svd = s.svd := rfl
@[simp] theorem modKeys_adl (s : State) (g : KeyStore → KeyStore) : (s.modKeys g).adl = s.adl := rfl
@[simp] theorem modKeys_cle (s : State) (g : KeyStore → KeyStore) : (s.modKeys g).cle = s.cle := rfl
@[simp] theorem modKeys_spm (s : State) (g : KeyStore → KeyStore) : (s.modKeys g).spm = s.spm := rfl
@[simp] theorem modKeys_memu (s : State) (g : KeyStore → KeyStore) : (s.modKeys g).memu = s.memu := rfl
@[simp] theorem modKeys_evr (s : State) (g : KeyStore → KeyStore) : (s.modKeys g).evr = s.evr := rfl
@[simp] theorem modKeys_flt (s : State) (g : KeyStore → KeyStore) : (s.modKeys g).flt = s.flt := rfl
@[simp] theorem modKeys_dma (s : State) (g : KeyStore → KeyStore) : (s.modKeys g).dma = s.dma := rfl
@[simp] theorem modKeys_cip (s : State) (g : KeyStore → KeyStore) : (s.modKeys g).cip = s.cip := rfl
@[simp] theorem modKeys_sup (s : State) (g : KeyStore → KeyStore) : (s.modKeys g).sup = s.sup := rfl
@[simp] theorem modKeys_cores (s : State) (g : KeyStore → KeyStore) : (s.modKeys g).cores = s.cores := rfl
@[simp] theorem modKeys_l2 (s : State) (g : KeyStore → KeyStore) : (s.modKeys g).l2 = s.l2 := rfl
@[simp] theorem modKeys_hostOut (s : State) (g : KeyStore → KeyStore) : (s.modKeys g).hostOut = s.hostOut := rfl
@[simp] theorem modKeys_powerCycles (s : State) (g : KeyStore → KeyStore) : (s.modKeys g).powerCycles = s.powerCycles := rfl
@[simp] theorem modKeys_dieTemp (s : State) (g : KeyStore → KeyStore) : (s.modKeys g).dieTemp = s.dieTemp := rfl
@[simp] theorem modKeys_manifest (s : State) (g : KeyStore → KeyStore) : (s.modKeys g).manifest = s.manifest := rfl
@[simp] theorem modKeys_dict (s : State) (g : KeyStore → KeyStore) : (s.modKeys g).dict = s.dict := rfl
@[simp] theorem modKeys_locks (s : State) (g : KeyStore → KeyStore) : (s.modKeys g).locks = s.locks := rfl
@[simp] theorem modKeys_image (s : State) (g : KeyStore → KeyStore) : (s.modKeys g).image = s.image := rfl
@[simp] theorem modKeys_rcp (s : State) (g : KeyStore → KeyStore) : (s.modKeys g).rcp = s.rcp := rfl
@[simp] theorem modKeys_man (s : State) (g : KeyStore → KeyStore) : (s.modKeys g).man = s.man := rfl
@[simp] theorem modKeys_boot (s : State) (g : KeyStore → KeyStore) : (s.modKeys g).boot = s.boot := rfl
@[simp] theorem modKeys_pce (s : State) (g : KeyStore → KeyStore) : (s.modKeys g).pce = s.pce := rfl
@[simp] theorem modKeys_nvq (s : State) (g : KeyStore → KeyStore) : (s.modKeys g).nvq = s.nvq := rfl
@[simp] theorem modKeys_nvme (s : State) (g : KeyStore → KeyStore) : (s.modKeys g).nvme = s.nvme := rfl
@[simp] theorem modKeys_fni (s : State) (g : KeyStore → KeyStore) : (s.modKeys g).fni = s.fni := rfl
@[simp] theorem modKeys_journal (s : State) (g : KeyStore → KeyStore) : (s.modKeys g).journal = s.journal := rfl
@[simp] theorem modKeys_zones (s : State) (g : KeyStore → KeyStore) : (s.modKeys g).zones = s.zones := rfl

@[simp] theorem modFni_pending (s : State) (g : FniUnit → FniUnit) : (s.modFni g).pending = s.pending := rfl
@[simp] theorem modFni_variant1408 (s : State) (g : FniUnit → FniUnit) : (s.modFni g).variant1408 = s.variant1408 := rfl
@[simp] theorem modFni_power (s : State) (g : FniUnit → FniUnit) : (s.modFni g).power = s.power := rfl
@[simp] theorem modFni_tick (s : State) (g : FniUnit → FniUnit) : (s.modFni g).tick = s.tick := rfl
@[simp] theorem modFni_free (s : State) (g : FniUnit → FniUnit) : (s.modFni g).free = s.free := rfl
@[simp] theorem modFni_regs (s : State) (g : FniUnit → FniUnit) : (s.modFni g).regs = s.regs := rfl
@[simp] theorem modFni_mem (s : State) (g : FniUnit → FniUnit) : (s.modFni g).mem = s.mem := rfl
@[simp] theorem modFni_resp (s : State) (g : FniUnit → FniUnit) : (s.modFni g).resp = s.resp := rfl
@[simp] theorem modFni_raised (s : State) (g : FniUnit → FniUnit) : (s.modFni g).raised = s.raised := rfl
@[simp] theorem modFni_pulses (s : State) (g : FniUnit → FniUnit) : (s.modFni g).pulses = s.pulses := rfl
@[simp] theorem modFni_evrQueue (s : State) (g : FniUnit → FniUnit) : (s.modFni g).evrQueue = s.evrQueue := rfl
@[simp] theorem modFni_opSeconds (s : State) (g : FniUnit → FniUnit) : (s.modFni g).opSeconds = s.opSeconds := rfl
@[simp] theorem modFni_psl (s : State) (g : FniUnit → FniUnit) : (s.modFni g).psl = s.psl := rfl
@[simp] theorem modFni_dc (s : State) (g : FniUnit → FniUnit) : (s.modFni g).dc = s.dc := rfl
@[simp] theorem modFni_wp (s : State) (g : FniUnit → FniUnit) : (s.modFni g).wp = s.wp := rfl
@[simp] theorem modFni_fms (s : State) (g : FniUnit → FniUnit) : (s.modFni g).fms = s.fms := rfl
@[simp] theorem modFni_svd (s : State) (g : FniUnit → FniUnit) : (s.modFni g).svd = s.svd := rfl
@[simp] theorem modFni_adl (s : State) (g : FniUnit → FniUnit) : (s.modFni g).adl = s.adl := rfl
@[simp] theorem modFni_cle (s : State) (g : FniUnit → FniUnit) : (s.modFni g).cle = s.cle := rfl
@[simp] theorem modFni_spm (s : State) (g : FniUnit → FniUnit) : (s.modFni g).spm = s.spm := rfl
@[simp] theorem modFni_memu (s : State) (g : FniUnit → FniUnit) : (s.modFni g).memu = s.memu := rfl
@[simp] theorem modFni_evr (s : State) (g : FniUnit → FniUnit) : (s.modFni g).evr = s.evr := rfl
@[simp] theorem modFni_flt (s : State) (g : FniUnit → FniUnit) : (s.modFni g).flt = s.flt := rfl
@[simp] theorem modFni_dma (s : State) (g : FniUnit → FniUnit) : (s.modFni g).dma = s.dma := rfl
@[simp] theorem modFni_cip (s : State) (g : FniUnit → FniUnit) : (s.modFni g).cip = s.cip := rfl
@[simp] theorem modFni_keys (s : State) (g : FniUnit → FniUnit) : (s.modFni g).keys = s.keys := rfl
@[simp] theorem modFni_sup (s : State) (g : FniUnit → FniUnit) : (s.modFni g).sup = s.sup := rfl
@[simp] theorem modFni_cores (s : State) (g : FniUnit → FniUnit) : (s.modFni g).cores = s.cores := rfl
@[simp] theorem modFni_l2 (s : State) (g : FniUnit → FniUnit) : (s.modFni g).l2 = s.l2 := rfl
@[simp] theorem modFni_hostOut (s : State) (g : FniUnit → FniUnit) : (s.modFni g).hostOut = s.hostOut := rfl
@[simp] theorem modFni_powerCycles (s : State) (g : FniUnit → FniUnit) : (s.modFni g).powerCycles = s.powerCycles := rfl
@[simp] theorem modFni_dieTemp (s : State) (g : FniUnit → FniUnit) : (s.modFni g).dieTemp = s.dieTemp := rfl
@[simp] theorem modFni_manifest (s : State) (g : FniUnit → FniUnit) : (s.modFni g).manifest = s.manifest := rfl
@[simp] theorem modFni_dict (s : State) (g : FniUnit → FniUnit) : (s.modFni g).dict = s.dict := rfl
@[simp] theorem modFni_locks (s : State) (g : FniUnit → FniUnit) : (s.modFni g).locks = s.locks := rfl
@[simp] theorem modFni_image (s : State) (g : FniUnit → FniUnit) : (s.modFni g).image = s.image := rfl
@[simp] theorem modFni_rcp (s : State) (g : FniUnit → FniUnit) : (s.modFni g).rcp = s.rcp := rfl
@[simp] theorem modFni_man (s : State) (g : FniUnit → FniUnit) : (s.modFni g).man = s.man := rfl
@[simp] theorem modFni_boot (s : State) (g : FniUnit → FniUnit) : (s.modFni g).boot = s.boot := rfl
@[simp] theorem modFni_pce (s : State) (g : FniUnit → FniUnit) : (s.modFni g).pce = s.pce := rfl
@[simp] theorem modFni_nvq (s : State) (g : FniUnit → FniUnit) : (s.modFni g).nvq = s.nvq := rfl
@[simp] theorem modFni_nvme (s : State) (g : FniUnit → FniUnit) : (s.modFni g).nvme = s.nvme := rfl
@[simp] theorem modFni_journal (s : State) (g : FniUnit → FniUnit) : (s.modFni g).journal = s.journal := rfl
@[simp] theorem modFni_zones (s : State) (g : FniUnit → FniUnit) : (s.modFni g).zones = s.zones := rfl

@[simp] theorem modPce_pending (s : State) (g : PcieUnit → PcieUnit) : (s.modPce g).pending = s.pending := rfl
@[simp] theorem modPce_variant1408 (s : State) (g : PcieUnit → PcieUnit) : (s.modPce g).variant1408 = s.variant1408 := rfl
@[simp] theorem modPce_power (s : State) (g : PcieUnit → PcieUnit) : (s.modPce g).power = s.power := rfl
@[simp] theorem modPce_tick (s : State) (g : PcieUnit → PcieUnit) : (s.modPce g).tick = s.tick := rfl
@[simp] theorem modPce_free (s : State) (g : PcieUnit → PcieUnit) : (s.modPce g).free = s.free := rfl
@[simp] theorem modPce_regs (s : State) (g : PcieUnit → PcieUnit) : (s.modPce g).regs = s.regs := rfl
@[simp] theorem modPce_mem (s : State) (g : PcieUnit → PcieUnit) : (s.modPce g).mem = s.mem := rfl
@[simp] theorem modPce_resp (s : State) (g : PcieUnit → PcieUnit) : (s.modPce g).resp = s.resp := rfl
@[simp] theorem modPce_raised (s : State) (g : PcieUnit → PcieUnit) : (s.modPce g).raised = s.raised := rfl
@[simp] theorem modPce_pulses (s : State) (g : PcieUnit → PcieUnit) : (s.modPce g).pulses = s.pulses := rfl
@[simp] theorem modPce_evrQueue (s : State) (g : PcieUnit → PcieUnit) : (s.modPce g).evrQueue = s.evrQueue := rfl
@[simp] theorem modPce_opSeconds (s : State) (g : PcieUnit → PcieUnit) : (s.modPce g).opSeconds = s.opSeconds := rfl
@[simp] theorem modPce_psl (s : State) (g : PcieUnit → PcieUnit) : (s.modPce g).psl = s.psl := rfl
@[simp] theorem modPce_dc (s : State) (g : PcieUnit → PcieUnit) : (s.modPce g).dc = s.dc := rfl
@[simp] theorem modPce_wp (s : State) (g : PcieUnit → PcieUnit) : (s.modPce g).wp = s.wp := rfl
@[simp] theorem modPce_fms (s : State) (g : PcieUnit → PcieUnit) : (s.modPce g).fms = s.fms := rfl
@[simp] theorem modPce_svd (s : State) (g : PcieUnit → PcieUnit) : (s.modPce g).svd = s.svd := rfl
@[simp] theorem modPce_adl (s : State) (g : PcieUnit → PcieUnit) : (s.modPce g).adl = s.adl := rfl
@[simp] theorem modPce_cle (s : State) (g : PcieUnit → PcieUnit) : (s.modPce g).cle = s.cle := rfl
@[simp] theorem modPce_spm (s : State) (g : PcieUnit → PcieUnit) : (s.modPce g).spm = s.spm := rfl
@[simp] theorem modPce_memu (s : State) (g : PcieUnit → PcieUnit) : (s.modPce g).memu = s.memu := rfl
@[simp] theorem modPce_evr (s : State) (g : PcieUnit → PcieUnit) : (s.modPce g).evr = s.evr := rfl
@[simp] theorem modPce_flt (s : State) (g : PcieUnit → PcieUnit) : (s.modPce g).flt = s.flt := rfl
@[simp] theorem modPce_dma (s : State) (g : PcieUnit → PcieUnit) : (s.modPce g).dma = s.dma := rfl
@[simp] theorem modPce_cip (s : State) (g : PcieUnit → PcieUnit) : (s.modPce g).cip = s.cip := rfl
@[simp] theorem modPce_keys (s : State) (g : PcieUnit → PcieUnit) : (s.modPce g).keys = s.keys := rfl
@[simp] theorem modPce_sup (s : State) (g : PcieUnit → PcieUnit) : (s.modPce g).sup = s.sup := rfl
@[simp] theorem modPce_cores (s : State) (g : PcieUnit → PcieUnit) : (s.modPce g).cores = s.cores := rfl
@[simp] theorem modPce_l2 (s : State) (g : PcieUnit → PcieUnit) : (s.modPce g).l2 = s.l2 := rfl
@[simp] theorem modPce_hostOut (s : State) (g : PcieUnit → PcieUnit) : (s.modPce g).hostOut = s.hostOut := rfl
@[simp] theorem modPce_powerCycles (s : State) (g : PcieUnit → PcieUnit) : (s.modPce g).powerCycles = s.powerCycles := rfl
@[simp] theorem modPce_dieTemp (s : State) (g : PcieUnit → PcieUnit) : (s.modPce g).dieTemp = s.dieTemp := rfl
@[simp] theorem modPce_manifest (s : State) (g : PcieUnit → PcieUnit) : (s.modPce g).manifest = s.manifest := rfl
@[simp] theorem modPce_dict (s : State) (g : PcieUnit → PcieUnit) : (s.modPce g).dict = s.dict := rfl
@[simp] theorem modPce_locks (s : State) (g : PcieUnit → PcieUnit) : (s.modPce g).locks = s.locks := rfl
@[simp] theorem modPce_image (s : State) (g : PcieUnit → PcieUnit) : (s.modPce g).image = s.image := rfl
@[simp] theorem modPce_rcp (s : State) (g : PcieUnit → PcieUnit) : (s.modPce g).rcp = s.rcp := rfl
@[simp] theorem modPce_man (s : State) (g : PcieUnit → PcieUnit) : (s.modPce g).man = s.man := rfl
@[simp] theorem modPce_boot (s : State) (g : PcieUnit → PcieUnit) : (s.modPce g).boot = s.boot := rfl
@[simp] theorem modPce_nvq (s : State) (g : PcieUnit → PcieUnit) : (s.modPce g).nvq = s.nvq := rfl
@[simp] theorem modPce_nvme (s : State) (g : PcieUnit → PcieUnit) : (s.modPce g).nvme = s.nvme := rfl
@[simp] theorem modPce_fni (s : State) (g : PcieUnit → PcieUnit) : (s.modPce g).fni = s.fni := rfl
@[simp] theorem modPce_journal (s : State) (g : PcieUnit → PcieUnit) : (s.modPce g).journal = s.journal := rfl
@[simp] theorem modPce_zones (s : State) (g : PcieUnit → PcieUnit) : (s.modPce g).zones = s.zones := rfl

@[simp] theorem modNvq_pending (s : State) (g : NvqUnit → NvqUnit) : (s.modNvq g).pending = s.pending := rfl
@[simp] theorem modNvq_variant1408 (s : State) (g : NvqUnit → NvqUnit) : (s.modNvq g).variant1408 = s.variant1408 := rfl
@[simp] theorem modNvq_power (s : State) (g : NvqUnit → NvqUnit) : (s.modNvq g).power = s.power := rfl
@[simp] theorem modNvq_tick (s : State) (g : NvqUnit → NvqUnit) : (s.modNvq g).tick = s.tick := rfl
@[simp] theorem modNvq_free (s : State) (g : NvqUnit → NvqUnit) : (s.modNvq g).free = s.free := rfl
@[simp] theorem modNvq_regs (s : State) (g : NvqUnit → NvqUnit) : (s.modNvq g).regs = s.regs := rfl
@[simp] theorem modNvq_mem (s : State) (g : NvqUnit → NvqUnit) : (s.modNvq g).mem = s.mem := rfl
@[simp] theorem modNvq_resp (s : State) (g : NvqUnit → NvqUnit) : (s.modNvq g).resp = s.resp := rfl
@[simp] theorem modNvq_raised (s : State) (g : NvqUnit → NvqUnit) : (s.modNvq g).raised = s.raised := rfl
@[simp] theorem modNvq_pulses (s : State) (g : NvqUnit → NvqUnit) : (s.modNvq g).pulses = s.pulses := rfl
@[simp] theorem modNvq_evrQueue (s : State) (g : NvqUnit → NvqUnit) : (s.modNvq g).evrQueue = s.evrQueue := rfl
@[simp] theorem modNvq_opSeconds (s : State) (g : NvqUnit → NvqUnit) : (s.modNvq g).opSeconds = s.opSeconds := rfl
@[simp] theorem modNvq_psl (s : State) (g : NvqUnit → NvqUnit) : (s.modNvq g).psl = s.psl := rfl
@[simp] theorem modNvq_dc (s : State) (g : NvqUnit → NvqUnit) : (s.modNvq g).dc = s.dc := rfl
@[simp] theorem modNvq_wp (s : State) (g : NvqUnit → NvqUnit) : (s.modNvq g).wp = s.wp := rfl
@[simp] theorem modNvq_fms (s : State) (g : NvqUnit → NvqUnit) : (s.modNvq g).fms = s.fms := rfl
@[simp] theorem modNvq_svd (s : State) (g : NvqUnit → NvqUnit) : (s.modNvq g).svd = s.svd := rfl
@[simp] theorem modNvq_adl (s : State) (g : NvqUnit → NvqUnit) : (s.modNvq g).adl = s.adl := rfl
@[simp] theorem modNvq_cle (s : State) (g : NvqUnit → NvqUnit) : (s.modNvq g).cle = s.cle := rfl
@[simp] theorem modNvq_spm (s : State) (g : NvqUnit → NvqUnit) : (s.modNvq g).spm = s.spm := rfl
@[simp] theorem modNvq_memu (s : State) (g : NvqUnit → NvqUnit) : (s.modNvq g).memu = s.memu := rfl
@[simp] theorem modNvq_evr (s : State) (g : NvqUnit → NvqUnit) : (s.modNvq g).evr = s.evr := rfl
@[simp] theorem modNvq_flt (s : State) (g : NvqUnit → NvqUnit) : (s.modNvq g).flt = s.flt := rfl
@[simp] theorem modNvq_dma (s : State) (g : NvqUnit → NvqUnit) : (s.modNvq g).dma = s.dma := rfl
@[simp] theorem modNvq_cip (s : State) (g : NvqUnit → NvqUnit) : (s.modNvq g).cip = s.cip := rfl
@[simp] theorem modNvq_keys (s : State) (g : NvqUnit → NvqUnit) : (s.modNvq g).keys = s.keys := rfl
@[simp] theorem modNvq_sup (s : State) (g : NvqUnit → NvqUnit) : (s.modNvq g).sup = s.sup := rfl
@[simp] theorem modNvq_cores (s : State) (g : NvqUnit → NvqUnit) : (s.modNvq g).cores = s.cores := rfl
@[simp] theorem modNvq_l2 (s : State) (g : NvqUnit → NvqUnit) : (s.modNvq g).l2 = s.l2 := rfl
@[simp] theorem modNvq_hostOut (s : State) (g : NvqUnit → NvqUnit) : (s.modNvq g).hostOut = s.hostOut := rfl
@[simp] theorem modNvq_powerCycles (s : State) (g : NvqUnit → NvqUnit) : (s.modNvq g).powerCycles = s.powerCycles := rfl
@[simp] theorem modNvq_dieTemp (s : State) (g : NvqUnit → NvqUnit) : (s.modNvq g).dieTemp = s.dieTemp := rfl
@[simp] theorem modNvq_manifest (s : State) (g : NvqUnit → NvqUnit) : (s.modNvq g).manifest = s.manifest := rfl
@[simp] theorem modNvq_dict (s : State) (g : NvqUnit → NvqUnit) : (s.modNvq g).dict = s.dict := rfl
@[simp] theorem modNvq_locks (s : State) (g : NvqUnit → NvqUnit) : (s.modNvq g).locks = s.locks := rfl
@[simp] theorem modNvq_image (s : State) (g : NvqUnit → NvqUnit) : (s.modNvq g).image = s.image := rfl
@[simp] theorem modNvq_rcp (s : State) (g : NvqUnit → NvqUnit) : (s.modNvq g).rcp = s.rcp := rfl
@[simp] theorem modNvq_man (s : State) (g : NvqUnit → NvqUnit) : (s.modNvq g).man = s.man := rfl
@[simp] theorem modNvq_boot (s : State) (g : NvqUnit → NvqUnit) : (s.modNvq g).boot = s.boot := rfl
@[simp] theorem modNvq_pce (s : State) (g : NvqUnit → NvqUnit) : (s.modNvq g).pce = s.pce := rfl
@[simp] theorem modNvq_nvme (s : State) (g : NvqUnit → NvqUnit) : (s.modNvq g).nvme = s.nvme := rfl
@[simp] theorem modNvq_fni (s : State) (g : NvqUnit → NvqUnit) : (s.modNvq g).fni = s.fni := rfl
@[simp] theorem modNvq_journal (s : State) (g : NvqUnit → NvqUnit) : (s.modNvq g).journal = s.journal := rfl
@[simp] theorem modNvq_zones (s : State) (g : NvqUnit → NvqUnit) : (s.modNvq g).zones = s.zones := rfl

@[simp] theorem modNvme_pending (s : State) (g : NvmeUnit → NvmeUnit) : (s.modNvme g).pending = s.pending := rfl
@[simp] theorem modNvme_variant1408 (s : State) (g : NvmeUnit → NvmeUnit) : (s.modNvme g).variant1408 = s.variant1408 := rfl
@[simp] theorem modNvme_power (s : State) (g : NvmeUnit → NvmeUnit) : (s.modNvme g).power = s.power := rfl
@[simp] theorem modNvme_tick (s : State) (g : NvmeUnit → NvmeUnit) : (s.modNvme g).tick = s.tick := rfl
@[simp] theorem modNvme_free (s : State) (g : NvmeUnit → NvmeUnit) : (s.modNvme g).free = s.free := rfl
@[simp] theorem modNvme_regs (s : State) (g : NvmeUnit → NvmeUnit) : (s.modNvme g).regs = s.regs := rfl
@[simp] theorem modNvme_mem (s : State) (g : NvmeUnit → NvmeUnit) : (s.modNvme g).mem = s.mem := rfl
@[simp] theorem modNvme_resp (s : State) (g : NvmeUnit → NvmeUnit) : (s.modNvme g).resp = s.resp := rfl
@[simp] theorem modNvme_raised (s : State) (g : NvmeUnit → NvmeUnit) : (s.modNvme g).raised = s.raised := rfl
@[simp] theorem modNvme_pulses (s : State) (g : NvmeUnit → NvmeUnit) : (s.modNvme g).pulses = s.pulses := rfl
@[simp] theorem modNvme_evrQueue (s : State) (g : NvmeUnit → NvmeUnit) : (s.modNvme g).evrQueue = s.evrQueue := rfl
@[simp] theorem modNvme_opSeconds (s : State) (g : NvmeUnit → NvmeUnit) : (s.modNvme g).opSeconds = s.opSeconds := rfl
@[simp] theorem modNvme_psl (s : State) (g : NvmeUnit → NvmeUnit) : (s.modNvme g).psl = s.psl := rfl
@[simp] theorem modNvme_dc (s : State) (g : NvmeUnit → NvmeUnit) : (s.modNvme g).dc = s.dc := rfl
@[simp] theorem modNvme_wp (s : State) (g : NvmeUnit → NvmeUnit) : (s.modNvme g).wp = s.wp := rfl
@[simp] theorem modNvme_fms (s : State) (g : NvmeUnit → NvmeUnit) : (s.modNvme g).fms = s.fms := rfl
@[simp] theorem modNvme_svd (s : State) (g : NvmeUnit → NvmeUnit) : (s.modNvme g).svd = s.svd := rfl
@[simp] theorem modNvme_adl (s : State) (g : NvmeUnit → NvmeUnit) : (s.modNvme g).adl = s.adl := rfl
@[simp] theorem modNvme_cle (s : State) (g : NvmeUnit → NvmeUnit) : (s.modNvme g).cle = s.cle := rfl
@[simp] theorem modNvme_spm (s : State) (g : NvmeUnit → NvmeUnit) : (s.modNvme g).spm = s.spm := rfl
@[simp] theorem modNvme_memu (s : State) (g : NvmeUnit → NvmeUnit) : (s.modNvme g).memu = s.memu := rfl
@[simp] theorem modNvme_evr (s : State) (g : NvmeUnit → NvmeUnit) : (s.modNvme g).evr = s.evr := rfl
@[simp] theorem modNvme_flt (s : State) (g : NvmeUnit → NvmeUnit) : (s.modNvme g).flt = s.flt := rfl
@[simp] theorem modNvme_dma (s : State) (g : NvmeUnit → NvmeUnit) : (s.modNvme g).dma = s.dma := rfl
@[simp] theorem modNvme_cip (s : State) (g : NvmeUnit → NvmeUnit) : (s.modNvme g).cip = s.cip := rfl
@[simp] theorem modNvme_keys (s : State) (g : NvmeUnit → NvmeUnit) : (s.modNvme g).keys = s.keys := rfl
@[simp] theorem modNvme_sup (s : State) (g : NvmeUnit → NvmeUnit) : (s.modNvme g).sup = s.sup := rfl
@[simp] theorem modNvme_cores (s : State) (g : NvmeUnit → NvmeUnit) : (s.modNvme g).cores = s.cores := rfl
@[simp] theorem modNvme_l2 (s : State) (g : NvmeUnit → NvmeUnit) : (s.modNvme g).l2 = s.l2 := rfl
@[simp] theorem modNvme_hostOut (s : State) (g : NvmeUnit → NvmeUnit) : (s.modNvme g).hostOut = s.hostOut := rfl
@[simp] theorem modNvme_powerCycles (s : State) (g : NvmeUnit → NvmeUnit) : (s.modNvme g).powerCycles = s.powerCycles := rfl
@[simp] theorem modNvme_dieTemp (s : State) (g : NvmeUnit → NvmeUnit) : (s.modNvme g).dieTemp = s.dieTemp := rfl
@[simp] theorem modNvme_manifest (s : State) (g : NvmeUnit → NvmeUnit) : (s.modNvme g).manifest = s.manifest := rfl
@[simp] theorem modNvme_dict (s : State) (g : NvmeUnit → NvmeUnit) : (s.modNvme g).dict = s.dict := rfl
@[simp] theorem modNvme_locks (s : State) (g : NvmeUnit → NvmeUnit) : (s.modNvme g).locks = s.locks := rfl
@[simp] theorem modNvme_image (s : State) (g : NvmeUnit → NvmeUnit) : (s.modNvme g).image = s.image := rfl
@[simp] theorem modNvme_rcp (s : State) (g : NvmeUnit → NvmeUnit) : (s.modNvme g).rcp = s.rcp := rfl
@[simp] theorem modNvme_man (s : State) (g : NvmeUnit → NvmeUnit) : (s.modNvme g).man = s.man := rfl
@[simp] theorem modNvme_boot (s : State) (g : NvmeUnit → NvmeUnit) : (s.modNvme g).boot = s.boot := rfl
@[simp] theorem modNvme_pce (s : State) (g : NvmeUnit → NvmeUnit) : (s.modNvme g).pce = s.pce := rfl
@[simp] theorem modNvme_nvq (s : State) (g : NvmeUnit → NvmeUnit) : (s.modNvme g).nvq = s.nvq := rfl
@[simp] theorem modNvme_fni (s : State) (g : NvmeUnit → NvmeUnit) : (s.modNvme g).fni = s.fni := rfl
@[simp] theorem modNvme_journal (s : State) (g : NvmeUnit → NvmeUnit) : (s.modNvme g).journal = s.journal := rfl
@[simp] theorem modNvme_zones (s : State) (g : NvmeUnit → NvmeUnit) : (s.modNvme g).zones = s.zones := rfl

@[simp] theorem modRcp_pending (s : State) (g : RcpUnit → RcpUnit) : (s.modRcp g).pending = s.pending := rfl
@[simp] theorem modRcp_variant1408 (s : State) (g : RcpUnit → RcpUnit) : (s.modRcp g).variant1408 = s.variant1408 := rfl
@[simp] theorem modRcp_power (s : State) (g : RcpUnit → RcpUnit) : (s.modRcp g).power = s.power := rfl
@[simp] theorem modRcp_tick (s : State) (g : RcpUnit → RcpUnit) : (s.modRcp g).tick = s.tick := rfl
@[simp] theorem modRcp_free (s : State) (g : RcpUnit → RcpUnit) : (s.modRcp g).free = s.free := rfl
@[simp] theorem modRcp_regs (s : State) (g : RcpUnit → RcpUnit) : (s.modRcp g).regs = s.regs := rfl
@[simp] theorem modRcp_mem (s : State) (g : RcpUnit → RcpUnit) : (s.modRcp g).mem = s.mem := rfl
@[simp] theorem modRcp_resp (s : State) (g : RcpUnit → RcpUnit) : (s.modRcp g).resp = s.resp := rfl
@[simp] theorem modRcp_raised (s : State) (g : RcpUnit → RcpUnit) : (s.modRcp g).raised = s.raised := rfl
@[simp] theorem modRcp_pulses (s : State) (g : RcpUnit → RcpUnit) : (s.modRcp g).pulses = s.pulses := rfl
@[simp] theorem modRcp_evrQueue (s : State) (g : RcpUnit → RcpUnit) : (s.modRcp g).evrQueue = s.evrQueue := rfl
@[simp] theorem modRcp_opSeconds (s : State) (g : RcpUnit → RcpUnit) : (s.modRcp g).opSeconds = s.opSeconds := rfl
@[simp] theorem modRcp_psl (s : State) (g : RcpUnit → RcpUnit) : (s.modRcp g).psl = s.psl := rfl
@[simp] theorem modRcp_dc (s : State) (g : RcpUnit → RcpUnit) : (s.modRcp g).dc = s.dc := rfl
@[simp] theorem modRcp_wp (s : State) (g : RcpUnit → RcpUnit) : (s.modRcp g).wp = s.wp := rfl
@[simp] theorem modRcp_fms (s : State) (g : RcpUnit → RcpUnit) : (s.modRcp g).fms = s.fms := rfl
@[simp] theorem modRcp_svd (s : State) (g : RcpUnit → RcpUnit) : (s.modRcp g).svd = s.svd := rfl
@[simp] theorem modRcp_adl (s : State) (g : RcpUnit → RcpUnit) : (s.modRcp g).adl = s.adl := rfl
@[simp] theorem modRcp_cle (s : State) (g : RcpUnit → RcpUnit) : (s.modRcp g).cle = s.cle := rfl
@[simp] theorem modRcp_spm (s : State) (g : RcpUnit → RcpUnit) : (s.modRcp g).spm = s.spm := rfl
@[simp] theorem modRcp_memu (s : State) (g : RcpUnit → RcpUnit) : (s.modRcp g).memu = s.memu := rfl
@[simp] theorem modRcp_evr (s : State) (g : RcpUnit → RcpUnit) : (s.modRcp g).evr = s.evr := rfl
@[simp] theorem modRcp_flt (s : State) (g : RcpUnit → RcpUnit) : (s.modRcp g).flt = s.flt := rfl
@[simp] theorem modRcp_dma (s : State) (g : RcpUnit → RcpUnit) : (s.modRcp g).dma = s.dma := rfl
@[simp] theorem modRcp_cip (s : State) (g : RcpUnit → RcpUnit) : (s.modRcp g).cip = s.cip := rfl
@[simp] theorem modRcp_keys (s : State) (g : RcpUnit → RcpUnit) : (s.modRcp g).keys = s.keys := rfl
@[simp] theorem modRcp_sup (s : State) (g : RcpUnit → RcpUnit) : (s.modRcp g).sup = s.sup := rfl
@[simp] theorem modRcp_cores (s : State) (g : RcpUnit → RcpUnit) : (s.modRcp g).cores = s.cores := rfl
@[simp] theorem modRcp_l2 (s : State) (g : RcpUnit → RcpUnit) : (s.modRcp g).l2 = s.l2 := rfl
@[simp] theorem modRcp_hostOut (s : State) (g : RcpUnit → RcpUnit) : (s.modRcp g).hostOut = s.hostOut := rfl
@[simp] theorem modRcp_powerCycles (s : State) (g : RcpUnit → RcpUnit) : (s.modRcp g).powerCycles = s.powerCycles := rfl
@[simp] theorem modRcp_dieTemp (s : State) (g : RcpUnit → RcpUnit) : (s.modRcp g).dieTemp = s.dieTemp := rfl
@[simp] theorem modRcp_manifest (s : State) (g : RcpUnit → RcpUnit) : (s.modRcp g).manifest = s.manifest := rfl
@[simp] theorem modRcp_dict (s : State) (g : RcpUnit → RcpUnit) : (s.modRcp g).dict = s.dict := rfl
@[simp] theorem modRcp_locks (s : State) (g : RcpUnit → RcpUnit) : (s.modRcp g).locks = s.locks := rfl
@[simp] theorem modRcp_image (s : State) (g : RcpUnit → RcpUnit) : (s.modRcp g).image = s.image := rfl
@[simp] theorem modRcp_man (s : State) (g : RcpUnit → RcpUnit) : (s.modRcp g).man = s.man := rfl
@[simp] theorem modRcp_boot (s : State) (g : RcpUnit → RcpUnit) : (s.modRcp g).boot = s.boot := rfl
@[simp] theorem modRcp_pce (s : State) (g : RcpUnit → RcpUnit) : (s.modRcp g).pce = s.pce := rfl
@[simp] theorem modRcp_nvq (s : State) (g : RcpUnit → RcpUnit) : (s.modRcp g).nvq = s.nvq := rfl
@[simp] theorem modRcp_nvme (s : State) (g : RcpUnit → RcpUnit) : (s.modRcp g).nvme = s.nvme := rfl
@[simp] theorem modRcp_fni (s : State) (g : RcpUnit → RcpUnit) : (s.modRcp g).fni = s.fni := rfl
@[simp] theorem modRcp_journal (s : State) (g : RcpUnit → RcpUnit) : (s.modRcp g).journal = s.journal := rfl
@[simp] theorem modRcp_zones (s : State) (g : RcpUnit → RcpUnit) : (s.modRcp g).zones = s.zones := rfl

@[simp] theorem modMan_pending (s : State) (g : ManUnit → ManUnit) : (s.modMan g).pending = s.pending := rfl
@[simp] theorem modMan_variant1408 (s : State) (g : ManUnit → ManUnit) : (s.modMan g).variant1408 = s.variant1408 := rfl
@[simp] theorem modMan_power (s : State) (g : ManUnit → ManUnit) : (s.modMan g).power = s.power := rfl
@[simp] theorem modMan_tick (s : State) (g : ManUnit → ManUnit) : (s.modMan g).tick = s.tick := rfl
@[simp] theorem modMan_free (s : State) (g : ManUnit → ManUnit) : (s.modMan g).free = s.free := rfl
@[simp] theorem modMan_regs (s : State) (g : ManUnit → ManUnit) : (s.modMan g).regs = s.regs := rfl
@[simp] theorem modMan_mem (s : State) (g : ManUnit → ManUnit) : (s.modMan g).mem = s.mem := rfl
@[simp] theorem modMan_resp (s : State) (g : ManUnit → ManUnit) : (s.modMan g).resp = s.resp := rfl
@[simp] theorem modMan_raised (s : State) (g : ManUnit → ManUnit) : (s.modMan g).raised = s.raised := rfl
@[simp] theorem modMan_pulses (s : State) (g : ManUnit → ManUnit) : (s.modMan g).pulses = s.pulses := rfl
@[simp] theorem modMan_evrQueue (s : State) (g : ManUnit → ManUnit) : (s.modMan g).evrQueue = s.evrQueue := rfl
@[simp] theorem modMan_opSeconds (s : State) (g : ManUnit → ManUnit) : (s.modMan g).opSeconds = s.opSeconds := rfl
@[simp] theorem modMan_psl (s : State) (g : ManUnit → ManUnit) : (s.modMan g).psl = s.psl := rfl
@[simp] theorem modMan_dc (s : State) (g : ManUnit → ManUnit) : (s.modMan g).dc = s.dc := rfl
@[simp] theorem modMan_wp (s : State) (g : ManUnit → ManUnit) : (s.modMan g).wp = s.wp := rfl
@[simp] theorem modMan_fms (s : State) (g : ManUnit → ManUnit) : (s.modMan g).fms = s.fms := rfl
@[simp] theorem modMan_svd (s : State) (g : ManUnit → ManUnit) : (s.modMan g).svd = s.svd := rfl
@[simp] theorem modMan_adl (s : State) (g : ManUnit → ManUnit) : (s.modMan g).adl = s.adl := rfl
@[simp] theorem modMan_cle (s : State) (g : ManUnit → ManUnit) : (s.modMan g).cle = s.cle := rfl
@[simp] theorem modMan_spm (s : State) (g : ManUnit → ManUnit) : (s.modMan g).spm = s.spm := rfl
@[simp] theorem modMan_memu (s : State) (g : ManUnit → ManUnit) : (s.modMan g).memu = s.memu := rfl
@[simp] theorem modMan_evr (s : State) (g : ManUnit → ManUnit) : (s.modMan g).evr = s.evr := rfl
@[simp] theorem modMan_flt (s : State) (g : ManUnit → ManUnit) : (s.modMan g).flt = s.flt := rfl
@[simp] theorem modMan_dma (s : State) (g : ManUnit → ManUnit) : (s.modMan g).dma = s.dma := rfl
@[simp] theorem modMan_cip (s : State) (g : ManUnit → ManUnit) : (s.modMan g).cip = s.cip := rfl
@[simp] theorem modMan_keys (s : State) (g : ManUnit → ManUnit) : (s.modMan g).keys = s.keys := rfl
@[simp] theorem modMan_sup (s : State) (g : ManUnit → ManUnit) : (s.modMan g).sup = s.sup := rfl
@[simp] theorem modMan_cores (s : State) (g : ManUnit → ManUnit) : (s.modMan g).cores = s.cores := rfl
@[simp] theorem modMan_l2 (s : State) (g : ManUnit → ManUnit) : (s.modMan g).l2 = s.l2 := rfl
@[simp] theorem modMan_hostOut (s : State) (g : ManUnit → ManUnit) : (s.modMan g).hostOut = s.hostOut := rfl
@[simp] theorem modMan_powerCycles (s : State) (g : ManUnit → ManUnit) : (s.modMan g).powerCycles = s.powerCycles := rfl
@[simp] theorem modMan_dieTemp (s : State) (g : ManUnit → ManUnit) : (s.modMan g).dieTemp = s.dieTemp := rfl
@[simp] theorem modMan_manifest (s : State) (g : ManUnit → ManUnit) : (s.modMan g).manifest = s.manifest := rfl
@[simp] theorem modMan_dict (s : State) (g : ManUnit → ManUnit) : (s.modMan g).dict = s.dict := rfl
@[simp] theorem modMan_locks (s : State) (g : ManUnit → ManUnit) : (s.modMan g).locks = s.locks := rfl
@[simp] theorem modMan_image (s : State) (g : ManUnit → ManUnit) : (s.modMan g).image = s.image := rfl
@[simp] theorem modMan_rcp (s : State) (g : ManUnit → ManUnit) : (s.modMan g).rcp = s.rcp := rfl
@[simp] theorem modMan_boot (s : State) (g : ManUnit → ManUnit) : (s.modMan g).boot = s.boot := rfl
@[simp] theorem modMan_pce (s : State) (g : ManUnit → ManUnit) : (s.modMan g).pce = s.pce := rfl
@[simp] theorem modMan_nvq (s : State) (g : ManUnit → ManUnit) : (s.modMan g).nvq = s.nvq := rfl
@[simp] theorem modMan_nvme (s : State) (g : ManUnit → ManUnit) : (s.modMan g).nvme = s.nvme := rfl
@[simp] theorem modMan_fni (s : State) (g : ManUnit → ManUnit) : (s.modMan g).fni = s.fni := rfl
@[simp] theorem modMan_journal (s : State) (g : ManUnit → ManUnit) : (s.modMan g).journal = s.journal := rfl
@[simp] theorem modMan_zones (s : State) (g : ManUnit → ManUnit) : (s.modMan g).zones = s.zones := rfl

@[simp] theorem modSup_pending (s : State) (g : SupUnit → SupUnit) : (s.modSup g).pending = s.pending := rfl
@[simp] theorem modSup_variant1408 (s : State) (g : SupUnit → SupUnit) : (s.modSup g).variant1408 = s.variant1408 := rfl
@[simp] theorem modSup_power (s : State) (g : SupUnit → SupUnit) : (s.modSup g).power = s.power := rfl
@[simp] theorem modSup_tick (s : State) (g : SupUnit → SupUnit) : (s.modSup g).tick = s.tick := rfl
@[simp] theorem modSup_free (s : State) (g : SupUnit → SupUnit) : (s.modSup g).free = s.free := rfl
@[simp] theorem modSup_regs (s : State) (g : SupUnit → SupUnit) : (s.modSup g).regs = s.regs := rfl
@[simp] theorem modSup_mem (s : State) (g : SupUnit → SupUnit) : (s.modSup g).mem = s.mem := rfl
@[simp] theorem modSup_resp (s : State) (g : SupUnit → SupUnit) : (s.modSup g).resp = s.resp := rfl
@[simp] theorem modSup_raised (s : State) (g : SupUnit → SupUnit) : (s.modSup g).raised = s.raised := rfl
@[simp] theorem modSup_pulses (s : State) (g : SupUnit → SupUnit) : (s.modSup g).pulses = s.pulses := rfl
@[simp] theorem modSup_evrQueue (s : State) (g : SupUnit → SupUnit) : (s.modSup g).evrQueue = s.evrQueue := rfl
@[simp] theorem modSup_opSeconds (s : State) (g : SupUnit → SupUnit) : (s.modSup g).opSeconds = s.opSeconds := rfl
@[simp] theorem modSup_psl (s : State) (g : SupUnit → SupUnit) : (s.modSup g).psl = s.psl := rfl
@[simp] theorem modSup_dc (s : State) (g : SupUnit → SupUnit) : (s.modSup g).dc = s.dc := rfl
@[simp] theorem modSup_wp (s : State) (g : SupUnit → SupUnit) : (s.modSup g).wp = s.wp := rfl
@[simp] theorem modSup_fms (s : State) (g : SupUnit → SupUnit) : (s.modSup g).fms = s.fms := rfl
@[simp] theorem modSup_svd (s : State) (g : SupUnit → SupUnit) : (s.modSup g).svd = s.svd := rfl
@[simp] theorem modSup_adl (s : State) (g : SupUnit → SupUnit) : (s.modSup g).adl = s.adl := rfl
@[simp] theorem modSup_cle (s : State) (g : SupUnit → SupUnit) : (s.modSup g).cle = s.cle := rfl
@[simp] theorem modSup_spm (s : State) (g : SupUnit → SupUnit) : (s.modSup g).spm = s.spm := rfl
@[simp] theorem modSup_memu (s : State) (g : SupUnit → SupUnit) : (s.modSup g).memu = s.memu := rfl
@[simp] theorem modSup_evr (s : State) (g : SupUnit → SupUnit) : (s.modSup g).evr = s.evr := rfl
@[simp] theorem modSup_flt (s : State) (g : SupUnit → SupUnit) : (s.modSup g).flt = s.flt := rfl
@[simp] theorem modSup_dma (s : State) (g : SupUnit → SupUnit) : (s.modSup g).dma = s.dma := rfl
@[simp] theorem modSup_cip (s : State) (g : SupUnit → SupUnit) : (s.modSup g).cip = s.cip := rfl
@[simp] theorem modSup_keys (s : State) (g : SupUnit → SupUnit) : (s.modSup g).keys = s.keys := rfl
@[simp] theorem modSup_cores (s : State) (g : SupUnit → SupUnit) : (s.modSup g).cores = s.cores := rfl
@[simp] theorem modSup_l2 (s : State) (g : SupUnit → SupUnit) : (s.modSup g).l2 = s.l2 := rfl
@[simp] theorem modSup_hostOut (s : State) (g : SupUnit → SupUnit) : (s.modSup g).hostOut = s.hostOut := rfl
@[simp] theorem modSup_powerCycles (s : State) (g : SupUnit → SupUnit) : (s.modSup g).powerCycles = s.powerCycles := rfl
@[simp] theorem modSup_dieTemp (s : State) (g : SupUnit → SupUnit) : (s.modSup g).dieTemp = s.dieTemp := rfl
@[simp] theorem modSup_manifest (s : State) (g : SupUnit → SupUnit) : (s.modSup g).manifest = s.manifest := rfl
@[simp] theorem modSup_dict (s : State) (g : SupUnit → SupUnit) : (s.modSup g).dict = s.dict := rfl
@[simp] theorem modSup_locks (s : State) (g : SupUnit → SupUnit) : (s.modSup g).locks = s.locks := rfl
@[simp] theorem modSup_image (s : State) (g : SupUnit → SupUnit) : (s.modSup g).image = s.image := rfl
@[simp] theorem modSup_rcp (s : State) (g : SupUnit → SupUnit) : (s.modSup g).rcp = s.rcp := rfl
@[simp] theorem modSup_man (s : State) (g : SupUnit → SupUnit) : (s.modSup g).man = s.man := rfl
@[simp] theorem modSup_boot (s : State) (g : SupUnit → SupUnit) : (s.modSup g).boot = s.boot := rfl
@[simp] theorem modSup_pce (s : State) (g : SupUnit → SupUnit) : (s.modSup g).pce = s.pce := rfl
@[simp] theorem modSup_nvq (s : State) (g : SupUnit → SupUnit) : (s.modSup g).nvq = s.nvq := rfl
@[simp] theorem modSup_nvme (s : State) (g : SupUnit → SupUnit) : (s.modSup g).nvme = s.nvme := rfl
@[simp] theorem modSup_fni (s : State) (g : SupUnit → SupUnit) : (s.modSup g).fni = s.fni := rfl
@[simp] theorem modSup_journal (s : State) (g : SupUnit → SupUnit) : (s.modSup g).journal = s.journal := rfl
@[simp] theorem modSup_zones (s : State) (g : SupUnit → SupUnit) : (s.modSup g).zones = s.zones := rfl

@[simp] theorem modBoot_pending (s : State) (g : BootUnit → BootUnit) : (s.modBoot g).pending = s.pending := rfl
@[simp] theorem modBoot_variant1408 (s : State) (g : BootUnit → BootUnit) : (s.modBoot g).variant1408 = s.variant1408 := rfl
@[simp] theorem modBoot_power (s : State) (g : BootUnit → BootUnit) : (s.modBoot g).power = s.power := rfl
@[simp] theorem modBoot_tick (s : State) (g : BootUnit → BootUnit) : (s.modBoot g).tick = s.tick := rfl
@[simp] theorem modBoot_free (s : State) (g : BootUnit → BootUnit) : (s.modBoot g).free = s.free := rfl
@[simp] theorem modBoot_regs (s : State) (g : BootUnit → BootUnit) : (s.modBoot g).regs = s.regs := rfl
@[simp] theorem modBoot_mem (s : State) (g : BootUnit → BootUnit) : (s.modBoot g).mem = s.mem := rfl
@[simp] theorem modBoot_resp (s : State) (g : BootUnit → BootUnit) : (s.modBoot g).resp = s.resp := rfl
@[simp] theorem modBoot_raised (s : State) (g : BootUnit → BootUnit) : (s.modBoot g).raised = s.raised := rfl
@[simp] theorem modBoot_pulses (s : State) (g : BootUnit → BootUnit) : (s.modBoot g).pulses = s.pulses := rfl
@[simp] theorem modBoot_evrQueue (s : State) (g : BootUnit → BootUnit) : (s.modBoot g).evrQueue = s.evrQueue := rfl
@[simp] theorem modBoot_opSeconds (s : State) (g : BootUnit → BootUnit) : (s.modBoot g).opSeconds = s.opSeconds := rfl
@[simp] theorem modBoot_psl (s : State) (g : BootUnit → BootUnit) : (s.modBoot g).psl = s.psl := rfl
@[simp] theorem modBoot_dc (s : State) (g : BootUnit → BootUnit) : (s.modBoot g).dc = s.dc := rfl
@[simp] theorem modBoot_wp (s : State) (g : BootUnit → BootUnit) : (s.modBoot g).wp = s.wp := rfl
@[simp] theorem modBoot_fms (s : State) (g : BootUnit → BootUnit) : (s.modBoot g).fms = s.fms := rfl
@[simp] theorem modBoot_svd (s : State) (g : BootUnit → BootUnit) : (s.modBoot g).svd = s.svd := rfl
@[simp] theorem modBoot_adl (s : State) (g : BootUnit → BootUnit) : (s.modBoot g).adl = s.adl := rfl
@[simp] theorem modBoot_cle (s : State) (g : BootUnit → BootUnit) : (s.modBoot g).cle = s.cle := rfl
@[simp] theorem modBoot_spm (s : State) (g : BootUnit → BootUnit) : (s.modBoot g).spm = s.spm := rfl
@[simp] theorem modBoot_memu (s : State) (g : BootUnit → BootUnit) : (s.modBoot g).memu = s.memu := rfl
@[simp] theorem modBoot_evr (s : State) (g : BootUnit → BootUnit) : (s.modBoot g).evr = s.evr := rfl
@[simp] theorem modBoot_flt (s : State) (g : BootUnit → BootUnit) : (s.modBoot g).flt = s.flt := rfl
@[simp] theorem modBoot_dma (s : State) (g : BootUnit → BootUnit) : (s.modBoot g).dma = s.dma := rfl
@[simp] theorem modBoot_cip (s : State) (g : BootUnit → BootUnit) : (s.modBoot g).cip = s.cip := rfl
@[simp] theorem modBoot_keys (s : State) (g : BootUnit → BootUnit) : (s.modBoot g).keys = s.keys := rfl
@[simp] theorem modBoot_sup (s : State) (g : BootUnit → BootUnit) : (s.modBoot g).sup = s.sup := rfl
@[simp] theorem modBoot_cores (s : State) (g : BootUnit → BootUnit) : (s.modBoot g).cores = s.cores := rfl
@[simp] theorem modBoot_l2 (s : State) (g : BootUnit → BootUnit) : (s.modBoot g).l2 = s.l2 := rfl
@[simp] theorem modBoot_hostOut (s : State) (g : BootUnit → BootUnit) : (s.modBoot g).hostOut = s.hostOut := rfl
@[simp] theorem modBoot_powerCycles (s : State) (g : BootUnit → BootUnit) : (s.modBoot g).powerCycles = s.powerCycles := rfl
@[simp] theorem modBoot_dieTemp (s : State) (g : BootUnit → BootUnit) : (s.modBoot g).dieTemp = s.dieTemp := rfl
@[simp] theorem modBoot_manifest (s : State) (g : BootUnit → BootUnit) : (s.modBoot g).manifest = s.manifest := rfl
@[simp] theorem modBoot_dict (s : State) (g : BootUnit → BootUnit) : (s.modBoot g).dict = s.dict := rfl
@[simp] theorem modBoot_locks (s : State) (g : BootUnit → BootUnit) : (s.modBoot g).locks = s.locks := rfl
@[simp] theorem modBoot_image (s : State) (g : BootUnit → BootUnit) : (s.modBoot g).image = s.image := rfl
@[simp] theorem modBoot_rcp (s : State) (g : BootUnit → BootUnit) : (s.modBoot g).rcp = s.rcp := rfl
@[simp] theorem modBoot_man (s : State) (g : BootUnit → BootUnit) : (s.modBoot g).man = s.man := rfl
@[simp] theorem modBoot_pce (s : State) (g : BootUnit → BootUnit) : (s.modBoot g).pce = s.pce := rfl
@[simp] theorem modBoot_nvq (s : State) (g : BootUnit → BootUnit) : (s.modBoot g).nvq = s.nvq := rfl
@[simp] theorem modBoot_nvme (s : State) (g : BootUnit → BootUnit) : (s.modBoot g).nvme = s.nvme := rfl
@[simp] theorem modBoot_fni (s : State) (g : BootUnit → BootUnit) : (s.modBoot g).fni = s.fni := rfl
@[simp] theorem modBoot_journal (s : State) (g : BootUnit → BootUnit) : (s.modBoot g).journal = s.journal := rfl
@[simp] theorem modBoot_zones (s : State) (g : BootUnit → BootUnit) : (s.modBoot g).zones = s.zones := rfl

@[simp] theorem modCore_pending (s : State) (c : Fin 5) (g : Core → Core) : (s.modCore c g).pending = s.pending := rfl
@[simp] theorem modCore_variant1408 (s : State) (c : Fin 5) (g : Core → Core) : (s.modCore c g).variant1408 = s.variant1408 := rfl
@[simp] theorem modCore_power (s : State) (c : Fin 5) (g : Core → Core) : (s.modCore c g).power = s.power := rfl
@[simp] theorem modCore_tick (s : State) (c : Fin 5) (g : Core → Core) : (s.modCore c g).tick = s.tick := rfl
@[simp] theorem modCore_free (s : State) (c : Fin 5) (g : Core → Core) : (s.modCore c g).free = s.free := rfl
@[simp] theorem modCore_regs (s : State) (c : Fin 5) (g : Core → Core) : (s.modCore c g).regs = s.regs := rfl
@[simp] theorem modCore_mem (s : State) (c : Fin 5) (g : Core → Core) : (s.modCore c g).mem = s.mem := rfl
@[simp] theorem modCore_resp (s : State) (c : Fin 5) (g : Core → Core) : (s.modCore c g).resp = s.resp := rfl
@[simp] theorem modCore_raised (s : State) (c : Fin 5) (g : Core → Core) : (s.modCore c g).raised = s.raised := rfl
@[simp] theorem modCore_pulses (s : State) (c : Fin 5) (g : Core → Core) : (s.modCore c g).pulses = s.pulses := rfl
@[simp] theorem modCore_evrQueue (s : State) (c : Fin 5) (g : Core → Core) : (s.modCore c g).evrQueue = s.evrQueue := rfl
@[simp] theorem modCore_opSeconds (s : State) (c : Fin 5) (g : Core → Core) : (s.modCore c g).opSeconds = s.opSeconds := rfl
@[simp] theorem modCore_psl (s : State) (c : Fin 5) (g : Core → Core) : (s.modCore c g).psl = s.psl := rfl
@[simp] theorem modCore_dc (s : State) (c : Fin 5) (g : Core → Core) : (s.modCore c g).dc = s.dc := rfl
@[simp] theorem modCore_wp (s : State) (c : Fin 5) (g : Core → Core) : (s.modCore c g).wp = s.wp := rfl
@[simp] theorem modCore_fms (s : State) (c : Fin 5) (g : Core → Core) : (s.modCore c g).fms = s.fms := rfl
@[simp] theorem modCore_svd (s : State) (c : Fin 5) (g : Core → Core) : (s.modCore c g).svd = s.svd := rfl
@[simp] theorem modCore_adl (s : State) (c : Fin 5) (g : Core → Core) : (s.modCore c g).adl = s.adl := rfl
@[simp] theorem modCore_cle (s : State) (c : Fin 5) (g : Core → Core) : (s.modCore c g).cle = s.cle := rfl
@[simp] theorem modCore_spm (s : State) (c : Fin 5) (g : Core → Core) : (s.modCore c g).spm = s.spm := rfl
@[simp] theorem modCore_memu (s : State) (c : Fin 5) (g : Core → Core) : (s.modCore c g).memu = s.memu := rfl
@[simp] theorem modCore_evr (s : State) (c : Fin 5) (g : Core → Core) : (s.modCore c g).evr = s.evr := rfl
@[simp] theorem modCore_flt (s : State) (c : Fin 5) (g : Core → Core) : (s.modCore c g).flt = s.flt := rfl
@[simp] theorem modCore_dma (s : State) (c : Fin 5) (g : Core → Core) : (s.modCore c g).dma = s.dma := rfl
@[simp] theorem modCore_cip (s : State) (c : Fin 5) (g : Core → Core) : (s.modCore c g).cip = s.cip := rfl
@[simp] theorem modCore_keys (s : State) (c : Fin 5) (g : Core → Core) : (s.modCore c g).keys = s.keys := rfl
@[simp] theorem modCore_sup (s : State) (c : Fin 5) (g : Core → Core) : (s.modCore c g).sup = s.sup := rfl
@[simp] theorem modCore_l2 (s : State) (c : Fin 5) (g : Core → Core) : (s.modCore c g).l2 = s.l2 := rfl
@[simp] theorem modCore_hostOut (s : State) (c : Fin 5) (g : Core → Core) : (s.modCore c g).hostOut = s.hostOut := rfl
@[simp] theorem modCore_powerCycles (s : State) (c : Fin 5) (g : Core → Core) : (s.modCore c g).powerCycles = s.powerCycles := rfl
@[simp] theorem modCore_dieTemp (s : State) (c : Fin 5) (g : Core → Core) : (s.modCore c g).dieTemp = s.dieTemp := rfl
@[simp] theorem modCore_manifest (s : State) (c : Fin 5) (g : Core → Core) : (s.modCore c g).manifest = s.manifest := rfl
@[simp] theorem modCore_dict (s : State) (c : Fin 5) (g : Core → Core) : (s.modCore c g).dict = s.dict := rfl
@[simp] theorem modCore_locks (s : State) (c : Fin 5) (g : Core → Core) : (s.modCore c g).locks = s.locks := rfl
@[simp] theorem modCore_image (s : State) (c : Fin 5) (g : Core → Core) : (s.modCore c g).image = s.image := rfl
@[simp] theorem modCore_rcp (s : State) (c : Fin 5) (g : Core → Core) : (s.modCore c g).rcp = s.rcp := rfl
@[simp] theorem modCore_man (s : State) (c : Fin 5) (g : Core → Core) : (s.modCore c g).man = s.man := rfl
@[simp] theorem modCore_boot (s : State) (c : Fin 5) (g : Core → Core) : (s.modCore c g).boot = s.boot := rfl
@[simp] theorem modCore_pce (s : State) (c : Fin 5) (g : Core → Core) : (s.modCore c g).pce = s.pce := rfl
@[simp] theorem modCore_nvq (s : State) (c : Fin 5) (g : Core → Core) : (s.modCore c g).nvq = s.nvq := rfl
@[simp] theorem modCore_nvme (s : State) (c : Fin 5) (g : Core → Core) : (s.modCore c g).nvme = s.nvme := rfl
@[simp] theorem modCore_fni (s : State) (c : Fin 5) (g : Core → Core) : (s.modCore c g).fni = s.fni := rfl
@[simp] theorem modCore_journal (s : State) (c : Fin 5) (g : Core → Core) : (s.modCore c g).journal = s.journal := rfl
@[simp] theorem modCore_zones (s : State) (c : Fin 5) (g : Core → Core) : (s.modCore c g).zones = s.zones := rfl

@[simp] theorem modL2_pending (s : State) (g : L2 → L2) : (s.modL2 g).pending = s.pending := rfl
@[simp] theorem modL2_variant1408 (s : State) (g : L2 → L2) : (s.modL2 g).variant1408 = s.variant1408 := rfl
@[simp] theorem modL2_power (s : State) (g : L2 → L2) : (s.modL2 g).power = s.power := rfl
@[simp] theorem modL2_tick (s : State) (g : L2 → L2) : (s.modL2 g).tick = s.tick := rfl
@[simp] theorem modL2_free (s : State) (g : L2 → L2) : (s.modL2 g).free = s.free := rfl
@[simp] theorem modL2_regs (s : State) (g : L2 → L2) : (s.modL2 g).regs = s.regs := rfl
@[simp] theorem modL2_mem (s : State) (g : L2 → L2) : (s.modL2 g).mem = s.mem := rfl
@[simp] theorem modL2_resp (s : State) (g : L2 → L2) : (s.modL2 g).resp = s.resp := rfl
@[simp] theorem modL2_raised (s : State) (g : L2 → L2) : (s.modL2 g).raised = s.raised := rfl
@[simp] theorem modL2_pulses (s : State) (g : L2 → L2) : (s.modL2 g).pulses = s.pulses := rfl
@[simp] theorem modL2_evrQueue (s : State) (g : L2 → L2) : (s.modL2 g).evrQueue = s.evrQueue := rfl
@[simp] theorem modL2_opSeconds (s : State) (g : L2 → L2) : (s.modL2 g).opSeconds = s.opSeconds := rfl
@[simp] theorem modL2_psl (s : State) (g : L2 → L2) : (s.modL2 g).psl = s.psl := rfl
@[simp] theorem modL2_dc (s : State) (g : L2 → L2) : (s.modL2 g).dc = s.dc := rfl
@[simp] theorem modL2_wp (s : State) (g : L2 → L2) : (s.modL2 g).wp = s.wp := rfl
@[simp] theorem modL2_fms (s : State) (g : L2 → L2) : (s.modL2 g).fms = s.fms := rfl
@[simp] theorem modL2_svd (s : State) (g : L2 → L2) : (s.modL2 g).svd = s.svd := rfl
@[simp] theorem modL2_adl (s : State) (g : L2 → L2) : (s.modL2 g).adl = s.adl := rfl
@[simp] theorem modL2_cle (s : State) (g : L2 → L2) : (s.modL2 g).cle = s.cle := rfl
@[simp] theorem modL2_spm (s : State) (g : L2 → L2) : (s.modL2 g).spm = s.spm := rfl
@[simp] theorem modL2_memu (s : State) (g : L2 → L2) : (s.modL2 g).memu = s.memu := rfl
@[simp] theorem modL2_evr (s : State) (g : L2 → L2) : (s.modL2 g).evr = s.evr := rfl
@[simp] theorem modL2_flt (s : State) (g : L2 → L2) : (s.modL2 g).flt = s.flt := rfl
@[simp] theorem modL2_dma (s : State) (g : L2 → L2) : (s.modL2 g).dma = s.dma := rfl
@[simp] theorem modL2_cip (s : State) (g : L2 → L2) : (s.modL2 g).cip = s.cip := rfl
@[simp] theorem modL2_keys (s : State) (g : L2 → L2) : (s.modL2 g).keys = s.keys := rfl
@[simp] theorem modL2_sup (s : State) (g : L2 → L2) : (s.modL2 g).sup = s.sup := rfl
@[simp] theorem modL2_cores (s : State) (g : L2 → L2) : (s.modL2 g).cores = s.cores := rfl
@[simp] theorem modL2_hostOut (s : State) (g : L2 → L2) : (s.modL2 g).hostOut = s.hostOut := rfl
@[simp] theorem modL2_powerCycles (s : State) (g : L2 → L2) : (s.modL2 g).powerCycles = s.powerCycles := rfl
@[simp] theorem modL2_dieTemp (s : State) (g : L2 → L2) : (s.modL2 g).dieTemp = s.dieTemp := rfl
@[simp] theorem modL2_manifest (s : State) (g : L2 → L2) : (s.modL2 g).manifest = s.manifest := rfl
@[simp] theorem modL2_dict (s : State) (g : L2 → L2) : (s.modL2 g).dict = s.dict := rfl
@[simp] theorem modL2_locks (s : State) (g : L2 → L2) : (s.modL2 g).locks = s.locks := rfl
@[simp] theorem modL2_image (s : State) (g : L2 → L2) : (s.modL2 g).image = s.image := rfl
@[simp] theorem modL2_rcp (s : State) (g : L2 → L2) : (s.modL2 g).rcp = s.rcp := rfl
@[simp] theorem modL2_man (s : State) (g : L2 → L2) : (s.modL2 g).man = s.man := rfl
@[simp] theorem modL2_boot (s : State) (g : L2 → L2) : (s.modL2 g).boot = s.boot := rfl
@[simp] theorem modL2_pce (s : State) (g : L2 → L2) : (s.modL2 g).pce = s.pce := rfl
@[simp] theorem modL2_nvq (s : State) (g : L2 → L2) : (s.modL2 g).nvq = s.nvq := rfl
@[simp] theorem modL2_nvme (s : State) (g : L2 → L2) : (s.modL2 g).nvme = s.nvme := rfl
@[simp] theorem modL2_fni (s : State) (g : L2 → L2) : (s.modL2 g).fni = s.fni := rfl
@[simp] theorem modL2_journal (s : State) (g : L2 → L2) : (s.modL2 g).journal = s.journal := rfl
@[simp] theorem modL2_zones (s : State) (g : L2 → L2) : (s.modL2 g).zones = s.zones := rfl

@[simp] theorem clearAll_pending (s : State) (l : List Fld) : (s.clearAll l).pending = s.pending := by
  induction l generalizing s with
  | nil => rfl
  | cons g r ih => exact ih (s.set g 0)
@[simp] theorem clearAll_variant1408 (s : State) (l : List Fld) : (s.clearAll l).variant1408 = s.variant1408 := by
  induction l generalizing s with
  | nil => rfl
  | cons g r ih => exact ih (s.set g 0)
@[simp] theorem clearAll_power (s : State) (l : List Fld) : (s.clearAll l).power = s.power := by
  induction l generalizing s with
  | nil => rfl
  | cons g r ih => exact ih (s.set g 0)
@[simp] theorem clearAll_tick (s : State) (l : List Fld) : (s.clearAll l).tick = s.tick := by
  induction l generalizing s with
  | nil => rfl
  | cons g r ih => exact ih (s.set g 0)
@[simp] theorem clearAll_free (s : State) (l : List Fld) : (s.clearAll l).free = s.free := by
  induction l generalizing s with
  | nil => rfl
  | cons g r ih => exact ih (s.set g 0)
@[simp] theorem clearAll_mem (s : State) (l : List Fld) : (s.clearAll l).mem = s.mem := by
  induction l generalizing s with
  | nil => rfl
  | cons g r ih => exact ih (s.set g 0)
@[simp] theorem clearAll_resp (s : State) (l : List Fld) : (s.clearAll l).resp = s.resp := by
  induction l generalizing s with
  | nil => rfl
  | cons g r ih => exact ih (s.set g 0)
@[simp] theorem clearAll_raised (s : State) (l : List Fld) : (s.clearAll l).raised = s.raised := by
  induction l generalizing s with
  | nil => rfl
  | cons g r ih => exact ih (s.set g 0)
@[simp] theorem clearAll_pulses (s : State) (l : List Fld) : (s.clearAll l).pulses = s.pulses := by
  induction l generalizing s with
  | nil => rfl
  | cons g r ih => exact ih (s.set g 0)
@[simp] theorem clearAll_evrQueue (s : State) (l : List Fld) : (s.clearAll l).evrQueue = s.evrQueue := by
  induction l generalizing s with
  | nil => rfl
  | cons g r ih => exact ih (s.set g 0)
@[simp] theorem clearAll_opSeconds (s : State) (l : List Fld) : (s.clearAll l).opSeconds = s.opSeconds := by
  induction l generalizing s with
  | nil => rfl
  | cons g r ih => exact ih (s.set g 0)
@[simp] theorem clearAll_psl (s : State) (l : List Fld) : (s.clearAll l).psl = s.psl := by
  induction l generalizing s with
  | nil => rfl
  | cons g r ih => exact ih (s.set g 0)
@[simp] theorem clearAll_dc (s : State) (l : List Fld) : (s.clearAll l).dc = s.dc := by
  induction l generalizing s with
  | nil => rfl
  | cons g r ih => exact ih (s.set g 0)
@[simp] theorem clearAll_wp (s : State) (l : List Fld) : (s.clearAll l).wp = s.wp := by
  induction l generalizing s with
  | nil => rfl
  | cons g r ih => exact ih (s.set g 0)
@[simp] theorem clearAll_fms (s : State) (l : List Fld) : (s.clearAll l).fms = s.fms := by
  induction l generalizing s with
  | nil => rfl
  | cons g r ih => exact ih (s.set g 0)
@[simp] theorem clearAll_svd (s : State) (l : List Fld) : (s.clearAll l).svd = s.svd := by
  induction l generalizing s with
  | nil => rfl
  | cons g r ih => exact ih (s.set g 0)
@[simp] theorem clearAll_adl (s : State) (l : List Fld) : (s.clearAll l).adl = s.adl := by
  induction l generalizing s with
  | nil => rfl
  | cons g r ih => exact ih (s.set g 0)
@[simp] theorem clearAll_cle (s : State) (l : List Fld) : (s.clearAll l).cle = s.cle := by
  induction l generalizing s with
  | nil => rfl
  | cons g r ih => exact ih (s.set g 0)
@[simp] theorem clearAll_spm (s : State) (l : List Fld) : (s.clearAll l).spm = s.spm := by
  induction l generalizing s with
  | nil => rfl
  | cons g r ih => exact ih (s.set g 0)
@[simp] theorem clearAll_memu (s : State) (l : List Fld) : (s.clearAll l).memu = s.memu := by
  induction l generalizing s with
  | nil => rfl
  | cons g r ih => exact ih (s.set g 0)
@[simp] theorem clearAll_evr (s : State) (l : List Fld) : (s.clearAll l).evr = s.evr := by
  induction l generalizing s with
  | nil => rfl
  | cons g r ih => exact ih (s.set g 0)
@[simp] theorem clearAll_flt (s : State) (l : List Fld) : (s.clearAll l).flt = s.flt := by
  induction l generalizing s with
  | nil => rfl
  | cons g r ih => exact ih (s.set g 0)
@[simp] theorem clearAll_dma (s : State) (l : List Fld) : (s.clearAll l).dma = s.dma := by
  induction l generalizing s with
  | nil => rfl
  | cons g r ih => exact ih (s.set g 0)
@[simp] theorem clearAll_cip (s : State) (l : List Fld) : (s.clearAll l).cip = s.cip := by
  induction l generalizing s with
  | nil => rfl
  | cons g r ih => exact ih (s.set g 0)
@[simp] theorem clearAll_keys (s : State) (l : List Fld) : (s.clearAll l).keys = s.keys := by
  induction l generalizing s with
  | nil => rfl
  | cons g r ih => exact ih (s.set g 0)
@[simp] theorem clearAll_sup (s : State) (l : List Fld) : (s.clearAll l).sup = s.sup := by
  induction l generalizing s with
  | nil => rfl
  | cons g r ih => exact ih (s.set g 0)
@[simp] theorem clearAll_cores (s : State) (l : List Fld) : (s.clearAll l).cores = s.cores := by
  induction l generalizing s with
  | nil => rfl
  | cons g r ih => exact ih (s.set g 0)
@[simp] theorem clearAll_l2 (s : State) (l : List Fld) : (s.clearAll l).l2 = s.l2 := by
  induction l generalizing s with
  | nil => rfl
  | cons g r ih => exact ih (s.set g 0)
@[simp] theorem clearAll_hostOut (s : State) (l : List Fld) : (s.clearAll l).hostOut = s.hostOut := by
  induction l generalizing s with
  | nil => rfl
  | cons g r ih => exact ih (s.set g 0)
@[simp] theorem clearAll_powerCycles (s : State) (l : List Fld) : (s.clearAll l).powerCycles = s.powerCycles := by
  induction l generalizing s with
  | nil => rfl
  | cons g r ih => exact ih (s.set g 0)
@[simp] theorem clearAll_dieTemp (s : State) (l : List Fld) : (s.clearAll l).dieTemp = s.dieTemp := by
  induction l generalizing s with
  | nil => rfl
  | cons g r ih => exact ih (s.set g 0)
@[simp] theorem clearAll_manifest (s : State) (l : List Fld) : (s.clearAll l).manifest = s.manifest := by
  induction l generalizing s with
  | nil => rfl
  | cons g r ih => exact ih (s.set g 0)
@[simp] theorem clearAll_dict (s : State) (l : List Fld) : (s.clearAll l).dict = s.dict := by
  induction l generalizing s with
  | nil => rfl
  | cons g r ih => exact ih (s.set g 0)
@[simp] theorem clearAll_locks (s : State) (l : List Fld) : (s.clearAll l).locks = s.locks := by
  induction l generalizing s with
  | nil => rfl
  | cons g r ih => exact ih (s.set g 0)
@[simp] theorem clearAll_image (s : State) (l : List Fld) : (s.clearAll l).image = s.image := by
  induction l generalizing s with
  | nil => rfl
  | cons g r ih => exact ih (s.set g 0)
@[simp] theorem clearAll_rcp (s : State) (l : List Fld) : (s.clearAll l).rcp = s.rcp := by
  induction l generalizing s with
  | nil => rfl
  | cons g r ih => exact ih (s.set g 0)
@[simp] theorem clearAll_man (s : State) (l : List Fld) : (s.clearAll l).man = s.man := by
  induction l generalizing s with
  | nil => rfl
  | cons g r ih => exact ih (s.set g 0)
@[simp] theorem clearAll_boot (s : State) (l : List Fld) : (s.clearAll l).boot = s.boot := by
  induction l generalizing s with
  | nil => rfl
  | cons g r ih => exact ih (s.set g 0)
@[simp] theorem clearAll_pce (s : State) (l : List Fld) : (s.clearAll l).pce = s.pce := by
  induction l generalizing s with
  | nil => rfl
  | cons g r ih => exact ih (s.set g 0)
@[simp] theorem clearAll_nvq (s : State) (l : List Fld) : (s.clearAll l).nvq = s.nvq := by
  induction l generalizing s with
  | nil => rfl
  | cons g r ih => exact ih (s.set g 0)
@[simp] theorem clearAll_nvme (s : State) (l : List Fld) : (s.clearAll l).nvme = s.nvme := by
  induction l generalizing s with
  | nil => rfl
  | cons g r ih => exact ih (s.set g 0)
@[simp] theorem clearAll_fni (s : State) (l : List Fld) : (s.clearAll l).fni = s.fni := by
  induction l generalizing s with
  | nil => rfl
  | cons g r ih => exact ih (s.set g 0)
@[simp] theorem clearAll_journal (s : State) (l : List Fld) : (s.clearAll l).journal = s.journal := by
  induction l generalizing s with
  | nil => rfl
  | cons g r ih => exact ih (s.set g 0)
@[simp] theorem clearAll_zones (s : State) (l : List Fld) : (s.clearAll l).zones = s.zones := by
  induction l generalizing s with
  | nil => rfl
  | cons g r ih => exact ih (s.set g 0)

@[simp] theorem writeRaw_pending (s : State) (a : Nat) (l : List Byte) : (s.writeRaw a l).pending = s.pending := by
  induction l generalizing s a with
  | nil => rfl
  | cons b r ih => exact ih (s.writeByte a b) (a + 1)
@[simp] theorem writeRaw_variant1408 (s : State) (a : Nat) (l : List Byte) : (s.writeRaw a l).variant1408 = s.variant1408 := by
  induction l generalizing s a with
  | nil => rfl
  | cons b r ih => exact ih (s.writeByte a b) (a + 1)
@[simp] theorem writeRaw_power (s : State) (a : Nat) (l : List Byte) : (s.writeRaw a l).power = s.power := by
  induction l generalizing s a with
  | nil => rfl
  | cons b r ih => exact ih (s.writeByte a b) (a + 1)
@[simp] theorem writeRaw_tick (s : State) (a : Nat) (l : List Byte) : (s.writeRaw a l).tick = s.tick := by
  induction l generalizing s a with
  | nil => rfl
  | cons b r ih => exact ih (s.writeByte a b) (a + 1)
@[simp] theorem writeRaw_free (s : State) (a : Nat) (l : List Byte) : (s.writeRaw a l).free = s.free := by
  induction l generalizing s a with
  | nil => rfl
  | cons b r ih => exact ih (s.writeByte a b) (a + 1)
@[simp] theorem writeRaw_regs (s : State) (a : Nat) (l : List Byte) : (s.writeRaw a l).regs = s.regs := by
  induction l generalizing s a with
  | nil => rfl
  | cons b r ih => exact ih (s.writeByte a b) (a + 1)
@[simp] theorem writeRaw_resp (s : State) (a : Nat) (l : List Byte) : (s.writeRaw a l).resp = s.resp := by
  induction l generalizing s a with
  | nil => rfl
  | cons b r ih => exact ih (s.writeByte a b) (a + 1)
@[simp] theorem writeRaw_raised (s : State) (a : Nat) (l : List Byte) : (s.writeRaw a l).raised = s.raised := by
  induction l generalizing s a with
  | nil => rfl
  | cons b r ih => exact ih (s.writeByte a b) (a + 1)
@[simp] theorem writeRaw_pulses (s : State) (a : Nat) (l : List Byte) : (s.writeRaw a l).pulses = s.pulses := by
  induction l generalizing s a with
  | nil => rfl
  | cons b r ih => exact ih (s.writeByte a b) (a + 1)
@[simp] theorem writeRaw_evrQueue (s : State) (a : Nat) (l : List Byte) : (s.writeRaw a l).evrQueue = s.evrQueue := by
  induction l generalizing s a with
  | nil => rfl
  | cons b r ih => exact ih (s.writeByte a b) (a + 1)
@[simp] theorem writeRaw_opSeconds (s : State) (a : Nat) (l : List Byte) : (s.writeRaw a l).opSeconds = s.opSeconds := by
  induction l generalizing s a with
  | nil => rfl
  | cons b r ih => exact ih (s.writeByte a b) (a + 1)
@[simp] theorem writeRaw_psl (s : State) (a : Nat) (l : List Byte) : (s.writeRaw a l).psl = s.psl := by
  induction l generalizing s a with
  | nil => rfl
  | cons b r ih => exact ih (s.writeByte a b) (a + 1)
@[simp] theorem writeRaw_dc (s : State) (a : Nat) (l : List Byte) : (s.writeRaw a l).dc = s.dc := by
  induction l generalizing s a with
  | nil => rfl
  | cons b r ih => exact ih (s.writeByte a b) (a + 1)
@[simp] theorem writeRaw_wp (s : State) (a : Nat) (l : List Byte) : (s.writeRaw a l).wp = s.wp := by
  induction l generalizing s a with
  | nil => rfl
  | cons b r ih => exact ih (s.writeByte a b) (a + 1)
@[simp] theorem writeRaw_fms (s : State) (a : Nat) (l : List Byte) : (s.writeRaw a l).fms = s.fms := by
  induction l generalizing s a with
  | nil => rfl
  | cons b r ih => exact ih (s.writeByte a b) (a + 1)
@[simp] theorem writeRaw_svd (s : State) (a : Nat) (l : List Byte) : (s.writeRaw a l).svd = s.svd := by
  induction l generalizing s a with
  | nil => rfl
  | cons b r ih => exact ih (s.writeByte a b) (a + 1)
@[simp] theorem writeRaw_adl (s : State) (a : Nat) (l : List Byte) : (s.writeRaw a l).adl = s.adl := by
  induction l generalizing s a with
  | nil => rfl
  | cons b r ih => exact ih (s.writeByte a b) (a + 1)
@[simp] theorem writeRaw_cle (s : State) (a : Nat) (l : List Byte) : (s.writeRaw a l).cle = s.cle := by
  induction l generalizing s a with
  | nil => rfl
  | cons b r ih => exact ih (s.writeByte a b) (a + 1)
@[simp] theorem writeRaw_spm (s : State) (a : Nat) (l : List Byte) : (s.writeRaw a l).spm = s.spm := by
  induction l generalizing s a with
  | nil => rfl
  | cons b r ih => exact ih (s.writeByte a b) (a + 1)
@[simp] theorem writeRaw_memu (s : State) (a : Nat) (l : List Byte) : (s.writeRaw a l).memu = s.memu := by
  induction l generalizing s a with
  | nil => rfl
  | cons b r ih => exact ih (s.writeByte a b) (a + 1)
@[simp] theorem writeRaw_evr (s : State) (a : Nat) (l : List Byte) : (s.writeRaw a l).evr = s.evr := by
  induction l generalizing s a with
  | nil => rfl
  | cons b r ih => exact ih (s.writeByte a b) (a + 1)
@[simp] theorem writeRaw_flt (s : State) (a : Nat) (l : List Byte) : (s.writeRaw a l).flt = s.flt := by
  induction l generalizing s a with
  | nil => rfl
  | cons b r ih => exact ih (s.writeByte a b) (a + 1)
@[simp] theorem writeRaw_dma (s : State) (a : Nat) (l : List Byte) : (s.writeRaw a l).dma = s.dma := by
  induction l generalizing s a with
  | nil => rfl
  | cons b r ih => exact ih (s.writeByte a b) (a + 1)
@[simp] theorem writeRaw_cip (s : State) (a : Nat) (l : List Byte) : (s.writeRaw a l).cip = s.cip := by
  induction l generalizing s a with
  | nil => rfl
  | cons b r ih => exact ih (s.writeByte a b) (a + 1)
@[simp] theorem writeRaw_keys (s : State) (a : Nat) (l : List Byte) : (s.writeRaw a l).keys = s.keys := by
  induction l generalizing s a with
  | nil => rfl
  | cons b r ih => exact ih (s.writeByte a b) (a + 1)
@[simp] theorem writeRaw_sup (s : State) (a : Nat) (l : List Byte) : (s.writeRaw a l).sup = s.sup := by
  induction l generalizing s a with
  | nil => rfl
  | cons b r ih => exact ih (s.writeByte a b) (a + 1)
@[simp] theorem writeRaw_cores (s : State) (a : Nat) (l : List Byte) : (s.writeRaw a l).cores = s.cores := by
  induction l generalizing s a with
  | nil => rfl
  | cons b r ih => exact ih (s.writeByte a b) (a + 1)
@[simp] theorem writeRaw_l2 (s : State) (a : Nat) (l : List Byte) : (s.writeRaw a l).l2 = s.l2 := by
  induction l generalizing s a with
  | nil => rfl
  | cons b r ih => exact ih (s.writeByte a b) (a + 1)
@[simp] theorem writeRaw_hostOut (s : State) (a : Nat) (l : List Byte) : (s.writeRaw a l).hostOut = s.hostOut := by
  induction l generalizing s a with
  | nil => rfl
  | cons b r ih => exact ih (s.writeByte a b) (a + 1)
@[simp] theorem writeRaw_powerCycles (s : State) (a : Nat) (l : List Byte) : (s.writeRaw a l).powerCycles = s.powerCycles := by
  induction l generalizing s a with
  | nil => rfl
  | cons b r ih => exact ih (s.writeByte a b) (a + 1)
@[simp] theorem writeRaw_dieTemp (s : State) (a : Nat) (l : List Byte) : (s.writeRaw a l).dieTemp = s.dieTemp := by
  induction l generalizing s a with
  | nil => rfl
  | cons b r ih => exact ih (s.writeByte a b) (a + 1)
@[simp] theorem writeRaw_manifest (s : State) (a : Nat) (l : List Byte) : (s.writeRaw a l).manifest = s.manifest := by
  induction l generalizing s a with
  | nil => rfl
  | cons b r ih => exact ih (s.writeByte a b) (a + 1)
@[simp] theorem writeRaw_dict (s : State) (a : Nat) (l : List Byte) : (s.writeRaw a l).dict = s.dict := by
  induction l generalizing s a with
  | nil => rfl
  | cons b r ih => exact ih (s.writeByte a b) (a + 1)
@[simp] theorem writeRaw_locks (s : State) (a : Nat) (l : List Byte) : (s.writeRaw a l).locks = s.locks := by
  induction l generalizing s a with
  | nil => rfl
  | cons b r ih => exact ih (s.writeByte a b) (a + 1)
@[simp] theorem writeRaw_image (s : State) (a : Nat) (l : List Byte) : (s.writeRaw a l).image = s.image := by
  induction l generalizing s a with
  | nil => rfl
  | cons b r ih => exact ih (s.writeByte a b) (a + 1)
@[simp] theorem writeRaw_rcp (s : State) (a : Nat) (l : List Byte) : (s.writeRaw a l).rcp = s.rcp := by
  induction l generalizing s a with
  | nil => rfl
  | cons b r ih => exact ih (s.writeByte a b) (a + 1)
@[simp] theorem writeRaw_man (s : State) (a : Nat) (l : List Byte) : (s.writeRaw a l).man = s.man := by
  induction l generalizing s a with
  | nil => rfl
  | cons b r ih => exact ih (s.writeByte a b) (a + 1)
@[simp] theorem writeRaw_boot (s : State) (a : Nat) (l : List Byte) : (s.writeRaw a l).boot = s.boot := by
  induction l generalizing s a with
  | nil => rfl
  | cons b r ih => exact ih (s.writeByte a b) (a + 1)
@[simp] theorem writeRaw_pce (s : State) (a : Nat) (l : List Byte) : (s.writeRaw a l).pce = s.pce := by
  induction l generalizing s a with
  | nil => rfl
  | cons b r ih => exact ih (s.writeByte a b) (a + 1)
@[simp] theorem writeRaw_nvq (s : State) (a : Nat) (l : List Byte) : (s.writeRaw a l).nvq = s.nvq := by
  induction l generalizing s a with
  | nil => rfl
  | cons b r ih => exact ih (s.writeByte a b) (a + 1)
@[simp] theorem writeRaw_nvme (s : State) (a : Nat) (l : List Byte) : (s.writeRaw a l).nvme = s.nvme := by
  induction l generalizing s a with
  | nil => rfl
  | cons b r ih => exact ih (s.writeByte a b) (a + 1)
@[simp] theorem writeRaw_fni (s : State) (a : Nat) (l : List Byte) : (s.writeRaw a l).fni = s.fni := by
  induction l generalizing s a with
  | nil => rfl
  | cons b r ih => exact ih (s.writeByte a b) (a + 1)
@[simp] theorem writeRaw_journal (s : State) (a : Nat) (l : List Byte) : (s.writeRaw a l).journal = s.journal := by
  induction l generalizing s a with
  | nil => rfl
  | cons b r ih => exact ih (s.writeByte a b) (a + 1)
@[simp] theorem writeRaw_zones (s : State) (a : Nat) (l : List Byte) : (s.writeRaw a l).zones = s.zones := by
  induction l generalizing s a with
  | nil => rfl
  | cons b r ih => exact ih (s.writeByte a b) (a + 1)

@[simp] theorem writeBytes_pending (s : State) (a : Nat) (l : List Byte) : (s.writeBytes a l).pending = s.pending := writeRaw_pending s a l
@[simp] theorem writeBytes_variant1408 (s : State) (a : Nat) (l : List Byte) : (s.writeBytes a l).variant1408 = s.variant1408 := writeRaw_variant1408 s a l
@[simp] theorem writeBytes_power (s : State) (a : Nat) (l : List Byte) : (s.writeBytes a l).power = s.power := writeRaw_power s a l
@[simp] theorem writeBytes_tick (s : State) (a : Nat) (l : List Byte) : (s.writeBytes a l).tick = s.tick := writeRaw_tick s a l
@[simp] theorem writeBytes_free (s : State) (a : Nat) (l : List Byte) : (s.writeBytes a l).free = s.free := writeRaw_free s a l
@[simp] theorem writeBytes_regs (s : State) (a : Nat) (l : List Byte) : (s.writeBytes a l).regs = s.regs := writeRaw_regs s a l
@[simp] theorem writeBytes_resp (s : State) (a : Nat) (l : List Byte) : (s.writeBytes a l).resp = s.resp := writeRaw_resp s a l
@[simp] theorem writeBytes_raised (s : State) (a : Nat) (l : List Byte) : (s.writeBytes a l).raised = s.raised := writeRaw_raised s a l
@[simp] theorem writeBytes_pulses (s : State) (a : Nat) (l : List Byte) : (s.writeBytes a l).pulses = s.pulses := writeRaw_pulses s a l
@[simp] theorem writeBytes_evrQueue (s : State) (a : Nat) (l : List Byte) : (s.writeBytes a l).evrQueue = s.evrQueue := writeRaw_evrQueue s a l
@[simp] theorem writeBytes_opSeconds (s : State) (a : Nat) (l : List Byte) : (s.writeBytes a l).opSeconds = s.opSeconds := writeRaw_opSeconds s a l
@[simp] theorem writeBytes_psl (s : State) (a : Nat) (l : List Byte) : (s.writeBytes a l).psl = s.psl := writeRaw_psl s a l
@[simp] theorem writeBytes_dc (s : State) (a : Nat) (l : List Byte) : (s.writeBytes a l).dc = s.dc := writeRaw_dc s a l
@[simp] theorem writeBytes_wp (s : State) (a : Nat) (l : List Byte) : (s.writeBytes a l).wp = s.wp := writeRaw_wp s a l
@[simp] theorem writeBytes_fms (s : State) (a : Nat) (l : List Byte) : (s.writeBytes a l).fms = s.fms := writeRaw_fms s a l
@[simp] theorem writeBytes_svd (s : State) (a : Nat) (l : List Byte) : (s.writeBytes a l).svd = s.svd := writeRaw_svd s a l
@[simp] theorem writeBytes_adl (s : State) (a : Nat) (l : List Byte) : (s.writeBytes a l).adl = s.adl := writeRaw_adl s a l
@[simp] theorem writeBytes_cle (s : State) (a : Nat) (l : List Byte) : (s.writeBytes a l).cle = s.cle := writeRaw_cle s a l
@[simp] theorem writeBytes_spm (s : State) (a : Nat) (l : List Byte) : (s.writeBytes a l).spm = s.spm := writeRaw_spm s a l
@[simp] theorem writeBytes_evr (s : State) (a : Nat) (l : List Byte) : (s.writeBytes a l).evr = s.evr := writeRaw_evr s a l
@[simp] theorem writeBytes_flt (s : State) (a : Nat) (l : List Byte) : (s.writeBytes a l).flt = s.flt := writeRaw_flt s a l
@[simp] theorem writeBytes_dma (s : State) (a : Nat) (l : List Byte) : (s.writeBytes a l).dma = s.dma := writeRaw_dma s a l
@[simp] theorem writeBytes_cip (s : State) (a : Nat) (l : List Byte) : (s.writeBytes a l).cip = s.cip := writeRaw_cip s a l
@[simp] theorem writeBytes_keys (s : State) (a : Nat) (l : List Byte) : (s.writeBytes a l).keys = s.keys := writeRaw_keys s a l
@[simp] theorem writeBytes_sup (s : State) (a : Nat) (l : List Byte) : (s.writeBytes a l).sup = s.sup := writeRaw_sup s a l
@[simp] theorem writeBytes_cores (s : State) (a : Nat) (l : List Byte) : (s.writeBytes a l).cores = s.cores := writeRaw_cores s a l
@[simp] theorem writeBytes_l2 (s : State) (a : Nat) (l : List Byte) : (s.writeBytes a l).l2 = s.l2 := writeRaw_l2 s a l
@[simp] theorem writeBytes_hostOut (s : State) (a : Nat) (l : List Byte) : (s.writeBytes a l).hostOut = s.hostOut := writeRaw_hostOut s a l
@[simp] theorem writeBytes_powerCycles (s : State) (a : Nat) (l : List Byte) : (s.writeBytes a l).powerCycles = s.powerCycles := writeRaw_powerCycles s a l
@[simp] theorem writeBytes_dieTemp (s : State) (a : Nat) (l : List Byte) : (s.writeBytes a l).dieTemp = s.dieTemp := writeRaw_dieTemp s a l
@[simp] theorem writeBytes_manifest (s : State) (a : Nat) (l : List Byte) : (s.writeBytes a l).manifest = s.manifest := writeRaw_manifest s a l
@[simp] theorem writeBytes_dict (s : State) (a : Nat) (l : List Byte) : (s.writeBytes a l).dict = s.dict := writeRaw_dict s a l
@[simp] theorem writeBytes_locks (s : State) (a : Nat) (l : List Byte) : (s.writeBytes a l).locks = s.locks := writeRaw_locks s a l
@[simp] theorem writeBytes_image (s : State) (a : Nat) (l : List Byte) : (s.writeBytes a l).image = s.image := writeRaw_image s a l
@[simp] theorem writeBytes_rcp (s : State) (a : Nat) (l : List Byte) : (s.writeBytes a l).rcp = s.rcp := writeRaw_rcp s a l
@[simp] theorem writeBytes_man (s : State) (a : Nat) (l : List Byte) : (s.writeBytes a l).man = s.man := writeRaw_man s a l
@[simp] theorem writeBytes_boot (s : State) (a : Nat) (l : List Byte) : (s.writeBytes a l).boot = s.boot := writeRaw_boot s a l
@[simp] theorem writeBytes_pce (s : State) (a : Nat) (l : List Byte) : (s.writeBytes a l).pce = s.pce := writeRaw_pce s a l
@[simp] theorem writeBytes_nvq (s : State) (a : Nat) (l : List Byte) : (s.writeBytes a l).nvq = s.nvq := writeRaw_nvq s a l
@[simp] theorem writeBytes_nvme (s : State) (a : Nat) (l : List Byte) : (s.writeBytes a l).nvme = s.nvme := writeRaw_nvme s a l
@[simp] theorem writeBytes_fni (s : State) (a : Nat) (l : List Byte) : (s.writeBytes a l).fni = s.fni := writeRaw_fni s a l
@[simp] theorem writeBytes_journal (s : State) (a : Nat) (l : List Byte) : (s.writeBytes a l).journal = s.journal := writeRaw_journal s a l
@[simp] theorem writeBytes_zones (s : State) (a : Nat) (l : List Byte) : (s.writeBytes a l).zones = s.zones := writeRaw_zones s a l

theorem ite_pending {p : Prop} [Decidable p] {a b s : State} (h : a.pending = s.pending) (g : b.pending = s.pending) : (ite p a b).pending = s.pending := by
  by_cases q : p
  · rw [if_pos q]; exact h
  · rw [if_neg q]; exact g
theorem when_pending {s a : State} (c : Bool) (g : State → State) (h : (g a).pending = s.pending) (h' : a.pending = s.pending) : (a.when c g).pending = s.pending := by
  cases c
  · exact h'
  · exact h
@[simp] theorem evrDrop_pending (s : State) : s.evrDrop.pending = s.pending := by
  unfold State.evrDrop
  exact when_pending _ _ (by rw [raise_pending, set_pending, bump_pending]) (by rw [set_pending, bump_pending])
@[simp] theorem evrJoin_pending (s : State) (r : EvRec) : (s.evrJoin r).pending = s.pending := by unfold State.evrJoin; rw [set_pending]
@[simp] theorem evrPush_pending (s : State) (r : EvRec) : (s.evrPush r).pending = s.pending := by
  unfold State.evrPush; exact ite_pending (evrDrop_pending s) (evrJoin_pending s r)
theorem ite_variant1408 {p : Prop} [Decidable p] {a b s : State} (h : a.variant1408 = s.variant1408) (g : b.variant1408 = s.variant1408) : (ite p a b).variant1408 = s.variant1408 := by
  by_cases q : p
  · rw [if_pos q]; exact h
  · rw [if_neg q]; exact g
theorem when_variant1408 {s a : State} (c : Bool) (g : State → State) (h : (g a).variant1408 = s.variant1408) (h' : a.variant1408 = s.variant1408) : (a.when c g).variant1408 = s.variant1408 := by
  cases c
  · exact h'
  · exact h
@[simp] theorem evrDrop_variant1408 (s : State) : s.evrDrop.variant1408 = s.variant1408 := by
  unfold State.evrDrop
  exact when_variant1408 _ _ (by rw [raise_variant1408, set_variant1408, bump_variant1408]) (by rw [set_variant1408, bump_variant1408])
@[simp] theorem evrJoin_variant1408 (s : State) (r : EvRec) : (s.evrJoin r).variant1408 = s.variant1408 := by unfold State.evrJoin; rw [set_variant1408]
@[simp] theorem evrPush_variant1408 (s : State) (r : EvRec) : (s.evrPush r).variant1408 = s.variant1408 := by
  unfold State.evrPush; exact ite_variant1408 (evrDrop_variant1408 s) (evrJoin_variant1408 s r)
theorem ite_power {p : Prop} [Decidable p] {a b s : State} (h : a.power = s.power) (g : b.power = s.power) : (ite p a b).power = s.power := by
  by_cases q : p
  · rw [if_pos q]; exact h
  · rw [if_neg q]; exact g
theorem when_power {s a : State} (c : Bool) (g : State → State) (h : (g a).power = s.power) (h' : a.power = s.power) : (a.when c g).power = s.power := by
  cases c
  · exact h'
  · exact h
@[simp] theorem evrDrop_power (s : State) : s.evrDrop.power = s.power := by
  unfold State.evrDrop
  exact when_power _ _ (by rw [raise_power, set_power, bump_power]) (by rw [set_power, bump_power])
@[simp] theorem evrJoin_power (s : State) (r : EvRec) : (s.evrJoin r).power = s.power := by unfold State.evrJoin; rw [set_power]
@[simp] theorem evrPush_power (s : State) (r : EvRec) : (s.evrPush r).power = s.power := by
  unfold State.evrPush; exact ite_power (evrDrop_power s) (evrJoin_power s r)
theorem ite_tick {p : Prop} [Decidable p] {a b s : State} (h : a.tick = s.tick) (g : b.tick = s.tick) : (ite p a b).tick = s.tick := by
  by_cases q : p
  · rw [if_pos q]; exact h
  · rw [if_neg q]; exact g
theorem when_tick {s a : State} (c : Bool) (g : State → State) (h : (g a).tick = s.tick) (h' : a.tick = s.tick) : (a.when c g).tick = s.tick := by
  cases c
  · exact h'
  · exact h
@[simp] theorem evrDrop_tick (s : State) : s.evrDrop.tick = s.tick := by
  unfold State.evrDrop
  exact when_tick _ _ (by rw [raise_tick, set_tick, bump_tick]) (by rw [set_tick, bump_tick])
@[simp] theorem evrJoin_tick (s : State) (r : EvRec) : (s.evrJoin r).tick = s.tick := by unfold State.evrJoin; rw [set_tick]
@[simp] theorem evrPush_tick (s : State) (r : EvRec) : (s.evrPush r).tick = s.tick := by
  unfold State.evrPush; exact ite_tick (evrDrop_tick s) (evrJoin_tick s r)
theorem ite_free {p : Prop} [Decidable p] {a b s : State} (h : a.free = s.free) (g : b.free = s.free) : (ite p a b).free = s.free := by
  by_cases q : p
  · rw [if_pos q]; exact h
  · rw [if_neg q]; exact g
theorem when_free {s a : State} (c : Bool) (g : State → State) (h : (g a).free = s.free) (h' : a.free = s.free) : (a.when c g).free = s.free := by
  cases c
  · exact h'
  · exact h
@[simp] theorem evrDrop_free (s : State) : s.evrDrop.free = s.free := by
  unfold State.evrDrop
  exact when_free _ _ (by rw [raise_free, set_free, bump_free]) (by rw [set_free, bump_free])
@[simp] theorem evrJoin_free (s : State) (r : EvRec) : (s.evrJoin r).free = s.free := by unfold State.evrJoin; rw [set_free]
@[simp] theorem evrPush_free (s : State) (r : EvRec) : (s.evrPush r).free = s.free := by
  unfold State.evrPush; exact ite_free (evrDrop_free s) (evrJoin_free s r)
theorem ite_mem {p : Prop} [Decidable p] {a b s : State} (h : a.mem = s.mem) (g : b.mem = s.mem) : (ite p a b).mem = s.mem := by
  by_cases q : p
  · rw [if_pos q]; exact h
  · rw [if_neg q]; exact g
theorem when_mem {s a : State} (c : Bool) (g : State → State) (h : (g a).mem = s.mem) (h' : a.mem = s.mem) : (a.when c g).mem = s.mem := by
  cases c
  · exact h'
  · exact h
@[simp] theorem evrDrop_mem (s : State) : s.evrDrop.mem = s.mem := by
  unfold State.evrDrop
  exact when_mem _ _ (by rw [raise_mem, set_mem, bump_mem]) (by rw [set_mem, bump_mem])
@[simp] theorem evrJoin_mem (s : State) (r : EvRec) : (s.evrJoin r).mem = s.mem := by unfold State.evrJoin; rw [set_mem]
@[simp] theorem evrPush_mem (s : State) (r : EvRec) : (s.evrPush r).mem = s.mem := by
  unfold State.evrPush; exact ite_mem (evrDrop_mem s) (evrJoin_mem s r)
theorem ite_resp {p : Prop} [Decidable p] {a b s : State} (h : a.resp = s.resp) (g : b.resp = s.resp) : (ite p a b).resp = s.resp := by
  by_cases q : p
  · rw [if_pos q]; exact h
  · rw [if_neg q]; exact g
theorem when_resp {s a : State} (c : Bool) (g : State → State) (h : (g a).resp = s.resp) (h' : a.resp = s.resp) : (a.when c g).resp = s.resp := by
  cases c
  · exact h'
  · exact h
@[simp] theorem evrDrop_resp (s : State) : s.evrDrop.resp = s.resp := by
  unfold State.evrDrop
  exact when_resp _ _ (by rw [raise_resp, set_resp, bump_resp]) (by rw [set_resp, bump_resp])
@[simp] theorem evrJoin_resp (s : State) (r : EvRec) : (s.evrJoin r).resp = s.resp := by unfold State.evrJoin; rw [set_resp]
@[simp] theorem evrPush_resp (s : State) (r : EvRec) : (s.evrPush r).resp = s.resp := by
  unfold State.evrPush; exact ite_resp (evrDrop_resp s) (evrJoin_resp s r)
theorem ite_pulses {p : Prop} [Decidable p] {a b s : State} (h : a.pulses = s.pulses) (g : b.pulses = s.pulses) : (ite p a b).pulses = s.pulses := by
  by_cases q : p
  · rw [if_pos q]; exact h
  · rw [if_neg q]; exact g
theorem when_pulses {s a : State} (c : Bool) (g : State → State) (h : (g a).pulses = s.pulses) (h' : a.pulses = s.pulses) : (a.when c g).pulses = s.pulses := by
  cases c
  · exact h'
  · exact h
@[simp] theorem evrDrop_pulses (s : State) : s.evrDrop.pulses = s.pulses := by
  unfold State.evrDrop
  exact when_pulses _ _ (by rw [raise_pulses, set_pulses, bump_pulses]) (by rw [set_pulses, bump_pulses])
@[simp] theorem evrJoin_pulses (s : State) (r : EvRec) : (s.evrJoin r).pulses = s.pulses := by unfold State.evrJoin; rw [set_pulses]
@[simp] theorem evrPush_pulses (s : State) (r : EvRec) : (s.evrPush r).pulses = s.pulses := by
  unfold State.evrPush; exact ite_pulses (evrDrop_pulses s) (evrJoin_pulses s r)
theorem ite_opSeconds {p : Prop} [Decidable p] {a b s : State} (h : a.opSeconds = s.opSeconds) (g : b.opSeconds = s.opSeconds) : (ite p a b).opSeconds = s.opSeconds := by
  by_cases q : p
  · rw [if_pos q]; exact h
  · rw [if_neg q]; exact g
theorem when_opSeconds {s a : State} (c : Bool) (g : State → State) (h : (g a).opSeconds = s.opSeconds) (h' : a.opSeconds = s.opSeconds) : (a.when c g).opSeconds = s.opSeconds := by
  cases c
  · exact h'
  · exact h
@[simp] theorem evrDrop_opSeconds (s : State) : s.evrDrop.opSeconds = s.opSeconds := by
  unfold State.evrDrop
  exact when_opSeconds _ _ (by rw [raise_opSeconds, set_opSeconds, bump_opSeconds]) (by rw [set_opSeconds, bump_opSeconds])
@[simp] theorem evrJoin_opSeconds (s : State) (r : EvRec) : (s.evrJoin r).opSeconds = s.opSeconds := by unfold State.evrJoin; rw [set_opSeconds]
@[simp] theorem evrPush_opSeconds (s : State) (r : EvRec) : (s.evrPush r).opSeconds = s.opSeconds := by
  unfold State.evrPush; exact ite_opSeconds (evrDrop_opSeconds s) (evrJoin_opSeconds s r)
theorem ite_psl {p : Prop} [Decidable p] {a b s : State} (h : a.psl = s.psl) (g : b.psl = s.psl) : (ite p a b).psl = s.psl := by
  by_cases q : p
  · rw [if_pos q]; exact h
  · rw [if_neg q]; exact g
theorem when_psl {s a : State} (c : Bool) (g : State → State) (h : (g a).psl = s.psl) (h' : a.psl = s.psl) : (a.when c g).psl = s.psl := by
  cases c
  · exact h'
  · exact h
@[simp] theorem evrDrop_psl (s : State) : s.evrDrop.psl = s.psl := by
  unfold State.evrDrop
  exact when_psl _ _ (by rw [raise_psl, set_psl, bump_psl]) (by rw [set_psl, bump_psl])
@[simp] theorem evrJoin_psl (s : State) (r : EvRec) : (s.evrJoin r).psl = s.psl := by unfold State.evrJoin; rw [set_psl]
@[simp] theorem evrPush_psl (s : State) (r : EvRec) : (s.evrPush r).psl = s.psl := by
  unfold State.evrPush; exact ite_psl (evrDrop_psl s) (evrJoin_psl s r)
theorem ite_dc {p : Prop} [Decidable p] {a b s : State} (h : a.dc = s.dc) (g : b.dc = s.dc) : (ite p a b).dc = s.dc := by
  by_cases q : p
  · rw [if_pos q]; exact h
  · rw [if_neg q]; exact g
theorem when_dc {s a : State} (c : Bool) (g : State → State) (h : (g a).dc = s.dc) (h' : a.dc = s.dc) : (a.when c g).dc = s.dc := by
  cases c
  · exact h'
  · exact h
@[simp] theorem evrDrop_dc (s : State) : s.evrDrop.dc = s.dc := by
  unfold State.evrDrop
  exact when_dc _ _ (by rw [raise_dc, set_dc, bump_dc]) (by rw [set_dc, bump_dc])
@[simp] theorem evrJoin_dc (s : State) (r : EvRec) : (s.evrJoin r).dc = s.dc := by unfold State.evrJoin; rw [set_dc]
@[simp] theorem evrPush_dc (s : State) (r : EvRec) : (s.evrPush r).dc = s.dc := by
  unfold State.evrPush; exact ite_dc (evrDrop_dc s) (evrJoin_dc s r)
theorem ite_wp {p : Prop} [Decidable p] {a b s : State} (h : a.wp = s.wp) (g : b.wp = s.wp) : (ite p a b).wp = s.wp := by
  by_cases q : p
  · rw [if_pos q]; exact h
  · rw [if_neg q]; exact g
theorem when_wp {s a : State} (c : Bool) (g : State → State) (h : (g a).wp = s.wp) (h' : a.wp = s.wp) : (a.when c g).wp = s.wp := by
  cases c
  · exact h'
  · exact h
@[simp] theorem evrDrop_wp (s : State) : s.evrDrop.wp = s.wp := by
  unfold State.evrDrop
  exact when_wp _ _ (by rw [raise_wp, set_wp, bump_wp]) (by rw [set_wp, bump_wp])
@[simp] theorem evrJoin_wp (s : State) (r : EvRec) : (s.evrJoin r).wp = s.wp := by unfold State.evrJoin; rw [set_wp]
@[simp] theorem evrPush_wp (s : State) (r : EvRec) : (s.evrPush r).wp = s.wp := by
  unfold State.evrPush; exact ite_wp (evrDrop_wp s) (evrJoin_wp s r)
theorem ite_fms {p : Prop} [Decidable p] {a b s : State} (h : a.fms = s.fms) (g : b.fms = s.fms) : (ite p a b).fms = s.fms := by
  by_cases q : p
  · rw [if_pos q]; exact h
  · rw [if_neg q]; exact g
theorem when_fms {s a : State} (c : Bool) (g : State → State) (h : (g a).fms = s.fms) (h' : a.fms = s.fms) : (a.when c g).fms = s.fms := by
  cases c
  · exact h'
  · exact h
@[simp] theorem evrDrop_fms (s : State) : s.evrDrop.fms = s.fms := by
  unfold State.evrDrop
  exact when_fms _ _ (by rw [raise_fms, set_fms, bump_fms]) (by rw [set_fms, bump_fms])
@[simp] theorem evrJoin_fms (s : State) (r : EvRec) : (s.evrJoin r).fms = s.fms := by unfold State.evrJoin; rw [set_fms]
@[simp] theorem evrPush_fms (s : State) (r : EvRec) : (s.evrPush r).fms = s.fms := by
  unfold State.evrPush; exact ite_fms (evrDrop_fms s) (evrJoin_fms s r)
theorem ite_svd {p : Prop} [Decidable p] {a b s : State} (h : a.svd = s.svd) (g : b.svd = s.svd) : (ite p a b).svd = s.svd := by
  by_cases q : p
  · rw [if_pos q]; exact h
  · rw [if_neg q]; exact g
theorem when_svd {s a : State} (c : Bool) (g : State → State) (h : (g a).svd = s.svd) (h' : a.svd = s.svd) : (a.when c g).svd = s.svd := by
  cases c
  · exact h'
  · exact h
@[simp] theorem evrDrop_svd (s : State) : s.evrDrop.svd = s.svd := by
  unfold State.evrDrop
  exact when_svd _ _ (by rw [raise_svd, set_svd, bump_svd]) (by rw [set_svd, bump_svd])
@[simp] theorem evrJoin_svd (s : State) (r : EvRec) : (s.evrJoin r).svd = s.svd := by unfold State.evrJoin; rw [set_svd]
@[simp] theorem evrPush_svd (s : State) (r : EvRec) : (s.evrPush r).svd = s.svd := by
  unfold State.evrPush; exact ite_svd (evrDrop_svd s) (evrJoin_svd s r)
theorem ite_adl {p : Prop} [Decidable p] {a b s : State} (h : a.adl = s.adl) (g : b.adl = s.adl) : (ite p a b).adl = s.adl := by
  by_cases q : p
  · rw [if_pos q]; exact h
  · rw [if_neg q]; exact g
theorem when_adl {s a : State} (c : Bool) (g : State → State) (h : (g a).adl = s.adl) (h' : a.adl = s.adl) : (a.when c g).adl = s.adl := by
  cases c
  · exact h'
  · exact h
@[simp] theorem evrDrop_adl (s : State) : s.evrDrop.adl = s.adl := by
  unfold State.evrDrop
  exact when_adl _ _ (by rw [raise_adl, set_adl, bump_adl]) (by rw [set_adl, bump_adl])
@[simp] theorem evrJoin_adl (s : State) (r : EvRec) : (s.evrJoin r).adl = s.adl := by unfold State.evrJoin; rw [set_adl]
@[simp] theorem evrPush_adl (s : State) (r : EvRec) : (s.evrPush r).adl = s.adl := by
  unfold State.evrPush; exact ite_adl (evrDrop_adl s) (evrJoin_adl s r)
theorem ite_cle {p : Prop} [Decidable p] {a b s : State} (h : a.cle = s.cle) (g : b.cle = s.cle) : (ite p a b).cle = s.cle := by
  by_cases q : p
  · rw [if_pos q]; exact h
  · rw [if_neg q]; exact g
theorem when_cle {s a : State} (c : Bool) (g : State → State) (h : (g a).cle = s.cle) (h' : a.cle = s.cle) : (a.when c g).cle = s.cle := by
  cases c
  · exact h'
  · exact h
@[simp] theorem evrDrop_cle (s : State) : s.evrDrop.cle = s.cle := by
  unfold State.evrDrop
  exact when_cle _ _ (by rw [raise_cle, set_cle, bump_cle]) (by rw [set_cle, bump_cle])
@[simp] theorem evrJoin_cle (s : State) (r : EvRec) : (s.evrJoin r).cle = s.cle := by unfold State.evrJoin; rw [set_cle]
@[simp] theorem evrPush_cle (s : State) (r : EvRec) : (s.evrPush r).cle = s.cle := by
  unfold State.evrPush; exact ite_cle (evrDrop_cle s) (evrJoin_cle s r)
theorem ite_spm {p : Prop} [Decidable p] {a b s : State} (h : a.spm = s.spm) (g : b.spm = s.spm) : (ite p a b).spm = s.spm := by
  by_cases q : p
  · rw [if_pos q]; exact h
  · rw [if_neg q]; exact g
theorem when_spm {s a : State} (c : Bool) (g : State → State) (h : (g a).spm = s.spm) (h' : a.spm = s.spm) : (a.when c g).spm = s.spm := by
  cases c
  · exact h'
  · exact h
@[simp] theorem evrDrop_spm (s : State) : s.evrDrop.spm = s.spm := by
  unfold State.evrDrop
  exact when_spm _ _ (by rw [raise_spm, set_spm, bump_spm]) (by rw [set_spm, bump_spm])
@[simp] theorem evrJoin_spm (s : State) (r : EvRec) : (s.evrJoin r).spm = s.spm := by unfold State.evrJoin; rw [set_spm]
@[simp] theorem evrPush_spm (s : State) (r : EvRec) : (s.evrPush r).spm = s.spm := by
  unfold State.evrPush; exact ite_spm (evrDrop_spm s) (evrJoin_spm s r)
theorem ite_memu {p : Prop} [Decidable p] {a b s : State} (h : a.memu = s.memu) (g : b.memu = s.memu) : (ite p a b).memu = s.memu := by
  by_cases q : p
  · rw [if_pos q]; exact h
  · rw [if_neg q]; exact g
theorem when_memu {s a : State} (c : Bool) (g : State → State) (h : (g a).memu = s.memu) (h' : a.memu = s.memu) : (a.when c g).memu = s.memu := by
  cases c
  · exact h'
  · exact h
@[simp] theorem evrDrop_memu (s : State) : s.evrDrop.memu = s.memu := by
  unfold State.evrDrop
  exact when_memu _ _ (by rw [raise_memu, set_memu, bump_memu]) (by rw [set_memu, bump_memu])
@[simp] theorem evrJoin_memu (s : State) (r : EvRec) : (s.evrJoin r).memu = s.memu := by unfold State.evrJoin; rw [set_memu]
@[simp] theorem evrPush_memu (s : State) (r : EvRec) : (s.evrPush r).memu = s.memu := by
  unfold State.evrPush; exact ite_memu (evrDrop_memu s) (evrJoin_memu s r)
theorem ite_evr {p : Prop} [Decidable p] {a b s : State} (h : a.evr = s.evr) (g : b.evr = s.evr) : (ite p a b).evr = s.evr := by
  by_cases q : p
  · rw [if_pos q]; exact h
  · rw [if_neg q]; exact g
theorem when_evr {s a : State} (c : Bool) (g : State → State) (h : (g a).evr = s.evr) (h' : a.evr = s.evr) : (a.when c g).evr = s.evr := by
  cases c
  · exact h'
  · exact h
@[simp] theorem evrDrop_evr (s : State) : s.evrDrop.evr = s.evr := by
  unfold State.evrDrop
  exact when_evr _ _ (by rw [raise_evr, set_evr, bump_evr]) (by rw [set_evr, bump_evr])
@[simp] theorem evrJoin_evr (s : State) (r : EvRec) : (s.evrJoin r).evr = s.evr := by unfold State.evrJoin; rw [set_evr]
@[simp] theorem evrPush_evr (s : State) (r : EvRec) : (s.evrPush r).evr = s.evr := by
  unfold State.evrPush; exact ite_evr (evrDrop_evr s) (evrJoin_evr s r)
theorem ite_flt {p : Prop} [Decidable p] {a b s : State} (h : a.flt = s.flt) (g : b.flt = s.flt) : (ite p a b).flt = s.flt := by
  by_cases q : p
  · rw [if_pos q]; exact h
  · rw [if_neg q]; exact g
theorem when_flt {s a : State} (c : Bool) (g : State → State) (h : (g a).flt = s.flt) (h' : a.flt = s.flt) : (a.when c g).flt = s.flt := by
  cases c
  · exact h'
  · exact h
@[simp] theorem evrDrop_flt (s : State) : s.evrDrop.flt = s.flt := by
  unfold State.evrDrop
  exact when_flt _ _ (by rw [raise_flt, set_flt, bump_flt]) (by rw [set_flt, bump_flt])
@[simp] theorem evrJoin_flt (s : State) (r : EvRec) : (s.evrJoin r).flt = s.flt := by unfold State.evrJoin; rw [set_flt]
@[simp] theorem evrPush_flt (s : State) (r : EvRec) : (s.evrPush r).flt = s.flt := by
  unfold State.evrPush; exact ite_flt (evrDrop_flt s) (evrJoin_flt s r)
theorem ite_dma {p : Prop} [Decidable p] {a b s : State} (h : a.dma = s.dma) (g : b.dma = s.dma) : (ite p a b).dma = s.dma := by
  by_cases q : p
  · rw [if_pos q]; exact h
  · rw [if_neg q]; exact g
theorem when_dma {s a : State} (c : Bool) (g : State → State) (h : (g a).dma = s.dma) (h' : a.dma = s.dma) : (a.when c g).dma = s.dma := by
  cases c
  · exact h'
  · exact h
@[simp] theorem evrDrop_dma (s : State) : s.evrDrop.dma = s.dma := by
  unfold State.evrDrop
  exact when_dma _ _ (by rw [raise_dma, set_dma, bump_dma]) (by rw [set_dma, bump_dma])
@[simp] theorem evrJoin_dma (s : State) (r : EvRec) : (s.evrJoin r).dma = s.dma := by unfold State.evrJoin; rw [set_dma]
@[simp] theorem evrPush_dma (s : State) (r : EvRec) : (s.evrPush r).dma = s.dma := by
  unfold State.evrPush; exact ite_dma (evrDrop_dma s) (evrJoin_dma s r)
theorem ite_cip {p : Prop} [Decidable p] {a b s : State} (h : a.cip = s.cip) (g : b.cip = s.cip) : (ite p a b).cip = s.cip := by
  by_cases q : p
  · rw [if_pos q]; exact h
  · rw [if_neg q]; exact g
theorem when_cip {s a : State} (c : Bool) (g : State → State) (h : (g a).cip = s.cip) (h' : a.cip = s.cip) : (a.when c g).cip = s.cip := by
  cases c
  · exact h'
  · exact h
@[simp] theorem evrDrop_cip (s : State) : s.evrDrop.cip = s.cip := by
  unfold State.evrDrop
  exact when_cip _ _ (by rw [raise_cip, set_cip, bump_cip]) (by rw [set_cip, bump_cip])
@[simp] theorem evrJoin_cip (s : State) (r : EvRec) : (s.evrJoin r).cip = s.cip := by unfold State.evrJoin; rw [set_cip]
@[simp] theorem evrPush_cip (s : State) (r : EvRec) : (s.evrPush r).cip = s.cip := by
  unfold State.evrPush; exact ite_cip (evrDrop_cip s) (evrJoin_cip s r)
theorem ite_keys {p : Prop} [Decidable p] {a b s : State} (h : a.keys = s.keys) (g : b.keys = s.keys) : (ite p a b).keys = s.keys := by
  by_cases q : p
  · rw [if_pos q]; exact h
  · rw [if_neg q]; exact g
theorem when_keys {s a : State} (c : Bool) (g : State → State) (h : (g a).keys = s.keys) (h' : a.keys = s.keys) : (a.when c g).keys = s.keys := by
  cases c
  · exact h'
  · exact h
@[simp] theorem evrDrop_keys (s : State) : s.evrDrop.keys = s.keys := by
  unfold State.evrDrop
  exact when_keys _ _ (by rw [raise_keys, set_keys, bump_keys]) (by rw [set_keys, bump_keys])
@[simp] theorem evrJoin_keys (s : State) (r : EvRec) : (s.evrJoin r).keys = s.keys := by unfold State.evrJoin; rw [set_keys]
@[simp] theorem evrPush_keys (s : State) (r : EvRec) : (s.evrPush r).keys = s.keys := by
  unfold State.evrPush; exact ite_keys (evrDrop_keys s) (evrJoin_keys s r)
theorem ite_sup {p : Prop} [Decidable p] {a b s : State} (h : a.sup = s.sup) (g : b.sup = s.sup) : (ite p a b).sup = s.sup := by
  by_cases q : p
  · rw [if_pos q]; exact h
  · rw [if_neg q]; exact g
theorem when_sup {s a : State} (c : Bool) (g : State → State) (h : (g a).sup = s.sup) (h' : a.sup = s.sup) : (a.when c g).sup = s.sup := by
  cases c
  · exact h'
  · exact h
@[simp] theorem evrDrop_sup (s : State) : s.evrDrop.sup = s.sup := by
  unfold State.evrDrop
  exact when_sup _ _ (by rw [raise_sup, set_sup, bump_sup]) (by rw [set_sup, bump_sup])
@[simp] theorem evrJoin_sup (s : State) (r : EvRec) : (s.evrJoin r).sup = s.sup := by unfold State.evrJoin; rw [set_sup]
@[simp] theorem evrPush_sup (s : State) (r : EvRec) : (s.evrPush r).sup = s.sup := by
  unfold State.evrPush; exact ite_sup (evrDrop_sup s) (evrJoin_sup s r)
theorem ite_cores {p : Prop} [Decidable p] {a b s : State} (h : a.cores = s.cores) (g : b.cores = s.cores) : (ite p a b).cores = s.cores := by
  by_cases q : p
  · rw [if_pos q]; exact h
  · rw [if_neg q]; exact g
theorem when_cores {s a : State} (c : Bool) (g : State → State) (h : (g a).cores = s.cores) (h' : a.cores = s.cores) : (a.when c g).cores = s.cores := by
  cases c
  · exact h'
  · exact h
@[simp] theorem evrDrop_cores (s : State) : s.evrDrop.cores = s.cores := by
  unfold State.evrDrop
  exact when_cores _ _ (by rw [raise_cores, set_cores, bump_cores]) (by rw [set_cores, bump_cores])
@[simp] theorem evrJoin_cores (s : State) (r : EvRec) : (s.evrJoin r).cores = s.cores := by unfold State.evrJoin; rw [set_cores]
@[simp] theorem evrPush_cores (s : State) (r : EvRec) : (s.evrPush r).cores = s.cores := by
  unfold State.evrPush; exact ite_cores (evrDrop_cores s) (evrJoin_cores s r)
theorem ite_l2 {p : Prop} [Decidable p] {a b s : State} (h : a.l2 = s.l2) (g : b.l2 = s.l2) : (ite p a b).l2 = s.l2 := by
  by_cases q : p
  · rw [if_pos q]; exact h
  · rw [if_neg q]; exact g
theorem when_l2 {s a : State} (c : Bool) (g : State → State) (h : (g a).l2 = s.l2) (h' : a.l2 = s.l2) : (a.when c g).l2 = s.l2 := by
  cases c
  · exact h'
  · exact h
@[simp] theorem evrDrop_l2 (s : State) : s.evrDrop.l2 = s.l2 := by
  unfold State.evrDrop
  exact when_l2 _ _ (by rw [raise_l2, set_l2, bump_l2]) (by rw [set_l2, bump_l2])
@[simp] theorem evrJoin_l2 (s : State) (r : EvRec) : (s.evrJoin r).l2 = s.l2 := by unfold State.evrJoin; rw [set_l2]
@[simp] theorem evrPush_l2 (s : State) (r : EvRec) : (s.evrPush r).l2 = s.l2 := by
  unfold State.evrPush; exact ite_l2 (evrDrop_l2 s) (evrJoin_l2 s r)
theorem ite_hostOut {p : Prop} [Decidable p] {a b s : State} (h : a.hostOut = s.hostOut) (g : b.hostOut = s.hostOut) : (ite p a b).hostOut = s.hostOut := by
  by_cases q : p
  · rw [if_pos q]; exact h
  · rw [if_neg q]; exact g
theorem when_hostOut {s a : State} (c : Bool) (g : State → State) (h : (g a).hostOut = s.hostOut) (h' : a.hostOut = s.hostOut) : (a.when c g).hostOut = s.hostOut := by
  cases c
  · exact h'
  · exact h
@[simp] theorem evrDrop_hostOut (s : State) : s.evrDrop.hostOut = s.hostOut := by
  unfold State.evrDrop
  exact when_hostOut _ _ (by rw [raise_hostOut, set_hostOut, bump_hostOut]) (by rw [set_hostOut, bump_hostOut])
@[simp] theorem evrJoin_hostOut (s : State) (r : EvRec) : (s.evrJoin r).hostOut = s.hostOut := by unfold State.evrJoin; rw [set_hostOut]
@[simp] theorem evrPush_hostOut (s : State) (r : EvRec) : (s.evrPush r).hostOut = s.hostOut := by
  unfold State.evrPush; exact ite_hostOut (evrDrop_hostOut s) (evrJoin_hostOut s r)
theorem ite_powerCycles {p : Prop} [Decidable p] {a b s : State} (h : a.powerCycles = s.powerCycles) (g : b.powerCycles = s.powerCycles) : (ite p a b).powerCycles = s.powerCycles := by
  by_cases q : p
  · rw [if_pos q]; exact h
  · rw [if_neg q]; exact g
theorem when_powerCycles {s a : State} (c : Bool) (g : State → State) (h : (g a).powerCycles = s.powerCycles) (h' : a.powerCycles = s.powerCycles) : (a.when c g).powerCycles = s.powerCycles := by
  cases c
  · exact h'
  · exact h
@[simp] theorem evrDrop_powerCycles (s : State) : s.evrDrop.powerCycles = s.powerCycles := by
  unfold State.evrDrop
  exact when_powerCycles _ _ (by rw [raise_powerCycles, set_powerCycles, bump_powerCycles]) (by rw [set_powerCycles, bump_powerCycles])
@[simp] theorem evrJoin_powerCycles (s : State) (r : EvRec) : (s.evrJoin r).powerCycles = s.powerCycles := by unfold State.evrJoin; rw [set_powerCycles]
@[simp] theorem evrPush_powerCycles (s : State) (r : EvRec) : (s.evrPush r).powerCycles = s.powerCycles := by
  unfold State.evrPush; exact ite_powerCycles (evrDrop_powerCycles s) (evrJoin_powerCycles s r)
theorem ite_dieTemp {p : Prop} [Decidable p] {a b s : State} (h : a.dieTemp = s.dieTemp) (g : b.dieTemp = s.dieTemp) : (ite p a b).dieTemp = s.dieTemp := by
  by_cases q : p
  · rw [if_pos q]; exact h
  · rw [if_neg q]; exact g
theorem when_dieTemp {s a : State} (c : Bool) (g : State → State) (h : (g a).dieTemp = s.dieTemp) (h' : a.dieTemp = s.dieTemp) : (a.when c g).dieTemp = s.dieTemp := by
  cases c
  · exact h'
  · exact h
@[simp] theorem evrDrop_dieTemp (s : State) : s.evrDrop.dieTemp = s.dieTemp := by
  unfold State.evrDrop
  exact when_dieTemp _ _ (by rw [raise_dieTemp, set_dieTemp, bump_dieTemp]) (by rw [set_dieTemp, bump_dieTemp])
@[simp] theorem evrJoin_dieTemp (s : State) (r : EvRec) : (s.evrJoin r).dieTemp = s.dieTemp := by unfold State.evrJoin; rw [set_dieTemp]
@[simp] theorem evrPush_dieTemp (s : State) (r : EvRec) : (s.evrPush r).dieTemp = s.dieTemp := by
  unfold State.evrPush; exact ite_dieTemp (evrDrop_dieTemp s) (evrJoin_dieTemp s r)
theorem ite_manifest {p : Prop} [Decidable p] {a b s : State} (h : a.manifest = s.manifest) (g : b.manifest = s.manifest) : (ite p a b).manifest = s.manifest := by
  by_cases q : p
  · rw [if_pos q]; exact h
  · rw [if_neg q]; exact g
theorem when_manifest {s a : State} (c : Bool) (g : State → State) (h : (g a).manifest = s.manifest) (h' : a.manifest = s.manifest) : (a.when c g).manifest = s.manifest := by
  cases c
  · exact h'
  · exact h
@[simp] theorem evrDrop_manifest (s : State) : s.evrDrop.manifest = s.manifest := by
  unfold State.evrDrop
  exact when_manifest _ _ (by rw [raise_manifest, set_manifest, bump_manifest]) (by rw [set_manifest, bump_manifest])
@[simp] theorem evrJoin_manifest (s : State) (r : EvRec) : (s.evrJoin r).manifest = s.manifest := by unfold State.evrJoin; rw [set_manifest]
@[simp] theorem evrPush_manifest (s : State) (r : EvRec) : (s.evrPush r).manifest = s.manifest := by
  unfold State.evrPush; exact ite_manifest (evrDrop_manifest s) (evrJoin_manifest s r)
theorem ite_dict {p : Prop} [Decidable p] {a b s : State} (h : a.dict = s.dict) (g : b.dict = s.dict) : (ite p a b).dict = s.dict := by
  by_cases q : p
  · rw [if_pos q]; exact h
  · rw [if_neg q]; exact g
theorem when_dict {s a : State} (c : Bool) (g : State → State) (h : (g a).dict = s.dict) (h' : a.dict = s.dict) : (a.when c g).dict = s.dict := by
  cases c
  · exact h'
  · exact h
@[simp] theorem evrDrop_dict (s : State) : s.evrDrop.dict = s.dict := by
  unfold State.evrDrop
  exact when_dict _ _ (by rw [raise_dict, set_dict, bump_dict]) (by rw [set_dict, bump_dict])
@[simp] theorem evrJoin_dict (s : State) (r : EvRec) : (s.evrJoin r).dict = s.dict := by unfold State.evrJoin; rw [set_dict]
@[simp] theorem evrPush_dict (s : State) (r : EvRec) : (s.evrPush r).dict = s.dict := by
  unfold State.evrPush; exact ite_dict (evrDrop_dict s) (evrJoin_dict s r)
theorem ite_locks {p : Prop} [Decidable p] {a b s : State} (h : a.locks = s.locks) (g : b.locks = s.locks) : (ite p a b).locks = s.locks := by
  by_cases q : p
  · rw [if_pos q]; exact h
  · rw [if_neg q]; exact g
theorem when_locks {s a : State} (c : Bool) (g : State → State) (h : (g a).locks = s.locks) (h' : a.locks = s.locks) : (a.when c g).locks = s.locks := by
  cases c
  · exact h'
  · exact h
@[simp] theorem evrDrop_locks (s : State) : s.evrDrop.locks = s.locks := by
  unfold State.evrDrop
  exact when_locks _ _ (by rw [raise_locks, set_locks, bump_locks]) (by rw [set_locks, bump_locks])
@[simp] theorem evrJoin_locks (s : State) (r : EvRec) : (s.evrJoin r).locks = s.locks := by unfold State.evrJoin; rw [set_locks]
@[simp] theorem evrPush_locks (s : State) (r : EvRec) : (s.evrPush r).locks = s.locks := by
  unfold State.evrPush; exact ite_locks (evrDrop_locks s) (evrJoin_locks s r)
theorem ite_image {p : Prop} [Decidable p] {a b s : State} (h : a.image = s.image) (g : b.image = s.image) : (ite p a b).image = s.image := by
  by_cases q : p
  · rw [if_pos q]; exact h
  · rw [if_neg q]; exact g
theorem when_image {s a : State} (c : Bool) (g : State → State) (h : (g a).image = s.image) (h' : a.image = s.image) : (a.when c g).image = s.image := by
  cases c
  · exact h'
  · exact h
@[simp] theorem evrDrop_image (s : State) : s.evrDrop.image = s.image := by
  unfold State.evrDrop
  exact when_image _ _ (by rw [raise_image, set_image, bump_image]) (by rw [set_image, bump_image])
@[simp] theorem evrJoin_image (s : State) (r : EvRec) : (s.evrJoin r).image = s.image := by unfold State.evrJoin; rw [set_image]
@[simp] theorem evrPush_image (s : State) (r : EvRec) : (s.evrPush r).image = s.image := by
  unfold State.evrPush; exact ite_image (evrDrop_image s) (evrJoin_image s r)
theorem ite_rcp {p : Prop} [Decidable p] {a b s : State} (h : a.rcp = s.rcp) (g : b.rcp = s.rcp) : (ite p a b).rcp = s.rcp := by
  by_cases q : p
  · rw [if_pos q]; exact h
  · rw [if_neg q]; exact g
theorem when_rcp {s a : State} (c : Bool) (g : State → State) (h : (g a).rcp = s.rcp) (h' : a.rcp = s.rcp) : (a.when c g).rcp = s.rcp := by
  cases c
  · exact h'
  · exact h
@[simp] theorem evrDrop_rcp (s : State) : s.evrDrop.rcp = s.rcp := by
  unfold State.evrDrop
  exact when_rcp _ _ (by rw [raise_rcp, set_rcp, bump_rcp]) (by rw [set_rcp, bump_rcp])
@[simp] theorem evrJoin_rcp (s : State) (r : EvRec) : (s.evrJoin r).rcp = s.rcp := by unfold State.evrJoin; rw [set_rcp]
@[simp] theorem evrPush_rcp (s : State) (r : EvRec) : (s.evrPush r).rcp = s.rcp := by
  unfold State.evrPush; exact ite_rcp (evrDrop_rcp s) (evrJoin_rcp s r)
theorem ite_man {p : Prop} [Decidable p] {a b s : State} (h : a.man = s.man) (g : b.man = s.man) : (ite p a b).man = s.man := by
  by_cases q : p
  · rw [if_pos q]; exact h
  · rw [if_neg q]; exact g
theorem when_man {s a : State} (c : Bool) (g : State → State) (h : (g a).man = s.man) (h' : a.man = s.man) : (a.when c g).man = s.man := by
  cases c
  · exact h'
  · exact h
@[simp] theorem evrDrop_man (s : State) : s.evrDrop.man = s.man := by
  unfold State.evrDrop
  exact when_man _ _ (by rw [raise_man, set_man, bump_man]) (by rw [set_man, bump_man])
@[simp] theorem evrJoin_man (s : State) (r : EvRec) : (s.evrJoin r).man = s.man := by unfold State.evrJoin; rw [set_man]
@[simp] theorem evrPush_man (s : State) (r : EvRec) : (s.evrPush r).man = s.man := by
  unfold State.evrPush; exact ite_man (evrDrop_man s) (evrJoin_man s r)
theorem ite_boot {p : Prop} [Decidable p] {a b s : State} (h : a.boot = s.boot) (g : b.boot = s.boot) : (ite p a b).boot = s.boot := by
  by_cases q : p
  · rw [if_pos q]; exact h
  · rw [if_neg q]; exact g
theorem when_boot {s a : State} (c : Bool) (g : State → State) (h : (g a).boot = s.boot) (h' : a.boot = s.boot) : (a.when c g).boot = s.boot := by
  cases c
  · exact h'
  · exact h
@[simp] theorem evrDrop_boot (s : State) : s.evrDrop.boot = s.boot := by
  unfold State.evrDrop
  exact when_boot _ _ (by rw [raise_boot, set_boot, bump_boot]) (by rw [set_boot, bump_boot])
@[simp] theorem evrJoin_boot (s : State) (r : EvRec) : (s.evrJoin r).boot = s.boot := by unfold State.evrJoin; rw [set_boot]
@[simp] theorem evrPush_boot (s : State) (r : EvRec) : (s.evrPush r).boot = s.boot := by
  unfold State.evrPush; exact ite_boot (evrDrop_boot s) (evrJoin_boot s r)
theorem ite_pce {p : Prop} [Decidable p] {a b s : State} (h : a.pce = s.pce) (g : b.pce = s.pce) : (ite p a b).pce = s.pce := by
  by_cases q : p
  · rw [if_pos q]; exact h
  · rw [if_neg q]; exact g
theorem when_pce {s a : State} (c : Bool) (g : State → State) (h : (g a).pce = s.pce) (h' : a.pce = s.pce) : (a.when c g).pce = s.pce := by
  cases c
  · exact h'
  · exact h
@[simp] theorem evrDrop_pce (s : State) : s.evrDrop.pce = s.pce := by
  unfold State.evrDrop
  exact when_pce _ _ (by rw [raise_pce, set_pce, bump_pce]) (by rw [set_pce, bump_pce])
@[simp] theorem evrJoin_pce (s : State) (r : EvRec) : (s.evrJoin r).pce = s.pce := by unfold State.evrJoin; rw [set_pce]
@[simp] theorem evrPush_pce (s : State) (r : EvRec) : (s.evrPush r).pce = s.pce := by
  unfold State.evrPush; exact ite_pce (evrDrop_pce s) (evrJoin_pce s r)
theorem ite_nvq {p : Prop} [Decidable p] {a b s : State} (h : a.nvq = s.nvq) (g : b.nvq = s.nvq) : (ite p a b).nvq = s.nvq := by
  by_cases q : p
  · rw [if_pos q]; exact h
  · rw [if_neg q]; exact g
theorem when_nvq {s a : State} (c : Bool) (g : State → State) (h : (g a).nvq = s.nvq) (h' : a.nvq = s.nvq) : (a.when c g).nvq = s.nvq := by
  cases c
  · exact h'
  · exact h
@[simp] theorem evrDrop_nvq (s : State) : s.evrDrop.nvq = s.nvq := by
  unfold State.evrDrop
  exact when_nvq _ _ (by rw [raise_nvq, set_nvq, bump_nvq]) (by rw [set_nvq, bump_nvq])
@[simp] theorem evrJoin_nvq (s : State) (r : EvRec) : (s.evrJoin r).nvq = s.nvq := by unfold State.evrJoin; rw [set_nvq]
@[simp] theorem evrPush_nvq (s : State) (r : EvRec) : (s.evrPush r).nvq = s.nvq := by
  unfold State.evrPush; exact ite_nvq (evrDrop_nvq s) (evrJoin_nvq s r)
theorem ite_nvme {p : Prop} [Decidable p] {a b s : State} (h : a.nvme = s.nvme) (g : b.nvme = s.nvme) : (ite p a b).nvme = s.nvme := by
  by_cases q : p
  · rw [if_pos q]; exact h
  · rw [if_neg q]; exact g
theorem when_nvme {s a : State} (c : Bool) (g : State → State) (h : (g a).nvme = s.nvme) (h' : a.nvme = s.nvme) : (a.when c g).nvme = s.nvme := by
  cases c
  · exact h'
  · exact h
@[simp] theorem evrDrop_nvme (s : State) : s.evrDrop.nvme = s.nvme := by
  unfold State.evrDrop
  exact when_nvme _ _ (by rw [raise_nvme, set_nvme, bump_nvme]) (by rw [set_nvme, bump_nvme])
@[simp] theorem evrJoin_nvme (s : State) (r : EvRec) : (s.evrJoin r).nvme = s.nvme := by unfold State.evrJoin; rw [set_nvme]
@[simp] theorem evrPush_nvme (s : State) (r : EvRec) : (s.evrPush r).nvme = s.nvme := by
  unfold State.evrPush; exact ite_nvme (evrDrop_nvme s) (evrJoin_nvme s r)
theorem ite_fni {p : Prop} [Decidable p] {a b s : State} (h : a.fni = s.fni) (g : b.fni = s.fni) : (ite p a b).fni = s.fni := by
  by_cases q : p
  · rw [if_pos q]; exact h
  · rw [if_neg q]; exact g
theorem when_fni {s a : State} (c : Bool) (g : State → State) (h : (g a).fni = s.fni) (h' : a.fni = s.fni) : (a.when c g).fni = s.fni := by
  cases c
  · exact h'
  · exact h
@[simp] theorem evrDrop_fni (s : State) : s.evrDrop.fni = s.fni := by
  unfold State.evrDrop
  exact when_fni _ _ (by rw [raise_fni, set_fni, bump_fni]) (by rw [set_fni, bump_fni])
@[simp] theorem evrJoin_fni (s : State) (r : EvRec) : (s.evrJoin r).fni = s.fni := by unfold State.evrJoin; rw [set_fni]
@[simp] theorem evrPush_fni (s : State) (r : EvRec) : (s.evrPush r).fni = s.fni := by
  unfold State.evrPush; exact ite_fni (evrDrop_fni s) (evrJoin_fni s r)
theorem ite_journal {p : Prop} [Decidable p] {a b s : State} (h : a.journal = s.journal) (g : b.journal = s.journal) : (ite p a b).journal = s.journal := by
  by_cases q : p
  · rw [if_pos q]; exact h
  · rw [if_neg q]; exact g
theorem when_journal {s a : State} (c : Bool) (g : State → State) (h : (g a).journal = s.journal) (h' : a.journal = s.journal) : (a.when c g).journal = s.journal := by
  cases c
  · exact h'
  · exact h
@[simp] theorem evrDrop_journal (s : State) : s.evrDrop.journal = s.journal := by
  unfold State.evrDrop
  exact when_journal _ _ (by rw [raise_journal, set_journal, bump_journal]) (by rw [set_journal, bump_journal])
@[simp] theorem evrJoin_journal (s : State) (r : EvRec) : (s.evrJoin r).journal = s.journal := by unfold State.evrJoin; rw [set_journal]
@[simp] theorem evrPush_journal (s : State) (r : EvRec) : (s.evrPush r).journal = s.journal := by
  unfold State.evrPush; exact ite_journal (evrDrop_journal s) (evrJoin_journal s r)
theorem ite_zones {p : Prop} [Decidable p] {a b s : State} (h : a.zones = s.zones) (g : b.zones = s.zones) : (ite p a b).zones = s.zones := by
  by_cases q : p
  · rw [if_pos q]; exact h
  · rw [if_neg q]; exact g
theorem when_zones {s a : State} (c : Bool) (g : State → State) (h : (g a).zones = s.zones) (h' : a.zones = s.zones) : (a.when c g).zones = s.zones := by
  cases c
  · exact h'
  · exact h
@[simp] theorem evrDrop_zones (s : State) : s.evrDrop.zones = s.zones := by
  unfold State.evrDrop
  exact when_zones _ _ (by rw [raise_zones, set_zones, bump_zones]) (by rw [set_zones, bump_zones])
@[simp] theorem evrJoin_zones (s : State) (r : EvRec) : (s.evrJoin r).zones = s.zones := by unfold State.evrJoin; rw [set_zones]
@[simp] theorem evrPush_zones (s : State) (r : EvRec) : (s.evrPush r).zones = s.zones := by
  unfold State.evrPush; exact ite_zones (evrDrop_zones s) (evrJoin_zones s r)
@[simp] theorem log_pending (s : State) (ty : Nat) (p : List Byte) (o g : Nat) : (s.log ty p o g).pending = s.pending := by
  unfold State.log; exact ite_pending (evrPush_pending ..) rfl
@[simp] theorem log_variant1408 (s : State) (ty : Nat) (p : List Byte) (o g : Nat) : (s.log ty p o g).variant1408 = s.variant1408 := by
  unfold State.log; exact ite_variant1408 (evrPush_variant1408 ..) rfl
@[simp] theorem log_power (s : State) (ty : Nat) (p : List Byte) (o g : Nat) : (s.log ty p o g).power = s.power := by
  unfold State.log; exact ite_power (evrPush_power ..) rfl
@[simp] theorem log_tick (s : State) (ty : Nat) (p : List Byte) (o g : Nat) : (s.log ty p o g).tick = s.tick := by
  unfold State.log; exact ite_tick (evrPush_tick ..) rfl
@[simp] theorem log_free (s : State) (ty : Nat) (p : List Byte) (o g : Nat) : (s.log ty p o g).free = s.free := by
  unfold State.log; exact ite_free (evrPush_free ..) rfl
@[simp] theorem log_mem (s : State) (ty : Nat) (p : List Byte) (o g : Nat) : (s.log ty p o g).mem = s.mem := by
  unfold State.log; exact ite_mem (evrPush_mem ..) rfl
@[simp] theorem log_resp (s : State) (ty : Nat) (p : List Byte) (o g : Nat) : (s.log ty p o g).resp = s.resp := by
  unfold State.log; exact ite_resp (evrPush_resp ..) rfl
@[simp] theorem log_pulses (s : State) (ty : Nat) (p : List Byte) (o g : Nat) : (s.log ty p o g).pulses = s.pulses := by
  unfold State.log; exact ite_pulses (evrPush_pulses ..) rfl
@[simp] theorem log_opSeconds (s : State) (ty : Nat) (p : List Byte) (o g : Nat) : (s.log ty p o g).opSeconds = s.opSeconds := by
  unfold State.log; exact ite_opSeconds (evrPush_opSeconds ..) rfl
@[simp] theorem log_psl (s : State) (ty : Nat) (p : List Byte) (o g : Nat) : (s.log ty p o g).psl = s.psl := by
  unfold State.log; exact ite_psl (evrPush_psl ..) rfl
@[simp] theorem log_dc (s : State) (ty : Nat) (p : List Byte) (o g : Nat) : (s.log ty p o g).dc = s.dc := by
  unfold State.log; exact ite_dc (evrPush_dc ..) rfl
@[simp] theorem log_wp (s : State) (ty : Nat) (p : List Byte) (o g : Nat) : (s.log ty p o g).wp = s.wp := by
  unfold State.log; exact ite_wp (evrPush_wp ..) rfl
@[simp] theorem log_fms (s : State) (ty : Nat) (p : List Byte) (o g : Nat) : (s.log ty p o g).fms = s.fms := by
  unfold State.log; exact ite_fms (evrPush_fms ..) rfl
@[simp] theorem log_svd (s : State) (ty : Nat) (p : List Byte) (o g : Nat) : (s.log ty p o g).svd = s.svd := by
  unfold State.log; exact ite_svd (evrPush_svd ..) rfl
@[simp] theorem log_adl (s : State) (ty : Nat) (p : List Byte) (o g : Nat) : (s.log ty p o g).adl = s.adl := by
  unfold State.log; exact ite_adl (evrPush_adl ..) rfl
@[simp] theorem log_cle (s : State) (ty : Nat) (p : List Byte) (o g : Nat) : (s.log ty p o g).cle = s.cle := by
  unfold State.log; exact ite_cle (evrPush_cle ..) rfl
@[simp] theorem log_spm (s : State) (ty : Nat) (p : List Byte) (o g : Nat) : (s.log ty p o g).spm = s.spm := by
  unfold State.log; exact ite_spm (evrPush_spm ..) rfl
@[simp] theorem log_memu (s : State) (ty : Nat) (p : List Byte) (o g : Nat) : (s.log ty p o g).memu = s.memu := by
  unfold State.log; exact ite_memu (evrPush_memu ..) rfl
@[simp] theorem log_evr (s : State) (ty : Nat) (p : List Byte) (o g : Nat) : (s.log ty p o g).evr = s.evr := by
  unfold State.log; exact ite_evr (evrPush_evr ..) rfl
@[simp] theorem log_flt (s : State) (ty : Nat) (p : List Byte) (o g : Nat) : (s.log ty p o g).flt = s.flt := by
  unfold State.log; exact ite_flt (evrPush_flt ..) rfl
@[simp] theorem log_dma (s : State) (ty : Nat) (p : List Byte) (o g : Nat) : (s.log ty p o g).dma = s.dma := by
  unfold State.log; exact ite_dma (evrPush_dma ..) rfl
@[simp] theorem log_cip (s : State) (ty : Nat) (p : List Byte) (o g : Nat) : (s.log ty p o g).cip = s.cip := by
  unfold State.log; exact ite_cip (evrPush_cip ..) rfl
@[simp] theorem log_keys (s : State) (ty : Nat) (p : List Byte) (o g : Nat) : (s.log ty p o g).keys = s.keys := by
  unfold State.log; exact ite_keys (evrPush_keys ..) rfl
@[simp] theorem log_sup (s : State) (ty : Nat) (p : List Byte) (o g : Nat) : (s.log ty p o g).sup = s.sup := by
  unfold State.log; exact ite_sup (evrPush_sup ..) rfl
@[simp] theorem log_cores (s : State) (ty : Nat) (p : List Byte) (o g : Nat) : (s.log ty p o g).cores = s.cores := by
  unfold State.log; exact ite_cores (evrPush_cores ..) rfl
@[simp] theorem log_l2 (s : State) (ty : Nat) (p : List Byte) (o g : Nat) : (s.log ty p o g).l2 = s.l2 := by
  unfold State.log; exact ite_l2 (evrPush_l2 ..) rfl
@[simp] theorem log_hostOut (s : State) (ty : Nat) (p : List Byte) (o g : Nat) : (s.log ty p o g).hostOut = s.hostOut := by
  unfold State.log; exact ite_hostOut (evrPush_hostOut ..) rfl
@[simp] theorem log_powerCycles (s : State) (ty : Nat) (p : List Byte) (o g : Nat) : (s.log ty p o g).powerCycles = s.powerCycles := by
  unfold State.log; exact ite_powerCycles (evrPush_powerCycles ..) rfl
@[simp] theorem log_dieTemp (s : State) (ty : Nat) (p : List Byte) (o g : Nat) : (s.log ty p o g).dieTemp = s.dieTemp := by
  unfold State.log; exact ite_dieTemp (evrPush_dieTemp ..) rfl
@[simp] theorem log_manifest (s : State) (ty : Nat) (p : List Byte) (o g : Nat) : (s.log ty p o g).manifest = s.manifest := by
  unfold State.log; exact ite_manifest (evrPush_manifest ..) rfl
@[simp] theorem log_dict (s : State) (ty : Nat) (p : List Byte) (o g : Nat) : (s.log ty p o g).dict = s.dict := by
  unfold State.log; exact ite_dict (evrPush_dict ..) rfl
@[simp] theorem log_locks (s : State) (ty : Nat) (p : List Byte) (o g : Nat) : (s.log ty p o g).locks = s.locks := by
  unfold State.log; exact ite_locks (evrPush_locks ..) rfl
@[simp] theorem log_image (s : State) (ty : Nat) (p : List Byte) (o g : Nat) : (s.log ty p o g).image = s.image := by
  unfold State.log; exact ite_image (evrPush_image ..) rfl
@[simp] theorem log_rcp (s : State) (ty : Nat) (p : List Byte) (o g : Nat) : (s.log ty p o g).rcp = s.rcp := by
  unfold State.log; exact ite_rcp (evrPush_rcp ..) rfl
@[simp] theorem log_man (s : State) (ty : Nat) (p : List Byte) (o g : Nat) : (s.log ty p o g).man = s.man := by
  unfold State.log; exact ite_man (evrPush_man ..) rfl
@[simp] theorem log_boot (s : State) (ty : Nat) (p : List Byte) (o g : Nat) : (s.log ty p o g).boot = s.boot := by
  unfold State.log; exact ite_boot (evrPush_boot ..) rfl
@[simp] theorem log_pce (s : State) (ty : Nat) (p : List Byte) (o g : Nat) : (s.log ty p o g).pce = s.pce := by
  unfold State.log; exact ite_pce (evrPush_pce ..) rfl
@[simp] theorem log_nvq (s : State) (ty : Nat) (p : List Byte) (o g : Nat) : (s.log ty p o g).nvq = s.nvq := by
  unfold State.log; exact ite_nvq (evrPush_nvq ..) rfl
@[simp] theorem log_nvme (s : State) (ty : Nat) (p : List Byte) (o g : Nat) : (s.log ty p o g).nvme = s.nvme := by
  unfold State.log; exact ite_nvme (evrPush_nvme ..) rfl
@[simp] theorem log_fni (s : State) (ty : Nat) (p : List Byte) (o g : Nat) : (s.log ty p o g).fni = s.fni := by
  unfold State.log; exact ite_fni (evrPush_fni ..) rfl
@[simp] theorem log_journal (s : State) (ty : Nat) (p : List Byte) (o g : Nat) : (s.log ty p o g).journal = s.journal := by
  unfold State.log; exact ite_journal (evrPush_journal ..) rfl
@[simp] theorem log_zones (s : State) (ty : Nat) (p : List Byte) (o g : Nat) : (s.log ty p o g).zones = s.zones := by
  unfold State.log; exact ite_zones (evrPush_zones ..) rfl

@[simp] theorem raise_get (s : State) (k : Nat) (x : Fld) : (s.raise k).get x = s.get x := rfl
@[simp] theorem pulse_get (s : State) (k : Nat) (x : Fld) : (s.pulse k).get x = s.get x := rfl
@[simp] theorem writeByte_get (s : State) (a : Nat) (b : Byte) (x : Fld) : (s.writeByte a b).get x = s.get x := rfl
@[simp] theorem clearMarks_get (s : State) (a n : Nat) (x : Fld) : (s.clearMarks a n).get x = s.get x := rfl
@[simp] theorem modPsl_get (s : State) (n : Fin 2) (g : PslLink → PslLink) (x : Fld) : (s.modPsl n g).get x = s.get x := rfl
@[simp] theorem modDc_get (s : State) (n : Fin 4) (g : DcChan → DcChan) (x : Fld) : (s.modDc n g).get x = s.get x := rfl
@[simp] theorem modWp_get (s : State) (n : Fin 2) (g : WpPath → WpPath) (x : Fld) : (s.modWp n g).get x = s.get x := rfl
@[simp] theorem modFms_get (s : State) (n : Fin 2) (g : FmsSeq → FmsSeq) (x : Fld) : (s.modFms n g).get x = s.get x := rfl
@[simp] theorem modSvd_get (s : State) (n : Fin 4) (g : SvdDemod → SvdDemod) (x : Fld) : (s.modSvd n g).get x = s.get x := rfl
@[simp] theorem modAdl_get (s : State) (n : Fin 2) (g : AdlLink → AdlLink) (x : Fld) : (s.modAdl n g).get x = s.get x := rfl
@[simp] theorem modCle_get (s : State) (g : CleEngine → CleEngine) (x : Fld) : (s.modCle g).get x = s.get x := rfl
@[simp] theorem modSpm_get (s : State) (g : SpmDrive → SpmDrive) (x : Fld) : (s.modSpm g).get x = s.get x := rfl
@[simp] theorem modMem_get (s : State) (g : MemUnits → MemUnits) (x : Fld) : (s.modMem g).get x = s.get x := rfl
@[simp] theorem modDma_get (s : State) (g : DmaUnit → DmaUnit) (x : Fld) : (s.modDma g).get x = s.get x := rfl
@[simp] theorem modCh_get (s : State) (k : Fin 32) (g : DmaChan → DmaChan) (x : Fld) : (s.modCh k g).get x = s.get x := rfl
@[simp] theorem modFlt_get (s : State) (g : FltUnit → FltUnit) (x : Fld) : (s.modFlt g).get x = s.get x := rfl
@[simp] theorem modCip_get (s : State) (g : CipUnit → CipUnit) (x : Fld) : (s.modCip g).get x = s.get x := rfl
@[simp] theorem modKeys_get (s : State) (g : KeyStore → KeyStore) (x : Fld) : (s.modKeys g).get x = s.get x := rfl
@[simp] theorem modFni_get (s : State) (g : FniUnit → FniUnit) (x : Fld) : (s.modFni g).get x = s.get x := rfl
@[simp] theorem modPce_get (s : State) (g : PcieUnit → PcieUnit) (x : Fld) : (s.modPce g).get x = s.get x := rfl
@[simp] theorem modNvq_get (s : State) (g : NvqUnit → NvqUnit) (x : Fld) : (s.modNvq g).get x = s.get x := rfl
@[simp] theorem modNvme_get (s : State) (g : NvmeUnit → NvmeUnit) (x : Fld) : (s.modNvme g).get x = s.get x := rfl
@[simp] theorem modRcp_get (s : State) (g : RcpUnit → RcpUnit) (x : Fld) : (s.modRcp g).get x = s.get x := rfl
@[simp] theorem modMan_get (s : State) (g : ManUnit → ManUnit) (x : Fld) : (s.modMan g).get x = s.get x := rfl
@[simp] theorem modSup_get (s : State) (g : SupUnit → SupUnit) (x : Fld) : (s.modSup g).get x = s.get x := rfl
@[simp] theorem modBoot_get (s : State) (g : BootUnit → BootUnit) (x : Fld) : (s.modBoot g).get x = s.get x := rfl
@[simp] theorem modCore_get (s : State) (c : Fin 5) (g : Core → Core) (x : Fld) : (s.modCore c g).get x = s.get x := rfl
@[simp] theorem modL2_get (s : State) (g : L2 → L2) (x : Fld) : (s.modL2 g).get x = s.get x := rfl

end Sys2Proof.Machine
end

section
/-! PROOFS. What a fetched instruction of a core does (R424, R426, R430, R432), the values of the two-register operations (R428), and
which forms raise ILLEGAL and PRIV. -/

namespace Sys2Proof.Machine

section
variable {c : Fin 5} {s t : State} {illegal : Bool}

/-! ### The frame of a fetched instruction -/

theorem runInstr_of_fetched (h : Fetched c s t) (priv : Bool) (f : State → Try Unit) :
    runInstr c illegal priv f s = effectOf c illegal priv f t := by
  obtain ⟨hruns, hdue, hfetch⟩ := h
  simp [runInstr, hruns, hdue, hfetch]

/-- ILLEGAL comes before PRIV and before the effect (R430, R432). -/
theorem effectOf_illegal (priv : Bool) (f : State → Try Unit) :
    effectOf c true priv f t = takeException c { code := 1, addr := t.cores[c].pc } t := rfl

theorem effectOf_user (hu : t.cores[c].supervisor = false) (f : State → Try Unit) :
    effectOf c false true f t = takeException c { code := 2, addr := t.cores[c].pc } t := by
  have hpriv : early false true t.cores[c] = some { code := 2, addr := t.cores[c].pc } := by rw [early, hu]; rfl
  rw [effectOf, hpriv]

theorem runInstr_illegal (h : Fetched c s t) (hi : illegal = true) (priv : Bool) (f : State → Try Unit) :
    Host.Outcome.next (runInstr c illegal priv f s) =
      (.next (takeException c { code := 1, addr := t.cores[c].pc } t) : Out) := by
  rw [runInstr_of_fetched h, hi, effectOf_illegal]

theorem runInstr_user (h : Fetched c s t) (hu : t.cores[c].supervisor = false) (hi : illegal = false) (f : State → Try Unit) :
    Host.Outcome.next (runInstr c illegal true f s) =
      (.next (takeException c { code := 2, addr := t.cores[c].pc } t) : Out) := by
  rw [runInstr_of_fetched h, hi, effectOf_user hu]

theorem plainInstr_legal (h : Fetched c s t) (f : State → State) : plainInstr c false f s = .next (f t) := by
  rw [plainInstr, runInstr_of_fetched h]
  rfl

end

/-! ### The operations of two registers -/

theorem aluInstr_writes {c : Fin 5} {rd rs1 rs2 : Fin 32} {f : Word → Word → Word} {s t : State} {v : Word} (h : Fetched c s t)
    (hv : f (t.greg c rs1) (t.greg c rs2) = v) : aluInstr c rd rs1 rs2 0 f s = .next (writeRd c rd v t) := by
  rw [← hv]
  exact plainInstr_legal h _

theorem word_sub_eq_ofInt (a b : Word) : a - b = BitVec.ofInt 40 ((a.toNat : Int) - b.toNat) := by
  rw [Int.sub_eq_add_neg, BitVec.ofInt_add, BitVec.ofInt_neg, BitVec.ofInt_natCast, BitVec.ofInt_natCast, BitVec.ofNat_toNat,
    BitVec.ofNat_toNat, BitVec.setWidth_eq, BitVec.setWidth_eq, BitVec.sub_eq_add_neg]

theorem word_mul_eq_ofNat (a b : Word) : a * b = BitVec.ofNat 40 (a.toNat * b.toNat) := by
  rw [BitVec.ofNat_mul, BitVec.ofNat_toNat, BitVec.ofNat_toNat, BitVec.setWidth_eq, BitVec.setWidth_eq]

/-- From 40 on the product is a multiple of 2^40, so that nothing is left. -/
theorem word_shiftLeft_eq_ofNat (a : Word) (n : Nat) : a <<< n = BitVec.ofNat 40 (a.toNat * 2 ^ n) := by
  apply BitVec.eq_of_toNat_eq
  rw [BitVec.toNat_shiftLeft, BitVec.toNat_ofNat, Nat.shiftLeft_eq]

theorem word_ushiftRight_eq_ofNat (a : Word) (n : Nat) : a >>> n = BitVec.ofNat 40 (a.toNat / 2 ^ n) := by
  rw [← Nat.shiftRight_eq_div_pow, ← BitVec.toNat_ushiftRight, BitVec.ofNat_toNat, BitVec.setWidth_eq]

theorem sraWord_eq_ofInt (a : Word) (n : Nat) : sraWord a n = BitVec.ofInt 40 (a.toInt / 2 ^ n) := by
  have hdiv : a.toInt / 2 ^ n = (a.sshiftRight n).toInt := by
    rw [BitVec.toInt_sshiftRight, Int.shiftRight_eq_div_pow]
    norm_cast
  rw [hdiv, BitVec.ofInt_toInt, sraWord]

theorem flagWord_slt (a b : Word) : flagWord (a.slt b) = if a.toInt < b.toInt then 1 else 0 := by
  simp [flagWord, BitVec.slt_iff_toInt_lt]

theorem flagWord_ult (a b : Word) : flagWord (a.ult b) = if a.toNat < b.toNat then 1 else 0 := by
  simp [flagWord, BitVec.ult_iff_toNat_lt]

/-- The quotient of −2^39 by −1 is 2^39, which wraps back to the dividend. -/
theorem divWord_eq (a b : Word) :
    divWord a b = if b = 0 then -1 else if a.toInt = -2 ^ 39 ∧ b.toInt = -1 then a else BitVec.ofInt 40 (a.toInt.tdiv b.toInt) := by
  unfold divWord
  split
  · rfl
  split
  next hover =>
    obtain ⟨ha, hb⟩ := hover
    rw [hb, ← BitVec.toInt_inj, ha]
    rfl
  · rfl

theorem divuWord_eq (a b : Word) : divuWord a b = if b = 0 then -1 else BitVec.ofNat 40 (a.toNat / b.toNat) := rfl

/-- −1 divides −2^39, so that case leaves no remainder. -/
theorem remWord_eq (a b : Word) :
    remWord a b = if b = 0 then a else if a.toInt = -2 ^ 39 ∧ b.toInt = -1 then 0 else BitVec.ofInt 40 (a.toInt.tmod b.toInt) := by
  unfold remWord
  split
  · rfl
  split
  next hover =>
    obtain ⟨ha, hb⟩ := hover
    rw [ha, hb]
    rfl
  · rfl

/-- Settles O29: each operation is `aluInstr`, and the value of the model is that of the table. -/
theorem registerOperations : Obligations.RegisterOperations := by
  intro c rd rs1 rs2 s t h
  refine ⟨?_, fun z hz => ?_⟩
  · simp only [List.forall_mem_cons]
    exact ⟨(exec_aluAdd ..).trans (aluInstr_writes h (BitVec.add_def ..)),
      (exec_aluSub ..).trans (aluInstr_writes h (word_sub_eq_ofInt ..)),
      (exec_aluAnd ..).trans (aluInstr_writes h rfl),
      (exec_aluOr ..).trans (aluInstr_writes h rfl),
      (exec_aluXor ..).trans (aluInstr_writes h rfl),
      (exec_aluSll ..).trans (aluInstr_writes h (word_shiftLeft_eq_ofNat ..)),
      (exec_aluSrl ..).trans (aluInstr_writes h (word_ushiftRight_eq_ofNat ..)),
      (exec_aluSra ..).trans (aluInstr_writes h (sraWord_eq_ofInt ..)),
      (exec_aluSlt ..).trans (aluInstr_writes h (flagWord_slt ..)),
      (exec_aluSltu ..).trans (aluInstr_writes h (flagWord_ult ..)),
      (exec_aluMul ..).trans (aluInstr_writes h (word_mul_eq_ofNat ..)),
      (exec_aluMulh ..).trans (aluInstr_writes h rfl),
      (exec_aluMulhu ..).trans (aluInstr_writes h rfl),
      (exec_aluDiv ..).trans (aluInstr_writes h (divWord_eq ..)),
      (exec_aluDivu ..).trans (aluInstr_writes h (divuWord_eq ..)),
      (exec_aluRem ..).trans (aluInstr_writes h (remWord_eq ..)),
      (exec_aluRemu ..).trans (aluInstr_writes h rfl),
      List.forall_mem_nil _⟩
  · have hbad : (z != 0) = true := bne_iff_ne.mpr hz
    simp only [List.forall_mem_cons, List.not_mem_nil, false_imp_iff, implies_true, and_true]
    and_intros <;> exact runInstr_illegal h hbad _ _

/-! ### ILLEGAL and PRIV -/

theorem sysBad_iff {rd rs1 rs2 : Fin 32} {z : BitVec 11} : sysBad rd rs1 rs2 z = true ↔ rd ≠ 0 ∨ rs1 ≠ 0 ∨ rs2 ≠ 0 ∨ z ≠ 0 := by
  simp [sysBad, or_assoc]

theorem isYp_eq_false {c : Fin 5} (h : c ≠ 4) : isYp c = false := by
  simp [isYp, h]

/-- In a Y core the numbers 0 to 10 name control registers (R431). -/
theorem crNumber_isNone_eq_false {c : Fin 5} (h : c ≠ 4) (k : Fin 11) : (crNumber c (BitVec.ofNat 24 k.val)).isNone = false := by
  have hk : (BitVec.ofNat 24 k.val).toNat ≤ 10 := (Nat.mod_le ..).trans k.is_le
  simp only [crNumber, isYp_eq_false h, Nat.not_lt.mpr hk, Bool.false_eq_true, false_and, or_self, if_false, Option.isNone_some]

/-- Settles O40: the fields that must be zero, YP and the mode decide the early exception, before any effect. -/
theorem illegalAndPrivileged : Obligations.IllegalAndPrivileged := by
  refine ⟨?fieldNotZero, fun c rd r imm s t h => ⟨?lrImmediate, ?mfcSource, ?mtcTarget, ?tlbOfYp⟩, ?userMode⟩
  case fieldNotZero =>
    intro c rd rs1 rs2 z s t h hz
    have hbad := sysBad_iff.mpr hz
    have hbadOr : (sysBad rd rs1 rs2 z || isYp c) = true := by rw [hbad, Bool.true_or]
    simp only [List.forall_mem_cons]
    exact ⟨runInstr_illegal h hbad _ _, runInstr_illegal h hbad _ _, runInstr_illegal h hbad _ _, runInstr_illegal h hbad _ _,
      runInstr_illegal h hbad _ _, runInstr_illegal h hbad _ _, runInstr_illegal h hbadOr _ _, List.forall_mem_nil _⟩
  case lrImmediate => exact fun himm => runInstr_illegal h (bne_iff_ne.mpr himm) _ _
  case mfcSource => exact fun hr => runInstr_illegal h (by simp [hr]) _ _
  case mtcTarget => exact fun hrd => runInstr_illegal h (by simp [hrd]) _ _
  case tlbOfYp =>
    rintro rfl
    exact ⟨runInstr_illegal h rfl _ _, runInstr_illegal h rfl _ _⟩
  case userMode =>
    intro c r k imm s t h hc hu
    have hyp := isYp_eq_false hc
    have hcr := crNumber_isNone_eq_false hc k
    have hypOr : (isYp c || (0 : Fin 32) != 0) = false := by rw [hyp]; rfl
    have hsysOr : (sysBad 0 0 0 0 || isYp c) = false := by rw [hyp]; rfl
    simp only [List.forall_mem_cons]
    exact ⟨runInstr_user h hu rfl _, runInstr_user h hu rfl _, runInstr_user h hu hsysOr _, runInstr_user h hu hsysOr _,
      runInstr_user h hu hyp _, runInstr_user h hu hyp _, runInstr_user h hu hyp _, runInstr_user h hu hyp _,
      runInstr_user h hu hyp _, runInstr_user h hu hypOr _, runInstr_user h hu hypOr _, runInstr_user h hu hyp _,
      runInstr_user h hu hypOr _, runInstr_user h hu hcr _, runInstr_user h hu hcr _, List.forall_mem_nil _⟩

end Sys2Proof.Machine
end
